-- ==== Sys2Proof/Word.lean ====
section
/-!
DEFINITION. The words the part computes with (spec/00_scope.md, "Numbers and units", "Registers"; spec/10,
"Hetric engines").
-/
namespace Sys2Proof

/-- One byte. -/
abbrev Byte := BitVec 8

/-- One host register, 16 bits wide (spec/00_scope.md, "Registers"). -/
abbrev Half := BitVec 16

/-- One general register or instruction of a Hetric engine, 32 bits wide (R263, R265). -/
abbrev Word := BitVec 32

/-- One word of the internal flash, 64 bits wide (R345). -/
abbrev Dword := BitVec 64

end Sys2Proof
end

