-- ==== Sys2Proof/Types.lean ====
section
/-!
DEFINITION. The named sets of values the commands and the state speak of: the modes, the engines, the roles, the
access paths, and the reported states of a monitor.
-/
namespace Sys2Proof

/-- BOOT and the twelve modes of R21, in the order of their codes. -/
inductive Mode where
  | boot | off | ship | watch | standby | active | balance | spectrum | calibrate | selftest | service | update | safe
  deriving DecidableEq, Repr

/-- The mode code of R21. -/
def Mode.code : Mode → Nat
  | .boot => 0 | .off => 1 | .ship => 2 | .watch => 3 | .standby => 4 | .active => 5 | .balance => 6
  | .spectrum => 7 | .calibrate => 8 | .selftest => 9 | .service => 10 | .update => 11 | .safe => 12

/-- The mode that has a code of R21. -/
def Mode.ofCode : Nat → Option Mode
  | 0 => some .boot | 1 => some .off | 2 => some .ship | 3 => some .watch | 4 => some .standby | 5 => some .active
  | 6 => some .balance | 7 => some .spectrum | 8 => some .calibrate | 9 => some .selftest | 10 => some .service
  | 11 => some .update | 12 => some .safe | _ => none

/-- The three Hetric engines (R263); the index of an engine's registers is its place here. -/
inductive Engine where
  | sweep | node | rail
  deriving DecidableEq, Repr

def Engine.idx : Engine → Nat
  | .sweep => 0 | .node => 1 | .rail => 2

/-- The access paths that keep their own captures and REREAD marks (R65, R158, R489). -/
inductive Path where
  | qspi | remote | dbg
  deriving DecidableEq, Repr

/-- The state of a window monitor, reported or of its comparator (R184, R187). -/
inductive MonState where
  | inside | above | below
  deriving DecidableEq, Repr

/-- The rings a node may head: the Avenue and its two Lanes (R222). -/
inductive RingId where
  | avenue | lane1 | lane2
  deriving DecidableEq, Repr

def RingId.idx : RingId → Nat
  | .avenue => 0 | .lane1 => 1 | .lane2 => 2

/-- The derived supplies watched for a sag (R462). -/
inductive Supply where
  | vreg | vddd | vddio
  deriving DecidableEq, Repr

/-- A frame of the link without its check bytes (R206): the fields of its header, and the payload. -/
structure Frame where
  type : Byte
  src : BitVec 13
  dst : BitVec 16
  seq : BitVec 11
  flags : Byte
  payload : List Byte
  deriving DecidableEq, Repr

def Frame.bcast (f : Frame) : Bool := f.dst.getLsbD 13
def Frame.tagged (f : Frame) : Bool := f.flags.getLsbD 1
def Frame.dstNode (f : Frame) : Nat := f.dst.toNat % 8192

/-- An edge of PHASE_IN (R152): its polarity, the ticks the levels before and after it last, and the ticks since the last edge
taken, `none` for the first. -/
structure PhaseEdge where
  falling : Bool := false
  before : Nat
  after : Nat
  interval : Option Nat
  deriving DecidableEq, Repr

/-- What a SWEEP_START Milestone brings besides SWEEP and TREE (R160, R162): HUBS, LOCAL, its arrival within the tick in 1/16
tick, and its TB field. -/
structure SweepMark where
  hubs : Bool := false
  frac : Fin 16 := 0
  localFlag : Bool := false
  carried : BitVec 48 := 0
  deriving DecidableEq, Repr

/-- A frame that passes a node (R204, R223): its characters, `none` one that cannot be decoded, whether it came to its end, and
whether its copy had begun where it was broken off. -/
structure PassingFrame where
  chars : List (Option Byte)
  whole : Bool := true
  begun : Bool := true
  deriving DecidableEq, Repr

/-- A loss of alignment (R199, R201, R245): whether it lasts 2 µs, and the code violations outside frames that went with it. -/
structure AlignLoss where
  persists : Bool := false
  violations : Nat := 0
  deriving DecidableEq, Repr

/-- What an output does to its pin: it drives a level, or lets it go (R352). -/
inductive PinDrive where
  | low | high | released
  deriving DecidableEq, Repr

/-- What step NAND finds on the port (R320). `blank` is R321's first sentence; `log2` the log of the block count in the
parameter page, `marks` the blocks that carry a factory mark; `noPage` a parameter page that fails its check (R463). -/
inductive NandProbe where
  | noDevice
  | noPage
  | geometry
  | badControl
  | foreign (log2 : Nat) (marks : List Nat)
  | blank (log2 : Nat) (marks : List Nat)
  | checkpoint
  deriving DecidableEq, Repr

end Sys2Proof
end

