-- ==== Sys2Proof/Syntax.lean ====
section
/-!
DEFINITION. The commands of the part: one constructor per row of spec/opcode_table.json, in the table's order. The
operands carry what comes from outside the node: values written, frames and bytes received, readings of the analog
world, levels of pins. What the node itself holds is no operand.
-/
namespace Sys2Proof

inductive Instr where
  /-- SWEEP_PERIOD_ELAPSED (R29). -/
  | sweepPeriodElapsed
  /-- SWEEP_START_ISSUE (R28). -/
  | sweepStartIssue
  /-- SWEEP_BOUNDARY (R28). SWEEP and TREE of the Milestone, and what else it brings. -/
  | sweepBoundary (sweep : BitVec 16) (tree : BitVec 32) (mark : SweepMark)
  /-- SWEEP_START_LAPSE (R24). -/
  | sweepStartLapse
  /-- INSTANTS_WINDOW_CLOSE (R43). The window's result of the 26 simultaneous channels in µV: endpoints 0 to 23, 30, 31. -/
  | instantsWindowClose (values : List Int)
  /-- FILTER_OUTPUT (R49). The endpoint whose channel gives an output, and the output in µV. -/
  | filterOutput (ep : Fin 32) (value : Int)
  /-- AUX_SCAN_VALUE (R50). The third output of the input being scanned, in µV. -/
  | auxScanValue (value : Int)
  /-- SEC_SLOT_COMPLETE (R54). The converter, the endpoint of a slot put into its rotation (R60), and the reading in µV; the reference slot's reading is REFP − REFN. -/
  | secSlotComplete (sarB : Bool) (inserted : Option (Fin 32)) (value : Int)
  /-- ACQ_REQ_MAIN (R59). -/
  | acqReqMain
  /-- ACQ_REQ_SECONDARY (R59). -/
  | acqReqSecondary
  /-- MODULATOR_POWERUP_DONE (R59). -/
  | modulatorPowerupDone
  /-- ON_REQUEST_COMPLETE (R59). -/
  | onRequestComplete
  /-- RESULT_CAPTURE (R65). The access path, and whether SEC_SEQ is read rather than RES_SEQ. -/
  | resultCapture (path : Path) (sec : Bool)
  /-- SNAP_CAPTURE (R8). The access path and the low half-word read. -/
  | snapCapture (path : Path) (addr : BitVec 15)
  /-- REGISTER_WRITE (R4). The host writes a register. -/
  | registerWrite (addr : BitVec 15) (v : BitVec 16)
  /-- REGISTER_BUS_APPLY (R270). -/
  | registerBusApply
  /-- WD_SCAN (R78). -/
  | wdScan
  /-- WD_PIN_TEST (R78). -/
  | wdPinTest (pin : BitVec 5)
  /-- WD_CLEAR (R78). -/
  | wdClear
  /-- WD_PERIOD_WRITE (R78). -/
  | wdPeriodWrite (v : BitVec 16)
  /-- WD_PERIOD_ELAPSED (R78). -/
  | wdPeriodElapsed
  /-- PIN_TEST_START (R74). -/
  | pinTestStart
  /-- PIN_TEST_BASELINE_DONE (R74). Baseline readings of the affected cells in µV, lower cell first; a pin with one cell uses the first. -/
  | pinTestBaselineDone (v1 : Int) (v2 : Int)
  /-- PULL_TIME_ELAPSED (R74). -/
  | pullTimeElapsed
  /-- PIN_TEST_READINGS_DONE (R75). The pulled readings, as the baselines. -/
  | pinTestReadingsDone (v1 : Int) (v2 : Int)
  /-- PIN_TEST_RECOVERY_END (R74). -/
  | pinTestRecoveryEnd
  /-- IMP_PREPARE (R103). -/
  | impPrepare
  /-- IMP_COMMIT (R104). -/
  | impCommit
  /-- IMP_ABORT (R106). -/
  | impAbort
  /-- IMP_ROUND_START (R99). -/
  | impRoundStart
  /-- IMP_SETTLE_END (R95). By group, the mean voltage of the excited cell over the last settle cycle in µV: four values. -/
  | impSettleEnd (v0 : List Int)
  /-- IMP_SLOT (R94). By group, four values: the sum of the modulator outputs of the excited cell over the slot; how many outputs there were, and how many units of one make 1 µV. -/
  | impSlot (sums : List Int) (outputs unit : Nat)
  /-- IMP_POINT_END (R95). -/
  | impPointEnd
  /-- IMP_ROUND_END (R101). -/
  | impRoundEnd
  /-- PWM_PERIOD_START (R121). What the charge meters saw at the edges of each pulse that has ended: its channel, and the steps of the ISn input at its rising and its falling edge, in µV. -/
  | pwmPeriodStart (steps : List (Fin 24 × Int × Int))
  /-- IS_TRIP (R127). The group, and whether its ISn input enters ABOVE or BELOW. -/
  | isTrip (n : Fin 4) (above : Bool)
  /-- IS_BLANK_END (R188). The group, and whether a crossing persists. -/
  | isBlankEnd (n : Fin 4) (persists : Bool)
  /-- TRIP_HOLD_END (R127). -/
  | tripHoldEnd (n : Fin 4)
  /-- BAL_PREPARE (R137). -/
  | balPrepare
  /-- BAL_COMMIT (R138). -/
  | balCommit
  /-- BAL_CANCEL (R138). -/
  | balCancel
  /-- BAL_STOP (R138). -/
  | balStop
  /-- BAL_EN_CLEAR (R138). -/
  | balEnClear
  /-- BAL_PLAN_TIMEOUT (R139). -/
  | balPlanTimeout
  /-- GROUP_CLEAR (R128). -/
  | groupClear (n : Fin 4)
  /-- TXN_START (R140). -/
  | txnStart
  /-- TXN_ABANDON (R140). -/
  | txnAbandon
  /-- TXN_PREPARE (R150). The accepted COMMAND frame. -/
  | txnPrepare (f : Frame)
  /-- TXN_COMMIT (R143). The accepted COMMAND frame. -/
  | txnCommit (f : Frame)
  /-- TXN_CANCEL (R143). The accepted COMMAND frame. -/
  | txnCancel (f : Frame)
  /-- TXN_ROLLBACK (R144). The accepted COMMAND frame. -/
  | txnRollback (f : Frame)
  /-- TXN_CLOSE (R145). The accepted COMMAND frame. -/
  | txnClose (f : Frame)
  /-- TXN_STATUS (R144). The accepted COMMAND frame. -/
  | txnStatus (f : Frame)
  /-- TXN_STAGE_EXPIRE (R146). -/
  | txnStageExpire
  /-- PHASE_IN_EDGE (R152). -/
  | phaseInEdge (edge : PhaseEdge)
  /-- TB_MISS_HOLDOVER (R153). -/
  | tbMissHoldover
  /-- MILESTONE_RECEIVE (R162). A SYNC Milestone that passed its checks: its arrival in sixteenths of a tick after the last tick, its LOCAL flag and its TB field. -/
  | milestoneReceive (frac : Fin 16) (localFlag : Bool) (carried : BitVec 48)
  /-- SYNC_MILESTONE_ISSUE (R161). The ring it is issued on. -/
  | syncMilestoneIssue (ring : RingId)
  /-- TREE_TIME_SET (R166). The word written to TREE_TIME_HI. -/
  | treeTimeSet (hi : BitVec 16)
  /-- TREE_SECOND (R166). -/
  | treeSecond
  /-- TB_NOM_WRITE (R153). The word written to TB_NOM_HI. -/
  | tbNomWrite (hi : BitVec 16)
  /-- CMP_TARGET_WRITE (R171). The word written to CMPu_0 of a PERIODIC unit. -/
  | cmpTargetWrite (u : Fin 8) (v : BitVec 16)
  /-- CMP_ABS_ARM (R172). The word written to CMPu_2. -/
  | cmpAbsArm (u : Fin 8) (v : BitVec 16)
  /-- CMP_CTL_WRITE (R171). The word written to CMPu_CTL. -/
  | cmpCtlWrite (u : Fin 8) (v : BitVec 16)
  /-- COMPARE_FIRE (R170). -/
  | compareFire (u : Fin 8)
  /-- PG_CYCLE_START (R180). General generator PG28 + n. -/
  | pgCycleStart (n : Fin 4)
  /-- MONITOR_STATE_CHANGE (R187). -/
  | monitorStateChange (m : Fin 41)
  /-- MONITOR_SAMPLE_TICK (R190). The inputs of the 41 monitors in 0.05 µV; those not sampled are not looked at. -/
  | monitorSampleTick (inputs : List Int)
  /-- MONITOR_THRESHOLD_WRITE (R186). MONm_CTL, MONm_HI or MONm_LO, and the word written. -/
  | monitorThresholdWrite (m : Fin 41) (which : Fin 3) (v : BitVec 16)
  /-- FRAME_RECEIVE (R213). The port, the bytes between SOF and EOF as received, the code violations counted, and whether the frame ended in EOF. -/
  | frameReceive (port : Fin 6) (bytes : List (BitVec 8)) (violations : Nat) (whole : Bool)
  /-- FRAME_FORWARD (R204). The port it comes in on. -/
  | frameForward (port : Fin 6) (frame : PassingFrame)
  /-- LINK_LOS (R201). -/
  | linkLos (port : Fin 6)
  /-- LINK_LOS_CLEAR (R201). -/
  | linkLosClear (port : Fin 6)
  /-- LINK_ALIGN_LOSS (R201). -/
  | linkAlignLoss (port : Fin 6) (loss : AlignLoss)
  /-- LINK_ALIGN_REGAIN (R201). -/
  | linkAlignRegain (port : Fin 6)
  /-- LINK_WAKE (R203). -/
  | linkWake (port : Fin 2)
  /-- WAKE_RELAY (R242). The port that woke the node. -/
  | wakeRelay (port : Fin 2)
  /-- LINK_CLEAR_COUNTERS (R213). -/
  | linkClearCounters
  /-- RETX_REQ (R218). The accepted frame. -/
  | retxReq (f : Frame)
  /-- TRAIN_OPEN_RECEIVE (R223). The frame. -/
  | trainOpenReceive (f : Frame)
  /-- INSERT_BUFFER_DRAIN (R223). -/
  | insertBufferDrain
  /-- TRAIN_END (R227). -/
  | trainEnd (ring : RingId)
  /-- RING_TIMEOUT (R227). -/
  | ringTimeout (ring : RingId)
  /-- REMOTE_READ (R234). The accepted COMMAND frame. -/
  | remoteRead (f : Frame)
  /-- REMOTE_WRITE (R235). The accepted COMMAND frame. -/
  | remoteWrite (f : Frame)
  /-- ENUM (R239). The accepted RING_CTL frame. -/
  | enum (f : Frame)
  /-- ENUM_REPLY (R239). The ring it arrived on, and the accepted RING_CTL frame. -/
  | enumReply (ring : RingId) (f : Frame)
  /-- ECHO_RUN (R237). The accepted RING_CTL frame. -/
  | echoRun (f : Frame)
  /-- ECHO_REQUEST (R237). The port it arrived on, and the accepted ECHO frame. -/
  | echoRequest (port : Fin 6) (f : Frame)
  /-- ECHO_ANSWER (R163). The port, the time from the request's EOF to the answer's SOF in 1/16 tick, and the accepted ECHO frame. -/
  | echoAnswer (port : Fin 6) (rtt : BitVec 16) (f : Frame)
  /-- ASSIGN (R239). The accepted RING_CTL frame. -/
  | assign (f : Frame)
  /-- BREAK (R246). The ring it arrived on, and the accepted RING_CTL frame. -/
  | breakFrame (ring : RingId) (f : Frame)
  /-- ROUNDABOUT (R246). The accepted RING_CTL frame. -/
  | roundabout (f : Frame)
  /-- HALF_INBOUND_END (R247). -/
  | halfInboundEnd
  /-- ROUNDABOUT_TURN_TIMEOUT (R249). -/
  | roundaboutTurnTimeout (ring : RingId) (halfB : Bool)
  /-- MEND_INSERT (R252). -/
  | mendInsert
  /-- MEND (R253). The ring it arrived on, and the accepted RING_CTL frame. -/
  | mend (ring : RingId) (f : Frame)
  /-- REFORM (R253). The accepted RING_CTL frame. -/
  | reform (f : Frame)
  /-- HEARTBEAT (R244). The accepted RING_CTL frame. -/
  | heartbeat (f : Frame)
  /-- HEARTBEAT_PERIOD (R243). -/
  | heartbeatPeriod
  /-- ORPHAN_TIMEOUT (R244). -/
  | orphanTimeout
  /-- RING_ENUM_CMD (R239). -/
  | ringEnumCmd (ring : RingId)
  /-- RING_REFORM_CMD (R253). -/
  | ringReformCmd (ring : RingId)
  /-- RING_HALVE_CMD (R255). -/
  | ringHalveCmd (ring : RingId) (pos : BitVec 6)
  /-- HUB_TAKEOVER (R257). The accepted COMMAND frame. -/
  | hubTakeover (f : Frame)
  /-- HUB_HAND_BACK (R258). The accepted COMMAND frame, and whether the hub is PRESENT and reported the Lane ports wired. -/
  | hubHandBack (f : Frame) (hubReady : Bool)
  /-- BIND_STORE (R241). -/
  | bindStore
  /-- BIND_FORGET (R241). -/
  | bindForget
  /-- BULK (R474). The accepted BULK frame. -/
  | bulk (f : Frame)
  /-- ADD (R297). -/
  | add (e : Engine)
  /-- ADDI (R297). -/
  | addi (e : Engine)
  /-- SUB (R297). -/
  | sub (e : Engine)
  /-- CMP (R297). -/
  | cmp (e : Engine)
  /-- CMPI (R297). -/
  | cmpi (e : Engine)
  /-- MUL (R297). -/
  | mul (e : Engine)
  /-- MULH (R297). -/
  | mulh (e : Engine)
  /-- DIV (R298). -/
  | div (e : Engine)
  /-- DIVU (R298). -/
  | divu (e : Engine)
  /-- AND (R297). -/
  | andE (e : Engine)
  /-- OR (R297). -/
  | orE (e : Engine)
  /-- XOR (R297). -/
  | xor (e : Engine)
  /-- ANDI (R297). -/
  | andi (e : Engine)
  /-- ORI (R297). -/
  | ori (e : Engine)
  /-- XORI (R297). -/
  | xori (e : Engine)
  /-- SHL (R297). -/
  | shl (e : Engine)
  /-- SHR (R297). -/
  | shr (e : Engine)
  /-- SAR (R297). -/
  | sar (e : Engine)
  /-- SEXT (R297). -/
  | sext (e : Engine)
  /-- MOVI (R297). -/
  | movi (e : Engine)
  /-- MOVT (R297). -/
  | movt (e : Engine)
  /-- LDW (R300). -/
  | ldw (e : Engine)
  /-- LDH (R300). -/
  | ldh (e : Engine)
  /-- LDB (R300). -/
  | ldb (e : Engine)
  /-- STW (R300). -/
  | stw (e : Engine)
  /-- STH (R300). -/
  | sth (e : Engine)
  /-- STB (R300). -/
  | stb (e : Engine)
  /-- SWAP (R300). -/
  | swap (e : Engine)
  /-- LDP (R299). -/
  | ldp (e : Engine)
  /-- B (R301). -/
  | branch (e : Engine)
  /-- BR (R301). -/
  | br (e : Engine)
  /-- CALL (R301). -/
  | call (e : Engine)
  /-- CALLR (R301). -/
  | callr (e : Engine)
  /-- DBNZ (R301). -/
  | dbnz (e : Engine)
  /-- TBR (R302). -/
  | tbr (e : Engine)
  /-- WPH (R303). -/
  | wph (e : Engine)
  /-- WTB (R303). -/
  | wtb (e : Engine)
  /-- WEV (R304). -/
  | wev (e : Engine)
  /-- WAIT_COMPLETE (R274). -/
  | waitComplete (e : Engine)
  /-- WAIT_TIMEOUT (R305). -/
  | waitTimeout (e : Engine)
  /-- POLL (R304). -/
  | poll (e : Engine)
  /-- SIG (R307). -/
  | sig (e : Engine)
  /-- HSIG (R307). -/
  | hsig (e : Engine)
  /-- KICK (R307). -/
  | kick (e : Engine)
  /-- END (R307). -/
  | endE (e : Engine)
  /-- REGR (R310). -/
  | regr (e : Engine)
  /-- REGW (R310). -/
  | regw (e : Engine)
  /-- MRD (R311). -/
  | mrd (e : Engine)
  /-- MREQ (R312). -/
  | mreq (e : Engine)
  /-- XFR_BAL_PREPARE (R313). -/
  | xfrBalPrepare (e : Engine)
  /-- XFR_BAL_COMMIT (R313). -/
  | xfrBalCommit (e : Engine)
  /-- XFR_BAL_CANCEL (R313). -/
  | xfrBalCancel (e : Engine)
  /-- XFR_BAL_STOP (R313). -/
  | xfrBalStop (e : Engine)
  /-- XFR_IMP_PREPARE (R313). -/
  | xfrImpPrepare (e : Engine)
  /-- XFR_IMP_COMMIT (R313). -/
  | xfrImpCommit (e : Engine)
  /-- XFR_IMP_ABORT (R313). -/
  | xfrImpAbort (e : Engine)
  /-- FSND (R314). -/
  | fsnd (e : Engine)
  /-- FRAME_SENT (R314). -/
  | frameSent (e : Engine)
  /-- FRCV (R315). -/
  | frcv (e : Engine)
  /-- LOG (R316). -/
  | log (e : Engine)
  /-- CRC (R317). -/
  | crc (e : Engine)
  /-- ENGINE_WATCHDOG_HALF (R277). -/
  | engineWatchdogHalf (e : Engine)
  /-- ENGINE_WATCHDOG (R277). -/
  | engineWatchdog (e : Engine)
  /-- ENGINE_STOP (R275). -/
  | engineStop (e : Engine)
  /-- ENGINE_START (R275). -/
  | engineStart (e : Engine)
  /-- ENGINE_RESTART (R278). -/
  | engineRestart (e : Engine)
  /-- ENGINE_WDT_WRITE (R277). The engine, and the WDT written. -/
  | engineWdtWrite (e : Engine) (wdt : BitVec 8)
  /-- STAGING_LOAD_DONE (R276). -/
  | stagingLoadDone (e : Engine)
  /-- HOST_EVENT_RAISE (R273). The word written to ENG_SWEVT. -/
  | hostEventRaise (v : BitVec 16)
  /-- DEBUG_KEY (R281). The word written, and whether through the DBG pins. -/
  | debugKey (v : BitVec 16) (pin : Bool)
  /-- DEBUG_HALT (R282). -/
  | debugHalt (e : Engine)
  /-- DEBUG_STEP (R282). -/
  | debugStep (e : Engine)
  /-- DEBUG_RESUME (R282). -/
  | debugResume (e : Engine)
  /-- ENG_G_WRITE (R282). The engine, and the word written to G_HI. -/
  | engGWrite (e : Engine) (hi : BitVec 16)
  /-- HS_KEY_UNLOCK (R321). The word written to HS_KEY. -/
  | hsKeyUnlock (v : BitVec 16)
  /-- HS_FORMAT (R321). -/
  | hsFormat
  /-- HS_FLUSH (R330). -/
  | hsFlush
  /-- HS_FLUSH_AGE (R330). The tier: 0 minute, 1 hour, 2 event. -/
  | hsFlushAge (t : Fin 3)
  /-- HS_CLEAR_COUNTERS (R329). -/
  | hsClearCounters
  /-- WRITE_PERMISSION_CHECK (R336). VREG, VDDD and VDDIO in mV, and P_IN over the last 1 ms in mW. -/
  | writePermissionCheck (vreg vddd vddio pin : Nat)
  /-- NAND_PROGRAM_START (R336). -/
  | nandProgramStart
  /-- NAND_PROGRAM_DONE (R330). No failure reported, and the most symbols to correct in a sector at the read-back. -/
  | nandProgramDone (good : Bool) (symbols : Nat)
  /-- NAND_ERASE_START (R336). -/
  | nandEraseStart
  /-- NAND_ERASE_DONE (R327). No failure reported. -/
  | nandEraseDone (good : Bool)
  /-- HS_LOAD (R334). -/
  | hsLoad
  /-- HS_LOAD_DONE (R334). The page's 4096 bytes and its 256 bytes of spare as read. -/
  | hsLoadDone (raw : List (BitVec 8))
  /-- SUMMARY_INTERVAL_END (R332). An hour, not a minute. -/
  | summaryIntervalEnd (hour : Bool)
  /-- FLASH_WORD_PROGRAM_START (R336). -/
  | flashWordProgramStart
  /-- FLASH_WORD_PROGRAM_DONE (R345). The word reads back right. -/
  | flashWordProgramDone (good : Bool)
  /-- FLASH_SECTOR_ERASE_START (R336). -/
  | flashSectorEraseStart
  /-- FLASH_SECTOR_ERASE_DONE (R346). -/
  | flashSectorEraseDone
  /-- FFL_CLEAR (R349). -/
  | fflClear
  /-- RAIL_ON (R360). The RAIL field of RAIL_CMD. -/
  | railOn (n : Fin 16)
  /-- RAIL_OFF (R360). The RAIL field of RAIL_CMD. -/
  | railOff (n : Fin 16)
  /-- RAIL_CLEAR (R359). The RAIL field of RAIL_CMD. -/
  | railClear (n : Fin 16)
  /-- RAIL_GRANT (R361). -/
  | railGrant
  /-- RAIL_ALIGNED_CHANGE (R362). -/
  | railAlignedChange
  /-- RAIL_POWER_GOOD (R356). -/
  | railPowerGood (n : Fin 12)
  /-- RAIL_PG_TIMEOUT (R357). -/
  | railPgTimeout (n : Fin 12)
  /-- RAIL_OFF_TIMEOUT (R357). -/
  | railOffTimeout (n : Fin 12)
  /-- RAIL_WAIT_TIMEOUT (R357). -/
  | railWaitTimeout (n : Fin 12)
  /-- RAIL_MIN_ON_END (R365). -/
  | railMinOnEnd (n : Fin 12)
  /-- RAIL_MAXON_END (R365). -/
  | railMaxonEnd (n : Fin 12)
  /-- RAIL_RESTART (R365). -/
  | railRestart (n : Fin 12)
  /-- SEQ_UP (R364). -/
  | seqUp
  /-- SEQ_DOWN (R364). -/
  | seqDown
  /-- SEQ_ABORT (R364). -/
  | seqAbort
  /-- SEQ_STEP_ON (R363). -/
  | seqStepOn
  /-- SEQ_STEP_OFF (R363). -/
  | seqStepOff
  /-- SEQ_STEP_WAIT_PG (R363). -/
  | seqStepWaitPg
  /-- SEQ_STEP_DELAY (R363). -/
  | seqStepDelay
  /-- SEQ_STEP_MARGIN (R363). -/
  | seqStepMargin
  /-- SEQ_STEP_END (R364). -/
  | seqStepEnd
  /-- SEQ_DELAY_END (R363). -/
  | seqDelayEnd
  /-- SEQ_STEP_TIMEOUT (R363). -/
  | seqStepTimeout
  /-- MRG_TARGET_WRITE (R368). The word written to MRGd_TGT. -/
  | mrgTargetWrite (d : Fin 2) (v : BitVec 16)
  /-- MRG_SLEW_STEP (R367). -/
  | mrgSlewStep
  /-- RGRP_PREPARE (R369). -/
  | rgrpPrepare
  /-- RGRP_COMMIT (R369). -/
  | rgrpCommit
  /-- RGRP_CANCEL (R369). -/
  | rgrpCancel
  /-- RAIL_SCAN_CONVERSION (R372). The pin's voltage in mV. -/
  | railScanConversion (n : Fin 12) (mv : Int)
  /-- THERMAL_SAMPLE (R373). The die sensor's sample in 0.1 °C. -/
  | thermalSample (tj : Int)
  /-- THERMAL_MODEL_CHECK (R380). -/
  | thermalModelCheck
  /-- INH_AGE_EXPIRE (R384). The node that has given no poll answer for INH_AGE seconds. -/
  | inhAgeExpire (node : BitVec 13)
  /-- TH_CLEAR_SUSPECT (R380). -/
  | thClearSuspect
  /-- TH_CLEAR_MAX (R382). -/
  | thClearMax
  /-- CAL_TEMP_CHECK (R391). -/
  | calTempCheck
  /-- CAL_SCHED_ELAPSED (R391). -/
  | calSchedElapsed
  /-- CAL_RETRY_ELAPSED (R391). -/
  | calRetryElapsed
  /-- CAL_RUN (R391). -/
  | calRun
  /-- CAL_FULL (R392). -/
  | calFull
  /-- CAL_ABORT (R395). -/
  | calAbort
  /-- CAL_SLOT_START (R392). -/
  | calSlotStart
  /-- CAL_SLOT_PHASE_END (R388). At the end of a pass, its result for each trim of the group in taps, in the order of `groupTrims`. -/
  | calSlotPhaseEnd (readings : List Int)
  /-- CAL_SLOT_END (R388). -/
  | calSlotEnd
  /-- CAL_APPLY_TICK (R396). -/
  | calApplyTick
  /-- ST_KEY_A (R404). The word written to ST_KEY_A. -/
  | stKeyA (v : BitVec 16)
  /-- ST_KEY_B (R404). The word written to ST_KEY_B. -/
  | stKeyB (v : BitVec 16)
  /-- ST_UNLOCK_TIMEOUT (R404). -/
  | stUnlockTimeout
  /-- ST_LOCKOUT_END (R405). -/
  | stLockoutEnd
  /-- ST_START (R406). -/
  | stStart
  /-- ST_ABORT (R410). -/
  | stAbort
  /-- ST_TEST_END (R409). Patterns applied, the signature, and the endpoints, converters (0 SAR A, 1 SAR B) or monitors that failed. -/
  | stTestEnd (count : Nat) (sig : BitVec 32) (failing : List Nat)
  /-- ST_LOOP_WAIT_TIMEOUT (R407). -/
  | stLoopWaitTimeout
  /-- ST_BACKGROUND_ITEM (R413). -/
  | stBackgroundItem
  /-- ST_BACKGROUND_END (R413). -/
  | stBackgroundEnd (pass : Bool)
  /-- CVU_START (R417). -/
  | cvuStart (u : Fin 4)
  /-- CVU_CHECK (R420). -/
  | cvuCheck (u : Fin 4)
  /-- CVU_FEED_BYTE (R418). The unit, and the word written to its DIN_B. -/
  | cvuFeedByte (u : Fin 4) (v : BitVec 16)
  /-- CVU_FEED_HALF (R418). The unit, and the word written to its DIN_H. -/
  | cvuFeedHalf (u : Fin 4) (v : BitVec 16)
  /-- CVU_FEED_WORD (R418). The unit, and the word written to its DIN_W_HI. -/
  | cvuFeedWord (u : Fin 4) (hi : BitVec 16)
  /-- CVU_FEED_DONE (R418). -/
  | cvuFeedDone (u : Fin 4)
  /-- CVU_VAL_LOAD (R419). The unit, and the word written to its VAL_HI. -/
  | cvuValLoad (u : Fin 4) (hi : BitVec 16)
  /-- TRNG_GEN (R425). -/
  | trngGen
  /-- ATT_GEN_STATEMENT (R427). -/
  | attGenStatement
  /-- ATT_GEN_CERT (R427). -/
  | attGenCert
  /-- ATT_SIGN_DONE (R427). -/
  | attSignDone
  /-- KEY_RENEW (R436). -/
  | keyRenew
  /-- ROOT_CERT (R428). The accepted COMMAND frame. -/
  | rootCert (f : Frame)
  /-- KEY_HELLO (R428). The accepted COMMAND frame. -/
  | keyHello (f : Frame)
  /-- GET_CERT (R428). The accepted COMMAND frame. -/
  | getCert (f : Frame)
  /-- KEY_AUTH (R428). The accepted COMMAND frame. -/
  | keyAuth (f : Frame)
  /-- KEY_CONFIRM (R428). The accepted COMMAND frame. -/
  | keyConfirm (f : Frame)
  /-- KEY_COMPUTE_DONE (R430). -/
  | keyComputeDone
  /-- ATTEST (R427). The accepted COMMAND frame. -/
  | attest (f : Frame)
  /-- TREE_KEY (R436). The accepted COMMAND frame. -/
  | treeKey (f : Frame)
  /-- MTAG (R437). The ring it arrived on, and the accepted RESPONSE frame. -/
  | mtag (ring : RingId) (f : Frame)
  /-- ALY_SCAN (R449). -/
  | alyScan
  /-- ALY_POLL (R451). -/
  | alyPoll
  /-- ALY_PAGE (R452). -/
  | alyPage (tag : Fin 32) (page : Fin 8)
  /-- ALY_POLL_PERIOD (R452). -/
  | alyPollPeriod
  /-- ALY_RESCAN_PERIOD (R452). -/
  | alyRescanPeriod
  /-- ALY_EXCHANGE_START (R452). -/
  | alyExchangeStart
  /-- HAIL (R441). TAG read low 70 µs after the release; TAG read high at the check 90 µs later. -/
  | alyHail (low high : Bool)
  /-- FIND (R448). The low time of each slot from the command byte on, in ticks. -/
  | alyFind (slots : List Nat)
  /-- NAME (R445). The low time of each slot from the command byte on, in ticks. -/
  | alyName (slots : List Nat)
  /-- ALL (R445). The low time of each slot of the command byte, in ticks. -/
  | alyAll (slots : List Nat)
  /-- IDENT (R453). The low time of each slot from the command byte on, in ticks. -/
  | alyIdent (slots : List Nat)
  /-- MEASURE (R445). The low time of each slot of the command byte, in ticks. -/
  | alyMeasure (slots : List Nat)
  /-- ALY_CONVERSION_END (R445). -/
  | alyConversionEnd
  /-- FETCH (R447). The low time of each slot from the command byte on, in ticks. -/
  | alyFetch (slots : List Nat)
  /-- PAGE (R445). The low time of each slot from the command byte on, in ticks. -/
  | alyPageCmd (slots : List Nat)
  /-- MODE_REQ_OFF (R455). -/
  | modeReqOff
  /-- MODE_REQ_SHIP (R455). -/
  | modeReqShip
  /-- MODE_REQ_WATCH (R455). -/
  | modeReqWatch
  /-- MODE_REQ_STANDBY (R455). -/
  | modeReqStandby
  /-- MODE_REQ_ACTIVE (R455). -/
  | modeReqActive
  /-- MODE_REQ_SERVICE (R455). -/
  | modeReqService
  /-- MODE_REQ_UPDATE (R455). -/
  | modeReqUpdate
  /-- MODE_REQ_SAFE (R455). -/
  | modeReqSafe
  /-- SAFE_CAUSE_CLEAR (R459). The word written to SAFE_CAUSE. -/
  | safeCauseClear (v : BitVec 16)
  /-- SHUTDOWN_COMPLETE (R460). -/
  | shutdownComplete
  /-- SHUTDOWN_WRITE_LIMIT (R460). -/
  | shutdownWriteLimit
  /-- POWER_ON (R457). -/
  | powerOn
  /-- RESET_PIN (R457). -/
  | resetPin
  /-- WAKE_PIN (R457). -/
  | wakePin
  /-- SYS_RESET (R464). -/
  | sysReset
  /-- SUPPLY_SAG (R462). The derived supply. -/
  | supplySag (which : Supply)
  /-- SUPPLY_SAG_RELEASE (R462). The derived supply. -/
  | supplySagRelease (which : Supply)
  /-- BROWNOUT_RESET (R462). -/
  | brownoutReset
  /-- BOOT_STEP_COMPLETE (R463). The key store's check, the levels of PSEL2 to PSEL0, the Lane wiring found and what the NAND probe found; each is looked at in its own step. -/
  | bootStepComplete (keys : Bool) (psel : Fin 8) (lane1 lane2 : Bool) (nand : NandProbe)
  /-- BOOT_STEP_TIMEOUT (R464). -/
  | bootStepTimeout
  /-- LEDGER_CLR_PATHS (R465). -/
  | ledgerClrPaths
  /-- LEDGER_CLR_FALLBACK (R466). -/
  | ledgerClrFallback
  /-- PROFILE_SELECT (R472). SEL of PROF_CMD. -/
  | profileSelect (sel : Fin 16)
  /-- UPD_KEY_UNLOCK (R474). The word written to UPD_KEY. -/
  | updKeyUnlock (v : BitVec 16)
  /-- UPD_OPEN (R475). TARGET of UPD_CMD. -/
  | updOpen (target : Fin 8)
  /-- UPD_CLOSE (R476). -/
  | updClose
  /-- UPD_ABORT (R476). -/
  | updAbort
  /-- UPD_WORD_SUBMIT (R475). The word written to UPD_D3. -/
  | updWordSubmit (d3 : BitVec 16)
  /-- HOST_WRITE_FRAME (R482). The command word, the data words and the CRC-16 as received. -/
  | hostWriteFrame (cmd : BitVec 32) (words : List (BitVec 16)) (crc : BitVec 16)
  /-- HOST_READ_FRAME (R483). The command word as received. -/
  | hostReadFrame (cmd : BitVec 32)
  /-- HOST_WAIT_TIMEOUT (R484). -/
  | hostWaitTimeout
  /-- HOST_FRAME_CUT (R488). What was complete of the frame: its command word, data words, CRC-16. -/
  | hostFrameCut (cmd : Option (BitVec 32)) (words : List (BitVec 16)) (crc : Option (BitVec 16))
  /-- DBG_FRAME (R284). As HOST_WRITE_FRAME; a read has no words. -/
  | dbgFrame (cmd : BitVec 32) (words : List (BitVec 16)) (crc : BitVec 16)
  /-- WINDOW_ENGINE_WRITE (R496). The window's word, and its odd half. -/
  | windowEngineWrite (k : Fin 512) (hi : BitVec 16)
  /-- RMT_READ (R498). -/
  | rmtRead
  /-- RMT_WRITE (R500). -/
  | rmtWrite
  /-- REMOTE_TIMEOUT (R499). -/
  | remoteTimeout
  /-- COMPARATOR_STATE_CHANGE (R184). The input in 0.05 µV. -/
  | comparatorStateChange (m : Fin 41) (input : Int)
  /-- POWER_LOSS (R339). -/
  | powerLoss
  /-- TRNG_HEALTH_FAIL (R425). -/
  | trngHealthFail
  /-- EXPECTED_EDGE_MISSED (R153). -/
  | expectedEdgeMissed
  deriving DecidableEq, Repr

end Sys2Proof
end

