-- ==== Sys2Proof/Decode.lean ====
section
/-!
DEFINITION. Decoding. No row of the command table gives its command bits of its own, so no table word spells a
command; what the block decodes is the command word of a frame of the host port or the DBG pins (R479).
-/
namespace Sys2Proof

/-- The command a table word spells: no row of the table has bits. -/
def decodeTableWord (_nbits _w : Nat) : Option Instr := none

/-- The R/W bit of a command word, bit 31: a read (R479). -/
def cmdRead (c : BitVec 32) : Bool := c.getLsbD 31

/-- The register address of a command word, bits 30 to 16 (R479). -/
def cmdAddr (c : BitVec 32) : Nat := c.toNat / 65536 % 32768

/-- The number of registers a command word speaks of: COUNT in bits 15 to 8 and one more (R479). -/
def cmdCount (c : BitVec 32) : Nat := c.toNat / 256 % 256 + 1

end Sys2Proof
end

