-- ==== Sys2Proof/Machine/Checks.lean ====
section
/-!
DEFINITION. The check values of the part: the CRC-32, CRC-16 and CRC-8 an engine, a link unit or a host check unit
computes (R209, R317, R415), byte by byte.
-/
namespace Sys2Proof.Machine

/-- One bit of a reflected 32-bit check (0xEDB8_8320 form). -/
def crc32Bit (c : BitVec 32) : BitVec 32 := if c.getLsbD 0 then (c >>> 1) ^^^ 0xEDB88320#32 else c >>> 1

/-- One byte, least significant bit first (R209). -/
def crc32Byte (c : BitVec 32) (b : Byte) : BitVec 32 :=
  (List.range 8).foldl (fun c _ => crc32Bit c) (c ^^^ b.setWidth 32)

/-- The running value over bytes, with no preset and no final XOR (R317). -/
def crc32Run (c : BitVec 32) (bs : List Byte) : BitVec 32 := bs.foldl crc32Byte c

/-- CRC-32 of R209 with seed F. -/
def crc32 (seed : BitVec 32) (bs : List Byte) : BitVec 32 := crc32Run (0xFFFFFFFF#32 ^^^ seed) bs ^^^ 0xFFFFFFFF#32

/-- CRC-16, polynomial 0x1021, most significant bit first (R317). -/
def crc16Byte (c : BitVec 16) (b : Byte) : BitVec 16 :=
  (List.range 8).foldl (fun c _ => if c.getMsbD 0 then (c <<< 1) ^^^ 0x1021#16 else c <<< 1) (c ^^^ (b.setWidth 16 <<< 8))

def crc16Run (c : BitVec 16) (bs : List Byte) : BitVec 16 := bs.foldl crc16Byte c

/-- CRC-8, polynomial 0x2F, most significant bit first (R317). -/
def crc8Byte (c : BitVec 8) (b : Byte) : BitVec 8 :=
  (List.range 8).foldl (fun c _ => if c.getMsbD 0 then (c <<< 1) ^^^ 0x2F#8 else c <<< 1) (c ^^^ b)

def crc8Run (c : BitVec 8) (bs : List Byte) : BitVec 8 := bs.foldl crc8Byte c

end Sys2Proof.Machine
end

