-- ==== Sys2Proof/Config.lean ====
section
/-!
DEFINITION. What the spec leaves open or leaves to parts outside it: the free values, the factory contents of the key
store and of profile F, and the cryptographic functions the part uses by name. Every constant here is opaque: nothing
in Lean can evaluate it, so a statement that mentions one holds whatever it is (log entries 3, 12, 13).
-/
namespace Sys2Proof.Config

/-- The free values: the value the part produces where the spec states none, one per index of `State.freeCtr`
(log entry 3). -/
opaque freeValue : Nat → BitVec 64

/-- The factory number in the key store (R423, FACT0 to FACT3): written at the factory (log entry 12). -/
opaque factoryNumber : BitVec 64

/-- The node certificate of the key store, 144 bytes (R424; log entry 12). -/
opaque nodeCert : List Byte

/-- The private key of the key store (R423): never readable (log entry 12). -/
opaque privateKey : BitVec 256

/-- The vendor verification keys of the key store by slot, 0 to 3 (R423; log entry 12). -/
opaque vendorKey : Nat → List Byte

/-- A public key lies on the curve (R428; log entry 13). -/
opaque onCurve : List Byte → Bool

/-- The preset programs of profile F for the SWEEP, NODE and RAIL engines, instruction by instruction (R266, R471);
the spec describes them and gives no words (log entry 12). -/
opaque presetProgram : Nat → List Word

/-- The factory trims of profile F by the number of a trim, and whether they pass their check (R399; log entry 12). -/
opaque factoryTrim : Nat → BitVec 16
opaque factoryTrimsValid : Bool

/-- EXP of a self-test for the silicon revision, by test ID and, for LOOP, the ports tested (R408; log entry 12). -/
opaque testResponse : Nat → Nat → BitVec 32

/-- ECDSA over P-256 with SHA-256: the signature of a message under a private key and a nonce drawn from the entropy
source (R424, R427; log entry 13). -/
opaque ecdsaSign : BitVec 256 → BitVec 256 → List Byte → List Byte

/-- ECDSA verification: public key, message, signature (log entry 13). -/
opaque ecdsaVerify : List Byte → List Byte → List Byte → Bool

/-- The public key of a private key on P-256 (log entry 13). -/
opaque publicKey : BitVec 256 → List Byte

/-- ECDH on P-256: own private key and the peer's public key give the shared secret (R429; log entry 13). -/
opaque ecdh : BitVec 256 → List Byte → BitVec 256

/-- HKDF-SHA-256: secret, salt, info give a 128-bit key (R429; log entry 13). -/
opaque hkdf : BitVec 256 → List Byte → List Byte → BitVec 128

/-- SHA-256 (R426; log entry 13). -/
opaque sha256 : List Byte → BitVec 256

/-- AES-CMAC with a 128-bit key (R433; log entry 13). -/
opaque cmac : BitVec 128 → List Byte → BitVec 128

/-- AES key unwrap (R430): `none` when the integrity check fails (log entry 13). -/
opaque keyUnwrap : BitVec 128 → List Byte → Option (BitVec 128)

/-- AES key wrap (R430; log entry 13). -/
opaque keyWrap : BitVec 128 → BitVec 128 → List Byte

/-- The damping of the loop of R155, by BW: its integral gain is a quarter of the square of its proportional one, times one
more than this value modulo 65536, over 65536. The spec gives the loop's form and bandwidth and no damping (log entry 21). -/
opaque loopDamping : Nat → Nat

/-- The current sample of a slot in 0.1 mA, the half-period delay of R94 compensated: by the frequency word, the PWM period
in ticks, and the mean net currents of the slot before and of the slot itself. How the node compensates is not stated (log
entry 155). -/
opaque slotCurrent : Nat → Nat → Int → Int → Int

end Sys2Proof.Config
end

