-- ==== Sys2Proof/Machine/RegMap.lean ====
section
/-!
DEFINITION. The host register map: the address of every register, the place and access code of every field, and the
value each register holds at reset, as the register tables of spec/01 to spec/20 give them. `Reg` holds the
addresses, `Fld` the fields. A register that stands several times takes its index as an argument.
-/
namespace Sys2Proof.Machine

/-- A bit field of a host register: its word address and its bits `hi` down to `lo`. -/
structure BitField where
  addr : Nat
  hi : Nat
  lo : Nat
  deriving DecidableEq, Repr

/-- The access codes of spec/00_scope.md ("Registers"); EXP adds nothing to its base code (R9). -/
inductive Access where
  | ro | rw | wo | w1c | rl | snap
  deriving DecidableEq, Repr

/-- One row of the register map: a field of the registers `base + i * stride` for `i < count`. -/
structure MapRow where
  base : Nat
  count : Nat
  stride : Nat
  hi : Nat
  lo : Nat
  acc : Access
  /-- The least and greatest value a write may give the field; a write of another leaves it unchanged. -/
  least : Nat := 0
  most : Nat := 65535
  deriving DecidableEq, Repr

namespace Reg

def DEV_ID : Nat := 0x0000
def DEV_REV : Nat := 0x0001
def NODE_NUM : Nat := 0x0002
def NODE_ROLE : Nat := 0x0003
def CELL_MAP : Nat := 0x0004
def MODE_CTL : Nat := 0x0010
def MODE_STATUS : Nat := 0x0011
def SAFE_CAUSE : Nat := 0x0012
def RESET_CAUSE : Nat := 0x0013
def SYS_CMD : Nat := 0x0014
def PROF_STATUS : Nat := 0x0018
def PROF_CMD : Nat := 0x0019
def PROF_VALID : Nat := 0x001A
def IMG_SKIP : Nat := 0x001B
def PROF_VER_LO : Nat := 0x001C
def PROF_VER_HI : Nat := 0x001D
def LED_START : Nat := 0x0020
def LED_FAILS : Nat := 0x0021
def LED_ALT : Nat := 0x0022
def LED_SKIP : Nat := 0x0023
def LED_LAST : Nat := 0x0024
def LED_CMD : Nat := 0x0025
def UPD_KEY : Nat := 0x0030
def UPD_CMD : Nat := 0x0031
def UPD_STATUS : Nat := 0x0032
def UPD_DROP : Nat := 0x0033
def UPD_OFS : Nat := 0x0034
def UPD_D (i : Nat) : Nat := 0x0035 + 1 * i
def IRQ_PEND : Nat := 0x0100
def IRQ_EN : Nat := 0x0101
def FLT_SUM : Nat := 0x0108
def FLT_PIN : Nat := 0x0109
def HIF_STATUS : Nat := 0x0110
def HIF_FRAMES : Nat := 0x0111
def HIF_ERRS : Nat := 0x0112
def HIF_WAIT : Nat := 0x0113
def TB_CTL : Nat := 0x0200
def TB_STATUS : Nat := 0x0201
def TB_NOM_LO : Nat := 0x0202
def TB_NOM_HI : Nat := 0x0203
def TB_PH_OFS : Nat := 0x0204
def TB_LOCK_THR : Nat := 0x0205
def TB_ERR : Nat := 0x0206
def TB (i : Nat) : Nat := 0x0208 + 1 * i
def TB_PER_LO : Nat := 0x020C
def TB_PER_HI : Nat := 0x020D
def TREE_TIME_LO : Nat := 0x020E
def TREE_TIME_HI : Nat := 0x020F
def MS_CTL : Nat := 0x0210
def MS_HOP : Nat := 0x0211
def MS_LAT : Nat := 0x0212
def MS_STATUS : Nat := 0x0213
def DOM_OFS (i : Nat) : Nat := 0x0214 + 1 * i
def CMP_CTL (i : Nat) : Nat := 0x0240 + 4 * i
def CMP_T0 (i : Nat) : Nat := 0x0241 + 4 * i
def CMP_T1 (i : Nat) : Nat := 0x0242 + 4 * i
def CMP_T2 (i : Nat) : Nat := 0x0243 + 4 * i
def CMP_FLAGS : Nat := 0x0260
def CMP_OVR : Nat := 0x0261
def PG_RUN_LO : Nat := 0x0270
def PG_RUN_HI : Nat := 0x0271
def PG_OMIT_LO : Nat := 0x0272
def PG_OMIT_HI : Nat := 0x0273
def QW_LEN : Nat := 0x0274
def PG_STATUS : Nat := 0x0275
def PG_CTL (i : Nat) : Nat := 0x0280 + 4 * i
def PG_RISE (i : Nat) : Nat := 0x0281 + 4 * i
def PG_FALL (i : Nat) : Nat := 0x0282 + 4 * i
def PG_PER (i : Nat) : Nat := 0x0283 + 4 * i
def ACQ_CTL : Nat := 0x0400
def INST_PH : Nat := 0x0401
def INST_WIN : Nat := 0x0402
def QW_GUARD : Nat := 0x0403
def AUX_EN : Nat := 0x0404
def SEC_XCHK : Nat := 0x0405
def ACQ_REQ : Nat := 0x0406
def REF_TRIM : Nat := 0x0407
def RES_SEQ : Nat := 0x0600
def RES_STATUS : Nat := 0x0601
def RES_TB (i : Nat) : Nat := 0x0602 + 1 * i
def EP_LO (i : Nat) : Nat := 0x0610 + 2 * i
def EP_HI (i : Nat) : Nat := 0x0611 + 2 * i
def SEC_SEQ : Nat := 0x0650
def SEC_STATUS : Nat := 0x0651
def SEC_MISMATCH_LO : Nat := 0x06A0
def SEC_MISMATCH_HI : Nat := 0x06A1
def WD_CTL : Nat := 0x0800
def WD_SUM_THR : Nat := 0x0801
def WD_STEP : Nat := 0x0802
def WD_PULL : Nat := 0x0803
def WD_PERIOD : Nat := 0x0804
def WD_CMD : Nat := 0x0805
def WD_STATUS : Nat := 0x0806
def WD_SUM_DIFF : Nat := 0x0807
def WD_PIN_STATE (i : Nat) : Nat := 0x0808 + 1 * i
def WD_SHIFT (i : Nat) : Nat := 0x0810 + 1 * i
def WD_SCANS : Nat := 0x0830
def IMP_CTL : Nat := 0x0900
def IMP_PLAN : Nat := 0x0901
def IMP_FSTART_LO : Nat := 0x0902
def IMP_FSTART_HI : Nat := 0x0903
def IMP_TMIN : Nat := 0x0904
def IMP_CELLS_LO : Nat := 0x0905
def IMP_CELLS_HI : Nat := 0x0906
def IMP_START_LO : Nat := 0x0907
def IMP_START_HI : Nat := 0x0908
def IMP_ROUND_LO : Nat := 0x0909
def IMP_ROUND_HI : Nat := 0x090A
def IMP_TEMP_CFG : Nat := 0x090B
def IMP_CMD : Nat := 0x090C
def IMP_STATUS : Nat := 0x090D
def IMP_PROGRESS : Nat := 0x090E
def IMP_NEED_LO : Nat := 0x090F
def IMP_NEED_HI : Nat := 0x0910
def IMP_RD_SEL : Nat := 0x0911
def IMP_RD0 : Nat := 0x0912
def IMP_RD (i : Nat) : Nat := 0x0913 + 1 * i
def IMP_PLAN_SEQ : Nat := 0x091A
def IMP_TEMP (i : Nat) : Nat := 0x0920 + 1 * i
def IMP_TT_KEY (i : Nat) : Nat := 0x0940 + 2 * i
def IMP_TT_VAL (i : Nat) : Nat := 0x0941 + 2 * i
def BAL_CTL : Nat := 0x0A00
def BAL_PWM : Nat := 0x0A01
def BAL_XFMR : Nat := 0x0A02
def BAL_LMAG : Nat := 0x0A03
def BAL_RSNS : Nat := 0x0A04
def BAL_IMAX : Nat := 0x0A05
def BAL_IPK : Nat := 0x0A06
def BAL_TEMP : Nat := 0x0A07
def BAL_VLIM_HI : Nat := 0x0A08
def BAL_VLIM_LO : Nat := 0x0A09
def BAL_TRIP : Nat := 0x0A0A
def BAL_NTC (i : Nat) : Nat := 0x0A10 + 1 * i
def BAL_SP (i : Nat) : Nat := 0x0A20 + 1 * i
def BAL_BUD (i : Nat) : Nat := 0x0A40 + 1 * i
def BAL_PLAN_TO : Nat := 0x0A60
def BAL_CMD : Nat := 0x0A61
def BAL_STATUS : Nat := 0x0A62
def BAL_PLAN_SEQ : Nat := 0x0A63
def BAL_ACT : Nat := 0x0A64
def BAL_TXN : Nat := 0x0A65
def BAL_CH (i : Nat) : Nat := 0x0A70 + 1 * i
def BAL_Q_LO (i : Nat) : Nat := 0x0A88 + 2 * i
def BAL_Q_HI (i : Nat) : Nat := 0x0A89 + 2 * i
def BAL_GRP (i : Nat) : Nat := 0x0AC0 + 1 * i
def BAL_GRP_CLR : Nat := 0x0AC4
def TXN_BM (i : Nat) : Nat := 0x0B00 + 1 * i
def TXN_CTL : Nat := 0x0B80
def TXN_FIRST : Nat := 0x0B81
def TXN_LAST : Nat := 0x0B82
def TXN_ID : Nat := 0x0B83
def TXN_CMD : Nat := 0x0B84
def TXN_STATUS : Nat := 0x0B85
def TXN_ACT : Nat := 0x0B86
def TXN_N_TARGET : Nat := 0x0B87
def TXN_N_PREP : Nat := 0x0B88
def TXN_N_COMMIT : Nat := 0x0B89
def TXN_N_ACTIVE : Nat := 0x0B8A
def TXN_BM_SEL : Nat := 0x0B8B
def CMP_SAMPLE : Nat := 0x0C00
def CMP_ABOVE (i : Nat) : Nat := 0x0C01 + 1 * i
def CMP_BELOW (i : Nat) : Nat := 0x0C04 + 1 * i
def CMP_FLAG (i : Nat) : Nat := 0x0C07 + 1 * i
def MON_CTL (i : Nat) : Nat := 0x0C10 + 4 * i
def MON_HI (i : Nat) : Nat := 0x0C11 + 4 * i
def MON_LO (i : Nat) : Nat := 0x0C12 + 4 * i
def TH_CTL : Nat := 0x0D00
def TH_TJ : Nat := 0x0D01
def TH_STATUS : Nat := 0x0D02
def TH_WARN : Nat := 0x0D03
def TH_THROT : Nat := 0x0D04
def TH_SHUT : Nat := 0x0D05
def TH_BOARD : Nat := 0x0D06
def TH_NT_N : Nat := 0x0D07
def TH_MODEL : Nat := 0x0D08
def TH_XCHK : Nat := 0x0D09
def TH_MAX : Nat := 0x0D0A
def TH_NB : Nat := 0x0D0B
def TH_MODEL_TJ : Nat := 0x0D0C
def TH_CMD : Nat := 0x0D0D
def TH_NTC_T (i : Nat) : Nat := 0x0D10 + 1 * i
def TH_NT_CODE (i : Nat) : Nat := 0x0D20 + 2 * i
def TH_NT_TEMP (i : Nat) : Nat := 0x0D21 + 2 * i
def TH_POLL : Nat := 0x0D40
def TH_PACK : Nat := 0x0D41
def TH_PACK_N : Nat := 0x0D42
def TH_NB_N : Nat := 0x0D43
def CAL_CTL : Nat := 0x0E00
def CAL_PERIOD : Nat := 0x0E01
def CAL_RETRY : Nat := 0x0E02
def CAL_CMD : Nat := 0x0E03
def CAL_STATUS : Nat := 0x0E04
def CAL_COUNT_LO : Nat := 0x0E05
def CAL_COUNT_HI : Nat := 0x0E06
def CAL_LAST_TB (i : Nat) : Nat := 0x0E07 + 1 * i
def CAL_LAST_TREE_LO : Nat := 0x0E0A
def CAL_LAST_TREE_HI : Nat := 0x0E0B
def CAL_LAST_TJ : Nat := 0x0E0C
def CAL_REJECTS : Nat := 0x0E0D
def CAL_WAIT : Nat := 0x0E0E
def CAL_DIFF : Nat := 0x0E0F
def CAL_SEL : Nat := 0x0E20
def CAL_OFS : Nat := 0x0E21
def CAL_GAIN : Nat := 0x0E22
def CAL_DLY : Nat := 0x0E23
def CAL_MSEL : Nat := 0x0E24
def CAL_MTRIM : Nat := 0x0E25
def CAL_PHY (i : Nat) : Nat := 0x0E28 + 1 * i
def ST_KEY_A : Nat := 0x0F00
def ST_KEY_B : Nat := 0x0F01
def ST_CTL : Nat := 0x0F02
def ST_SEL : Nat := 0x0F03
def ST_PORTS : Nat := 0x0F04
def ST_CMD : Nat := 0x0F05
def ST_STATUS : Nat := 0x0F06
def ST_RUN : Nat := 0x0F07
def ST_LIMIT : Nat := 0x0F08
def ST_RES0 (i : Nat) : Nat := 0x0F10 + 8 * i
def ST_RES1 (i : Nat) : Nat := 0x0F11 + 8 * i
def ST_RES2 (i : Nat) : Nat := 0x0F12 + 8 * i
def ST_RES3 (i : Nat) : Nat := 0x0F13 + 8 * i
def ST_RES4 (i : Nat) : Nat := 0x0F14 + 8 * i
def ST_RES5 (i : Nat) : Nat := 0x0F15 + 8 * i
def ST_RES6 (i : Nat) : Nat := 0x0F16 + 8 * i
def ST_BG : Nat := 0x0F90
def ST_FAULT_LO : Nat := 0x0F92
def ST_FAULT_HI : Nat := 0x0F93
def LP_CTL (i : Nat) : Nat := 0x1000 + 16 * i
def LP_STATUS (i : Nat) : Nat := 0x1001 + 16 * i
def LP_CORR (i : Nat) : Nat := 0x1002 + 16 * i
def LP_UNCORR (i : Nat) : Nat := 0x1003 + 16 * i
def LP_CRCF (i : Nat) : Nat := 0x1004 + 16 * i
def LP_CV (i : Nat) : Nat := 0x1005 + 16 * i
def LP_ABORT (i : Nat) : Nat := 0x1006 + 16 * i
def LP_DUP (i : Nat) : Nat := 0x1007 + 16 * i
def LP_RXOK_LO (i : Nat) : Nat := 0x1008 + 16 * i
def LP_RXOK_HI (i : Nat) : Nat := 0x1009 + 16 * i
def LP_TX_LO (i : Nat) : Nat := 0x100A + 16 * i
def LP_TX_HI (i : Nat) : Nat := 0x100B + 16 * i
def LINK_CTL : Nat := 0x1060
def LINK_EPOCH_A : Nat := 0x1061
def LINK_EPOCH_L : Nat := 0x1062
def LINK_CMD : Nat := 0x1063
def LINK_CUT : Nat := 0x1064
def RNG_CTL (i : Nat) : Nat := 0x1100 + 16 * i
def RNG_STATUS (i : Nat) : Nat := 0x1101 + 16 * i
def RNG_NODES (i : Nat) : Nat := 0x1102 + 16 * i
def RNG_EXPECT (i : Nat) : Nat := 0x1103 + 16 * i
def RNG_GOT (i : Nat) : Nat := 0x1104 + 16 * i
def RNG_TIME (i : Nat) : Nat := 0x1105 + 16 * i
def RNG_BREAKS (i : Nat) : Nat := 0x1106 + 16 * i
def RNG_REFORMS (i : Nat) : Nat := 0x1107 + 16 * i
def RNG_DROP (i : Nat) : Nat := 0x1108 + 16 * i
def RNG_NEW (i : Nat) : Nat := 0x1109 + 16 * i
def RNG_CMD (i : Nat) : Nat := 0x110A + 16 * i
def MEMB : Nat := 0x1140
def MEMB_HEAD : Nat := 0x1141
def TKO_CTL : Nat := 0x1142
def HB_NODE : Nat := 0x1143
def HB_STATUS : Nat := 0x1144
def TREE_CTL : Nat := 0x1200
def SWEEP_PER_LO : Nat := 0x1201
def SWEEP_PER_HI : Nat := 0x1202
def SWEEP_NUM : Nat := 0x1203
def LAST_SWEEP : Nat := 0x1204
def LAST_STAT : Nat := 0x1205
def LAST_MISSING : Nat := 0x1206
def OVERRUNS : Nat := 0x1207
def NODES_NUM : Nat := 0x1208
def NODES_ABSENT : Nat := 0x1209
def TKO_PEND : Nat := 0x120A
def BIND_SEL : Nat := 0x1210
def BIND (i : Nat) : Nat := 0x1211 + 1 * i
def BIND_CMD : Nat := 0x1219
def MAP_SEL : Nat := 0x121A
def MAP_BM (i : Nat) : Nat := 0x1300 + 1 * i
def ENG_CTL (i : Nat) : Nat := 0x1400 + 32 * i
def ENG_STATUS (i : Nat) : Nat := 0x1401 + 32 * i
def ENG_PC (i : Nat) : Nat := 0x1402 + 32 * i
def ENG_FPC (i : Nat) : Nat := 0x1403 + 32 * i
def ENG_WAIT_LO (i : Nat) : Nat := 0x1404 + 32 * i
def ENG_WAIT_HI (i : Nat) : Nat := 0x1405 + 32 * i
def ENG_EVT_LO (i : Nat) : Nat := 0x1406 + 32 * i
def ENG_EVT_HI (i : Nat) : Nat := 0x1407 + 32 * i
def ENG_INSTR_LO (i : Nat) : Nat := 0x1408 + 32 * i
def ENG_INSTR_HI (i : Nat) : Nat := 0x1409 + 32 * i
def ENG_LOAD (i : Nat) : Nat := 0x140A + 32 * i
def ENG_DBG (i : Nat) : Nat := 0x140B + 32 * i
def ENG_BP0 (i : Nat) : Nat := 0x140C + 32 * i
def ENG_BP1 (i : Nat) : Nat := 0x140D + 32 * i
def ENG_BP2 (i : Nat) : Nat := 0x140E + 32 * i
def ENG_BP3 (i : Nat) : Nat := 0x140F + 32 * i
def ENG_WP0_LO (i : Nat) : Nat := 0x1410 + 32 * i
def ENG_WP0_HI (i : Nat) : Nat := 0x1411 + 32 * i
def ENG_WP1_LO (i : Nat) : Nat := 0x1412 + 32 * i
def ENG_WP1_HI (i : Nat) : Nat := 0x1413 + 32 * i
def ENG_GSEL (i : Nat) : Nat := 0x1414 + 32 * i
def ENG_G_LO (i : Nat) : Nat := 0x1415 + 32 * i
def ENG_G_HI (i : Nat) : Nat := 0x1416 + 32 * i
def ENG_SWEVT : Nat := 0x1460
def ENG_HOSTEVT : Nat := 0x1461
def ENG_DBG_KEY : Nat := 0x1462
def ENG_DBG_STAT : Nat := 0x1463
def RAIL_CFG (i : Nat) : Nat := 0x1600 + 8 * i
def RAIL_NOM (i : Nat) : Nat := 0x1601 + 8 * i
def RAIL_INRUSH (i : Nat) : Nat := 0x1602 + 8 * i
def RAIL_PGTO (i : Nat) : Nat := 0x1603 + 8 * i
def RAIL_OFFTO (i : Nat) : Nat := 0x1604 + 8 * i
def RAIL_DWELL (i : Nat) : Nat := 0x1605 + 8 * i
def RAIL_RST (i : Nat) : Nat := 0x1606 + 8 * i
def RAIL_MAXON (i : Nat) : Nat := 0x1607 + 8 * i
def RAIL_STAT (i : Nat) : Nat := 0x1660 + 1 * i
def RAIL_V (i : Nat) : Nat := 0x1670 + 1 * i
def RAIL_CTL : Nat := 0x1680
def RAIL_BUDGET : Nat := 0x1681
def RAIL_RAMP : Nat := 0x1682
def RAIL_PH : Nat := 0x1683
def RAIL_CMD : Nat := 0x1684
def SEQ_CMD : Nat := 0x1685
def SEQ_STATUS : Nat := 0x1686
def SEQ_STEP : Nat := 0x1687
def RAIL_FLAGS : Nat := 0x1688
def RAIL_ON : Nat := 0x1689
def RAIL_GOOD : Nat := 0x168A
def STEP_SEL : Nat := 0x1690
def STEP_LO : Nat := 0x1691
def STEP_HI : Nat := 0x1692
def MRG_CTL (i : Nat) : Nat := 0x16A0 + 4 * i
def MRG_NEUTRAL (i : Nat) : Nat := 0x16A1 + 4 * i
def MRG_GAIN (i : Nat) : Nat := 0x16A2 + 4 * i
def MRG_TGT (i : Nat) : Nat := 0x16A3 + 4 * i
def MRG_CODE (i : Nat) : Nat := 0x16A8 + 1 * i
def RGRP_MASK : Nat := 0x16B0
def RGRP_STATE : Nat := 0x16B1
def RGRP_CMD : Nat := 0x16B2
def RGRP_STATUS : Nat := 0x16B3
def RGRP_SEQ : Nat := 0x16B4
def HS_CTL : Nat := 0x1700
def HS_CMD : Nat := 0x1701
def HS_KEY : Nat := 0x1702
def HS_STATUS : Nat := 0x1703
def HS_GEOM : Nat := 0x1704
def HS_T_FLUSH (i : Nat) : Nat := 0x1710 + 16 * i
def HS_T_HEAD_LO (i : Nat) : Nat := 0x1711 + 16 * i
def HS_T_HEAD_HI (i : Nat) : Nat := 0x1712 + 16 * i
def HS_T_TAIL_LO (i : Nat) : Nat := 0x1713 + 16 * i
def HS_T_TAIL_HI (i : Nat) : Nat := 0x1714 + 16 * i
def HS_T_OLD_LO (i : Nat) : Nat := 0x1715 + 16 * i
def HS_T_OLD_HI (i : Nat) : Nat := 0x1716 + 16 * i
def HS_T_BLOCKS (i : Nat) : Nat := 0x1717 + 16 * i
def HS_T_QREC (i : Nat) : Nat := 0x1718 + 16 * i
def HS_T_WRAPS (i : Nat) : Nat := 0x1719 + 16 * i
def HS_T_REFUSED (i : Nat) : Nat := 0x171A + 16 * i
def HS_CORR : Nat := 0x1740
def HS_UNCORR : Nat := 0x1741
def HS_RETIRED : Nat := 0x1742
def HS_POOL : Nat := 0x1743
def HS_PROG_FAIL : Nat := 0x1744
def HS_ERASE_MAX : Nat := 0x1745
def HS_TORN : Nat := 0x1746
def HOLD_C : Nat := 0x1750
def HOLD_MARGIN : Nat := 0x1751
def HS_HOLD : Nat := 0x1752
def HS_PIN : Nat := 0x1753
def HS_RD_TIER : Nat := 0x1760
def HS_RD_SEQ_LO : Nat := 0x1761
def HS_RD_SEQ_HI : Nat := 0x1762
def HS_RD_CMD : Nat := 0x1763
def HS_RD_STATUS : Nat := 0x1764
def IF_STATUS : Nat := 0x1770
def IF_ERASE_MAX : Nat := 0x1771
def FFL_CMD : Nat := 0x1780
def FFL_STATUS : Nat := 0x1781
def FFL_GEN : Nat := 0x1782
def FFL_SEL : Nat := 0x1783
def FFL_RD (i : Nat) : Nat := 0x1790 + 1 * i
def CVU_CTL (i : Nat) : Nat := 0x1800 + 32 * i
def CVU_POLY_LO (i : Nat) : Nat := 0x1801 + 32 * i
def CVU_POLY_HI (i : Nat) : Nat := 0x1802 + 32 * i
def CVU_INIT_LO (i : Nat) : Nat := 0x1803 + 32 * i
def CVU_INIT_HI (i : Nat) : Nat := 0x1804 + 32 * i
def CVU_XOR_LO (i : Nat) : Nat := 0x1805 + 32 * i
def CVU_XOR_HI (i : Nat) : Nat := 0x1806 + 32 * i
def CVU_SEED_LO (i : Nat) : Nat := 0x1807 + 32 * i
def CVU_SEED_HI (i : Nat) : Nat := 0x1808 + 32 * i
def CVU_VAL_LO (i : Nat) : Nat := 0x1809 + 32 * i
def CVU_VAL_HI (i : Nat) : Nat := 0x180A + 32 * i
def CVU_EXP_LO (i : Nat) : Nat := 0x180B + 32 * i
def CVU_EXP_HI (i : Nat) : Nat := 0x180C + 32 * i
def CVU_RES_LO (i : Nat) : Nat := 0x180D + 32 * i
def CVU_RES_HI (i : Nat) : Nat := 0x180E + 32 * i
def CVU_DIN_B (i : Nat) : Nat := 0x180F + 32 * i
def CVU_DIN_H (i : Nat) : Nat := 0x1810 + 32 * i
def CVU_DIN_W_LO (i : Nat) : Nat := 0x1811 + 32 * i
def CVU_DIN_W_HI (i : Nat) : Nat := 0x1812 + 32 * i
def CVU_CMD (i : Nat) : Nat := 0x1813 + 32 * i
def CVU_STATUS (i : Nat) : Nat := 0x1814 + 32 * i
def CVU_COUNT_LO (i : Nat) : Nat := 0x1815 + 32 * i
def CVU_COUNT_HI (i : Nat) : Nat := 0x1816 + 32 * i
def LCVU_FAIL : Nat := 0x1880
def HCVU_FAIL : Nat := 0x1881
def AUTH_FAIL : Nat := 0x1882
def DUP_TAG : Nat := 0x1883
def KEY_FAILS : Nat := 0x1884
def FACT (i : Nat) : Nat := 0x1890 + 1 * i
def KEY_STATUS : Nat := 0x1894
def KEY_CTL : Nat := 0x1895
def KEY_CMD : Nat := 0x1896
def KEY_PIN_SEL : Nat := 0x1897
def KEY_PIN (i : Nat) : Nat := 0x1898 + 1 * i
def TRNG_CMD : Nat := 0x18A0
def TRNG_SEQ : Nat := 0x18A1
def TRNG_D (i : Nat) : Nat := 0x18A2 + 1 * i
def ATT_CMD : Nat := 0x18AA
def ATT_STATUS : Nat := 0x18AB
def ATT_NONCE (i : Nat) : Nat := 0x18AC + 1 * i
def ATT_RD (i : Nat) : Nat := 0x18B8 + 1 * i
def ALY_CTL : Nat := 0x1900
def ALY_TIME : Nat := 0x1901
def ALY_CMD : Nat := 0x1902
def ALY_STATUS : Nat := 0x1903
def ALY_GEN : Nat := 0x1904
def ALY_NTAG : Nat := 0x1905
def ALY_TERR_N : Nat := 0x1906
def ALY_CRC_N : Nat := 0x1907
def ALY_RESTARTS : Nat := 0x1908
def ALY_SEL : Nat := 0x1910
def ALY_ENT_ID (i : Nat) : Nat := 0x1911 + 1 * i
def ALY_ENT4 : Nat := 0x1915
def ALY_ENT5 : Nat := 0x1916
def ALY_ENT6 : Nat := 0x1917
def ALY_ENT7 : Nat := 0x1918
def ALY_PAGE (i : Nat) : Nat := 0x1920 + 1 * i
def ALY_TV (i : Nat) : Nat := 0x1940 + 1 * i
def RMT_NODE : Nat := 0x3D00
def RMT_ADDR : Nat := 0x3D01
def RMT_LEN : Nat := 0x3D02
def RMT_CMD : Nat := 0x3D03
def RMT_STATUS : Nat := 0x3D04
def RMT_SWEEP : Nat := 0x3D05
def RMT_D (i : Nat) : Nat := 0x3D10 + 1 * i
def WIN_MIR : Nat := 0x3F00
def WIN_ENG : Nat := 0x3F01
def WIN_STAT : Nat := 0x3F02

/-- The secondary values of spec/02 (SEC*n*_LO, SEC*n*_HI), laid out as EP*n*. -/
def SEC_LO (i : Nat) : Nat := 0x0660 + 2 * i
def SEC_HI (i : Nat) : Nat := 0x0661 + 2 * i

end Reg

namespace Fld

def DEV_REV_MAJOR : BitField := ⟨Reg.DEV_REV, 15, 8⟩
def DEV_REV_MINOR : BitField := ⟨Reg.DEV_REV, 7, 0⟩
def NODE_NUM_NUMBERED : BitField := ⟨Reg.NODE_NUM, 15, 15⟩
def NODE_NUM_NODE : BitField := ⟨Reg.NODE_NUM, 12, 0⟩
def NODE_ROLE_BLOCKLESS : BitField := ⟨Reg.NODE_ROLE, 8, 8⟩
def NODE_ROLE_TAKEOVER : BitField := ⟨Reg.NODE_ROLE, 6, 6⟩
def NODE_ROLE_LANE2_WIRED : BitField := ⟨Reg.NODE_ROLE, 5, 5⟩
def NODE_ROLE_LANE1_WIRED : BitField := ⟨Reg.NODE_ROLE, 4, 4⟩
def NODE_ROLE_ALONE : BitField := ⟨Reg.NODE_ROLE, 2, 2⟩
def NODE_ROLE_ROLE : BitField := ⟨Reg.NODE_ROLE, 1, 0⟩
def CELL_MAP_ACTIVE_CELLS : BitField := ⟨Reg.CELL_MAP, 4, 0⟩
def MODE_CTL_REQ : BitField := ⟨Reg.MODE_CTL, 3, 0⟩
def MODE_STATUS_VREG_SAG : BitField := ⟨Reg.MODE_STATUS, 15, 15⟩
def MODE_STATUS_VDDD_SAG : BitField := ⟨Reg.MODE_STATUS, 14, 14⟩
def MODE_STATUS_VDDIO_SAG : BitField := ⟨Reg.MODE_STATUS, 13, 13⟩
def MODE_STATUS_REQ_ERR : BitField := ⟨Reg.MODE_STATUS, 11, 10⟩
def MODE_STATUS_PEND : BitField := ⟨Reg.MODE_STATUS, 7, 4⟩
def MODE_STATUS_MODE : BitField := ⟨Reg.MODE_STATUS, 3, 0⟩
def SAFE_CAUSE_CAUSE : BitField := ⟨Reg.SAFE_CAUSE, 7, 0⟩
def RESET_CAUSE_CAUSE : BitField := ⟨Reg.RESET_CAUSE, 3, 0⟩
def PROF_STATUS_PROF_ERR : BitField := ⟨Reg.PROF_STATUS, 14, 12⟩
def PROF_STATUS_STAGE : BitField := ⟨Reg.PROF_STATUS, 11, 10⟩
def PROF_STATUS_PROF_BAD : BitField := ⟨Reg.PROF_STATUS, 9, 9⟩
def PROF_STATUS_FALLBACK : BitField := ⟨Reg.PROF_STATUS, 8, 8⟩
def PROF_STATUS_PSEL : BitField := ⟨Reg.PROF_STATUS, 6, 4⟩
def PROF_STATUS_ACTIVE : BitField := ⟨Reg.PROF_STATUS, 3, 0⟩
def PROF_CMD_SELECT : BitField := ⟨Reg.PROF_CMD, 8, 8⟩
def PROF_CMD_SEL : BitField := ⟨Reg.PROF_CMD, 3, 0⟩
def PROF_VALID_VALID : BitField := ⟨Reg.PROF_VALID, 8, 0⟩
def LED_FAILS_FAILS : BitField := ⟨Reg.LED_FAILS, 7, 0⟩
def LED_LAST_STEP : BitField := ⟨Reg.LED_LAST, 3, 0⟩
def LED_CMD_CLR_FALLBACK : BitField := ⟨Reg.LED_CMD, 1, 1⟩
def LED_CMD_CLR_PATHS : BitField := ⟨Reg.LED_CMD, 0, 0⟩
def UPD_CMD_TARGET : BitField := ⟨Reg.UPD_CMD, 10, 8⟩
def UPD_CMD_ABORT : BitField := ⟨Reg.UPD_CMD, 2, 2⟩
def UPD_CMD_CLOSE : BitField := ⟨Reg.UPD_CMD, 1, 1⟩
def UPD_CMD_OPEN : BitField := ⟨Reg.UPD_CMD, 0, 0⟩
def UPD_STATUS_STATE : BitField := ⟨Reg.UPD_STATUS, 14, 12⟩
def UPD_STATUS_ERR : BitField := ⟨Reg.UPD_STATUS, 10, 8⟩
def UPD_STATUS_XFER : BitField := ⟨Reg.UPD_STATUS, 7, 0⟩
def UPD_OFS_WORD : BitField := ⟨Reg.UPD_OFS, 12, 0⟩
def FLT_SUM_FLAGS : BitField := ⟨Reg.FLT_SUM, 12, 0⟩
def FLT_PIN_PIN : BitField := ⟨Reg.FLT_PIN, 12, 0⟩
def HIF_STATUS_CUT : BitField := ⟨Reg.HIF_STATUS, 4, 4⟩
def HIF_STATUS_BUSY : BitField := ⟨Reg.HIF_STATUS, 3, 3⟩
def HIF_STATUS_ADDR : BitField := ⟨Reg.HIF_STATUS, 2, 2⟩
def HIF_STATUS_DATA_CRC : BitField := ⟨Reg.HIF_STATUS, 1, 1⟩
def HIF_STATUS_CMD_CRC : BitField := ⟨Reg.HIF_STATUS, 0, 0⟩
def TB_CTL_BW : BitField := ⟨Reg.TB_CTL, 12, 10⟩
def TB_CTL_PULL : BitField := ⟨Reg.TB_CTL, 9, 8⟩
def TB_CTL_MISS : BitField := ⟨Reg.TB_CTL, 7, 4⟩
def TB_CTL_EDGE : BitField := ⟨Reg.TB_CTL, 2, 2⟩
def TB_CTL_SRC : BitField := ⟨Reg.TB_CTL, 1, 0⟩
def TB_STATUS_REF_BAD : BitField := ⟨Reg.TB_STATUS, 11, 11⟩
def TB_STATUS_LOAD : BitField := ⟨Reg.TB_STATUS, 10, 10⟩
def TB_STATUS_STEP : BitField := ⟨Reg.TB_STATUS, 9, 9⟩
def TB_STATUS_LOCK_LOST : BitField := ⟨Reg.TB_STATUS, 8, 8⟩
def TB_STATUS_EFF_SRC : BitField := ⟨Reg.TB_STATUS, 5, 4⟩
def TB_STATUS_STATE : BitField := ⟨Reg.TB_STATUS, 2, 0⟩
def MS_CTL_LOCAL : BitField := ⟨Reg.MS_CTL, 15, 15⟩
def MS_CTL_MSP : BitField := ⟨Reg.MS_CTL, 11, 8⟩
def MS_STATUS_LOCAL_DOM : BitField := ⟨Reg.MS_STATUS, 9, 9⟩
def MS_STATUS_LAT_VALID : BitField := ⟨Reg.MS_STATUS, 8, 8⟩
def MS_STATUS_MISSED : BitField := ⟨Reg.MS_STATUS, 7, 0⟩
def CMP_CTL_PGT (i : Nat) : BitField := ⟨Reg.CMP_CTL i, 9, 8⟩
def CMP_CTL_PGT_EN (i : Nat) : BitField := ⟨Reg.CMP_CTL i, 7, 7⟩
def CMP_CTL_EVT (i : Nat) : BitField := ⟨Reg.CMP_CTL i, 3, 3⟩
def CMP_CTL_IRQ (i : Nat) : BitField := ⟨Reg.CMP_CTL i, 2, 2⟩
def CMP_CTL_MODE (i : Nat) : BitField := ⟨Reg.CMP_CTL i, 1, 1⟩
def CMP_CTL_EN (i : Nat) : BitField := ⟨Reg.CMP_CTL i, 0, 0⟩
def CMP_FLAGS_LATE : BitField := ⟨Reg.CMP_FLAGS, 15, 8⟩
def CMP_FLAGS_FIRED : BitField := ⟨Reg.CMP_FLAGS, 7, 0⟩
def CMP_OVR_OVERRUN : BitField := ⟨Reg.CMP_OVR, 7, 0⟩
def PG_STATUS_ROUTE_CONFLICT : BitField := ⟨Reg.PG_STATUS, 1, 1⟩
def PG_STATUS_QW_ACTIVE : BitField := ⟨Reg.PG_STATUS, 0, 0⟩
def PG_CTL_ROUTE (i : Nat) : BitField := ⟨Reg.PG_CTL i, 10, 8⟩
def PG_CTL_TRIG (i : Nat) : BitField := ⟨Reg.PG_CTL i, 5, 5⟩
def PG_CTL_POL (i : Nat) : BitField := ⟨Reg.PG_CTL i, 4, 4⟩
def PG_CTL_QW (i : Nat) : BitField := ⟨Reg.PG_CTL i, 3, 2⟩
def PG_CTL_DOM (i : Nat) : BitField := ⟨Reg.PG_CTL i, 1, 1⟩
def PG_CTL_EN (i : Nat) : BitField := ⟨Reg.PG_CTL i, 0, 0⟩
def ACQ_CTL_AUX_OSR : BitField := ⟨Reg.ACQ_CTL, 11, 8⟩
def ACQ_CTL_DIFF_RANGE : BitField := ⟨Reg.ACQ_CTL, 6, 6⟩
def ACQ_CTL_SEC_XCHK : BitField := ⟨Reg.ACQ_CTL, 5, 5⟩
def ACQ_CTL_CORNER : BitField := ⟨Reg.ACQ_CTL, 4, 2⟩
def ACQ_CTL_MODE : BitField := ⟨Reg.ACQ_CTL, 1, 0⟩
def INST_WIN_KM1 : BitField := ⟨Reg.INST_WIN, 15, 8⟩
def INST_WIN_WCODE : BitField := ⟨Reg.INST_WIN, 3, 0⟩
def QW_GUARD_GUARD : BitField := ⟨Reg.QW_GUARD, 7, 0⟩
def AUX_EN_EN : BitField := ⟨Reg.AUX_EN, 5, 0⟩
def SEC_XCHK_PERSIST : BitField := ⟨Reg.SEC_XCHK, 11, 8⟩
def SEC_XCHK_THR : BitField := ⟨Reg.SEC_XCHK, 7, 0⟩
def ACQ_REQ_SRC : BitField := ⟨Reg.ACQ_REQ, 1, 1⟩
def ACQ_REQ_REQ : BitField := ⟨Reg.ACQ_REQ, 0, 0⟩
def RES_STATUS_ON_REQUEST : BitField := ⟨Reg.RES_STATUS, 8, 8⟩
def RES_STATUS_SAFE_FORCED : BitField := ⟨Reg.RES_STATUS, 7, 7⟩
def RES_STATUS_REF_FALLBACK : BitField := ⟨Reg.RES_STATUS, 6, 6⟩
def RES_STATUS_INST_CLIPPED : BitField := ⟨Reg.RES_STATUS, 5, 5⟩
def RES_STATUS_EFF_MODE : BitField := ⟨Reg.RES_STATUS, 4, 3⟩
def RES_STATUS_REREAD : BitField := ⟨Reg.RES_STATUS, 2, 2⟩
def RES_STATUS_STALE : BitField := ⟨Reg.RES_STATUS, 1, 1⟩
def RES_STATUS_VALID : BitField := ⟨Reg.RES_STATUS, 0, 0⟩
def EP_HI_STATUS (i : Nat) : BitField := ⟨Reg.EP_HI i, 11, 8⟩
def EP_HI_VALUE_HI (i : Nat) : BitField := ⟨Reg.EP_HI i, 7, 0⟩
def SEC_STATUS_SARB_TEST : BitField := ⟨Reg.SEC_STATUS, 4, 4⟩
def SEC_STATUS_SARA_TEST : BitField := ⟨Reg.SEC_STATUS, 3, 3⟩
def SEC_STATUS_REREAD : BitField := ⟨Reg.SEC_STATUS, 2, 2⟩
def SEC_STATUS_STALE : BitField := ⟨Reg.SEC_STATUS, 1, 1⟩
def SEC_STATUS_VALID : BitField := ⟨Reg.SEC_STATUS, 0, 0⟩
def WD_CTL_PERSIST : BitField := ⟨Reg.WD_CTL, 7, 4⟩
def WD_CTL_SEC_SUM_EN : BitField := ⟨Reg.WD_CTL, 3, 3⟩
def WD_CTL_AUTO_PULL : BitField := ⟨Reg.WD_CTL, 2, 2⟩
def WD_CTL_STEP_EN : BitField := ⟨Reg.WD_CTL, 1, 1⟩
def WD_CTL_SUM_EN : BitField := ⟨Reg.WD_CTL, 0, 0⟩
def WD_SUM_THR_SEC_SUM_THR : BitField := ⟨Reg.WD_SUM_THR, 15, 8⟩
def WD_SUM_THR_SUM_THR : BitField := ⟨Reg.WD_SUM_THR, 7, 0⟩
def WD_STEP_STEP_THR : BitField := ⟨Reg.WD_STEP, 7, 0⟩
def WD_PULL_HIGHR_THR : BitField := ⟨Reg.WD_PULL, 15, 12⟩
def WD_PULL_OPEN_THR : BitField := ⟨Reg.WD_PULL, 11, 4⟩
def WD_PULL_PULL_T : BitField := ⟨Reg.WD_PULL, 3, 0⟩
def WD_CMD_PIN : BitField := ⟨Reg.WD_CMD, 12, 8⟩
def WD_CMD_CLEAR : BitField := ⟨Reg.WD_CMD, 2, 2⟩
def WD_CMD_PIN_TEST : BitField := ⟨Reg.WD_CMD, 1, 1⟩
def WD_CMD_SCAN : BitField := ⟨Reg.WD_CMD, 0, 0⟩
def WD_STATUS_CUR_PIN : BitField := ⟨Reg.WD_STATUS, 12, 8⟩
def WD_STATUS_ABORTED : BitField := ⟨Reg.WD_STATUS, 6, 6⟩
def WD_STATUS_DONE : BitField := ⟨Reg.WD_STATUS, 5, 5⟩
def WD_STATUS_DEFERRED : BitField := ⟨Reg.WD_STATUS, 4, 4⟩
def WD_STATUS_UNUSED_FAULT : BitField := ⟨Reg.WD_STATUS, 3, 3⟩
def WD_STATUS_SEC_SUM_FAIL : BitField := ⟨Reg.WD_STATUS, 2, 2⟩
def WD_STATUS_SUM_FAIL : BitField := ⟨Reg.WD_STATUS, 1, 1⟩
def WD_STATUS_BUSY : BitField := ⟨Reg.WD_STATUS, 0, 0⟩
def IMP_CTL_TEMP_EN : BitField := ⟨Reg.IMP_CTL, 15, 15⟩
def IMP_CTL_SLOTS : BitField := ⟨Reg.IMP_CTL, 12, 12⟩
def IMP_CTL_SLOT : BitField := ⟨Reg.IMP_CTL, 11, 11⟩
def IMP_CTL_NS : BitField := ⟨Reg.IMP_CTL, 10, 8⟩
def IMP_CTL_AMP : BitField := ⟨Reg.IMP_CTL, 7, 4⟩
def IMP_PLAN_PPD : BitField := ⟨Reg.IMP_PLAN, 15, 12⟩
def IMP_PLAN_NPTS : BitField := ⟨Reg.IMP_PLAN, 11, 6⟩
def IMP_PLAN_NIM1 : BitField := ⟨Reg.IMP_PLAN, 5, 0⟩
def IMP_TEMP_CFG_KEY : BitField := ⟨Reg.IMP_TEMP_CFG, 15, 14⟩
def IMP_TEMP_CFG_NENTM1 : BitField := ⟨Reg.IMP_TEMP_CFG, 11, 8⟩
def IMP_TEMP_CFG_POINT : BitField := ⟨Reg.IMP_TEMP_CFG, 4, 0⟩
def IMP_CMD_ABORT : BitField := ⟨Reg.IMP_CMD, 2, 2⟩
def IMP_CMD_COMMIT : BitField := ⟨Reg.IMP_CMD, 1, 1⟩
def IMP_CMD_PREPARE : BitField := ⟨Reg.IMP_CMD, 0, 0⟩
def IMP_STATUS_PREP_ERR : BitField := ⟨Reg.IMP_STATUS, 10, 8⟩
def IMP_STATUS_TBL_BAD : BitField := ⟨Reg.IMP_STATUS, 7, 7⟩
def IMP_STATUS_CUT : BitField := ⟨Reg.IMP_STATUS, 6, 6⟩
def IMP_STATUS_ABORTED : BitField := ⟨Reg.IMP_STATUS, 5, 5⟩
def IMP_STATUS_FREERUN : BitField := ⟨Reg.IMP_STATUS, 4, 4⟩
def IMP_STATUS_DONE : BitField := ⟨Reg.IMP_STATUS, 3, 3⟩
def IMP_STATUS_STATE : BitField := ⟨Reg.IMP_STATUS, 1, 0⟩
def IMP_PROGRESS_ROUND : BitField := ⟨Reg.IMP_PROGRESS, 12, 8⟩
def IMP_PROGRESS_POINT : BitField := ⟨Reg.IMP_PROGRESS, 4, 0⟩
def IMP_RD_SEL_POINT : BitField := ⟨Reg.IMP_RD_SEL, 12, 8⟩
def IMP_RD_SEL_CELL : BitField := ⟨Reg.IMP_RD_SEL, 4, 0⟩
def BAL_CTL_JOIN_MAX : BitField := ⟨Reg.BAL_CTL, 11, 8⟩
def BAL_CTL_SOFT : BitField := ⟨Reg.BAL_CTL, 5, 4⟩
def BAL_CTL_EN : BitField := ⟨Reg.BAL_CTL, 0, 0⟩
def BAL_PWM_PER : BitField := ⟨Reg.BAL_PWM, 10, 0⟩
def BAL_XFMR_TURNS : BitField := ⟨Reg.BAL_XFMR, 7, 0⟩
def BAL_IMAX_IMAX : BitField := ⟨Reg.BAL_IMAX, 7, 0⟩
def BAL_IPK_IPK : BitField := ⟨Reg.BAL_IPK, 8, 0⟩
def BAL_TEMP_T_HI : BitField := ⟨Reg.BAL_TEMP, 15, 8⟩
def BAL_TEMP_T_LO : BitField := ⟨Reg.BAL_TEMP, 7, 0⟩
def BAL_TRIP_TRIP_MAX : BitField := ⟨Reg.BAL_TRIP, 15, 8⟩
def BAL_TRIP_HOLD : BitField := ⟨Reg.BAL_TRIP, 7, 0⟩
def BAL_SP_DIR (i : Nat) : BitField := ⟨Reg.BAL_SP i, 15, 14⟩
def BAL_SP_SETPT (i : Nat) : BitField := ⟨Reg.BAL_SP i, 7, 0⟩
def BAL_CMD_STOP : BitField := ⟨Reg.BAL_CMD, 3, 3⟩
def BAL_CMD_CANCEL : BitField := ⟨Reg.BAL_CMD, 2, 2⟩
def BAL_CMD_COMMIT : BitField := ⟨Reg.BAL_CMD, 1, 1⟩
def BAL_CMD_PREPARE : BitField := ⟨Reg.BAL_CMD, 0, 0⟩
def BAL_STATUS_PLAN_ERR : BitField := ⟨Reg.BAL_STATUS, 14, 12⟩
def BAL_STATUS_ROLLED_BACK : BitField := ⟨Reg.BAL_STATUS, 11, 11⟩
def BAL_STATUS_CANCELLED : BitField := ⟨Reg.BAL_STATUS, 10, 10⟩
def BAL_STATUS_EXPIRED : BitField := ⟨Reg.BAL_STATUS, 9, 9⟩
def BAL_STATUS_DONE : BitField := ⟨Reg.BAL_STATUS, 8, 8⟩
def BAL_STATUS_TRIP : BitField := ⟨Reg.BAL_STATUS, 7, 7⟩
def BAL_STATUS_QW_LIMIT : BitField := ⟨Reg.BAL_STATUS, 6, 6⟩
def BAL_STATUS_HALVED : BitField := ⟨Reg.BAL_STATUS, 5, 5⟩
def BAL_STATUS_SHADOW : BitField := ⟨Reg.BAL_STATUS, 4, 4⟩
def BAL_STATUS_STAGE : BitField := ⟨Reg.BAL_STATUS, 3, 2⟩
def BAL_STATUS_RUN : BitField := ⟨Reg.BAL_STATUS, 1, 1⟩
def BAL_CH_STATE (i : Nat) : BitField := ⟨Reg.BAL_CH i, 15, 12⟩
def BAL_CH_ACHIEVED (i : Nat) : BitField := ⟨Reg.BAL_CH i, 11, 0⟩
def BAL_GRP_LOCKED (i : Nat) : BitField := ⟨Reg.BAL_GRP i, 15, 15⟩
def BAL_GRP_TRIPS (i : Nat) : BitField := ⟨Reg.BAL_GRP i, 7, 0⟩
def BAL_GRP_CLR_CLR : BitField := ⟨Reg.BAL_GRP_CLR, 3, 0⟩
def TXN_CTL_PTO : BitField := ⟨Reg.TXN_CTL, 15, 12⟩
def TXN_CTL_LEAD : BitField := ⟨Reg.TXN_CTL, 11, 8⟩
def TXN_CTL_SCOPE : BitField := ⟨Reg.TXN_CTL, 6, 5⟩
def TXN_CTL_SEM : BitField := ⟨Reg.TXN_CTL, 4, 4⟩
def TXN_CTL_SUBSYS : BitField := ⟨Reg.TXN_CTL, 3, 0⟩
def TXN_FIRST_NODE : BitField := ⟨Reg.TXN_FIRST, 12, 0⟩
def TXN_LAST_NODE : BitField := ⟨Reg.TXN_LAST, 12, 0⟩
def TXN_CMD_ABANDON : BitField := ⟨Reg.TXN_CMD, 1, 1⟩
def TXN_CMD_START : BitField := ⟨Reg.TXN_CMD, 0, 0⟩
def TXN_STATUS_DONE : BitField := ⟨Reg.TXN_STATUS, 8, 8⟩
def TXN_STATUS_OUTCOME : BitField := ⟨Reg.TXN_STATUS, 6, 4⟩
def TXN_STATUS_PHASE : BitField := ⟨Reg.TXN_STATUS, 2, 0⟩
def TXN_BM_SEL_PAGE : BitField := ⟨Reg.TXN_BM_SEL, 5, 4⟩
def TXN_BM_SEL_MAP : BitField := ⟨Reg.TXN_BM_SEL, 1, 0⟩
def CMP_SAMPLE_SCM1 : BitField := ⟨Reg.CMP_SAMPLE, 13, 12⟩
def CMP_SAMPLE_TICK : BitField := ⟨Reg.CMP_SAMPLE, 9, 0⟩
def MON_CTL_SAMPLED (i : Nat) : BitField := ⟨Reg.MON_CTL i, 15, 15⟩
def MON_CTL_BLANK (i : Nat) : BitField := ⟨Reg.MON_CTL i, 14, 12⟩
def MON_CTL_FILT (i : Nat) : BitField := ⟨Reg.MON_CTL i, 11, 8⟩
def MON_CTL_HYST (i : Nat) : BitField := ⟨Reg.MON_CTL i, 7, 4⟩
def MON_CTL_IRQ (i : Nat) : BitField := ⟨Reg.MON_CTL i, 3, 3⟩
def MON_CTL_FAULT (i : Nat) : BitField := ⟨Reg.MON_CTL i, 2, 2⟩
def MON_CTL_INIT (i : Nat) : BitField := ⟨Reg.MON_CTL i, 1, 1⟩
def MON_CTL_EN (i : Nat) : BitField := ⟨Reg.MON_CTL i, 0, 0⟩
def MON_HI_CODE (i : Nat) : BitField := ⟨Reg.MON_HI i, 9, 0⟩
def MON_LO_CODE (i : Nat) : BitField := ⟨Reg.MON_LO i, 9, 0⟩
def TH_CTL_NB_EN : BitField := ⟨Reg.TH_CTL, 1, 1⟩
def TH_CTL_LOCAL_EN : BitField := ⟨Reg.TH_CTL, 0, 0⟩
def TH_STATUS_CHG_INH : BitField := ⟨Reg.TH_STATUS, 15, 15⟩
def TH_STATUS_WRITE_OK : BitField := ⟨Reg.TH_STATUS, 14, 14⟩
def TH_STATUS_SUBST : BitField := ⟨Reg.TH_STATUS, 13, 13⟩
def TH_STATUS_SENSOR_FAIL : BitField := ⟨Reg.TH_STATUS, 12, 12⟩
def TH_STATUS_NB_SUSPECT : BitField := ⟨Reg.TH_STATUS, 11, 11⟩
def TH_STATUS_LOCAL_SUSPECT : BitField := ⟨Reg.TH_STATUS, 10, 10⟩
def TH_STATUS_TBL_BAD : BitField := ⟨Reg.TH_STATUS, 9, 9⟩
def TH_STATUS_INIT : BitField := ⟨Reg.TH_STATUS, 8, 8⟩
def TH_STATUS_EVT : BitField := ⟨Reg.TH_STATUS, 7, 7⟩
def TH_STATUS_SHUT : BitField := ⟨Reg.TH_STATUS, 3, 3⟩
def TH_STATUS_THROT : BitField := ⟨Reg.TH_STATUS, 2, 2⟩
def TH_STATUS_WARN : BitField := ⟨Reg.TH_STATUS, 1, 1⟩
def TH_WARN_ENTRY : BitField := ⟨Reg.TH_WARN, 15, 8⟩
def TH_WARN_RELEASE : BitField := ⟨Reg.TH_WARN, 7, 0⟩
def TH_THROT_ENTRY : BitField := ⟨Reg.TH_THROT, 15, 8⟩
def TH_THROT_RELEASE : BitField := ⟨Reg.TH_THROT, 7, 0⟩
def TH_SHUT_ENTRY : BitField := ⟨Reg.TH_SHUT, 15, 8⟩
def TH_SHUT_RELEASE : BitField := ⟨Reg.TH_SHUT, 7, 0⟩
def TH_BOARD_MASK : BitField := ⟨Reg.TH_BOARD, 5, 0⟩
def TH_NT_N_NM1 : BitField := ⟨Reg.TH_NT_N, 3, 0⟩
def TH_MODEL_XTOL : BitField := ⟨Reg.TH_MODEL, 15, 8⟩
def TH_MODEL_THETA : BitField := ⟨Reg.TH_MODEL, 7, 0⟩
def TH_XCHK_NB_TOL : BitField := ⟨Reg.TH_XCHK, 15, 8⟩
def TH_XCHK_SUB_MARGIN : BitField := ⟨Reg.TH_XCHK, 7, 4⟩
def TH_XCHK_PERSIST : BitField := ⟨Reg.TH_XCHK, 3, 0⟩
def TH_NB_SUSPECT : BitField := ⟨Reg.TH_NB, 15, 15⟩
def TH_NB_DIFF : BitField := ⟨Reg.TH_NB, 7, 0⟩
def TH_CMD_CLR_SUSPECT : BitField := ⟨Reg.TH_CMD, 1, 1⟩
def TH_CMD_CLR_MAX : BitField := ⟨Reg.TH_CMD, 0, 0⟩
def TH_POLL_INH_AGE : BitField := ⟨Reg.TH_POLL, 15, 8⟩
def TH_POLL_RATE : BitField := ⟨Reg.TH_POLL, 7, 0⟩
def TH_PACK_PACK_INH : BitField := ⟨Reg.TH_PACK, 0, 0⟩
def CAL_CTL_BOOT_EN : BitField := ⟨Reg.CAL_CTL, 15, 15⟩
def CAL_CTL_SCHED_EN : BitField := ⟨Reg.CAL_CTL, 14, 14⟩
def CAL_CTL_TEMP_EN : BitField := ⟨Reg.CAL_CTL, 13, 13⟩
def CAL_CTL_STEP : BitField := ⟨Reg.CAL_CTL, 11, 8⟩
def CAL_CTL_TRIG : BitField := ⟨Reg.CAL_CTL, 5, 0⟩
def CAL_RETRY_RETRY_S : BitField := ⟨Reg.CAL_RETRY, 15, 8⟩
def CAL_RETRY_RETRY_MAX : BitField := ⟨Reg.CAL_RETRY, 3, 0⟩
def CAL_CMD_ABORT : BitField := ⟨Reg.CAL_CMD, 2, 2⟩
def CAL_CMD_FULL : BitField := ⟨Reg.CAL_CMD, 1, 1⟩
def CAL_CMD_RUN : BitField := ⟨Reg.CAL_CMD, 0, 0⟩
def CAL_STATUS_RESULT : BitField := ⟨Reg.CAL_STATUS, 15, 12⟩
def CAL_STATUS_FAIL : BitField := ⟨Reg.CAL_STATUS, 11, 11⟩
def CAL_STATUS_STORE_PEND : BitField := ⟨Reg.CAL_STATUS, 10, 10⟩
def CAL_STATUS_SOURCE : BitField := ⟨Reg.CAL_STATUS, 9, 8⟩
def CAL_STATUS_CAUSE : BitField := ⟨Reg.CAL_STATUS, 7, 6⟩
def CAL_STATUS_GROUP : BitField := ⟨Reg.CAL_STATUS, 5, 4⟩
def CAL_STATUS_DONE : BitField := ⟨Reg.CAL_STATUS, 3, 3⟩
def CAL_STATUS_STATE : BitField := ⟨Reg.CAL_STATUS, 2, 0⟩
def CAL_WAIT_MODE : BitField := ⟨Reg.CAL_WAIT, 2, 2⟩
def CAL_WAIT_SELFTEST : BitField := ⟨Reg.CAL_WAIT, 1, 1⟩
def CAL_WAIT_PULL : BitField := ⟨Reg.CAL_WAIT, 0, 0⟩
def CAL_SEL_PATH : BitField := ⟨Reg.CAL_SEL, 5, 0⟩
def CAL_DLY_TARGET : BitField := ⟨Reg.CAL_DLY, 12, 8⟩
def CAL_DLY_TAPS : BitField := ⟨Reg.CAL_DLY, 4, 0⟩
def CAL_MSEL_MON : BitField := ⟨Reg.CAL_MSEL, 5, 0⟩
def CAL_MTRIM_HI : BitField := ⟨Reg.CAL_MTRIM, 15, 8⟩
def CAL_MTRIM_LO : BitField := ⟨Reg.CAL_MTRIM, 7, 0⟩
def CAL_PHY_TX (i : Nat) : BitField := ⟨Reg.CAL_PHY i, 13, 8⟩
def CAL_PHY_RX (i : Nat) : BitField := ⟨Reg.CAL_PHY i, 5, 0⟩
def ST_CTL_BG_EN : BitField := ⟨Reg.ST_CTL, 15, 15⟩
def ST_CTL_BG_PER : BitField := ⟨Reg.ST_CTL, 7, 0⟩
def ST_SEL_TESTS : BitField := ⟨Reg.ST_SEL, 11, 0⟩
def ST_PORTS_PORTS : BitField := ⟨Reg.ST_PORTS, 5, 0⟩
def ST_CMD_ABORT : BitField := ⟨Reg.ST_CMD, 1, 1⟩
def ST_CMD_START : BitField := ⟨Reg.ST_CMD, 0, 0⟩
def ST_STATUS_CUR : BitField := ⟨Reg.ST_STATUS, 15, 12⟩
def ST_STATUS_REFUSE : BitField := ⟨Reg.ST_STATUS, 11, 9⟩
def ST_STATUS_LOCKOUT : BitField := ⟨Reg.ST_STATUS, 8, 8⟩
def ST_STATUS_ABORTED : BitField := ⟨Reg.ST_STATUS, 7, 7⟩
def ST_STATUS_FAILED : BitField := ⟨Reg.ST_STATUS, 6, 6⟩
def ST_STATUS_READY : BitField := ⟨Reg.ST_STATUS, 5, 5⟩
def ST_STATUS_LOOP_WAIT : BitField := ⟨Reg.ST_STATUS, 4, 4⟩
def ST_STATUS_UNLOCKED : BitField := ⟨Reg.ST_STATUS, 3, 3⟩
def ST_STATUS_STATE : BitField := ⟨Reg.ST_STATUS, 2, 0⟩
def ST_LIMIT_MIN_GAP : BitField := ⟨Reg.ST_LIMIT, 15, 8⟩
def ST_LIMIT_MAX_HOUR : BitField := ⟨Reg.ST_LIMIT, 7, 0⟩
def ST_RES0_RUN (i : Nat) : BitField := ⟨Reg.ST_RES0 i, 15, 8⟩
def ST_RES0_VERDICT (i : Nat) : BitField := ⟨Reg.ST_RES0 i, 2, 0⟩
def ST_BG_BG_FAIL : BitField := ⟨Reg.ST_BG, 15, 15⟩
def ST_BG_LAST : BitField := ⟨Reg.ST_BG, 14, 12⟩
def ST_BG_MON : BitField := ⟨Reg.ST_BG, 5, 0⟩
def LP_CTL_DRIVE (i : Nat) : BitField := ⟨Reg.LP_CTL i, 13, 12⟩
def LP_CTL_RATE (i : Nat) : BitField := ⟨Reg.LP_CTL i, 9, 8⟩
def LP_CTL_EN (i : Nat) : BitField := ⟨Reg.LP_CTL i, 0, 0⟩
def LP_STATUS_CV (i : Nat) : BitField := ⟨Reg.LP_STATUS i, 11, 11⟩
def LP_STATUS_CRC_ERR (i : Nat) : BitField := ⟨Reg.LP_STATUS i, 10, 10⟩
def LP_STATUS_UNCORR (i : Nat) : BitField := ⟨Reg.LP_STATUS i, 9, 9⟩
def LP_STATUS_LOS_SEEN (i : Nat) : BitField := ⟨Reg.LP_STATUS i, 8, 8⟩
def LP_STATUS_LOOP (i : Nat) : BitField := ⟨Reg.LP_STATUS i, 5, 5⟩
def LP_STATUS_REDUCED (i : Nat) : BitField := ⟨Reg.LP_STATUS i, 4, 4⟩
def LP_STATUS_DIR (i : Nat) : BitField := ⟨Reg.LP_STATUS i, 3, 2⟩
def LP_STATUS_LOS (i : Nat) : BitField := ⟨Reg.LP_STATUS i, 1, 1⟩
def LP_STATUS_ALIGNED (i : Nat) : BitField := ⟨Reg.LP_STATUS i, 0, 0⟩
def LINK_CTL_RETX_MAX : BitField := ⟨Reg.LINK_CTL, 3, 0⟩
def LINK_EPOCH_A_EPOCH : BitField := ⟨Reg.LINK_EPOCH_A, 7, 0⟩
def LINK_EPOCH_L_EPOCH2 : BitField := ⟨Reg.LINK_EPOCH_L, 15, 8⟩
def LINK_EPOCH_L_EPOCH1 : BitField := ⟨Reg.LINK_EPOCH_L, 7, 0⟩
def LINK_CMD_CLR_CNT : BitField := ⟨Reg.LINK_CMD, 0, 0⟩
def RNG_CTL_MEND_AUTO (i : Nat) : BitField := ⟨Reg.RNG_CTL i, 12, 12⟩
def RNG_CTL_TO (i : Nat) : BitField := ⟨Reg.RNG_CTL i, 9, 0⟩
def RNG_STATUS_MEND_SEEN (i : Nat) : BitField := ⟨Reg.RNG_STATUS i, 13, 13⟩
def RNG_STATUS_ISOLATED (i : Nat) : BitField := ⟨Reg.RNG_STATUS i, 12, 12⟩
def RNG_STATUS_UNNUM (i : Nat) : BitField := ⟨Reg.RNG_STATUS i, 11, 11⟩
def RNG_STATUS_LONG (i : Nat) : BitField := ⟨Reg.RNG_STATUS i, 10, 10⟩
def RNG_STATUS_BREAK_POS (i : Nat) : BitField := ⟨Reg.RNG_STATUS i, 9, 4⟩
def RNG_STATUS_PLANNED (i : Nat) : BitField := ⟨Reg.RNG_STATUS i, 3, 3⟩
def RNG_STATUS_STATE (i : Nat) : BitField := ⟨Reg.RNG_STATUS i, 2, 0⟩
def RNG_NODES_HALF_A (i : Nat) : BitField := ⟨Reg.RNG_NODES i, 13, 8⟩
def RNG_NODES_NODES (i : Nat) : BitField := ⟨Reg.RNG_NODES i, 5, 0⟩
def RNG_CMD_POS (i : Nat) : BitField := ⟨Reg.RNG_CMD i, 13, 8⟩
def RNG_CMD_HALVE (i : Nat) : BitField := ⟨Reg.RNG_CMD i, 2, 2⟩
def RNG_CMD_REFORM (i : Nat) : BitField := ⟨Reg.RNG_CMD i, 1, 1⟩
def RNG_CMD_ENUM (i : Nat) : BitField := ⟨Reg.RNG_CMD i, 0, 0⟩
def MEMB_EXCLUDED : BitField := ⟨Reg.MEMB, 11, 11⟩
def MEMB_END : BitField := ⟨Reg.MEMB, 10, 10⟩
def MEMB_HALF : BitField := ⟨Reg.MEMB, 9, 8⟩
def MEMB_POS : BitField := ⟨Reg.MEMB, 5, 0⟩
def MEMB_HEAD_HEAD : BitField := ⟨Reg.MEMB_HEAD, 12, 0⟩
def TKO_CTL_EN : BitField := ⟨Reg.TKO_CTL, 15, 15⟩
def TKO_CTL_FOR : BitField := ⟨Reg.TKO_CTL, 12, 0⟩
def HB_NODE_HB_SAFE : BitField := ⟨Reg.HB_NODE, 15, 15⟩
def HB_NODE_HB_TO : BitField := ⟨Reg.HB_NODE, 7, 0⟩
def HB_STATUS_SINCE : BitField := ⟨Reg.HB_STATUS, 15, 8⟩
def HB_STATUS_SCHEDULED : BitField := ⟨Reg.HB_STATUS, 2, 2⟩
def HB_STATUS_SWEEPS : BitField := ⟨Reg.HB_STATUS, 1, 1⟩
def HB_STATUS_ORPHAN : BitField := ⟨Reg.HB_STATUS, 0, 0⟩
def TREE_CTL_REM_TO : BitField := ⟨Reg.TREE_CTL, 15, 12⟩
def TREE_CTL_MISS_MAX : BitField := ⟨Reg.TREE_CTL, 11, 8⟩
def TREE_CTL_HB_PERIOD : BitField := ⟨Reg.TREE_CTL, 7, 4⟩
def TREE_CTL_BIND_MODE : BitField := ⟨Reg.TREE_CTL, 2, 2⟩
def TREE_CTL_JOIN_EN : BitField := ⟨Reg.TREE_CTL, 1, 1⟩
def TREE_CTL_SWEEP_EN : BitField := ⟨Reg.TREE_CTL, 0, 0⟩
def LAST_STAT_OVERRUN : BitField := ⟨Reg.LAST_STAT, 3, 3⟩
def LAST_STAT_TIMEOUT : BitField := ⟨Reg.LAST_STAT, 2, 2⟩
def LAST_STAT_REFORMED : BitField := ⟨Reg.LAST_STAT, 1, 1⟩
def LAST_STAT_COMPLETE : BitField := ⟨Reg.LAST_STAT, 0, 0⟩
def BIND_CMD_STORE : BitField := ⟨Reg.BIND_CMD, 1, 1⟩
def BIND_CMD_FORGET : BitField := ⟨Reg.BIND_CMD, 0, 0⟩
def MAP_SEL_PAGE : BitField := ⟨Reg.MAP_SEL, 5, 4⟩
def MAP_SEL_MAP : BitField := ⟨Reg.MAP_SEL, 0, 0⟩
def ENG_CTL_FAULT_ACT (i : Nat) : BitField := ⟨Reg.ENG_CTL i, 15, 14⟩
def ENG_CTL_RUN (i : Nat) : BitField := ⟨Reg.ENG_CTL i, 9, 9⟩
def ENG_CTL_RESTART (i : Nat) : BitField := ⟨Reg.ENG_CTL i, 8, 8⟩
def ENG_CTL_WDT (i : Nat) : BitField := ⟨Reg.ENG_CTL i, 7, 0⟩
def ENG_STATUS_FAULT (i : Nat) : BitField := ⟨Reg.ENG_STATUS i, 11, 8⟩
def ENG_STATUS_RESTARTS (i : Nat) : BitField := ⟨Reg.ENG_STATUS i, 5, 4⟩
def ENG_STATUS_STATE (i : Nat) : BitField := ⟨Reg.ENG_STATUS i, 2, 0⟩
def ENG_PC_PAGE (i : Nat) : BitField := ⟨Reg.ENG_PC i, 15, 15⟩
def ENG_PC_PC (i : Nat) : BitField := ⟨Reg.ENG_PC i, 12, 0⟩
def ENG_FPC_PAGE (i : Nat) : BitField := ⟨Reg.ENG_FPC i, 15, 15⟩
def ENG_FPC_PC (i : Nat) : BitField := ⟨Reg.ENG_FPC i, 12, 0⟩
def ENG_LOAD_OWN (i : Nat) : BitField := ⟨Reg.ENG_LOAD i, 15, 15⟩
def ENG_LOAD_STAGED (i : Nat) : BitField := ⟨Reg.ENG_LOAD i, 14, 14⟩
def ENG_LOAD_SHADOW (i : Nat) : BitField := ⟨Reg.ENG_LOAD i, 13, 13⟩
def ENG_LOAD_LENM1 (i : Nat) : BitField := ⟨Reg.ENG_LOAD i, 12, 0⟩
def ENG_DBG_RESUME (i : Nat) : BitField := ⟨Reg.ENG_DBG i, 2, 2⟩
def ENG_DBG_STEP (i : Nat) : BitField := ⟨Reg.ENG_DBG i, 1, 1⟩
def ENG_DBG_HALT (i : Nat) : BitField := ⟨Reg.ENG_DBG i, 0, 0⟩
def ENG_BP0_EN (i : Nat) : BitField := ⟨Reg.ENG_BP0 i, 15, 15⟩
def ENG_BP0_INDEX (i : Nat) : BitField := ⟨Reg.ENG_BP0 i, 12, 0⟩
def ENG_BP1_EN (i : Nat) : BitField := ⟨Reg.ENG_BP1 i, 15, 15⟩
def ENG_BP1_INDEX (i : Nat) : BitField := ⟨Reg.ENG_BP1 i, 12, 0⟩
def ENG_BP2_EN (i : Nat) : BitField := ⟨Reg.ENG_BP2 i, 15, 15⟩
def ENG_BP2_INDEX (i : Nat) : BitField := ⟨Reg.ENG_BP2 i, 12, 0⟩
def ENG_BP3_EN (i : Nat) : BitField := ⟨Reg.ENG_BP3 i, 15, 15⟩
def ENG_BP3_INDEX (i : Nat) : BitField := ⟨Reg.ENG_BP3 i, 12, 0⟩
def ENG_WP0_HI_EN (i : Nat) : BitField := ⟨Reg.ENG_WP0_HI i, 15, 15⟩
def ENG_WP0_HI_KIND (i : Nat) : BitField := ⟨Reg.ENG_WP0_HI i, 14, 13⟩
def ENG_WP0_HI_ADDR (i : Nat) : BitField := ⟨Reg.ENG_WP0_HI i, 1, 0⟩
def ENG_WP1_HI_EN (i : Nat) : BitField := ⟨Reg.ENG_WP1_HI i, 15, 15⟩
def ENG_WP1_HI_KIND (i : Nat) : BitField := ⟨Reg.ENG_WP1_HI i, 14, 13⟩
def ENG_WP1_HI_ADDR (i : Nat) : BitField := ⟨Reg.ENG_WP1_HI i, 1, 0⟩
def ENG_GSEL_REG (i : Nat) : BitField := ⟨Reg.ENG_GSEL i, 3, 0⟩
def ENG_SWEVT_RAISE : BitField := ⟨Reg.ENG_SWEVT, 11, 0⟩
def ENG_DBG_STAT_PIN : BitField := ⟨Reg.ENG_DBG_STAT, 1, 1⟩
def ENG_DBG_STAT_UNLOCKED : BitField := ⟨Reg.ENG_DBG_STAT, 0, 0⟩
def RAIL_CFG_TYPE (i : Nat) : BitField := ⟨Reg.RAIL_CFG i, 15, 14⟩
def RAIL_CFG_KIND (i : Nat) : BitField := ⟨Reg.RAIL_CFG i, 13, 12⟩
def RAIL_CFG_ACT (i : Nat) : BitField := ⟨Reg.RAIL_CFG i, 11, 10⟩
def RAIL_CFG_SAFE_OFF (i : Nat) : BitField := ⟨Reg.RAIL_CFG i, 9, 9⟩
def RAIL_CFG_SENSE (i : Nat) : BitField := ⟨Reg.RAIL_CFG i, 8, 8⟩
def RAIL_CFG_POL (i : Nat) : BitField := ⟨Reg.RAIL_CFG i, 7, 7⟩
def RAIL_CFG_OD (i : Nat) : BitField := ⟨Reg.RAIL_CFG i, 6, 6⟩
def RAIL_INRUSH_INRUSH (i : Nat) : BitField := ⟨Reg.RAIL_INRUSH i, 15, 8⟩
def RAIL_INRUSH_PG_DEB (i : Nat) : BitField := ⟨Reg.RAIL_INRUSH i, 7, 0⟩
def RAIL_DWELL_MIN_ON (i : Nat) : BitField := ⟨Reg.RAIL_DWELL i, 15, 8⟩
def RAIL_DWELL_MIN_OFF (i : Nat) : BitField := ⟨Reg.RAIL_DWELL i, 7, 0⟩
def RAIL_RST_RST_MAX (i : Nat) : BitField := ⟨Reg.RAIL_RST i, 15, 12⟩
def RAIL_RST_RST_WIN (i : Nat) : BitField := ⟨Reg.RAIL_RST i, 11, 8⟩
def RAIL_RST_RST_DLY (i : Nat) : BitField := ⟨Reg.RAIL_RST i, 7, 0⟩
def RAIL_STAT_RESTARTS (i : Nat) : BitField := ⟨Reg.RAIL_STAT i, 15, 12⟩
def RAIL_STAT_FAULT (i : Nat) : BitField := ⟨Reg.RAIL_STAT i, 11, 8⟩
def RAIL_STAT_STATE (i : Nat) : BitField := ⟨Reg.RAIL_STAT i, 3, 0⟩
def RAIL_CTL_AUTO_UP : BitField := ⟨Reg.RAIL_CTL, 15, 15⟩
def RAIL_CTL_DOWN_ON_FAIL : BitField := ⟨Reg.RAIL_CTL, 14, 14⟩
def RAIL_CTL_ALIGN : BitField := ⟨Reg.RAIL_CTL, 13, 13⟩
def RAIL_CTL_GRP_ROLL : BitField := ⟨Reg.RAIL_CTL, 12, 12⟩
def RAIL_CTL_SLOW : BitField := ⟨Reg.RAIL_CTL, 11, 11⟩
def RAIL_CMD_OP : BitField := ⟨Reg.RAIL_CMD, 9, 8⟩
def RAIL_CMD_RAIL : BitField := ⟨Reg.RAIL_CMD, 3, 0⟩
def SEQ_CMD_ABORT : BitField := ⟨Reg.SEQ_CMD, 2, 2⟩
def SEQ_CMD_DOWN : BitField := ⟨Reg.SEQ_CMD, 1, 1⟩
def SEQ_CMD_UP : BitField := ⟨Reg.SEQ_CMD, 0, 0⟩
def SEQ_STATUS_CMD_ERR : BitField := ⟨Reg.SEQ_STATUS, 15, 12⟩
def SEQ_STATUS_SEQ_ERR : BitField := ⟨Reg.SEQ_STATUS, 11, 8⟩
def SEQ_STATUS_TGT_ERR : BitField := ⟨Reg.SEQ_STATUS, 7, 7⟩
def SEQ_STATUS_FAILED : BitField := ⟨Reg.SEQ_STATUS, 6, 6⟩
def SEQ_STATUS_DONE : BitField := ⟨Reg.SEQ_STATUS, 5, 5⟩
def SEQ_STATUS_SEQ : BitField := ⟨Reg.SEQ_STATUS, 2, 1⟩
def SEQ_STEP_STEP : BitField := ⟨Reg.SEQ_STEP, 6, 0⟩
def RAIL_FLAGS_BITS : BitField := ⟨Reg.RAIL_FLAGS, 11, 0⟩
def RAIL_ON_BITS : BitField := ⟨Reg.RAIL_ON, 11, 0⟩
def RAIL_GOOD_BITS : BitField := ⟨Reg.RAIL_GOOD, 11, 0⟩
def STEP_SEL_TABLE : BitField := ⟨Reg.STEP_SEL, 6, 6⟩
def STEP_SEL_INDEX : BitField := ⟨Reg.STEP_SEL, 5, 0⟩
def MRG_CTL_EN (i : Nat) : BitField := ⟨Reg.MRG_CTL i, 15, 15⟩
def MRG_CTL_RAIL (i : Nat) : BitField := ⟨Reg.MRG_CTL i, 11, 8⟩
def MRG_CTL_SLEW (i : Nat) : BitField := ⟨Reg.MRG_CTL i, 7, 0⟩
def MRG_NEUTRAL_NEUTRAL (i : Nat) : BitField := ⟨Reg.MRG_NEUTRAL i, 11, 0⟩
def MRG_TGT_TGT (i : Nat) : BitField := ⟨Reg.MRG_TGT i, 7, 0⟩
def MRG_CODE_DRIVEN (i : Nat) : BitField := ⟨Reg.MRG_CODE i, 15, 15⟩
def MRG_CODE_CODE (i : Nat) : BitField := ⟨Reg.MRG_CODE i, 11, 0⟩
def RGRP_MASK_BITS : BitField := ⟨Reg.RGRP_MASK, 11, 0⟩
def RGRP_STATE_BITS : BitField := ⟨Reg.RGRP_STATE, 11, 0⟩
def RGRP_CMD_CANCEL : BitField := ⟨Reg.RGRP_CMD, 2, 2⟩
def RGRP_CMD_COMMIT : BitField := ⟨Reg.RGRP_CMD, 1, 1⟩
def RGRP_CMD_PREPARE : BitField := ⟨Reg.RGRP_CMD, 0, 0⟩
def RGRP_STATUS_RGRP_ERR : BitField := ⟨Reg.RGRP_STATUS, 10, 8⟩
def RGRP_STATUS_REVERTED : BitField := ⟨Reg.RGRP_STATUS, 6, 6⟩
def RGRP_STATUS_SETTLED : BitField := ⟨Reg.RGRP_STATUS, 5, 5⟩
def RGRP_STATUS_ROLLED_BACK : BitField := ⟨Reg.RGRP_STATUS, 4, 4⟩
def RGRP_STATUS_STAGE : BitField := ⟨Reg.RGRP_STATUS, 3, 2⟩
def HS_CTL_VERIFY : BitField := ⟨Reg.HS_CTL, 2, 2⟩
def HS_CTL_EN : BitField := ⟨Reg.HS_CTL, 0, 0⟩
def HS_CMD_CLR_CNT : BitField := ⟨Reg.HS_CMD, 2, 2⟩
def HS_CMD_FORMAT : BitField := ⟨Reg.HS_CMD, 1, 1⟩
def HS_CMD_FLUSH : BitField := ⟨Reg.HS_CMD, 0, 0⟩
def HS_STATUS_RECOVERED : BitField := ⟨Reg.HS_STATUS, 14, 14⟩
def HS_STATUS_RETIRED : BitField := ⟨Reg.HS_STATUS, 13, 13⟩
def HS_STATUS_POOL_EMPTY : BitField := ⟨Reg.HS_STATUS, 12, 12⟩
def HS_STATUS_QFULL : BitField := ⟨Reg.HS_STATUS, 11, 11⟩
def HS_STATUS_REF_HOLD : BitField := ⟨Reg.HS_STATUS, 10, 10⟩
def HS_STATUS_REF_SUPPLY : BitField := ⟨Reg.HS_STATUS, 9, 9⟩
def HS_STATUS_REF_TEMP : BitField := ⟨Reg.HS_STATUS, 8, 8⟩
def HS_STATUS_KEY_OPEN : BitField := ⟨Reg.HS_STATUS, 7, 7⟩
def HS_STATUS_BUSY : BitField := ⟨Reg.HS_STATUS, 6, 6⟩
def HS_STATUS_PROBE : BitField := ⟨Reg.HS_STATUS, 5, 3⟩
def HS_STATUS_REDUCED : BitField := ⟨Reg.HS_STATUS, 2, 2⟩
def HS_STATUS_FORMATTED : BitField := ⟨Reg.HS_STATUS, 1, 1⟩
def HS_STATUS_READY : BitField := ⟨Reg.HS_STATUS, 0, 0⟩
def HS_GEOM_BLK_LOG2 : BitField := ⟨Reg.HS_GEOM, 3, 0⟩
def HS_RD_TIER_TIER : BitField := ⟨Reg.HS_RD_TIER, 1, 0⟩
def HS_RD_CMD_LOAD : BitField := ⟨Reg.HS_RD_CMD, 0, 0⟩
def HS_RD_STATUS_UNCORR : BitField := ⟨Reg.HS_RD_STATUS, 15, 8⟩
def HS_RD_STATUS_MAXCORR : BitField := ⟨Reg.HS_RD_STATUS, 7, 4⟩
def HS_RD_STATUS_NOT_HELD : BitField := ⟨Reg.HS_RD_STATUS, 2, 2⟩
def HS_RD_STATUS_BUSY : BitField := ⟨Reg.HS_RD_STATUS, 1, 1⟩
def HS_RD_STATUS_DONE : BitField := ⟨Reg.HS_RD_STATUS, 0, 0⟩
def IF_STATUS_WORD_ERR : BitField := ⟨Reg.IF_STATUS, 5, 5⟩
def IF_STATUS_REF_HOLD : BitField := ⟨Reg.IF_STATUS, 4, 4⟩
def IF_STATUS_REF_SUPPLY : BitField := ⟨Reg.IF_STATUS, 3, 3⟩
def IF_STATUS_REF_TEMP : BitField := ⟨Reg.IF_STATUS, 2, 2⟩
def IF_STATUS_ERASE_ABORTED : BitField := ⟨Reg.IF_STATUS, 1, 1⟩
def IF_STATUS_BUSY : BitField := ⟨Reg.IF_STATUS, 0, 0⟩
def FFL_CMD_CLEAR : BitField := ⟨Reg.FFL_CMD, 0, 0⟩
def FFL_STATUS_FROZEN : BitField := ⟨Reg.FFL_STATUS, 15, 15⟩
def FFL_STATUS_PENDING : BitField := ⟨Reg.FFL_STATUS, 14, 12⟩
def FFL_STATUS_LOST : BitField := ⟨Reg.FFL_STATUS, 6, 6⟩
def FFL_STATUS_RING_N : BitField := ⟨Reg.FFL_STATUS, 5, 0⟩
def FFL_SEL_ENTRY : BitField := ⟨Reg.FFL_SEL, 5, 0⟩
def CVU_CTL_WIDTH (i : Nat) : BitField := ⟨Reg.CVU_CTL i, 13, 12⟩
def CVU_CTL_REFIN (i : Nat) : BitField := ⟨Reg.CVU_CTL i, 9, 9⟩
def CVU_CTL_REFOUT (i : Nat) : BitField := ⟨Reg.CVU_CTL i, 8, 8⟩
def CVU_CTL_SEEDMODE (i : Nat) : BitField := ⟨Reg.CVU_CTL i, 7, 6⟩
def CVU_CTL_IRQ (i : Nat) : BitField := ⟨Reg.CVU_CTL i, 1, 1⟩
def CVU_CMD_CHECK (i : Nat) : BitField := ⟨Reg.CVU_CMD i, 1, 1⟩
def CVU_CMD_START (i : Nat) : BitField := ⟨Reg.CVU_CMD i, 0, 0⟩
def CVU_STATUS_CHECKED (i : Nat) : BitField := ⟨Reg.CVU_STATUS i, 3, 3⟩
def CVU_STATUS_MISMATCH (i : Nat) : BitField := ⟨Reg.CVU_STATUS i, 2, 2⟩
def CVU_STATUS_MATCH (i : Nat) : BitField := ⟨Reg.CVU_STATUS i, 1, 1⟩
def CVU_STATUS_BUSY (i : Nat) : BitField := ⟨Reg.CVU_STATUS i, 0, 0⟩
def KEY_STATUS_KGEN : BitField := ⟨Reg.KEY_STATUS, 15, 8⟩
def KEY_STATUS_TKGEN : BitField := ⟨Reg.KEY_STATUS, 7, 4⟩
def KEY_STATUS_TRNG_FAIL : BitField := ⟨Reg.KEY_STATUS, 3, 3⟩
def KEY_STATUS_TREE : BitField := ⟨Reg.KEY_STATUS, 2, 2⟩
def KEY_STATUS_SESSION : BitField := ⟨Reg.KEY_STATUS, 1, 1⟩
def KEY_STATUS_KEYS_OK : BitField := ⟨Reg.KEY_STATUS, 0, 0⟩
def KEY_CTL_MTAG_REQ : BitField := ⟨Reg.KEY_CTL, 1, 1⟩
def KEY_CTL_MTAG : BitField := ⟨Reg.KEY_CTL, 0, 0⟩
def KEY_CMD_RENEW : BitField := ⟨Reg.KEY_CMD, 0, 0⟩
def KEY_PIN_SEL_PIN : BitField := ⟨Reg.KEY_PIN_SEL, 1, 0⟩
def TRNG_CMD_GEN : BitField := ⟨Reg.TRNG_CMD, 0, 0⟩
def ATT_CMD_SEL : BitField := ⟨Reg.ATT_CMD, 1, 1⟩
def ATT_CMD_GEN : BitField := ⟨Reg.ATT_CMD, 0, 0⟩
def ATT_STATUS_BUSY : BitField := ⟨Reg.ATT_STATUS, 1, 1⟩
def ATT_STATUS_READY : BitField := ⟨Reg.ATT_STATUS, 0, 0⟩
def ALY_CTL_EN : BitField := ⟨Reg.ALY_CTL, 15, 15⟩
def ALY_CTL_PTP : BitField := ⟨Reg.ALY_CTL, 14, 14⟩
def ALY_CTL_QW : BitField := ⟨Reg.ALY_CTL, 13, 13⟩
def ALY_CTL_AUTO : BitField := ⟨Reg.ALY_CTL, 12, 12⟩
def ALY_CTL_MISS_MAX : BitField := ⟨Reg.ALY_CTL, 11, 8⟩
def ALY_TIME_RESCAN : BitField := ⟨Reg.ALY_TIME, 15, 8⟩
def ALY_TIME_POLL : BitField := ⟨Reg.ALY_TIME, 7, 0⟩
def ALY_CMD_TAG : BitField := ⟨Reg.ALY_CMD, 15, 11⟩
def ALY_CMD_PAGENO : BitField := ⟨Reg.ALY_CMD, 10, 8⟩
def ALY_CMD_PAGE : BitField := ⟨Reg.ALY_CMD, 2, 2⟩
def ALY_CMD_POLL : BitField := ⟨Reg.ALY_CMD, 1, 1⟩
def ALY_CMD_SCAN : BitField := ⟨Reg.ALY_CMD, 0, 0⟩
def ALY_STATUS_MULTI : BitField := ⟨Reg.ALY_STATUS, 15, 15⟩
def ALY_STATUS_STUCK : BitField := ⟨Reg.ALY_STATUS, 14, 14⟩
def ALY_STATUS_INCOMPLETE : BitField := ⟨Reg.ALY_STATUS, 13, 13⟩
def ALY_STATUS_TERR : BitField := ⟨Reg.ALY_STATUS, 12, 12⟩
def ALY_STATUS_CRC : BitField := ⟨Reg.ALY_STATUS, 11, 11⟩
def ALY_STATUS_CHANGED : BitField := ⟨Reg.ALY_STATUS, 10, 10⟩
def ALY_STATUS_PAGE_DONE : BitField := ⟨Reg.ALY_STATUS, 9, 9⟩
def ALY_STATUS_PAGE_ERR : BitField := ⟨Reg.ALY_STATUS, 8, 8⟩
def ALY_STATUS_PRESENT : BitField := ⟨Reg.ALY_STATUS, 7, 7⟩
def ALY_STATUS_OP : BitField := ⟨Reg.ALY_STATUS, 3, 2⟩
def ALY_STATUS_BUSY : BitField := ⟨Reg.ALY_STATUS, 1, 1⟩
def ALY_SEL_INDEX : BitField := ⟨Reg.ALY_SEL, 4, 0⟩
def ALY_ENT6_VALID : BitField := ⟨Reg.ALY_ENT6, 15, 15⟩
def ALY_ENT6_FRESH : BitField := ⟨Reg.ALY_ENT6, 14, 14⟩
def ALY_ENT6_MISSES : BitField := ⟨Reg.ALY_ENT6, 11, 8⟩
def ALY_ENT6_FAMILY : BitField := ⟨Reg.ALY_ENT6, 7, 0⟩
def RMT_NODE_BCAST : BitField := ⟨Reg.RMT_NODE, 15, 15⟩
def RMT_NODE_NODE : BitField := ⟨Reg.RMT_NODE, 12, 0⟩
def RMT_LEN_COUNT : BitField := ⟨Reg.RMT_LEN, 6, 0⟩
def RMT_CMD_WRITE : BitField := ⟨Reg.RMT_CMD, 1, 1⟩
def RMT_CMD_READ : BitField := ⟨Reg.RMT_CMD, 0, 0⟩
def RMT_STATUS_RESULT : BitField := ⟨Reg.RMT_STATUS, 15, 8⟩
def RMT_STATUS_DONE : BitField := ⟨Reg.RMT_STATUS, 4, 4⟩
def RMT_STATUS_STATE : BitField := ⟨Reg.RMT_STATUS, 1, 0⟩
def WIN_MIR_PAGE : BitField := ⟨Reg.WIN_MIR, 6, 0⟩
def WIN_ENG_SPACE : BitField := ⟨Reg.WIN_ENG, 9, 8⟩
def WIN_ENG_PAGE : BitField := ⟨Reg.WIN_ENG, 6, 0⟩
def WIN_STAT_PERR : BitField := ⟨Reg.WIN_STAT, 0, 0⟩

end Fld

/-- Fields of spec/01_node_and_tree.md. -/
def mapRows01 : List MapRow := [
  ⟨0x0000, 1, 0, 15, 0, .ro, 0, 65535⟩, ⟨0x0001, 1, 0, 15, 8, .ro, 0, 65535⟩,
  ⟨0x0001, 1, 0, 7, 0, .ro, 0, 65535⟩, ⟨0x0002, 1, 0, 15, 15, .ro, 0, 65535⟩,
  ⟨0x0002, 1, 0, 12, 0, .ro, 0, 65535⟩, ⟨0x0003, 1, 0, 8, 8, .ro, 0, 65535⟩,
  ⟨0x0003, 1, 0, 6, 6, .ro, 0, 65535⟩, ⟨0x0003, 1, 0, 5, 5, .ro, 0, 65535⟩,
  ⟨0x0003, 1, 0, 4, 4, .ro, 0, 65535⟩, ⟨0x0003, 1, 0, 2, 2, .ro, 0, 65535⟩,
  ⟨0x0003, 1, 0, 1, 0, .ro, 0, 65535⟩, ⟨0x0004, 1, 0, 4, 0, .ro, 0, 65535⟩]

/-- Fields of spec/02_acquisition.md. -/
def mapRows02 : List MapRow := [
  ⟨0x0400, 1, 0, 11, 8, .rw, 0, 9⟩, ⟨0x0400, 1, 0, 6, 6, .rw, 0, 65535⟩,
  ⟨0x0400, 1, 0, 5, 5, .rw, 0, 65535⟩, ⟨0x0400, 1, 0, 4, 2, .rw, 0, 65535⟩,
  ⟨0x0400, 1, 0, 1, 0, .rw, 0, 2⟩, ⟨0x0401, 1, 0, 15, 0, .rw, 0, 65535⟩,
  ⟨0x0402, 1, 0, 15, 8, .rw, 0, 65535⟩, ⟨0x0402, 1, 0, 3, 0, .rw, 0, 11⟩,
  ⟨0x0403, 1, 0, 7, 0, .rw, 0, 65535⟩, ⟨0x0404, 1, 0, 5, 0, .rw, 0, 65535⟩,
  ⟨0x0405, 1, 0, 11, 8, .rw, 1, 15⟩, ⟨0x0405, 1, 0, 7, 0, .rw, 0, 65535⟩,
  ⟨0x0406, 1, 0, 1, 1, .wo, 0, 65535⟩, ⟨0x0406, 1, 0, 0, 0, .wo, 0, 65535⟩,
  ⟨0x0407, 1, 0, 15, 0, .rw, 0, 65535⟩, ⟨0x0600, 1, 0, 15, 0, .snap, 0, 65535⟩,
  ⟨0x0601, 1, 0, 8, 8, .snap, 0, 65535⟩, ⟨0x0601, 1, 0, 7, 7, .snap, 0, 65535⟩,
  ⟨0x0601, 1, 0, 6, 6, .snap, 0, 65535⟩, ⟨0x0601, 1, 0, 5, 5, .snap, 0, 65535⟩,
  ⟨0x0601, 1, 0, 4, 3, .snap, 0, 65535⟩, ⟨0x0601, 1, 0, 2, 2, .snap, 0, 65535⟩,
  ⟨0x0601, 1, 0, 1, 1, .snap, 0, 65535⟩, ⟨0x0601, 1, 0, 0, 0, .snap, 0, 65535⟩,
  ⟨0x0602, 3, 1, 15, 0, .snap, 0, 65535⟩, ⟨0x0610, 32, 2, 15, 0, .snap, 0, 65535⟩,
  ⟨0x0611, 32, 2, 11, 8, .snap, 0, 65535⟩, ⟨0x0611, 32, 2, 7, 0, .snap, 0, 65535⟩,
  ⟨0x0650, 1, 0, 15, 0, .snap, 0, 65535⟩, ⟨0x0651, 1, 0, 4, 4, .snap, 0, 65535⟩,
  ⟨0x0651, 1, 0, 3, 3, .snap, 0, 65535⟩, ⟨0x0651, 1, 0, 2, 2, .snap, 0, 65535⟩,
  ⟨0x0651, 1, 0, 1, 1, .snap, 0, 65535⟩, ⟨0x0651, 1, 0, 0, 0, .snap, 0, 65535⟩,
  ⟨0x06A0, 1, 0, 15, 0, .w1c, 0, 65535⟩, ⟨0x06A1, 1, 0, 15, 0, .w1c, 0, 65535⟩,
  ⟨0x0660, 32, 2, 15, 0, .snap, 0, 65535⟩, ⟨0x0661, 32, 2, 11, 0, .snap, 0, 65535⟩]

/-- Fields of spec/03_sense_wire_diagnostics.md. -/
def mapRows03 : List MapRow := [
  ⟨0x0800, 1, 0, 7, 4, .rw, 1, 15⟩, ⟨0x0800, 1, 0, 3, 3, .rw, 0, 65535⟩,
  ⟨0x0800, 1, 0, 2, 2, .rw, 0, 65535⟩, ⟨0x0800, 1, 0, 1, 1, .rw, 0, 65535⟩,
  ⟨0x0800, 1, 0, 0, 0, .rw, 0, 65535⟩, ⟨0x0801, 1, 0, 15, 8, .rw, 0, 65535⟩,
  ⟨0x0801, 1, 0, 7, 0, .rw, 0, 65535⟩, ⟨0x0802, 1, 0, 7, 0, .rw, 1, 255⟩,
  ⟨0x0803, 1, 0, 15, 12, .rw, 1, 15⟩, ⟨0x0803, 1, 0, 11, 4, .rw, 0, 65535⟩,
  ⟨0x0803, 1, 0, 3, 0, .rw, 0, 65535⟩, ⟨0x0804, 1, 0, 15, 0, .rw, 0, 65535⟩,
  ⟨0x0805, 1, 0, 12, 8, .wo, 0, 65535⟩, ⟨0x0805, 1, 0, 2, 2, .wo, 0, 65535⟩,
  ⟨0x0805, 1, 0, 1, 1, .wo, 0, 65535⟩, ⟨0x0805, 1, 0, 0, 0, .wo, 0, 65535⟩,
  ⟨0x0806, 1, 0, 12, 8, .ro, 0, 65535⟩, ⟨0x0806, 1, 0, 6, 6, .w1c, 0, 65535⟩,
  ⟨0x0806, 1, 0, 5, 5, .w1c, 0, 65535⟩, ⟨0x0806, 1, 0, 4, 4, .ro, 0, 65535⟩,
  ⟨0x0806, 1, 0, 3, 3, .ro, 0, 65535⟩, ⟨0x0806, 1, 0, 2, 2, .ro, 0, 65535⟩,
  ⟨0x0806, 1, 0, 1, 1, .ro, 0, 65535⟩, ⟨0x0806, 1, 0, 0, 0, .ro, 0, 65535⟩,
  ⟨0x0807, 1, 0, 15, 0, .ro, 0, 65535⟩, ⟨0x0808, 4, 1, 15, 0, .ro, 0, 65535⟩,
  ⟨0x0810, 25, 1, 15, 0, .ro, 0, 65535⟩, ⟨0x0830, 1, 0, 15, 0, .ro, 0, 65535⟩]

/-- Fields of spec/04_impedance_spectroscopy.md. -/
def mapRows04a : List MapRow := [
  ⟨0x0900, 1, 0, 15, 15, .rw, 0, 65535⟩, ⟨0x0900, 1, 0, 12, 12, .rw, 0, 65535⟩,
  ⟨0x0900, 1, 0, 11, 11, .rw, 0, 65535⟩, ⟨0x0900, 1, 0, 10, 8, .rw, 1, 7⟩,
  ⟨0x0900, 1, 0, 7, 4, .rw, 1, 10⟩, ⟨0x0901, 1, 0, 15, 12, .rw, 1, 10⟩,
  ⟨0x0901, 1, 0, 11, 6, .rw, 1, 32⟩, ⟨0x0901, 1, 0, 5, 0, .rw, 0, 65535⟩,
  ⟨0x0902, 1, 0, 15, 0, .rw, 0, 65535⟩, ⟨0x0903, 1, 0, 15, 0, .rw, 0, 65535⟩,
  ⟨0x0904, 1, 0, 15, 0, .rw, 0, 65535⟩, ⟨0x0905, 1, 0, 15, 0, .rw, 0, 65535⟩,
  ⟨0x0906, 1, 0, 7, 0, .rw, 0, 65535⟩, ⟨0x0907, 1, 0, 15, 0, .rw, 0, 65535⟩,
  ⟨0x0908, 1, 0, 15, 0, .rw, 0, 65535⟩, ⟨0x0909, 1, 0, 15, 0, .rw, 0, 65535⟩,
  ⟨0x090A, 1, 0, 15, 0, .rw, 0, 65535⟩, ⟨0x090B, 1, 0, 15, 14, .rw, 0, 2⟩,
  ⟨0x090B, 1, 0, 11, 8, .rw, 0, 65535⟩, ⟨0x090B, 1, 0, 4, 0, .rw, 0, 65535⟩,
  ⟨0x090C, 1, 0, 2, 2, .wo, 0, 65535⟩, ⟨0x090C, 1, 0, 1, 1, .wo, 0, 65535⟩,
  ⟨0x090C, 1, 0, 0, 0, .wo, 0, 65535⟩, ⟨0x090D, 1, 0, 10, 8, .ro, 0, 65535⟩,
  ⟨0x090D, 1, 0, 7, 7, .ro, 0, 65535⟩, ⟨0x090D, 1, 0, 6, 6, .w1c, 0, 65535⟩,
  ⟨0x090D, 1, 0, 5, 5, .w1c, 0, 65535⟩, ⟨0x090D, 1, 0, 4, 4, .w1c, 0, 65535⟩,
  ⟨0x090D, 1, 0, 3, 3, .w1c, 0, 65535⟩, ⟨0x090D, 1, 0, 1, 0, .ro, 0, 65535⟩,
  ⟨0x090E, 1, 0, 12, 8, .ro, 0, 65535⟩, ⟨0x090E, 1, 0, 4, 0, .ro, 0, 65535⟩,
  ⟨0x090F, 1, 0, 15, 0, .ro, 0, 65535⟩, ⟨0x0910, 1, 0, 15, 0, .ro, 0, 65535⟩,
  ⟨0x0911, 1, 0, 12, 8, .rw, 0, 65535⟩, ⟨0x0911, 1, 0, 4, 0, .rw, 0, 65535⟩,
  ⟨0x0912, 1, 0, 15, 0, .snap, 0, 65535⟩, ⟨0x0913, 7, 1, 15, 0, .snap, 0, 65535⟩,
  ⟨0x091A, 1, 0, 15, 0, .ro, 0, 65535⟩, ⟨0x0920, 24, 1, 15, 0, .ro, 0, 65535⟩]

/-- Fields of spec/04_impedance_spectroscopy.md. -/
def mapRows04b : List MapRow := [
  ⟨0x0940, 16, 2, 15, 0, .rw, 0, 65535⟩, ⟨0x0941, 16, 2, 15, 0, .rw, 0, 65535⟩]

/-- Fields of spec/04_impedance_spectroscopy.md. -/
def mapRows04 : List MapRow := mapRows04a ++ mapRows04b

/-- Fields of spec/05_charge_transfer.md. -/
def mapRows05a : List MapRow := [
  ⟨0x0A00, 1, 0, 11, 8, .rw, 1, 15⟩, ⟨0x0A00, 1, 0, 5, 4, .rw, 0, 65535⟩,
  ⟨0x0A00, 1, 0, 0, 0, .rw, 0, 65535⟩, ⟨0x0A01, 1, 0, 10, 0, .rw, 320, 1600⟩,
  ⟨0x0A02, 1, 0, 7, 0, .rw, 8, 255⟩, ⟨0x0A03, 1, 0, 15, 0, .rw, 1, 65535⟩,
  ⟨0x0A04, 1, 0, 15, 0, .rw, 1, 65535⟩, ⟨0x0A05, 1, 0, 7, 0, .rw, 10, 200⟩,
  ⟨0x0A06, 1, 0, 8, 0, .rw, 50, 300⟩, ⟨0x0A07, 1, 0, 15, 8, .rw, 0, 65535⟩,
  ⟨0x0A07, 1, 0, 7, 0, .rw, 0, 65535⟩, ⟨0x0A08, 1, 0, 15, 0, .rw, 0, 65535⟩,
  ⟨0x0A09, 1, 0, 15, 0, .rw, 0, 65535⟩, ⟨0x0A0A, 1, 0, 15, 8, .rw, 1, 255⟩,
  ⟨0x0A0A, 1, 0, 7, 0, .rw, 1, 255⟩, ⟨0x0A10, 6, 1, 15, 0, .rw, 0, 65535⟩,
  ⟨0x0A20, 24, 1, 15, 14, .rw, 0, 65535⟩, ⟨0x0A20, 24, 1, 7, 0, .rw, 0, 65535⟩,
  ⟨0x0A40, 24, 1, 15, 0, .rw, 0, 65535⟩, ⟨0x0A60, 1, 0, 15, 0, .rw, 0, 65535⟩,
  ⟨0x0A61, 1, 0, 3, 3, .wo, 0, 65535⟩, ⟨0x0A61, 1, 0, 2, 2, .wo, 0, 65535⟩,
  ⟨0x0A61, 1, 0, 1, 1, .wo, 0, 65535⟩, ⟨0x0A61, 1, 0, 0, 0, .wo, 0, 65535⟩,
  ⟨0x0A62, 1, 0, 14, 12, .ro, 0, 65535⟩, ⟨0x0A62, 1, 0, 11, 11, .w1c, 0, 65535⟩,
  ⟨0x0A62, 1, 0, 10, 10, .w1c, 0, 65535⟩, ⟨0x0A62, 1, 0, 9, 9, .w1c, 0, 65535⟩,
  ⟨0x0A62, 1, 0, 8, 8, .w1c, 0, 65535⟩, ⟨0x0A62, 1, 0, 7, 7, .w1c, 0, 65535⟩,
  ⟨0x0A62, 1, 0, 6, 6, .ro, 0, 65535⟩, ⟨0x0A62, 1, 0, 5, 5, .ro, 0, 65535⟩,
  ⟨0x0A62, 1, 0, 4, 4, .ro, 0, 65535⟩, ⟨0x0A62, 1, 0, 3, 2, .ro, 0, 65535⟩,
  ⟨0x0A62, 1, 0, 1, 1, .ro, 0, 65535⟩, ⟨0x0A63, 1, 0, 15, 0, .ro, 0, 65535⟩,
  ⟨0x0A64, 1, 0, 15, 0, .ro, 0, 65535⟩, ⟨0x0A65, 1, 0, 15, 0, .ro, 0, 65535⟩,
  ⟨0x0A70, 24, 1, 15, 12, .ro, 0, 65535⟩, ⟨0x0A70, 24, 1, 11, 0, .ro, 0, 65535⟩]

/-- Fields of spec/05_charge_transfer.md. -/
def mapRows05b : List MapRow := [
  ⟨0x0A88, 24, 2, 15, 0, .snap, 0, 65535⟩, ⟨0x0A89, 24, 2, 15, 0, .snap, 0, 65535⟩,
  ⟨0x0AC0, 4, 1, 15, 15, .ro, 0, 65535⟩, ⟨0x0AC0, 4, 1, 7, 0, .ro, 0, 65535⟩,
  ⟨0x0AC4, 1, 0, 3, 0, .wo, 0, 65535⟩, ⟨0x0B00, 128, 1, 15, 0, .rw, 0, 65535⟩,
  ⟨0x0B80, 1, 0, 15, 12, .rw, 1, 15⟩, ⟨0x0B80, 1, 0, 11, 8, .rw, 2, 15⟩,
  ⟨0x0B80, 1, 0, 6, 5, .rw, 0, 65535⟩, ⟨0x0B80, 1, 0, 4, 4, .rw, 0, 65535⟩,
  ⟨0x0B80, 1, 0, 3, 0, .rw, 0, 65535⟩, ⟨0x0B81, 1, 0, 12, 0, .rw, 0, 65535⟩,
  ⟨0x0B82, 1, 0, 12, 0, .rw, 0, 65535⟩, ⟨0x0B83, 1, 0, 15, 0, .ro, 0, 65535⟩,
  ⟨0x0B84, 1, 0, 1, 1, .wo, 0, 65535⟩, ⟨0x0B84, 1, 0, 0, 0, .wo, 0, 65535⟩,
  ⟨0x0B85, 1, 0, 8, 8, .w1c, 0, 65535⟩, ⟨0x0B85, 1, 0, 6, 4, .ro, 0, 65535⟩,
  ⟨0x0B85, 1, 0, 2, 0, .ro, 0, 65535⟩, ⟨0x0B86, 1, 0, 15, 0, .ro, 0, 65535⟩,
  ⟨0x0B87, 1, 0, 15, 0, .ro, 0, 65535⟩, ⟨0x0B88, 1, 0, 15, 0, .ro, 0, 65535⟩,
  ⟨0x0B89, 1, 0, 15, 0, .ro, 0, 65535⟩, ⟨0x0B8A, 1, 0, 15, 0, .ro, 0, 65535⟩,
  ⟨0x0B8B, 1, 0, 5, 4, .rw, 0, 65535⟩, ⟨0x0B8B, 1, 0, 1, 0, .rw, 0, 65535⟩]

/-- Fields of spec/05_charge_transfer.md. -/
def mapRows05 : List MapRow := mapRows05a ++ mapRows05b

/-- Fields of spec/06_phase_timebase.md. -/
def mapRows06a : List MapRow := [
  ⟨0x0200, 1, 0, 12, 10, .rw, 0, 65535⟩, ⟨0x0200, 1, 0, 9, 8, .rw, 0, 65535⟩,
  ⟨0x0200, 1, 0, 7, 4, .rw, 1, 15⟩, ⟨0x0200, 1, 0, 2, 2, .rw, 0, 65535⟩,
  ⟨0x0200, 1, 0, 1, 0, .rw, 0, 65535⟩, ⟨0x0201, 1, 0, 11, 11, .w1c, 0, 65535⟩,
  ⟨0x0201, 1, 0, 10, 10, .w1c, 0, 65535⟩, ⟨0x0201, 1, 0, 9, 9, .w1c, 0, 65535⟩,
  ⟨0x0201, 1, 0, 8, 8, .w1c, 0, 65535⟩, ⟨0x0201, 1, 0, 5, 4, .ro, 0, 65535⟩,
  ⟨0x0201, 1, 0, 2, 0, .ro, 0, 65535⟩, ⟨0x0202, 1, 0, 15, 0, .rw, 0, 65535⟩,
  ⟨0x0203, 1, 0, 15, 0, .rw, 0, 65535⟩, ⟨0x0204, 1, 0, 15, 0, .rw, 0, 65535⟩,
  ⟨0x0205, 1, 0, 15, 0, .rw, 1, 65535⟩, ⟨0x0206, 1, 0, 15, 0, .ro, 0, 65535⟩,
  ⟨0x0208, 3, 1, 15, 0, .snap, 0, 65535⟩, ⟨0x020C, 1, 0, 15, 0, .snap, 0, 65535⟩,
  ⟨0x020D, 1, 0, 15, 0, .snap, 0, 65535⟩, ⟨0x020E, 1, 0, 15, 0, .snap, 0, 65535⟩,
  ⟨0x020F, 1, 0, 15, 0, .snap, 0, 65535⟩, ⟨0x0210, 1, 0, 15, 15, .rw, 0, 65535⟩,
  ⟨0x0210, 1, 0, 11, 8, .rw, 0, 65535⟩, ⟨0x0211, 1, 0, 15, 0, .ro, 0, 65535⟩,
  ⟨0x0212, 1, 0, 15, 0, .rw, 0, 65535⟩, ⟨0x0213, 1, 0, 9, 9, .ro, 0, 65535⟩,
  ⟨0x0213, 1, 0, 8, 8, .ro, 0, 65535⟩, ⟨0x0213, 1, 0, 7, 0, .ro, 0, 65535⟩,
  ⟨0x0214, 3, 1, 15, 0, .snap, 0, 65535⟩, ⟨0x0240, 8, 4, 9, 8, .rw, 0, 65535⟩,
  ⟨0x0240, 8, 4, 7, 7, .rw, 0, 65535⟩, ⟨0x0240, 8, 4, 3, 3, .rw, 0, 65535⟩,
  ⟨0x0240, 8, 4, 2, 2, .rw, 0, 65535⟩, ⟨0x0240, 8, 4, 1, 1, .rw, 0, 65535⟩,
  ⟨0x0240, 8, 4, 0, 0, .rw, 0, 65535⟩, ⟨0x0241, 8, 4, 15, 0, .rw, 0, 65535⟩,
  ⟨0x0242, 8, 4, 15, 0, .rw, 0, 65535⟩, ⟨0x0243, 8, 4, 15, 0, .rw, 0, 65535⟩,
  ⟨0x0260, 1, 0, 15, 8, .w1c, 0, 65535⟩, ⟨0x0260, 1, 0, 7, 0, .w1c, 0, 65535⟩]

/-- Fields of spec/06_phase_timebase.md. -/
def mapRows06b : List MapRow := [
  ⟨0x0261, 1, 0, 7, 0, .w1c, 0, 65535⟩, ⟨0x0270, 1, 0, 15, 0, .ro, 0, 65535⟩,
  ⟨0x0271, 1, 0, 15, 0, .ro, 0, 65535⟩, ⟨0x0272, 1, 0, 15, 0, .snap, 0, 65535⟩,
  ⟨0x0273, 1, 0, 15, 0, .snap, 0, 65535⟩, ⟨0x0274, 1, 0, 15, 0, .ro, 0, 65535⟩,
  ⟨0x0275, 1, 0, 1, 1, .ro, 0, 65535⟩, ⟨0x0275, 1, 0, 0, 0, .ro, 0, 65535⟩,
  ⟨0x0280, 4, 4, 10, 8, .rw, 0, 4⟩, ⟨0x0280, 4, 4, 5, 5, .rw, 0, 65535⟩,
  ⟨0x0280, 4, 4, 4, 4, .rw, 0, 65535⟩, ⟨0x0280, 4, 4, 3, 2, .rw, 0, 2⟩,
  ⟨0x0280, 4, 4, 1, 1, .rw, 0, 65535⟩, ⟨0x0280, 4, 4, 0, 0, .rw, 0, 65535⟩,
  ⟨0x0281, 4, 4, 15, 0, .rw, 0, 65535⟩, ⟨0x0282, 4, 4, 15, 0, .rw, 0, 65535⟩,
  ⟨0x0283, 4, 4, 15, 0, .rw, 2, 65535⟩]

/-- Fields of spec/06_phase_timebase.md. -/
def mapRows06 : List MapRow := mapRows06a ++ mapRows06b

/-- Fields of spec/07_window_comparators.md. -/
def mapRows07 : List MapRow := [
  ⟨0x0C00, 1, 0, 13, 12, .rw, 0, 65535⟩, ⟨0x0C00, 1, 0, 9, 0, .rw, 10, 1000⟩,
  ⟨0x0C01, 3, 1, 15, 0, .ro, 0, 65535⟩, ⟨0x0C04, 3, 1, 15, 0, .ro, 0, 65535⟩,
  ⟨0x0C07, 2, 1, 15, 0, .w1c, 0, 65535⟩, ⟨0x0C09, 1, 0, 8, 0, .w1c, 0, 65535⟩,
  ⟨0x0C50, 25, 4, 15, 15, .rw, 0, 65535⟩, ⟨0x0C10, 4, 4, 14, 12, .rw, 0, 65535⟩,
  ⟨0x0C10, 41, 4, 11, 8, .rw, 0, 65535⟩, ⟨0x0C10, 41, 4, 7, 4, .rw, 0, 65535⟩,
  ⟨0x0C10, 41, 4, 3, 3, .rw, 0, 65535⟩, ⟨0x0C10, 41, 4, 2, 2, .rw, 0, 65535⟩,
  ⟨0x0C10, 41, 4, 1, 1, .rw, 0, 65535⟩, ⟨0x0C10, 41, 4, 0, 0, .rw, 0, 65535⟩,
  ⟨0x0C11, 41, 4, 9, 0, .rw, 0, 65535⟩, ⟨0x0C12, 41, 4, 9, 0, .rw, 0, 65535⟩]

/-- Fields of spec/08_krovdun_link.md. -/
def mapRows08 : List MapRow := [
  ⟨0x1000, 6, 16, 13, 12, .rw, 0, 2⟩, ⟨0x1000, 6, 16, 9, 8, .rw, 0, 1⟩,
  ⟨0x1000, 6, 16, 0, 0, .rw, 0, 65535⟩, ⟨0x1001, 6, 16, 11, 11, .w1c, 0, 65535⟩,
  ⟨0x1001, 6, 16, 10, 10, .w1c, 0, 65535⟩, ⟨0x1001, 6, 16, 9, 9, .w1c, 0, 65535⟩,
  ⟨0x1001, 6, 16, 8, 8, .w1c, 0, 65535⟩, ⟨0x1001, 6, 16, 5, 5, .ro, 0, 65535⟩,
  ⟨0x1001, 6, 16, 4, 4, .ro, 0, 65535⟩, ⟨0x1001, 6, 16, 3, 2, .ro, 0, 65535⟩,
  ⟨0x1001, 6, 16, 1, 1, .ro, 0, 65535⟩, ⟨0x1001, 6, 16, 0, 0, .ro, 0, 65535⟩,
  ⟨0x1002, 6, 16, 15, 0, .ro, 0, 65535⟩, ⟨0x1003, 6, 16, 15, 0, .ro, 0, 65535⟩,
  ⟨0x1004, 6, 16, 15, 0, .ro, 0, 65535⟩, ⟨0x1005, 6, 16, 15, 0, .ro, 0, 65535⟩,
  ⟨0x1006, 6, 16, 15, 0, .ro, 0, 65535⟩, ⟨0x1007, 6, 16, 15, 0, .ro, 0, 65535⟩,
  ⟨0x1008, 6, 16, 15, 0, .snap, 0, 65535⟩, ⟨0x1009, 6, 16, 15, 0, .snap, 0, 65535⟩,
  ⟨0x100A, 6, 16, 15, 0, .snap, 0, 65535⟩, ⟨0x100B, 6, 16, 15, 0, .snap, 0, 65535⟩,
  ⟨0x1060, 1, 0, 3, 0, .rw, 0, 65535⟩, ⟨0x1061, 1, 0, 7, 0, .ro, 0, 65535⟩,
  ⟨0x1062, 1, 0, 15, 8, .ro, 0, 65535⟩, ⟨0x1062, 1, 0, 7, 0, .ro, 0, 65535⟩,
  ⟨0x1063, 1, 0, 0, 0, .wo, 0, 65535⟩, ⟨0x1064, 1, 0, 15, 0, .ro, 0, 65535⟩]

/-- Fields of spec/09_rings_and_tree.md. -/
def mapRows09a : List MapRow := [
  ⟨0x1100, 3, 16, 12, 12, .rw, 0, 65535⟩, ⟨0x1100, 3, 16, 9, 0, .rw, 0, 65535⟩,
  ⟨0x1101, 3, 16, 13, 13, .w1c, 0, 65535⟩, ⟨0x1101, 3, 16, 12, 12, .ro, 0, 65535⟩,
  ⟨0x1101, 3, 16, 11, 11, .ro, 0, 65535⟩, ⟨0x1101, 3, 16, 10, 10, .ro, 0, 65535⟩,
  ⟨0x1101, 3, 16, 9, 4, .ro, 0, 65535⟩, ⟨0x1101, 3, 16, 3, 3, .ro, 0, 65535⟩,
  ⟨0x1101, 3, 16, 2, 0, .ro, 0, 65535⟩, ⟨0x1102, 3, 16, 13, 8, .ro, 0, 65535⟩,
  ⟨0x1102, 3, 16, 5, 0, .ro, 0, 65535⟩, ⟨0x1103, 3, 16, 15, 0, .ro, 0, 65535⟩,
  ⟨0x1104, 3, 16, 15, 0, .ro, 0, 65535⟩, ⟨0x1105, 3, 16, 15, 0, .ro, 0, 65535⟩,
  ⟨0x1106, 3, 16, 15, 0, .ro, 0, 65535⟩, ⟨0x1107, 3, 16, 15, 0, .ro, 0, 65535⟩,
  ⟨0x1108, 3, 16, 15, 0, .ro, 0, 65535⟩, ⟨0x1109, 3, 16, 15, 0, .ro, 0, 65535⟩,
  ⟨0x110A, 3, 16, 13, 8, .wo, 0, 65535⟩, ⟨0x110A, 3, 16, 2, 2, .wo, 0, 65535⟩,
  ⟨0x110A, 3, 16, 1, 1, .wo, 0, 65535⟩, ⟨0x110A, 3, 16, 0, 0, .wo, 0, 65535⟩,
  ⟨0x1140, 1, 0, 11, 11, .ro, 0, 65535⟩, ⟨0x1140, 1, 0, 10, 10, .ro, 0, 65535⟩,
  ⟨0x1140, 1, 0, 9, 8, .ro, 0, 65535⟩, ⟨0x1140, 1, 0, 5, 0, .ro, 0, 65535⟩,
  ⟨0x1141, 1, 0, 12, 0, .ro, 0, 65535⟩, ⟨0x1142, 1, 0, 15, 15, .rw, 0, 65535⟩,
  ⟨0x1142, 1, 0, 12, 0, .rw, 0, 65535⟩, ⟨0x1143, 1, 0, 15, 15, .rw, 0, 65535⟩,
  ⟨0x1143, 1, 0, 7, 0, .rw, 1, 255⟩, ⟨0x1144, 1, 0, 15, 8, .ro, 0, 65535⟩,
  ⟨0x1144, 1, 0, 2, 2, .ro, 0, 65535⟩, ⟨0x1144, 1, 0, 1, 1, .ro, 0, 65535⟩,
  ⟨0x1144, 1, 0, 0, 0, .ro, 0, 65535⟩, ⟨0x1200, 1, 0, 15, 12, .rw, 1, 15⟩,
  ⟨0x1200, 1, 0, 11, 8, .rw, 1, 15⟩, ⟨0x1200, 1, 0, 7, 4, .rw, 1, 15⟩,
  ⟨0x1200, 1, 0, 2, 2, .rw, 0, 65535⟩, ⟨0x1200, 1, 0, 1, 1, .rw, 0, 65535⟩]

/-- Fields of spec/09_rings_and_tree.md. -/
def mapRows09b : List MapRow := [
  ⟨0x1200, 1, 0, 0, 0, .rw, 0, 65535⟩, ⟨0x1201, 1, 0, 15, 0, .rw, 0, 65535⟩,
  ⟨0x1202, 1, 0, 15, 0, .rw, 0, 65535⟩, ⟨0x1203, 1, 0, 15, 0, .ro, 0, 65535⟩,
  ⟨0x1204, 1, 0, 15, 0, .snap, 0, 65535⟩, ⟨0x1205, 1, 0, 3, 3, .snap, 0, 65535⟩,
  ⟨0x1205, 1, 0, 2, 2, .snap, 0, 65535⟩, ⟨0x1205, 1, 0, 1, 1, .snap, 0, 65535⟩,
  ⟨0x1205, 1, 0, 0, 0, .snap, 0, 65535⟩, ⟨0x1206, 1, 0, 15, 0, .snap, 0, 65535⟩,
  ⟨0x1207, 1, 0, 15, 0, .ro, 0, 65535⟩, ⟨0x1208, 1, 0, 15, 0, .ro, 0, 65535⟩,
  ⟨0x1209, 1, 0, 15, 0, .ro, 0, 65535⟩, ⟨0x120A, 1, 0, 15, 0, .ro, 0, 65535⟩,
  ⟨0x1210, 1, 0, 15, 0, .rw, 0, 65535⟩, ⟨0x1211, 8, 1, 15, 0, .rw, 0, 65535⟩,
  ⟨0x1219, 1, 0, 1, 1, .wo, 0, 65535⟩, ⟨0x1219, 1, 0, 0, 0, .wo, 0, 65535⟩,
  ⟨0x121A, 1, 0, 5, 4, .rw, 0, 65535⟩, ⟨0x121A, 1, 0, 0, 0, .rw, 0, 65535⟩,
  ⟨0x1300, 128, 1, 15, 0, .ro, 0, 65535⟩]

/-- Fields of spec/09_rings_and_tree.md. -/
def mapRows09 : List MapRow := mapRows09a ++ mapRows09b

/-- Fields of spec/10_hetric_engines.md. -/
def mapRows10a : List MapRow := [
  ⟨0x1400, 3, 32, 15, 14, .rw, 0, 2⟩, ⟨0x1400, 3, 32, 9, 9, .rw, 0, 65535⟩,
  ⟨0x1400, 3, 32, 8, 8, .wo, 0, 65535⟩, ⟨0x1400, 3, 32, 7, 0, .rw, 0, 65535⟩,
  ⟨0x1401, 3, 32, 11, 8, .ro, 0, 65535⟩, ⟨0x1401, 3, 32, 5, 4, .ro, 0, 65535⟩,
  ⟨0x1401, 3, 32, 2, 0, .ro, 0, 65535⟩, ⟨0x1402, 3, 32, 15, 15, .ro, 0, 65535⟩,
  ⟨0x1402, 3, 32, 12, 0, .ro, 0, 65535⟩, ⟨0x1403, 3, 32, 15, 15, .ro, 0, 65535⟩,
  ⟨0x1403, 3, 32, 12, 0, .ro, 0, 65535⟩, ⟨0x1404, 3, 32, 15, 0, .ro, 0, 65535⟩,
  ⟨0x1405, 3, 32, 15, 0, .ro, 0, 65535⟩, ⟨0x1406, 3, 32, 15, 0, .ro, 0, 65535⟩,
  ⟨0x1407, 3, 32, 15, 0, .ro, 0, 65535⟩, ⟨0x1408, 3, 32, 15, 0, .snap, 0, 65535⟩,
  ⟨0x1409, 3, 32, 15, 0, .snap, 0, 65535⟩, ⟨0x140A, 3, 32, 15, 15, .ro, 0, 65535⟩,
  ⟨0x140A, 3, 32, 14, 14, .ro, 0, 65535⟩, ⟨0x140A, 3, 32, 13, 13, .ro, 0, 65535⟩,
  ⟨0x140A, 3, 32, 12, 0, .ro, 0, 65535⟩, ⟨0x140B, 3, 32, 2, 2, .rl, 0, 65535⟩,
  ⟨0x140B, 3, 32, 1, 1, .rl, 0, 65535⟩, ⟨0x140B, 3, 32, 0, 0, .rl, 0, 65535⟩,
  ⟨0x140C, 3, 32, 15, 15, .rl, 0, 65535⟩, ⟨0x140C, 3, 32, 12, 0, .rl, 0, 65535⟩,
  ⟨0x140D, 3, 32, 15, 15, .rl, 0, 65535⟩, ⟨0x140D, 3, 32, 12, 0, .rl, 0, 65535⟩,
  ⟨0x140E, 3, 32, 15, 15, .rl, 0, 65535⟩, ⟨0x140E, 3, 32, 12, 0, .rl, 0, 65535⟩,
  ⟨0x140F, 3, 32, 15, 15, .rl, 0, 65535⟩, ⟨0x140F, 3, 32, 12, 0, .rl, 0, 65535⟩,
  ⟨0x1410, 3, 32, 15, 0, .rl, 0, 65535⟩, ⟨0x1411, 3, 32, 15, 15, .rl, 0, 65535⟩,
  ⟨0x1411, 3, 32, 14, 13, .rl, 0, 65535⟩, ⟨0x1411, 3, 32, 1, 0, .rl, 0, 65535⟩,
  ⟨0x1412, 3, 32, 15, 0, .rl, 0, 65535⟩, ⟨0x1413, 3, 32, 15, 15, .rl, 0, 65535⟩,
  ⟨0x1413, 3, 32, 14, 13, .rl, 0, 65535⟩, ⟨0x1413, 3, 32, 1, 0, .rl, 0, 65535⟩]

/-- Fields of spec/10_hetric_engines.md. -/
def mapRows10b : List MapRow := [
  ⟨0x1414, 3, 32, 3, 0, .rw, 0, 65535⟩, ⟨0x1415, 3, 32, 15, 0, .snap, 0, 65535⟩,
  ⟨0x1416, 3, 32, 15, 0, .snap, 0, 65535⟩, ⟨0x1460, 1, 0, 11, 0, .wo, 0, 65535⟩,
  ⟨0x1461, 1, 0, 15, 0, .w1c, 0, 65535⟩, ⟨0x1462, 1, 0, 15, 0, .wo, 0, 65535⟩,
  ⟨0x1463, 1, 0, 1, 1, .ro, 0, 65535⟩, ⟨0x1463, 1, 0, 0, 0, .ro, 0, 65535⟩]

/-- Fields of spec/10_hetric_engines.md. -/
def mapRows10 : List MapRow := mapRows10a ++ mapRows10b

/-- Fields of spec/12_history_store.md. -/
def mapRows12a : List MapRow := [
  ⟨0x1700, 1, 0, 2, 2, .rw, 0, 65535⟩, ⟨0x1700, 1, 0, 0, 0, .rw, 0, 65535⟩,
  ⟨0x1701, 1, 0, 2, 2, .wo, 0, 65535⟩, ⟨0x1701, 1, 0, 1, 1, .wo, 0, 65535⟩,
  ⟨0x1701, 1, 0, 0, 0, .wo, 0, 65535⟩, ⟨0x1702, 1, 0, 15, 0, .wo, 0, 65535⟩,
  ⟨0x1703, 1, 0, 14, 14, .w1c, 0, 65535⟩, ⟨0x1703, 1, 0, 13, 13, .w1c, 0, 65535⟩,
  ⟨0x1703, 1, 0, 12, 12, .ro, 0, 65535⟩, ⟨0x1703, 1, 0, 11, 11, .w1c, 0, 65535⟩,
  ⟨0x1703, 1, 0, 10, 10, .ro, 0, 65535⟩, ⟨0x1703, 1, 0, 9, 9, .ro, 0, 65535⟩,
  ⟨0x1703, 1, 0, 8, 8, .ro, 0, 65535⟩, ⟨0x1703, 1, 0, 7, 7, .ro, 0, 65535⟩,
  ⟨0x1703, 1, 0, 6, 6, .ro, 0, 65535⟩, ⟨0x1703, 1, 0, 5, 3, .ro, 0, 65535⟩,
  ⟨0x1703, 1, 0, 2, 2, .ro, 0, 65535⟩, ⟨0x1703, 1, 0, 1, 1, .ro, 0, 65535⟩,
  ⟨0x1703, 1, 0, 0, 0, .ro, 0, 65535⟩, ⟨0x1704, 1, 0, 3, 0, .ro, 0, 65535⟩,
  ⟨0x1710, 3, 16, 15, 0, .rw, 0, 65535⟩, ⟨0x1711, 3, 16, 15, 0, .snap, 0, 65535⟩,
  ⟨0x1712, 3, 16, 15, 0, .snap, 0, 65535⟩, ⟨0x1713, 3, 16, 15, 0, .snap, 0, 65535⟩,
  ⟨0x1714, 3, 16, 15, 0, .snap, 0, 65535⟩, ⟨0x1715, 3, 16, 15, 0, .snap, 0, 65535⟩,
  ⟨0x1716, 3, 16, 15, 0, .snap, 0, 65535⟩, ⟨0x1717, 3, 16, 15, 0, .ro, 0, 65535⟩,
  ⟨0x1718, 3, 16, 15, 0, .ro, 0, 65535⟩, ⟨0x1719, 3, 16, 15, 0, .ro, 0, 65535⟩,
  ⟨0x171A, 3, 16, 15, 0, .ro, 0, 65535⟩, ⟨0x1740, 1, 0, 15, 0, .ro, 0, 65535⟩,
  ⟨0x1741, 1, 0, 15, 0, .ro, 0, 65535⟩, ⟨0x1742, 1, 0, 15, 0, .ro, 0, 65535⟩,
  ⟨0x1743, 1, 0, 15, 0, .ro, 0, 65535⟩, ⟨0x1744, 1, 0, 15, 0, .ro, 0, 65535⟩,
  ⟨0x1745, 1, 0, 15, 0, .ro, 0, 65535⟩, ⟨0x1746, 1, 0, 15, 0, .ro, 0, 65535⟩,
  ⟨0x1750, 1, 0, 15, 0, .rw, 0, 65535⟩, ⟨0x1751, 1, 0, 15, 0, .rw, 0, 65535⟩]

/-- Fields of spec/12_history_store.md. -/
def mapRows12b : List MapRow := [
  ⟨0x1752, 1, 0, 15, 0, .ro, 0, 65535⟩, ⟨0x1753, 1, 0, 15, 0, .ro, 0, 65535⟩,
  ⟨0x1760, 1, 0, 1, 0, .rw, 0, 65535⟩, ⟨0x1761, 1, 0, 15, 0, .rw, 0, 65535⟩,
  ⟨0x1762, 1, 0, 15, 0, .rw, 0, 65535⟩, ⟨0x1763, 1, 0, 0, 0, .wo, 0, 65535⟩,
  ⟨0x1764, 1, 0, 15, 8, .ro, 0, 65535⟩, ⟨0x1764, 1, 0, 7, 4, .ro, 0, 65535⟩,
  ⟨0x1764, 1, 0, 2, 2, .ro, 0, 65535⟩, ⟨0x1764, 1, 0, 1, 1, .ro, 0, 65535⟩,
  ⟨0x1764, 1, 0, 0, 0, .w1c, 0, 65535⟩, ⟨0x1770, 1, 0, 5, 5, .w1c, 0, 65535⟩,
  ⟨0x1770, 1, 0, 4, 4, .ro, 0, 65535⟩, ⟨0x1770, 1, 0, 3, 3, .ro, 0, 65535⟩,
  ⟨0x1770, 1, 0, 2, 2, .ro, 0, 65535⟩, ⟨0x1770, 1, 0, 1, 1, .w1c, 0, 65535⟩,
  ⟨0x1770, 1, 0, 0, 0, .ro, 0, 65535⟩, ⟨0x1771, 1, 0, 15, 0, .ro, 0, 65535⟩,
  ⟨0x1780, 1, 0, 0, 0, .wo, 0, 65535⟩, ⟨0x1781, 1, 0, 15, 15, .ro, 0, 65535⟩,
  ⟨0x1781, 1, 0, 14, 12, .ro, 0, 65535⟩, ⟨0x1781, 1, 0, 6, 6, .w1c, 0, 65535⟩,
  ⟨0x1781, 1, 0, 5, 0, .ro, 0, 65535⟩, ⟨0x1782, 1, 0, 15, 0, .ro, 0, 65535⟩,
  ⟨0x1783, 1, 0, 5, 0, .rw, 0, 65535⟩, ⟨0x1790, 32, 1, 15, 0, .snap, 0, 65535⟩]

/-- Fields of spec/12_history_store.md. -/
def mapRows12 : List MapRow := mapRows12a ++ mapRows12b

/-- Fields of spec/13_rail_sequencer.md. -/
def mapRows13a : List MapRow := [
  ⟨0x1600, 12, 8, 15, 14, .rw, 0, 2⟩, ⟨0x1600, 12, 8, 13, 12, .rw, 0, 65535⟩,
  ⟨0x1600, 12, 8, 11, 10, .rw, 0, 65535⟩, ⟨0x1600, 12, 8, 9, 9, .rw, 0, 65535⟩,
  ⟨0x1600, 12, 8, 8, 8, .rw, 0, 65535⟩, ⟨0x1600, 12, 8, 7, 7, .rw, 0, 65535⟩,
  ⟨0x1600, 12, 8, 6, 6, .rw, 0, 65535⟩, ⟨0x1601, 12, 8, 15, 0, .rw, 0, 65535⟩,
  ⟨0x1602, 12, 8, 15, 8, .rw, 0, 65535⟩, ⟨0x1602, 12, 8, 7, 0, .rw, 0, 65535⟩,
  ⟨0x1603, 12, 8, 15, 0, .rw, 1, 65535⟩, ⟨0x1604, 12, 8, 15, 0, .rw, 0, 65535⟩,
  ⟨0x1605, 12, 8, 15, 8, .rw, 0, 65535⟩, ⟨0x1605, 12, 8, 7, 0, .rw, 0, 65535⟩,
  ⟨0x1606, 12, 8, 15, 12, .rw, 0, 65535⟩, ⟨0x1606, 12, 8, 11, 8, .rw, 0, 65535⟩,
  ⟨0x1606, 12, 8, 7, 0, .rw, 0, 65535⟩, ⟨0x1607, 12, 8, 15, 0, .rw, 0, 65535⟩,
  ⟨0x1660, 12, 1, 15, 12, .ro, 0, 65535⟩, ⟨0x1660, 12, 1, 11, 8, .ro, 0, 65535⟩,
  ⟨0x1660, 12, 1, 3, 0, .ro, 0, 65535⟩, ⟨0x1670, 12, 1, 15, 0, .ro, 0, 65535⟩,
  ⟨0x1680, 1, 0, 15, 15, .rw, 0, 65535⟩, ⟨0x1680, 1, 0, 14, 14, .rw, 0, 65535⟩,
  ⟨0x1680, 1, 0, 13, 13, .rw, 0, 65535⟩, ⟨0x1680, 1, 0, 12, 12, .rw, 0, 65535⟩,
  ⟨0x1680, 1, 0, 11, 11, .ro, 0, 65535⟩, ⟨0x1681, 1, 0, 15, 0, .rw, 0, 65535⟩,
  ⟨0x1682, 1, 0, 15, 0, .ro, 0, 65535⟩, ⟨0x1683, 1, 0, 15, 0, .rw, 0, 65535⟩,
  ⟨0x1684, 1, 0, 9, 8, .wo, 0, 65535⟩, ⟨0x1684, 1, 0, 3, 0, .wo, 0, 65535⟩,
  ⟨0x1685, 1, 0, 2, 2, .wo, 0, 65535⟩, ⟨0x1685, 1, 0, 1, 1, .wo, 0, 65535⟩,
  ⟨0x1685, 1, 0, 0, 0, .wo, 0, 65535⟩, ⟨0x1686, 1, 0, 15, 12, .ro, 0, 65535⟩,
  ⟨0x1686, 1, 0, 11, 8, .ro, 0, 65535⟩, ⟨0x1686, 1, 0, 7, 7, .w1c, 0, 65535⟩,
  ⟨0x1686, 1, 0, 6, 6, .w1c, 0, 65535⟩, ⟨0x1686, 1, 0, 5, 5, .w1c, 0, 65535⟩]

/-- Fields of spec/13_rail_sequencer.md. -/
def mapRows13b : List MapRow := [
  ⟨0x1686, 1, 0, 2, 1, .ro, 0, 65535⟩, ⟨0x1687, 1, 0, 6, 0, .ro, 0, 65535⟩,
  ⟨0x1688, 1, 0, 11, 0, .w1c, 0, 65535⟩, ⟨0x1689, 1, 0, 11, 0, .ro, 0, 65535⟩,
  ⟨0x168A, 1, 0, 11, 0, .ro, 0, 65535⟩, ⟨0x1690, 1, 0, 6, 6, .rw, 0, 65535⟩,
  ⟨0x1690, 1, 0, 5, 0, .rw, 0, 65535⟩, ⟨0x1691, 1, 0, 15, 0, .rw, 0, 65535⟩,
  ⟨0x1692, 1, 0, 15, 0, .rw, 0, 65535⟩, ⟨0x16A0, 2, 4, 15, 15, .rw, 0, 65535⟩,
  ⟨0x16A0, 2, 4, 11, 8, .rw, 0, 65535⟩, ⟨0x16A0, 2, 4, 7, 0, .rw, 0, 65535⟩,
  ⟨0x16A1, 2, 4, 11, 0, .rw, 0, 65535⟩, ⟨0x16A2, 2, 4, 15, 0, .rw, 0, 65535⟩,
  ⟨0x16A3, 2, 4, 7, 0, .rw, 0, 65535⟩, ⟨0x16A8, 2, 1, 15, 15, .ro, 0, 65535⟩,
  ⟨0x16A8, 2, 1, 11, 0, .ro, 0, 65535⟩, ⟨0x16B0, 1, 0, 11, 0, .rw, 0, 65535⟩,
  ⟨0x16B1, 1, 0, 11, 0, .rw, 0, 65535⟩, ⟨0x16B2, 1, 0, 2, 2, .wo, 0, 65535⟩,
  ⟨0x16B2, 1, 0, 1, 1, .wo, 0, 65535⟩, ⟨0x16B2, 1, 0, 0, 0, .wo, 0, 65535⟩,
  ⟨0x16B3, 1, 0, 10, 8, .ro, 0, 65535⟩, ⟨0x16B3, 1, 0, 6, 6, .w1c, 0, 65535⟩,
  ⟨0x16B3, 1, 0, 5, 5, .w1c, 0, 65535⟩, ⟨0x16B3, 1, 0, 4, 4, .w1c, 0, 65535⟩,
  ⟨0x16B3, 1, 0, 3, 2, .ro, 0, 65535⟩, ⟨0x16B4, 1, 0, 15, 0, .ro, 0, 65535⟩]

/-- Fields of spec/13_rail_sequencer.md. -/
def mapRows13 : List MapRow := mapRows13a ++ mapRows13b

/-- Fields of spec/14_thermal_supervisor.md. -/
def mapRows14a : List MapRow := [
  ⟨0x0D00, 1, 0, 1, 1, .rw, 0, 65535⟩, ⟨0x0D00, 1, 0, 0, 0, .rw, 0, 65535⟩,
  ⟨0x0D01, 1, 0, 15, 0, .ro, 0, 65535⟩, ⟨0x0D02, 1, 0, 15, 15, .ro, 0, 65535⟩,
  ⟨0x0D02, 1, 0, 14, 14, .ro, 0, 65535⟩, ⟨0x0D02, 1, 0, 13, 13, .ro, 0, 65535⟩,
  ⟨0x0D02, 1, 0, 12, 12, .ro, 0, 65535⟩, ⟨0x0D02, 1, 0, 11, 11, .ro, 0, 65535⟩,
  ⟨0x0D02, 1, 0, 10, 10, .ro, 0, 65535⟩, ⟨0x0D02, 1, 0, 9, 9, .ro, 0, 65535⟩,
  ⟨0x0D02, 1, 0, 8, 8, .ro, 0, 65535⟩, ⟨0x0D02, 1, 0, 7, 7, .w1c, 0, 65535⟩,
  ⟨0x0D02, 1, 0, 3, 3, .ro, 0, 65535⟩, ⟨0x0D02, 1, 0, 2, 2, .ro, 0, 65535⟩,
  ⟨0x0D02, 1, 0, 1, 1, .ro, 0, 65535⟩, ⟨0x0D03, 1, 0, 15, 8, .rw, 0, 65535⟩,
  ⟨0x0D03, 1, 0, 7, 0, .rw, 0, 65535⟩, ⟨0x0D04, 1, 0, 15, 8, .rw, 0, 65535⟩,
  ⟨0x0D04, 1, 0, 7, 0, .rw, 0, 65535⟩, ⟨0x0D05, 1, 0, 15, 8, .rw, 0, 65535⟩,
  ⟨0x0D05, 1, 0, 7, 0, .rw, 0, 65535⟩, ⟨0x0D06, 1, 0, 5, 0, .rw, 0, 65535⟩,
  ⟨0x0D07, 1, 0, 3, 0, .rw, 0, 65535⟩, ⟨0x0D08, 1, 0, 15, 8, .rw, 0, 65535⟩,
  ⟨0x0D08, 1, 0, 7, 0, .rw, 0, 65535⟩, ⟨0x0D09, 1, 0, 15, 8, .rw, 0, 65535⟩,
  ⟨0x0D09, 1, 0, 7, 4, .rw, 0, 65535⟩, ⟨0x0D09, 1, 0, 3, 0, .rw, 1, 15⟩,
  ⟨0x0D0A, 1, 0, 15, 0, .ro, 0, 65535⟩, ⟨0x0D0B, 1, 0, 15, 15, .rw, 0, 65535⟩,
  ⟨0x0D0B, 1, 0, 7, 0, .rw, 0, 65535⟩, ⟨0x0D0C, 1, 0, 15, 0, .ro, 0, 65535⟩,
  ⟨0x0D0D, 1, 0, 1, 1, .wo, 0, 65535⟩, ⟨0x0D0D, 1, 0, 0, 0, .wo, 0, 65535⟩,
  ⟨0x0D10, 6, 1, 15, 0, .ro, 0, 65535⟩, ⟨0x0D20, 16, 2, 15, 0, .rw, 0, 65535⟩,
  ⟨0x0D21, 16, 2, 15, 0, .rw, 0, 65535⟩, ⟨0x0D40, 1, 0, 15, 8, .rw, 1, 255⟩,
  ⟨0x0D40, 1, 0, 7, 0, .rw, 1, 255⟩, ⟨0x0D41, 1, 0, 0, 0, .ro, 0, 65535⟩]

/-- Fields of spec/14_thermal_supervisor.md. -/
def mapRows14b : List MapRow := [
  ⟨0x0D42, 1, 0, 15, 0, .ro, 0, 65535⟩, ⟨0x0D43, 1, 0, 15, 0, .ro, 0, 65535⟩]

/-- Fields of spec/14_thermal_supervisor.md. -/
def mapRows14 : List MapRow := mapRows14a ++ mapRows14b

/-- Fields of spec/15_calibration.md. -/
def mapRows15 : List MapRow := [
  ⟨0x0E00, 1, 0, 15, 15, .rw, 0, 65535⟩, ⟨0x0E00, 1, 0, 14, 14, .rw, 0, 65535⟩,
  ⟨0x0E00, 1, 0, 13, 13, .rw, 0, 65535⟩, ⟨0x0E00, 1, 0, 11, 8, .rw, 0, 65535⟩,
  ⟨0x0E00, 1, 0, 5, 0, .rw, 1, 63⟩, ⟨0x0E01, 1, 0, 15, 0, .rw, 0, 65535⟩,
  ⟨0x0E02, 1, 0, 15, 8, .rw, 1, 255⟩, ⟨0x0E02, 1, 0, 3, 0, .rw, 1, 15⟩,
  ⟨0x0E03, 1, 0, 2, 2, .wo, 0, 65535⟩, ⟨0x0E03, 1, 0, 1, 1, .wo, 0, 65535⟩,
  ⟨0x0E03, 1, 0, 0, 0, .wo, 0, 65535⟩, ⟨0x0E04, 1, 0, 15, 12, .ro, 0, 65535⟩,
  ⟨0x0E04, 1, 0, 11, 11, .ro, 0, 65535⟩, ⟨0x0E04, 1, 0, 10, 10, .ro, 0, 65535⟩,
  ⟨0x0E04, 1, 0, 9, 8, .ro, 0, 65535⟩, ⟨0x0E04, 1, 0, 7, 6, .ro, 0, 65535⟩,
  ⟨0x0E04, 1, 0, 5, 4, .ro, 0, 65535⟩, ⟨0x0E04, 1, 0, 3, 3, .w1c, 0, 65535⟩,
  ⟨0x0E04, 1, 0, 2, 0, .ro, 0, 65535⟩, ⟨0x0E05, 1, 0, 15, 0, .snap, 0, 65535⟩,
  ⟨0x0E06, 1, 0, 15, 0, .snap, 0, 65535⟩, ⟨0x0E07, 3, 1, 15, 0, .snap, 0, 65535⟩,
  ⟨0x0E0A, 1, 0, 15, 0, .snap, 0, 65535⟩, ⟨0x0E0B, 1, 0, 15, 0, .snap, 0, 65535⟩,
  ⟨0x0E0C, 1, 0, 15, 0, .snap, 0, 65535⟩, ⟨0x0E0D, 1, 0, 15, 0, .ro, 0, 65535⟩,
  ⟨0x0E0E, 1, 0, 2, 2, .ro, 0, 65535⟩, ⟨0x0E0E, 1, 0, 1, 1, .ro, 0, 65535⟩,
  ⟨0x0E0E, 1, 0, 0, 0, .ro, 0, 65535⟩, ⟨0x0E0F, 1, 0, 15, 0, .ro, 0, 65535⟩,
  ⟨0x0E20, 1, 0, 5, 0, .rw, 0, 65535⟩, ⟨0x0E21, 1, 0, 15, 0, .ro, 0, 65535⟩,
  ⟨0x0E22, 1, 0, 15, 0, .ro, 0, 65535⟩, ⟨0x0E23, 1, 0, 12, 8, .ro, 0, 65535⟩,
  ⟨0x0E23, 1, 0, 4, 0, .ro, 0, 65535⟩, ⟨0x0E24, 1, 0, 5, 0, .rw, 0, 65535⟩,
  ⟨0x0E25, 1, 0, 15, 8, .ro, 0, 65535⟩, ⟨0x0E25, 1, 0, 7, 0, .ro, 0, 65535⟩,
  ⟨0x0E28, 6, 1, 13, 8, .ro, 0, 65535⟩, ⟨0x0E28, 6, 1, 5, 0, .ro, 0, 65535⟩]

/-- Fields of spec/16_self_test.md. -/
def mapRows16 : List MapRow := [
  ⟨0x0F00, 1, 0, 15, 0, .wo, 0, 65535⟩, ⟨0x0F01, 1, 0, 15, 0, .wo, 0, 65535⟩,
  ⟨0x0F02, 1, 0, 15, 15, .rw, 0, 65535⟩, ⟨0x0F02, 1, 0, 7, 0, .rw, 1, 255⟩,
  ⟨0x0F03, 1, 0, 11, 0, .rl, 0, 65535⟩, ⟨0x0F04, 1, 0, 5, 0, .rl, 0, 65535⟩,
  ⟨0x0F05, 1, 0, 1, 1, .wo, 0, 65535⟩, ⟨0x0F05, 1, 0, 0, 0, .rl, 0, 65535⟩,
  ⟨0x0F06, 1, 0, 15, 12, .ro, 0, 65535⟩, ⟨0x0F06, 1, 0, 11, 9, .ro, 0, 65535⟩,
  ⟨0x0F06, 1, 0, 8, 8, .ro, 0, 65535⟩, ⟨0x0F06, 1, 0, 7, 7, .w1c, 0, 65535⟩,
  ⟨0x0F06, 1, 0, 6, 6, .w1c, 0, 65535⟩, ⟨0x0F06, 1, 0, 5, 5, .ro, 0, 65535⟩,
  ⟨0x0F06, 1, 0, 4, 4, .ro, 0, 65535⟩, ⟨0x0F06, 1, 0, 3, 3, .ro, 0, 65535⟩,
  ⟨0x0F06, 1, 0, 2, 0, .ro, 0, 65535⟩, ⟨0x0F07, 1, 0, 15, 0, .ro, 0, 65535⟩,
  ⟨0x0F08, 1, 0, 15, 8, .rl, 0, 65535⟩, ⟨0x0F08, 1, 0, 7, 0, .rl, 1, 255⟩,
  ⟨0x0F10, 16, 8, 15, 8, .snap, 0, 65535⟩, ⟨0x0F10, 16, 8, 2, 0, .snap, 0, 65535⟩,
  ⟨0x0F11, 16, 8, 15, 0, .snap, 0, 65535⟩, ⟨0x0F12, 16, 8, 15, 0, .snap, 0, 65535⟩,
  ⟨0x0F13, 16, 8, 15, 0, .snap, 0, 65535⟩, ⟨0x0F14, 16, 8, 15, 0, .snap, 0, 65535⟩,
  ⟨0x0F15, 16, 8, 15, 0, .snap, 0, 65535⟩, ⟨0x0F16, 16, 8, 15, 0, .snap, 0, 65535⟩,
  ⟨0x0F90, 1, 0, 15, 15, .w1c, 0, 65535⟩, ⟨0x0F90, 1, 0, 14, 12, .ro, 0, 65535⟩,
  ⟨0x0F90, 1, 0, 5, 0, .ro, 0, 65535⟩, ⟨0x0F92, 1, 0, 15, 0, .ro, 0, 65535⟩,
  ⟨0x0F93, 1, 0, 15, 0, .ro, 0, 65535⟩]

/-- Fields of spec/17_integrity_identity.md. -/
def mapRows17a : List MapRow := [
  ⟨0x1800, 4, 32, 13, 12, .rw, 0, 2⟩, ⟨0x1800, 4, 32, 9, 9, .rw, 0, 65535⟩,
  ⟨0x1800, 4, 32, 8, 8, .rw, 0, 65535⟩, ⟨0x1800, 4, 32, 7, 6, .rw, 0, 2⟩,
  ⟨0x1800, 4, 32, 1, 1, .rw, 0, 65535⟩, ⟨0x1801, 4, 32, 15, 0, .rw, 0, 65535⟩,
  ⟨0x1802, 4, 32, 15, 0, .rw, 0, 65535⟩, ⟨0x1803, 4, 32, 15, 0, .rw, 0, 65535⟩,
  ⟨0x1804, 4, 32, 15, 0, .rw, 0, 65535⟩, ⟨0x1805, 4, 32, 15, 0, .rw, 0, 65535⟩,
  ⟨0x1806, 4, 32, 15, 0, .rw, 0, 65535⟩, ⟨0x1807, 4, 32, 15, 0, .rw, 0, 65535⟩,
  ⟨0x1808, 4, 32, 15, 0, .rw, 0, 65535⟩, ⟨0x1809, 4, 32, 15, 0, .snap, 0, 65535⟩,
  ⟨0x180A, 4, 32, 15, 0, .snap, 0, 65535⟩, ⟨0x180B, 4, 32, 15, 0, .rw, 0, 65535⟩,
  ⟨0x180C, 4, 32, 15, 0, .rw, 0, 65535⟩, ⟨0x180D, 4, 32, 15, 0, .snap, 0, 65535⟩,
  ⟨0x180E, 4, 32, 15, 0, .snap, 0, 65535⟩, ⟨0x180F, 4, 32, 15, 0, .wo, 0, 65535⟩,
  ⟨0x1810, 4, 32, 15, 0, .wo, 0, 65535⟩, ⟨0x1811, 4, 32, 15, 0, .wo, 0, 65535⟩,
  ⟨0x1812, 4, 32, 15, 0, .wo, 0, 65535⟩, ⟨0x1813, 4, 32, 1, 1, .wo, 0, 65535⟩,
  ⟨0x1813, 4, 32, 0, 0, .wo, 0, 65535⟩, ⟨0x1814, 4, 32, 3, 3, .ro, 0, 65535⟩,
  ⟨0x1814, 4, 32, 2, 2, .w1c, 0, 65535⟩, ⟨0x1814, 4, 32, 1, 1, .ro, 0, 65535⟩,
  ⟨0x1814, 4, 32, 0, 0, .ro, 0, 65535⟩, ⟨0x1815, 4, 32, 15, 0, .snap, 0, 65535⟩,
  ⟨0x1816, 4, 32, 15, 0, .snap, 0, 65535⟩, ⟨0x1880, 1, 0, 15, 0, .ro, 0, 65535⟩,
  ⟨0x1881, 1, 0, 15, 0, .ro, 0, 65535⟩, ⟨0x1882, 1, 0, 15, 0, .ro, 0, 65535⟩,
  ⟨0x1883, 1, 0, 15, 0, .ro, 0, 65535⟩, ⟨0x1884, 1, 0, 15, 0, .ro, 0, 65535⟩,
  ⟨0x1890, 4, 1, 15, 0, .ro, 0, 65535⟩, ⟨0x1894, 1, 0, 15, 8, .ro, 0, 65535⟩,
  ⟨0x1894, 1, 0, 7, 4, .ro, 0, 65535⟩, ⟨0x1894, 1, 0, 3, 3, .ro, 0, 65535⟩]

/-- Fields of spec/17_integrity_identity.md. -/
def mapRows17b : List MapRow := [
  ⟨0x1894, 1, 0, 2, 2, .ro, 0, 65535⟩, ⟨0x1894, 1, 0, 1, 1, .ro, 0, 65535⟩,
  ⟨0x1894, 1, 0, 0, 0, .ro, 0, 65535⟩, ⟨0x1895, 1, 0, 1, 1, .rw, 0, 65535⟩,
  ⟨0x1895, 1, 0, 0, 0, .rw, 0, 65535⟩, ⟨0x1896, 1, 0, 0, 0, .wo, 0, 65535⟩,
  ⟨0x1897, 1, 0, 1, 0, .rw, 0, 65535⟩, ⟨0x1898, 4, 1, 15, 0, .rw, 0, 65535⟩,
  ⟨0x18A0, 1, 0, 0, 0, .wo, 0, 65535⟩, ⟨0x18A1, 1, 0, 15, 0, .snap, 0, 65535⟩,
  ⟨0x18A2, 8, 1, 15, 0, .snap, 0, 65535⟩, ⟨0x18AA, 1, 0, 1, 1, .wo, 0, 65535⟩,
  ⟨0x18AA, 1, 0, 0, 0, .wo, 0, 65535⟩, ⟨0x18AB, 1, 0, 1, 1, .ro, 0, 65535⟩,
  ⟨0x18AB, 1, 0, 0, 0, .ro, 0, 65535⟩, ⟨0x18AC, 8, 1, 15, 0, .rw, 0, 65535⟩,
  ⟨0x18B8, 72, 1, 15, 0, .snap, 0, 65535⟩]

/-- Fields of spec/17_integrity_identity.md. -/
def mapRows17 : List MapRow := mapRows17a ++ mapRows17b

/-- Fields of spec/18_alley_tag_wire.md. -/
def mapRows18 : List MapRow := [
  ⟨0x1900, 1, 0, 15, 15, .rw, 0, 65535⟩, ⟨0x1900, 1, 0, 14, 14, .rw, 0, 65535⟩,
  ⟨0x1900, 1, 0, 13, 13, .rw, 0, 65535⟩, ⟨0x1900, 1, 0, 12, 12, .rw, 0, 65535⟩,
  ⟨0x1900, 1, 0, 11, 8, .rw, 1, 15⟩, ⟨0x1901, 1, 0, 15, 8, .rw, 0, 65535⟩,
  ⟨0x1901, 1, 0, 7, 0, .rw, 0, 65535⟩, ⟨0x1902, 1, 0, 15, 11, .wo, 0, 65535⟩,
  ⟨0x1902, 1, 0, 10, 8, .wo, 0, 65535⟩, ⟨0x1902, 1, 0, 2, 2, .wo, 0, 65535⟩,
  ⟨0x1902, 1, 0, 1, 1, .wo, 0, 65535⟩, ⟨0x1902, 1, 0, 0, 0, .wo, 0, 65535⟩,
  ⟨0x1903, 1, 0, 15, 15, .ro, 0, 65535⟩, ⟨0x1903, 1, 0, 14, 14, .w1c, 0, 65535⟩,
  ⟨0x1903, 1, 0, 13, 13, .ro, 0, 65535⟩, ⟨0x1903, 1, 0, 12, 12, .w1c, 0, 65535⟩,
  ⟨0x1903, 1, 0, 11, 11, .w1c, 0, 65535⟩, ⟨0x1903, 1, 0, 10, 10, .w1c, 0, 65535⟩,
  ⟨0x1903, 1, 0, 9, 9, .w1c, 0, 65535⟩, ⟨0x1903, 1, 0, 8, 8, .w1c, 0, 65535⟩,
  ⟨0x1903, 1, 0, 7, 7, .ro, 0, 65535⟩, ⟨0x1903, 1, 0, 3, 2, .ro, 0, 65535⟩,
  ⟨0x1903, 1, 0, 1, 1, .ro, 0, 65535⟩, ⟨0x1904, 1, 0, 15, 0, .ro, 0, 65535⟩,
  ⟨0x1905, 1, 0, 15, 0, .ro, 0, 65535⟩, ⟨0x1906, 1, 0, 15, 0, .ro, 0, 65535⟩,
  ⟨0x1907, 1, 0, 15, 0, .ro, 0, 65535⟩, ⟨0x1908, 1, 0, 15, 0, .ro, 0, 65535⟩,
  ⟨0x1910, 1, 0, 4, 0, .rw, 0, 65535⟩, ⟨0x1911, 4, 1, 15, 0, .snap, 0, 65535⟩,
  ⟨0x1915, 1, 0, 15, 0, .snap, 0, 65535⟩, ⟨0x1916, 1, 0, 15, 0, .snap, 0, 65535⟩,
  ⟨0x1917, 1, 0, 15, 15, .snap, 0, 65535⟩, ⟨0x1917, 1, 0, 14, 14, .snap, 0, 65535⟩,
  ⟨0x1917, 1, 0, 11, 8, .snap, 0, 65535⟩, ⟨0x1917, 1, 0, 7, 0, .snap, 0, 65535⟩,
  ⟨0x1918, 1, 0, 15, 0, .snap, 0, 65535⟩, ⟨0x1920, 4, 1, 15, 0, .snap, 0, 65535⟩,
  ⟨0x1940, 32, 1, 15, 0, .ro, 0, 65535⟩]

/-- Fields of spec/19_modes_start_profiles.md. -/
def mapRows19 : List MapRow := [
  ⟨0x0010, 1, 0, 3, 0, .rw, 0, 65535⟩, ⟨0x0011, 1, 0, 15, 15, .ro, 0, 65535⟩,
  ⟨0x0011, 1, 0, 14, 14, .ro, 0, 65535⟩, ⟨0x0011, 1, 0, 13, 13, .ro, 0, 65535⟩,
  ⟨0x0011, 1, 0, 11, 10, .ro, 0, 65535⟩, ⟨0x0011, 1, 0, 7, 4, .ro, 0, 65535⟩,
  ⟨0x0011, 1, 0, 3, 0, .ro, 0, 65535⟩, ⟨0x0012, 1, 0, 7, 0, .w1c, 0, 65535⟩,
  ⟨0x0013, 1, 0, 3, 0, .ro, 0, 65535⟩, ⟨0x0014, 1, 0, 15, 0, .wo, 0, 65535⟩,
  ⟨0x0018, 1, 0, 14, 12, .ro, 0, 65535⟩, ⟨0x0018, 1, 0, 11, 10, .ro, 0, 65535⟩,
  ⟨0x0018, 1, 0, 9, 9, .ro, 0, 65535⟩, ⟨0x0018, 1, 0, 8, 8, .ro, 0, 65535⟩,
  ⟨0x0018, 1, 0, 6, 4, .ro, 0, 65535⟩, ⟨0x0018, 1, 0, 3, 0, .ro, 0, 65535⟩,
  ⟨0x0019, 1, 0, 8, 8, .wo, 0, 65535⟩, ⟨0x0019, 1, 0, 3, 0, .wo, 0, 65535⟩,
  ⟨0x001A, 1, 0, 8, 0, .ro, 0, 65535⟩, ⟨0x001B, 1, 0, 15, 0, .ro, 0, 65535⟩,
  ⟨0x001C, 1, 0, 15, 0, .ro, 0, 65535⟩, ⟨0x001D, 1, 0, 15, 0, .ro, 0, 65535⟩,
  ⟨0x0020, 1, 0, 15, 0, .ro, 0, 65535⟩, ⟨0x0021, 1, 0, 7, 0, .ro, 0, 65535⟩,
  ⟨0x0022, 1, 0, 15, 0, .ro, 0, 65535⟩, ⟨0x0023, 1, 0, 15, 0, .ro, 0, 65535⟩,
  ⟨0x0024, 1, 0, 3, 0, .ro, 0, 65535⟩, ⟨0x0025, 1, 0, 1, 1, .wo, 0, 65535⟩,
  ⟨0x0025, 1, 0, 0, 0, .wo, 0, 65535⟩, ⟨0x0030, 1, 0, 15, 0, .wo, 0, 65535⟩,
  ⟨0x0031, 1, 0, 10, 8, .rl, 0, 65535⟩, ⟨0x0031, 1, 0, 2, 2, .rl, 0, 65535⟩,
  ⟨0x0031, 1, 0, 1, 1, .rl, 0, 65535⟩, ⟨0x0031, 1, 0, 0, 0, .rl, 0, 65535⟩,
  ⟨0x0032, 1, 0, 14, 12, .ro, 0, 65535⟩, ⟨0x0032, 1, 0, 10, 8, .ro, 0, 65535⟩,
  ⟨0x0032, 1, 0, 7, 0, .ro, 0, 65535⟩, ⟨0x0033, 1, 0, 15, 0, .ro, 0, 65535⟩,
  ⟨0x0034, 1, 0, 12, 0, .rl, 0, 65535⟩, ⟨0x0035, 4, 1, 15, 0, .wo, 0, 65535⟩]

/-- Fields of spec/20_host_interface.md. -/
def mapRows20 : List MapRow := [
  ⟨0x0100, 1, 0, 15, 0, .w1c, 0, 65535⟩, ⟨0x0101, 1, 0, 15, 0, .rw, 0, 65535⟩,
  ⟨0x0108, 1, 0, 12, 0, .w1c, 0, 65535⟩, ⟨0x0109, 1, 0, 12, 0, .rw, 0, 65535⟩,
  ⟨0x0110, 1, 0, 4, 4, .w1c, 0, 65535⟩, ⟨0x0110, 1, 0, 3, 3, .w1c, 0, 65535⟩,
  ⟨0x0110, 1, 0, 2, 2, .w1c, 0, 65535⟩, ⟨0x0110, 1, 0, 1, 1, .w1c, 0, 65535⟩,
  ⟨0x0110, 1, 0, 0, 0, .w1c, 0, 65535⟩, ⟨0x0111, 1, 0, 15, 0, .ro, 0, 65535⟩,
  ⟨0x0112, 1, 0, 15, 0, .ro, 0, 65535⟩, ⟨0x0113, 1, 0, 15, 0, .rw, 1, 65535⟩,
  ⟨0x3D00, 1, 0, 15, 15, .rw, 0, 65535⟩, ⟨0x3D00, 1, 0, 12, 0, .rw, 0, 65535⟩,
  ⟨0x3D01, 1, 0, 15, 0, .rw, 0, 65535⟩, ⟨0x3D02, 1, 0, 6, 0, .rw, 0, 65535⟩,
  ⟨0x3D03, 1, 0, 1, 1, .wo, 0, 65535⟩, ⟨0x3D03, 1, 0, 0, 0, .wo, 0, 65535⟩,
  ⟨0x3D04, 1, 0, 15, 8, .ro, 0, 65535⟩, ⟨0x3D04, 1, 0, 4, 4, .w1c, 0, 65535⟩,
  ⟨0x3D04, 1, 0, 1, 0, .ro, 0, 65535⟩, ⟨0x3D05, 1, 0, 15, 0, .ro, 0, 65535⟩,
  ⟨0x3D10, 112, 1, 15, 0, .rw, 0, 65535⟩, ⟨0x3F00, 1, 0, 6, 0, .rw, 0, 65535⟩,
  ⟨0x3F01, 1, 0, 9, 8, .rw, 0, 65535⟩, ⟨0x3F01, 1, 0, 6, 0, .rw, 0, 65535⟩,
  ⟨0x3F02, 1, 0, 0, 0, .w1c, 0, 65535⟩]

/-- Every field of the host register map. -/
def mapRows : List MapRow :=
  mapRows01 ++ mapRows02 ++ mapRows03 ++ mapRows04 ++ mapRows05 ++ mapRows06 ++ mapRows07 ++ mapRows08 ++ mapRows09 ++ mapRows10 ++ mapRows12 ++ mapRows13 ++ mapRows14 ++ mapRows15 ++ mapRows16 ++ mapRows17 ++ mapRows18 ++ mapRows19 ++ mapRows20

/-- The reset value of a register whose instances share it: base, count, stride, value. Registers not listed reset to 0. -/
def resetRows : List (Nat × Nat × Nat × Nat) := [
  (0x0000, 1, 0, 0x2448), (0x0001, 1, 0, 0x0100), (0x0004, 1, 0, 0x0018),
  (0x0010, 1, 0, 0x0004), (0x0101, 1, 0, 0x0001), (0x0109, 1, 0, 0x12C8),
  (0x0113, 1, 0, 0x00C8), (0x0200, 1, 0, 0x0E40), (0x0202, 1, 0, 0xF400),
  (0x0203, 1, 0, 0x0001), (0x0205, 1, 0, 0x0040), (0x0210, 1, 0, 0x0600),
  (0x0400, 1, 0, 0x022C), (0x0402, 1, 0, 0x0302), (0x0403, 1, 0, 0x0028),
  (0x0404, 1, 0, 0x003F), (0x0405, 1, 0, 0x0432), (0x0611, 32, 2, 0x0700),
  (0x0800, 1, 0, 0x003F), (0x0801, 1, 0, 0x5019), (0x0802, 1, 0, 0x0014),
  (0x0803, 1, 0, 0x5323), (0x0804, 1, 0, 0x0E10), (0x0900, 1, 0, 0x82A0),
  (0x0901, 1, 0, 0x5583), (0x0902, 1, 0, 0x0064), (0x0904, 1, 0, 0x00C8),
  (0x0905, 1, 0, 0xFFFF), (0x0906, 1, 0, 0x00FF), (0x0912, 1, 0, 0x0009),
  (0x0920, 24, 1, 0x8000), (0x0A00, 1, 0, 0x0431), (0x0A01, 1, 0, 0x0320),
  (0x0A02, 1, 0, 0x0030), (0x0A03, 1, 0, 0x0064), (0x0A04, 1, 0, 0x2710),
  (0x0A05, 1, 0, 0x00C8), (0x0A06, 1, 0, 0x012C), (0x0A07, 1, 0, 0x3700),
  (0x0A08, 1, 0, 0x1068), (0x0A09, 1, 0, 0x0AF0), (0x0A0A, 1, 0, 0x0801),
  (0x0A10, 6, 1, 0xFFFF), (0x0B80, 1, 0, 0x4300), (0x0C00, 1, 0, 0x1064),
  (0x0D00, 1, 0, 0x0003), (0x0D02, 1, 0, 0x0100), (0x0D03, 1, 0, 0x827D),
  (0x0D04, 1, 0, 0x8C87), (0x0D05, 1, 0, 0x9687), (0x0D08, 1, 0, 0x0ADC),
  (0x0D09, 1, 0, 0x0F55), (0x0D0C, 1, 0, 0x8000), (0x0D10, 6, 1, 0x8000),
  (0x0D40, 1, 0, 0x1E20), (0x0E00, 1, 0, 0xE808), (0x0E01, 1, 0, 0x05A0),
  (0x0E02, 1, 0, 0x0A03), (0x0F02, 1, 0, 0x803C), (0x0F08, 1, 0, 0x0A06),
  (0x1000, 6, 16, 0x0001), (0x1060, 1, 0, 0x0002), (0x1100, 3, 16, 0x1000),
  (0x1143, 1, 0, 0x8005), (0x1200, 1, 0, 0x4812), (0x1201, 1, 0, 0x2710),
  (0x1400, 1, 0, 0x4264), (0x1420, 1, 0, 0x4232), (0x1440, 1, 0, 0x8214),
  (0x1602, 12, 8, 0x000A), (0x1603, 12, 8, 0x0064), (0x1604, 12, 8, 0x01F4),
  (0x1680, 1, 0, 0xD000), (0x1681, 1, 0, 0xFFFF), (0x16A1, 2, 4, 0x0800),
  (0x1700, 1, 0, 0x0005), (0x1710, 1, 0, 0x0078), (0x1720, 1, 0, 0x0384),
  (0x1730, 1, 0, 0x0001), (0x1750, 1, 0, 0x002F), (0x1751, 1, 0, 0x0032),
  (0x1800, 4, 32, 0x2300), (0x1801, 4, 32, 0x1DB7), (0x1802, 4, 32, 0x04C1),
  (0x1803, 4, 32, 0xFFFF), (0x1804, 4, 32, 0xFFFF), (0x1805, 4, 32, 0xFFFF),
  (0x1806, 4, 32, 0xFFFF), (0x1900, 1, 0, 0xB300), (0x1901, 1, 0, 0x060A),
  (0x1940, 32, 1, 0x8000), (0x0661, 32, 2, 0x0700), (0x0C10, 4, 4, 0x2021),
  (0x0C11, 4, 4, 0x006E), (0x0C12, 4, 4, 0x0392), (0x0C20, 12, 4, 0x0422),
  (0x0C21, 12, 4, 0x03FF), (0x0C50, 24, 4, 0x8042), (0x0C51, 24, 4, 0x0352),
  (0x0C52, 24, 4, 0x01F4), (0x0CB0, 1, 4, 0x8042), (0x0CB1, 1, 4, 0x03FF)]

/-- `a` is one of the registers `base + i * stride`, `i < count`. -/
def inSeries (base count stride a : Nat) : Bool :=
  if stride = 0 then a == base
  else decide (base ≤ a) && decide ((a - base) % stride = 0) && decide ((a - base) / stride < count)

def resetLookup : List (Nat × Nat × Nat × Nat) → Nat → Nat
  | [], _ => 0
  | (b, c, st, v) :: rest, a => if inSeries b c st a then v else resetLookup rest a

end Sys2Proof.Machine
end

