-- ==== Sys2Proof/Machine/State.lean ====
section
/-!
DEFINITION. The state of the part as plain data: the host registers, and beside them everything the spec gives the
part that is no host register, subsystem by subsystem. A default value is the value after reset. Registers whose text
says they show such state (a view) are read through `State.live` in Machine/Views.lean.
-/
namespace Sys2Proof.Machine

/-- A sparse map in canonical form: keys strictly rising, and no entry equal to what an unlisted key reads as. -/
abbrev Sparse (α : Type) := List (Nat × α)

/-- The timers the spec names, each started, restarted and stopped by the rules that name it. The time a timer was
started is kept, so that a restart is a change of state; when it runs out is said by the command of that name
(log entry 5). -/
inductive Timer where
  | sweepPeriod | sweepLapse | wdPeriod | treeSecond
  | orphan | heartbeat | halfInbound
  | watchdog (e : Engine) | dbgKey
  | flushAge (tier : Nat) | calSched | calRetry
  | stUnlock | stLockout | stBackground
  | alyPoll | alyRescan | seqDelay
  | shutdownLimit | balPlan | bootStep
  deriving DecidableEq, Repr

/-- One thing the node drives on a port: the port and the bytes of the frame before coding (none: a run of IDLE
characters). The newest stands last (log entry 6). -/
structure Sent where
  port : Nat
  bytes : List Byte
  /-- The copy ends in ABORT instead of EOF (R204). -/
  cut : Bool := false
  deriving DecidableEq, Repr

/-- The acquisition settings that R41 applies together. -/
structure AcqSet where
  ctl : Half := 0x022C
  instPh : Half := 0
  instWin : Half := 0x0302
  guard : Half := 0x0028
  auxEn : Half := 0x003F
  refTrim : Half := 0
  deriving DecidableEq, Repr

/-- How an on-request conversion stands (R59). -/
inductive ReqPhase where
  | idle | powering | measuring
  deriving DecidableEq, Repr

/-- One endpoint of the main path between latches. -/
structure Chan where
  /-- The last value, a 24-bit code (R33), and whether it is clamped (OVERRANGE). -/
  value : Int := 0
  clamped : Bool := false
  /-- A block, output or scan value was completed since the last latch (R52). -/
  fresh : Bool := false
  /-- A first settled value exists (R52). -/
  ever : Bool := false
  /-- The idle tick the last value was completed in (R131). -/
  takenAt : Nat := 0
  /-- The sum of windows since the restart and their number (R44). -/
  sum : Int := 0
  windows : Nat := 0
  /-- The tick and the timebase value the settling time counts from, 200 µs later at a power-up; and a latch has come since
  it elapsed (R42, R515). -/
  since : Nat := 0
  sinceTb : Nat := 0
  settled : Bool := false
  /-- A value for the conversion on request in progress was completed (R59). -/
  forReq : Bool := false
  deriving DecidableEq, Repr

/-- One endpoint of the secondary path (R54). -/
structure SecChan where
  value : Int := 0
  clamped : Bool := false
  /-- A value was completed since the last latch of the main set (R55) and since the last publication (R52). -/
  sinceLatch : Bool := false
  sincePub : Bool := false
  ever : Bool := false
  /-- Consecutive comparisons out of threshold (R55). -/
  bad : Nat := 0
  /-- Converted by the running on-request secondary conversion (R59). -/
  onReq : Bool := false
  /-- A value was completed since the running on-request main conversion began, or since the test of the main path did
  (R60). -/
  forReq : Bool := false
  deriving DecidableEq, Repr

/-- The settings that place the quiet windows (R45, R179). -/
structure QuietSet where
  on : Bool := false
  wcode : Nat := 2
  guard : Nat := 40
  instPh : Nat := 0
  deriving DecidableEq, Repr

/-- The modulator clock (R37): ticks since its last edge, the length of the present period, ticks still to be inserted
(positive) or dropped (negative), and the periods since the last one was, up to 64. -/
structure ModClock where
  pos : Nat := 0
  len : Nat := 32
  left : Int := 0
  since : Nat := 64
  deriving DecidableEq, Repr

/-- The acquisition front end (spec/02). -/
structure Acq where
  /-- The settings in force (R41). -/
  eff : AcqSet := {}
  /-- EFF_MODE in force: 1 instants, 2 filter, 0 before the first resolution (R39). -/
  mode : Nat := 0
  /-- The HUBS flag of the last SWEEP_START (R39). -/
  hubs : Bool := false
  /-- The window code in force after R46, and whether the settings are clipped or forced by SAFE (R40, R46). -/
  wcode : Nat := 2
  clipped : Bool := false
  safeForced : Bool := false
  /-- The main path is powered; and it was powered for scheduled sweeps (R515). -/
  powered : Bool := false
  sched : Bool := false
  /-- The quiet windows' settings, those before the last change, and the tick from which on a window that opens follows
  the change (R179). -/
  qw : QuietSet := {}
  qwOld : QuietSet := {}
  qwFrom : Nat := 0
  /-- The modulator clock (R37). -/
  modClk : ModClock := {}
  /-- The endpoints of the main path and of the secondary path (R42, R54). -/
  chans : Sparse Chan := []
  /-- The timebase value of the last window or output (R53). -/
  lastTb : Nat := 0
  /-- AUX scan: the input being converted and the outputs it has given (R50). -/
  auxInput : Nat := 0
  auxOuts : Nat := 0
  sec : Sparse SecChan := []
  /-- The rotations' slots, 0 to 16 and 0 to 15 (R54). -/
  slotA : Nat := 0
  slotB : Nat := 0
  /-- Scaling against the bandgap, the scaling from the next boundary on, and what the reference slots gave (R56). -/
  refFallback : Bool := false
  refWant : Bool := false
  refBad : Nat := 0
  refGood : Nat := 0
  /-- On-request conversions of the main path and of the secondary path (R59). -/
  req : ReqPhase := .idle
  reqSec : Bool := false
  reqSecA : Nat := 0
  reqSecB : Nat := 0
  /-- An engine's mreq waits for this conversion (R312). -/
  reqByNode : Bool := false
  /-- The next publication shows REREAD for a path that captured this sequence before: the last sequences captured, of
  the main set and of the secondary set, one each for the QSPI port, REMOTE and the DBG port (R65). -/
  capMainQspi : Option Nat := none
  capMainRemote : Option Nat := none
  capMainDbg : Option Nat := none
  capSecQspi : Option Nat := none
  capSecRemote : Option Nat := none
  capSecDbg : Option Nat := none
  /-- Endpoints whose main path is under self-test (R60), and groups under calibration (R62). -/
  test : List Nat := []
  /-- Endpoints whose test is over and whose main path has given no settled value since (R411). -/
  after : List Nat := []
  calGroups : List Nat := []
  /-- Groups whose calibration slot ended since the last latch (R390). -/
  calTail : List Nat := []
  /-- When a group's last slot ended: windows whose aperture reaches back into it are discarded (R390). -/
  calEnds : List (Nat × Nat) := []
  /-- Endpoints of a converter that failed self-test report FAULT in the secondary set (R412). -/
  sarAFail : Bool := false
  sarBFail : Bool := false
  /-- SAR A or B under self-test (R61). -/
  sarATest : Bool := false
  sarBTest : Bool := false
  deriving DecidableEq, Repr

/-- The steps of one pin test (R74). -/
inductive PullPhase where
  | idle | baseline | pulling | reading | recovery
  deriving DecidableEq, Repr

/-- The wire diagnostics (spec/03). -/
structure WireDiag where
  /-- B*k* by endpoint, and whether the baselines have been taken (R71). -/
  base : Sparse Int := []
  baseTaken : Bool := false
  /-- The first latch with every active cell OK has come (R71). -/
  firstTaken : Bool := false
  /-- Consecutive latches beyond and within the sum thresholds (R69, R70). -/
  sumBad : Nat := 0
  sumGood : Nat := 0
  secBad : Nat := 0
  secGood : Nat := 0
  /-- Consecutive latches at which a pin met the pair condition (R72). -/
  pair : Sparse Nat := []
  /-- Consecutive latches with an unused channel outside and inside its band (R81). -/
  unusedBad : Nat := 0
  unusedGood : Nat := 0
  /-- Pins waiting for their test, each with whether it belongs to a scan (R78). -/
  queue : List (Nat × Bool) := []
  /-- Pins requested while their group was in its calibration slot: they wait until the run ends (R77). -/
  calHeld : List Nat := []
  /-- A scan is under way or waiting (R78), and the step of the pin test in progress (R74). -/
  scan : Bool := false
  phase : PullPhase := .idle
  /-- The pin under test and whether its test belongs to a scan (R74, R78). -/
  pin : Nat := 0
  pinInScan : Bool := false
  /-- Baseline readings of the lower and of the upper affected cell, in µV (R74). -/
  b1 : Int := 0
  b2 : Int := 0
  /-- Cells reported HELD at the value before step 2 (R76); `true`: the span is over, the next latch ends it. -/
  hold : List (Nat × Int × Bool) := []
  /-- CLEAR came while a test ran (R78). -/
  abort : Bool := false
  deriving DecidableEq, Repr

/-- A working impedance plan: the registers PREPARE copies (R103). -/
structure ImpPlan where
  ctl : Half
  plan : Half
  /-- FSTART in mHz. -/
  fstart : Nat
  tmin : Nat
  /-- Bit per cell endpoint. -/
  mask : Nat
  start : Nat
  round : Nat
  deriving DecidableEq, Repr

/-- The correlator of one excited cell during a point (R93 to R95). -/
structure Corr where
  cell : Nat
  v0 : Int := 0
  vi : Int := 0
  vq : Int := 0
  ii : Int := 0
  iq : Int := 0
  /-- Cell-side and block-side charge, in nC, of the periods that ended in the present slot, and the net current of the slot
  before it, in 0.1 mA (R94). -/
  cellQ : Int := 0
  blockQ : Int := 0
  before : Int := 0
  /-- Charge into the cell, in nC, that the pulses planned in one excitation cycle moved, and that cycle's number (R89). -/
  net : Int := 0
  cycle : Nat := 0
  /-- Slots accumulated. -/
  slots : Nat := 0
  clip : Bool := false
  /-- The record status that stopped the cell, or kept it from being excited; 0 while it is excited (R110). -/
  stop : Nat := 0
  deriving DecidableEq, Repr

/-- Impedance spectroscopy (spec/04). -/
structure Imp where
  /-- The working plan (R103). -/
  plan : Option ImpPlan := none
  /-- Round 0 has begun (R104). -/
  begun : Bool := false
  /-- The round that starts next, and whether one is in progress (R101). -/
  next : Nat := 0
  inRound : Bool := false
  /-- The point in progress, whether one is, and whether its settle cycles are over (R93). -/
  point : Nat := 0
  inPoint : Bool := false
  integrating : Bool := false
  /-- The frequency word of the point, and what its oscillator has gone through since the point's start: the low 32 bits
  are the phase accumulator, the rest counts whole cycles (R88). -/
  fw : Nat := 0
  phase : Nat := 0
  /-- Ticks of the PWM periods that ended in the present slot (R94). -/
  slotTicks : Nat := 0
  /-- The timebase was free-running during the point (R111). -/
  freerun : Bool := false
  /-- The correlators of the cells of the point (R93). -/
  corr : List Corr := []
  /-- The node leaves SPECTRUM at the next sweep boundary (R105, R106). -/
  leaving : Bool := false
  /-- It does so with its plan DONE, so that a new plan can be prepared (R105). -/
  ended : Bool := false
  /-- PLAN_SEQ that records not written since bear (R104). -/
  recSeq : Nat := 0
  /-- The 16-byte records, at 32 × cell + point (R112). -/
  records : Sparse (List Byte) := []
  deriving DecidableEq, Repr

/-- A balance plan: directions and setpoints, budgets, and the time limit (R137). -/
structure Plan where
  sp : List Half
  bud : List Half
  limit : Half
  deriving DecidableEq, Repr

/-- A pulse of a transfer channel, placed at the start of its PWM period (R122, R124). -/
structure BalPulse where
  /-- Its two edges, as ticks of `now`. -/
  rise : Nat
  fall : Nat
  /-- Block-to-cell: given by the group's block-side generator (R118). -/
  b2c : Bool
  /-- What it is to move into the cell, in mA times ticks, and the excitation cycle it was planned in (R89). -/
  want : Int := 0
  cycle : Nat := 0
  /-- A trip ended it before its falling edge (R119). -/
  cut : Bool := false
  deriving DecidableEq, Repr

/-- One transfer channel as it runs. -/
structure BalChan where
  /-- Cell-side charge in nC since the plan's activation, and since the last latch (R126). -/
  q : Int := 0
  moved : Int := 0
  /-- Budget reached (R139). -/
  reached : Bool := false
  /-- In the slot set, and for how many periods (R123). -/
  joined : Bool := false
  soft : Nat := 0
  /-- Where its pulse starts in the period, in 1/16 tick (R122, R123, R175). -/
  offset : Nat := 0
  /-- On-time of the pulse planned last, in 1/16 tick, and the size of the charge metered last, in nC (R125). -/
  on : Nat := 0
  lastQ : Nat := 0
  /-- Charge the regulator still owes its target, in mA times ticks (R125, R129). -/
  debt : Int := 0
  /-- Remainders of the two edges of its cell-side generator (R175). -/
  riseRem : Nat := 0
  fallRem : Nat := 0
  /-- Forbidden under R130 and R132 until the release values are met. -/
  tempOff : Bool := false
  hiOff : Bool := false
  loOff : Bool := false
  /-- What the last evaluation of R130 to R134 found: a state code of R136, 0 for nothing. -/
  block : Nat := 0
  /-- A trip in its group, and an omitted pulse, since the last latch (R127, R129). -/
  tripped : Bool := false
  omitted : Bool := false
  /-- Its pulses that are still to be metered, oldest first (R126). -/
  pulses : List BalPulse := []
  deriving DecidableEq, Repr

/-- One group of six channels. -/
structure BalGroup where
  /-- Periods since each trip of the last 256 periods (R128). -/
  trips : List Nat := []
  /-- Off after a trip, and the periods it still stays off (R127). -/
  off : Bool := false
  hold : Nat := 0
  /-- The cell that last completed a B2C pulse, and the one the present period serves (R119). -/
  last : Option Nat := none
  served : Option Nat := none
  /-- Remainders of the two edges of its block-side generator (R175). -/
  riseRem : Nat := 0
  fallRem : Nat := 0
  /-- Edges of ended pulses that lie within 12 ticks of the period's start (R124). -/
  recent : List Nat := []
  deriving DecidableEq, Repr

/-- The charge-transfer balancer (spec/05). STAGE, RUN and SHADOW are in BAL_STATUS. -/
structure Bal where
  /-- The plan staged and the plan that runs (R137, R138). -/
  staged : Option Plan := none
  running : Option Plan := none
  /-- The plan kept for a rollback, with each channel's charge and whether its budget was reached (R138, R144). -/
  shadow : Option (Plan × List (Int × Bool)) := none
  /-- The plan ends with the period in progress (R138). -/
  stopping : Bool := false
  /-- The node returns to ACTIVE at the next sweep boundary (R138). -/
  leaving : Bool := false
  /-- The channels and the groups (R116, R118). -/
  chans : Sparse BalChan := []
  groups : List BalGroup := [{}, {}, {}, {}]
  /-- The period in force, and the one that starts after the present period (R121). -/
  period : Nat := 800
  nextPeriod : Nat := 800
  /-- The tick the present period started in (R121). -/
  start : Nat := 0
  /-- Ticks of the periods that ended since the last latch (R126). -/
  interval : Nat := 0
  deriving DecidableEq, Repr

/-- A stage held for a chain transaction (R141 to R146). -/
structure TxnStage where
  id : Nat
  /-- Expiry sweep E, and the activation sweep of a COMMIT (R143, R146). -/
  expiry : Nat
  act : Option Nat := none
  /-- ROLLBACK was received: the shadow is restored at the next boundary (R144). -/
  rollback : Bool := false
  /-- Activated at sweep A, and not yet closed (R144, R145). -/
  active : Bool := false
  deriving DecidableEq, Repr

/-- A transaction the root runs (R140 to R145). The maps are lists of node numbers, rising. -/
structure RootTxn where
  target : List Nat := []
  prepAck : List Nat := []
  commitAck : List Nat := []
  activeMap : List Nat := []
  /-- Targets that have answered PREPARE, and nodes that have answered STATUS or ACTIVATED. -/
  answered : List Nat := []
  /-- The nodes the root expects to activate (R144). -/
  expected : List Nat := []
  /-- The expiry sweep that every PREPARE of it names (R146). -/
  expiry : Nat := 0
  /-- Sweep of the first PREPARE; STATUS queries sent so far; a COMMIT has been sent. -/
  first : Nat := 0
  queries : Nat := 0
  committed : Bool := false
  rollbackSent : Bool := false
  /-- Nodes that were sent ROLLBACK (R144). -/
  rolled : List Nat := []
  /-- SUBSYS, SEM, PTO and LEAD as START found them (log entry 170). -/
  sub : Nat := 0
  best : Bool := false
  pto : Nat := 0
  lead : Nat := 0
  /-- Nodes that receive CANCEL, and the outcome that stands once the closing is over. -/
  outcome : Nat := 0
  deriving DecidableEq, Repr

/-- A general pulse generator as it runs: the copies of its four registers taken at the start of its cycle or period
(R180), the remainders its edges carry (R175), and the edges placed last. -/
structure PulseGen where
  ctl : Half := 0
  rise : Half := 0
  fall : Half := 0
  per : Half := 0
  riseRem : Nat := 0
  fallRem : Nat := 0
  /-- The edges of the pulse placed last, rising and falling, as ticks; `none`: no pulse. -/
  pulse : Option (Int × Int) := none
  /-- The pulses placed before it that have not ended: moved ones may outlast several cycles (R178, R180). -/
  tail : List (Int × Int) := []
  deriving DecidableEq, Repr

/-- The phase timebase (spec/06): the accumulator of R156 (upper 16 bits the visible phase), the cycle count, and the
bookkeeping of the lock states, the compare units and the general generators. -/
structure Timebase where
  acc : BitVec 48 := 0
  cycle : BitVec 32 := 0
  /-- The value at the end of the previous tick, `prev` of R170. -/
  prevAcc : BitVec 48 := 0
  prevCycle : BitVec 32 := 0
  /-- The period in force, in 1/16 tick (R153: TB_NOM from reset). -/
  period : Nat := 128000
  /-- SRC and LOCAL as applied (R151, R167). -/
  src : Nat := 0
  localDom : Bool := false
  /-- Consecutive accepted edges or Milestones with a small error in ACQUIRE (R153). -/
  okCount : Nat := 0
  /-- Consecutive expected edges or Milestones missed (R153). -/
  missCount : Nat := 0
  /-- Accepted edges or Milestones since ACQUIRE was entered (R159). -/
  acqCount : Nat := 0
  /-- The last interval taken, and how many accepted ones precede ACQUIRE (R152, R153). -/
  lastInterval : Option Nat := none
  goodIntervals : Nat := 0
  /-- The integrator of the loop: its part of the period, in 2^-16 of 1/16 tick (R155). -/
  integ : Int := 8388608000
  /-- The last consecutive rejected intervals of LOCKED, newest first, at most four (R152). -/
  rejected : List Nat := []
  /-- Units armed in ABS mode and the target each holds (R172). -/
  armed : BitVec 8 := 0
  target : Sparse (BitVec 48) := []
  /-- Units whose evaluation for this tick is over: fired, or their target written in this tick (R170, R171). -/
  done : BitVec 8 := 0
  /-- Armed units that fire in the next tick with LATE (R172, R173). -/
  late : BitVec 8 := 0
  gens : List PulseGen := [{}, {}, {}, {}]
  deriving DecidableEq, Repr

/-- The window monitors (spec/07). The reported states are the registers CMP_ABOVE and CMP_BELOW. -/
structure Monitors where
  /-- The comparators' own states (R184). -/
  comp : Sparse MonState := []
  /-- The tick in which a comparator took its present state (R187). -/
  since : Sparse Nat := []
  /-- Monitors that have had their first evaluation after power-up (R185). -/
  settled : List Nat := []
  /-- Sampled operation: the new state seen and how many consecutive samples gave it (R190). -/
  run : List (Nat × MonState × Nat) := []
  /-- The sample period in force, in ms (R190). -/
  tick : Nat := 100
  /-- Monitors under self-test (R189). -/
  test : List Nat := []
  /-- IS monitors that failed self-test (R412). -/
  failed : List Nat := []
  deriving DecidableEq, Repr

/-- What the node holds of the links (spec/08). Port settings, states and counters are host registers. -/
structure Link where
  /-- L of R214 plus 1, by 16384 × ring + 8192 for broadcasts + SRC; 0: no frame accepted yet. -/
  windows : Sparse Nat := []
  /-- The next sequence number by 16384 × ring + DST (R215), and of the numbering a hub gives a Lane node's frames, by
  16384 × node + DST (R219). -/
  counts : Sparse Nat := []
  hubCounts : Sparse Nat := []
  /-- The MEASURE frame kept, with its sweep, and the last RESPONSE sent (R218). -/
  measure : Option (Nat × Frame) := none
  response : Option Frame := none
  /-- RESPONSE frames that wait for a train, and RING_CTL frames of a member that wait for one (R225, R236). -/
  responses : List Frame := []
  controls : List Frame := []
  /-- Frames still to be inserted in the present train (R223). -/
  insertion : List Frame := []
  /-- RESPONSE frames that the present train still takes (R225). -/
  respLeft : Nat := 0
  /-- This sweep's MEASURE frame was inserted (R225). -/
  measureSent : Bool := false
  /-- The present opening is a further one of the sweep (R247). -/
  again : Bool := false
  /-- A hub's frames for its parent ring, and those passed and kept until the sweep closes (R219, R226). -/
  hubQueue : List Frame := []
  hubKept : List Frame := []
  /-- Frames a hub holds for its Lanes (R231). -/
  laneQueue : List (Nat × Frame) := []
  /-- Retransmissions that wait for an inbound pass (R247). -/
  retx : List Frame := []
  /-- Ports turned to receive an echo request, and when each transmits again (R195, R237). -/
  echo : List (Nat × Nat) := []
  /-- Ports on which the node sends IDLE characters until it receives some (R242). -/
  waking : List Nat := []
  /-- The port whose IDLE characters woke the node, until the other port of the ring carries them (R242). -/
  wakePort : Option Nat := none
  deriving DecidableEq, Repr

/-- A member as its ENUM_REPLY reports it (R236), and the number and position it was given. -/
structure Member where
  factory : Nat
  upFactory : Nat := 0
  node : Option Nat := none
  pos : Nat := 0
  msHop : Nat := 0
  cells : Nat := 0
  caps : Nat := 0
  tko : Nat := 0
  deriving DecidableEq, Repr

/-- A ring the node heads (spec/09). STATE, BREAK_POS and the counts are in the RNG registers. -/
structure Ring where
  /-- Its members by position (R220, R239). -/
  members : List Member := []
  /-- Enumeration (R239): 0 none, 1 first replies awaited, 2 ECHO_RUN sent and the second ENUM due, 3 second replies awaited, 4 a
  hub awaits the root's numbers, 5 they have come; and the replies. -/
  enumStep : Nat := 0
  replies : List Member := []
  /-- A hub's ordered list as it was passed to the root, with the numbers and positions returned so far (R239). -/
  found : List Member := []
  /-- The factory number the head's own echo brought (R237). -/
  upFactory : Option Nat := none
  /-- The epoch chosen (R239). -/
  newEpoch : Nat := 0
  /-- A train is under way; command time; the ring is open for the sweep (R224, R227, R230); the tick its train opened in
  and the time the train took. -/
  train : Bool := false
  command : Bool := true
  isOpen : Bool := false
  openedAt : Nat := 0
  trainTime : Nat := 0
  /-- Nodes expected and accepted in the sweep (R227, R228), and whether it closed on its timeout. -/
  expected : List Nat := []
  got : List Nat := []
  timedOut : Bool := false
  /-- Requests sent in this sweep by node and WANT (R217). -/
  retx : List (Nat × Nat) := []
  /-- Nodes whose RESPONSE is awaited in this sweep, and nodes sent a COMMAND in it, which answer in the next (R217,
  R233). -/
  awaits : List Nat := []
  awaited : Nat := 0
  asked : List Nat := []
  /-- COMMAND frames to one node that are not answered yet, by node and the sweep in which they were sent (R231). -/
  unanswered : List (Nat × Nat) := []
  /-- The position the last frame of the present train came from (R245). -/
  lastPos : Option Nat := none
  /-- ECHO_RUN has been sent: until this tick the head sends nothing else on the ring (R237). -/
  quietTo : Option Nat := none
  /-- Halved anew: ECHO_RUN is due in command time; members whose MS_HOP is being read (R163, R251). -/
  echoDue : Bool := false
  hops : List Nat := []
  /-- The sweep in which they were asked last (R233), and the hop from the last member to the head's receive port (R163). -/
  hopsAt : Nat := 0
  headHop : Nat := 0
  /-- Frames that wait for command time (R230). -/
  waiting : List Frame := []
  /-- While halved: ends of half A and half B, positions passed over, positions cut off (R246, R249). -/
  endA : Nat := 0
  endB : Nat := 0
  excluded : List Nat := []
  isolated : List Nat := []
  /-- The sweep at whose boundary the ring is whole again (R253), and a re-forming whose first train is awaited. -/
  reformAt : Option Nat := none
  reforming : Bool := false
  /-- A Lane held by takeover: one half, served through the port that faced its last member (R257). -/
  taken : Bool := false
  /-- The epoch changed in this sweep (R250). -/
  reformed : Bool := false
  /-- The cycle the last SYNC Milestone was issued for (R161). -/
  syncAt : Option Nat := none
  deriving DecidableEq, Repr

/-- What the node is as a member of a ring, and as a hub by takeover (R244 to R258). -/
structure Membership where
  /-- In a half: the inbound pass is under way; W_IN less the member's position term, in 0.01 µs (R247, R248). -/
  inbound : Bool := false
  window : Nat := 0
  /-- REFORM was received: the sweep at whose boundary the normal direction returns (R253). -/
  restoreAt : Option Nat := none
  restoreEpoch : Nat := 0
  /-- ECHO_RUN's answers: the upstream neighbour's factory number (R237). -/
  upFactory : Nat := 0
  /-- A takeover or hand-back waits for the boundary: the hub, and whether it is a takeover (R257, R258). -/
  roleChange : Option (Nat × Bool) := none
  /-- The hub whose Lanes this node holds by takeover (R257). -/
  holds : Option Nat := none
  deriving DecidableEq, Repr

/-- A REMOTE write of one word that the root makes of itself: the node, address and value, and the sweep in which it was sent
last (R163, R233, R239). -/
structure RemoteWrite where
  node : Nat
  addr : Nat
  value : Nat
  sent : Option Nat := none
  deriving DecidableEq, Repr

/-- SLOT of a node's IMP_CTL as the preset SWEEP program writes it: the node, its slot, and the sweep in which IMP_CTL was asked
for (R102, R267). -/
structure SlotWrite where
  node : Nat
  slot : Nat
  sent : Option Nat := none
  deriving DecidableEq, Repr

/-- What only the root holds of the tree. -/
structure Tree where
  /-- Binding entries, eight half-words each (R241); an unlisted entry is all 0. -/
  binding : Sparse (List Half) := []
  /-- Endpoint mirror by EA (R259). -/
  mirror : Sparse (BitVec 32) := []
  /-- Nodes NOT_RECEIVED in the last closed sweep (R228). -/
  missing : List Nat := []
  /-- A sweep is open, and a start was skipped (R224, R228). -/
  sweepOpen : Bool := false
  skipped : Bool := false
  /-- Nodes that become expected at the next boundary (R239, R254). -/
  joining : List Nat := []
  /-- The root's own REMOTE writes that are not answered yet: MS_LAT values, and orders to hubs to enumerate their Lanes; each
  waits for its node's session (log entry 33). -/
  writes : List RemoteWrite := []
  /-- Nodes whose SLOT is to be written (R102, R267). -/
  slots : List SlotWrite := []
  /-- What is still to be enumerated after the ring that is being enumerated: own rings, and hubs' Lanes by hub and Lane in
  ascending order; the Lane whose list is awaited, and the members of lists that come in (R239). -/
  ringOrders : List Nat := []
  laneOrders : List (Nat × Nat) := []
  laneAsk : Option (Nat × Nat) := none
  laneLists : List ((Nat × Nat) × Member) := []
  /-- MEASURE frames that wait for their MTAG response (R437). -/
  heldMeasures : List Frame := []
  /-- REMOTE access: sweep of the request, and sweeps closed since (R235). -/
  remoteSweeps : Nat := 0
  /-- Rings a broadcast REMOTE write has yet to leave on (R500). -/
  remoteRings : List Nat := []
  /-- Sweeps since the keys were renewed (R436). -/
  renewSweeps : Nat := 0
  deriving DecidableEq, Repr

/-- STATE of ENG*e*_STATUS, by its codes 0 to 5. -/
inductive EngState where
  | stopped | running | waiting | halted | faulted | loading
  deriving DecidableEq, Repr

def EngState.code : EngState → Nat
  | .stopped => 0 | .running => 1 | .waiting => 2 | .halted => 3 | .faulted => 4 | .loading => 5

/-- What a pending wait watches (R303, R304). -/
inductive WaitKind where
  | phase | timebase | event
  deriving DecidableEq, Repr

/-- A wait in progress (R273, R303 to R305). -/
structure Wait where
  kind : WaitKind
  /-- The phase or the 48-bit value waited for. -/
  target : Nat
  /-- The mask of an event wait. -/
  mask : Word
  /-- The result register, and the register named RT. -/
  rd : Nat
  /-- The timeout in ticks; 0: none. -/
  limit : Nat
  /-- Its evaluation for this tick is over (the issue tick, R303). -/
  done : Bool
  /-- The target was passed at issue, or by a load (R303). -/
  late : Bool
  /-- The target was crossed while the engine was halted (R274). -/
  latched : Bool
  deriving DecidableEq, Repr

/-- A frame an engine has queued for sending (R314). -/
structure EngFrame where
  type : Nat
  dst : Nat
  tag : Bool
  payload : List Byte
  /-- Its place in the order in which the engines queued their frames (R272). -/
  order : Nat := 0
  deriving DecidableEq, Repr

/-- One Hetric engine (R261, R262, R273 to R284). -/
structure Eng where
  st : EngState := .stopped
  /-- FAULT of ENG*e*_STATUS, and the ticks of its restarts after faults, newest first (R278). -/
  fault : Nat := 0
  restarts : List Nat := []
  /-- The running page and the instruction index in it. -/
  page : Nat := 0
  pc : Nat := 0
  fpcPage : Nat := 0
  fpc : Nat := 0
  /-- G0 to G15. -/
  g : Sparse Word := []
  z : Bool := false
  n : Bool := false
  c : Bool := false
  v : Bool := false
  latch : Word := 0
  wait : Option Wait := none
  /-- Instructions completed, modulo 2^32. -/
  instrs : Nat := 0
  own : Bool := false
  staged : Bool := false
  shadow : Bool := false
  /-- Lengths in instructions of the running, the staging and the shadow program. -/
  len : Nat := 0
  stagedLen : Nat := 0
  shadowLen : Nat := 0
  stagedOwn : Bool := false
  shadowOwn : Bool := false
  /-- Program SRAM, both pages: index `8192 * page + i`; an unlisted word is 0. -/
  prog : Sparse Word := []
  /-- Program words whose parity is wrong (R290). -/
  badProg : List Nat := []
  /-- Frames to send, at most 16, and frames received, at most 8 (R314, R315). -/
  sendQ : List EngFrame := []
  recvQ : List (List Byte) := []
  dropped : Nat := 0
  /-- A HALT that waits for an instruction boundary, and a STEP in progress (R282). -/
  haltReq : Bool := false
  stepping : Bool := false
  /-- A halt of RAIL that waits for the end of the rail step in progress (R282). -/
  haltHeld : Bool := false
  /-- The breakpoint at PC was already taken (R283). -/
  passBp : Bool := false
  deriving DecidableEq, Repr

/-- A register write waiting on the register bus (R270): its source, the address and the value. -/
structure BusWrite where
  source : Option Engine
  addr : Nat
  value : Half
  deriving DecidableEq, Repr

/-- One operation on the internal flash: erase the sector at a number, or program a 64-bit word (R345, R346); word
addresses are byte addresses divided by 8. -/
inductive FlashOp where
  | erase (sector : Nat)
  | program (word : Nat) (value : Dword)
  deriving DecidableEq, Repr

/-- The areas of two sectors each that grow entry by entry (R344, R346). -/
inductive Area where
  | calA | calB | ffl | ledger
  deriving DecidableEq, Repr

/-- A write that waits for the internal flash. -/
inductive FlashReq where
  /-- Append an entry to an area, moving the area first if its live sector is full (R346). `first`: into the first-fault
  slot (R347). -/
  | entry (a : Area) (first : Bool) (bytes : List Byte)
  /-- Move the first-fault log to a fresh sector with an empty slot (R349). -/
  | fflClear
  /-- Operations of a profile update (R475, R476). -/
  | update (ops : List FlashOp)
  deriving DecidableEq, Repr

/-- The embedded flash and its first-fault log (R344 to R349). The flash keeps its contents over resets and power
loss. -/
structure Flash where
  /-- 64-bit words by number; an unlisted word is erased, all ones. -/
  mem : Sparse Dword := []
  /-- Sectors whose erase was aborted: void until erased again (R338). -/
  void : List Nat := []
  erases : Sparse Nat := []
  queue : List FlashReq := []
  /-- The request being carried out, the operations left of it, and whether the first of them is in progress. -/
  cur : Option FlashReq := none
  ops : List FlashOp := []
  busy : Bool := false
  /-- First-fault entries captured and not yet written: whether each is the first fault, and its 64 bytes (R349). -/
  pending : List (Bool × List Byte) := []
  /-- A CLEAR waits for the pending first fault to be written (R349). -/
  clearHeld : Bool := false
  /-- The area move of a CLEAR waits for the flash. -/
  clearWaits : Bool := false
  /-- The clear generation, and faults since the last clear (R348). -/
  clearGen : Nat := 0
  faults : Nat := 0
  /-- What the last evaluation of R336 and R337 found: supplies and hold-up for the internal flash and for the NAND. -/
  supplyIf : Bool := false
  supplyNand : Bool := false
  holdIf : Bool := false
  holdNand : Bool := false
  /-- VREG as last measured, in mV. -/
  vreg : Nat := 0
  deriving DecidableEq, Repr

/-- A page of the NAND device that was programmed: its metadata (R325) and its data bytes, 0xFF where the list ends. -/
structure NandPage where
  tier : Nat
  flags : Nat := 0
  seq : Nat := 0
  tree : Nat := 0
  tb : Nat := 0
  erases : Nat := 0
  nrec : Nat := 0
  data : List Byte := []
  deriving DecidableEq, Repr

/-- A page buffer in SRAM (R329): its records, the tree time of the first, and the tick it came. -/
structure PageBuf where
  tier : Nat
  data : List Byte := []
  nrec : Nat := 0
  tree : Nat := 0
  since : Nat := 0
  /-- The timebase when the page was closed (R325). -/
  tb : Nat := 0
  flushed : Bool := false
  deriving DecidableEq, Repr

/-- One tier's circular log, or the control area's (R327, R341): the place of the next page in the tier, counted in pages, and the next SEQ; the SEQ
of the oldest page held. -/
structure TierLog where
  next : Nat := 0
  seq : Nat := 0
  tail : Nat := 0
  deriving DecidableEq, Repr

/-- What a checkpoint records (R341). -/
structure Checkpoint where
  /-- Its SEQ; the geometry; the replacements by block; blocks of the layout without one; spares used (R326, R328). -/
  seq : Nat := 0
  blkLog2 : Nat := 0
  remap : Sparse Nat := []
  lost : List Nat := []
  poolUsed : Nat := 0
  /-- Physical blocks that serve no more: the factory-marked and the retired ones (R321, R328). -/
  bad : List Nat := []
  /-- The binding table as its pages were programmed (R241, R341). -/
  binding : Sparse (List Half) := []
  /-- The number of pages that precede the header, and the CRC-32 over them. -/
  before : Nat := 0
  crc : Word := 0
  deriving DecidableEq, Repr

/-- A NAND operation in progress: a tier's page, a page of a checkpoint with the checkpoint as far as this page, the copy
of a page to a row of a replacement block (R328), an erase. -/
inductive NandOp where
  | page (b : PageBuf)
  | checkpoint (b : PageBuf) (c : Checkpoint)
  | copy (row : Nat) (p : NandPage)
  | erase (block : Nat)
  deriving DecidableEq, Repr

/-- The history store (spec/12). The device's contents survive power loss: `pages` by row (block × 64 + page), factory
marks, erase counts, the last complete checkpoint. The rest is SRAM. -/
structure Store where
  /-- Pages by row, and rows whose program was cut (R322, R339). -/
  pages : Sparse NandPage := []
  torn : List Nat := []
  /-- Physical blocks whose erase was cut, or that an interrupted retirement left written: neither erased nor valid (R339). -/
  half : List Nat := []
  /-- A formatted device that was not blank: what its blocks held counts no more, and only the physical blocks listed have
  been erased since (R321, R327). -/
  stale : Option (List Nat) := none
  /-- Blocks with a factory mark, and erase counts by block (R320, R321, R325). -/
  marks : List Nat := []
  erases : Sparse Nat := []
  /-- The last complete checkpoint (R341). -/
  ckpt : Option Checkpoint := none
  /-- The probe at BOOT found a device to use (R318, R320), and what the next checkpoint is to record (R341). -/
  on : Bool := false
  work : Checkpoint := {}
  /-- The tiers and the control area; the buffers being filled and those closed; the operation in progress (R327,
  R329, R336). -/
  tiers : List TierLog := [{}, {}, {}, {}]
  filling : List (Option PageBuf) := [none, none, none]
  full : List PageBuf := []
  op : Option NandOp := none
  /-- Pages of a checkpoint still to be programmed, and whether another change asks for one (R341). -/
  ckptLeft : Nat := 0
  ckptDue : Bool := false
  /-- The checkpoint in the making, as far as its pages are programmed (R341). -/
  ckptPart : Checkpoint := {}
  /-- Pages to be copied to rows of replacement blocks, and blocks of the layout whose replacement has to be erased first
  (R328). -/
  copies : List (Nat × NandPage) := []
  renew : List Nat := []
  /-- First key of HS_KEY and its tick (R321). -/
  keyAt : Option Nat := none
  /-- A load in progress: tier and SEQ; the page buffer window and the metadata copy used (R334). -/
  load : Option (Nat × Nat) := none
  window : List Byte := []
  windowMeta : List Byte := []
  deriving DecidableEq, Repr

/-- One endpoint's part of a summary in the making (R332). -/
structure SumEp where
  sum : Int := 0
  count : Nat := 0
  least : Int := 0
  most : Int := 0
  last : Int := 0
  seen : Nat := 0
  deriving DecidableEq, Repr

/-- A summary of a node of which parts have come to the root (R332): its SEQ, the tree time at which its first part came,
and its parts by number. -/
structure SummaryIn where
  node : Nat
  seq : Nat
  came : Nat := 0
  parts : List (Nat × List Byte) := []
  deriving DecidableEq, Repr

/-- A minute or hour summary in the making (R332). -/
structure Summary where
  seq : Nat := 0
  tree : Nat := 0
  tb : Nat := 0
  first : Nat := 0
  sets : Nat := 0
  tjMax : Int := 0
  profile : Bool := false
  free : Bool := false
  eps : Sparse SumEp := []
  deriving DecidableEq, Repr

/-- One rail channel (spec/13). Its state, last fault and restart count are in RAIL_STAT, REN in RAIL_ON. -/
structure Rail where
  /-- The tick in which REN last became active, and last became inactive (R357, R361, R365). -/
  onAt : Nat := 0
  offAt : Option Nat := none
  /-- Granted its start, and waiting for the crossing of RAIL_PH (R361, R362). -/
  granted : Bool := false
  /-- Its switch-off waits for the crossing of RAIL_PH (R362). -/
  offReady : Bool := false
  /-- Fault codes whose condition has not ended since they were raised (R357). -/
  raised : List Nat := []
  /-- Ticks of its restarts, newest first (R365). -/
  restarts : List Nat := []
  /-- Went off at the end of a MAXON span: its monitor is not consulted (R365). -/
  maxed : Bool := false
  /-- While it ramps: the tick since which its monitor has reported INSIDE (R356). -/
  insideAt : Option Nat := none
  deriving DecidableEq, Repr

/-- A step table in progress (R363, R364). -/
structure Sequencer where
  /-- The step was issued and waits for its completion (R363). -/
  issued : Bool := false
  /-- DOWN came during a power-up sequence (R364). -/
  thenDown : Bool := false
  /-- A step of this sequence failed (R364). -/
  failed : Bool := false
  deriving DecidableEq, Repr

/-- A group rail change (R369 to R371). STAGE is in RGRP_STATUS. -/
structure RailGroup where
  /-- The staged mask and wanted states (R369). -/
  mask : Nat := 0
  want : Nat := 0
  /-- Pre-change states of the rails concerned, for ROLLBACK and for the local reversion (R370, R371). -/
  shadow : List (Nat × Bool) := []
  revert : List (Nat × Bool) := []
  /-- The rails the change switched, whose settling is waited for (R371). -/
  switched : List Nat := []
  /-- The change is active and has not settled (R371). -/
  settling : Bool := false
  deriving DecidableEq, Repr

/-- The rail sequencer (spec/13). -/
structure Rails where
  /-- The rails by number (R353). -/
  rails : Sparse Rail := []
  /-- Rails that wait for their grant, in the order of their requests (R361). -/
  queue : List Nat := []
  /-- The step tables: words 0 to 63 power-up, 64 to 127 power-down; an unlisted word is 0, END (R363). -/
  tables : Sparse Word := []
  /-- The table in progress, and the group change (R363, R369). -/
  seq : Sequencer := {}
  group : RailGroup := {}
  /-- How far the code each DAC moves toward lies from NEUTRAL (R367). -/
  dacOffset : List Int := [0, 0]
  /-- The snapshot of the rail faults of one tick, with that tick (R358). -/
  snap : Option (Nat × List Byte) := none
  deriving DecidableEq, Repr

/-- What the root holds of a node it polls (R381, R384). -/
structure Neighbour where
  /-- The last reading of TH_TJ and the poll cycle it came in. -/
  tj : Option Int := none
  cycle : Nat := 0
  chgInh : Bool := false
  /-- It has given no answer for INH_AGE seconds. -/
  silent : Bool := false
  /-- A poll of it has been sent and not answered. -/
  asked : Bool := false
  /-- Consecutive judgements beyond and within NB_TOL. -/
  bad : Nat := 0
  good : Nat := 0
  /-- SUSPECT = 1 was the last written to it. -/
  suspect : Bool := false
  deriving DecidableEq, Repr

/-- The thermal supervisor (spec/14). WARN, SHUT and the shown THROT are in TH_STATUS. -/
structure Thermal where
  /-- The samples of the power-up evaluation taken so far and their sum (R375). -/
  initCount : Nat := 0
  initSum : Int := 0
  /-- The effective Tj of R382 in 0.1 °C, once one exists. -/
  eff : Option Int := none
  /-- The throttle level itself, without the forced throttle of R382, and that (R377, R382). -/
  throttle : Bool := false
  forced : Bool := false
  /-- Consecutive samples toward entry and toward release of warning, throttle, shutdown (R374). -/
  up : List Nat := [0, 0, 0]
  down : List Nat := [0, 0, 0]
  /-- Consecutive samples outside −55 °C to +175 °C (R382), and the sensor under self-test (R375). -/
  outside : Nat := 0
  sensorTest : Bool := false
  /-- Consecutive local checks beyond and within XTOL (R380). -/
  xBad : Nat := 0
  xGood : Nat := 0
  /-- TH_MAX takes the next effective Tj whatever it holds (R373). -/
  maxRestart : Bool := true
  /-- Readings that an own NODE program has written since the last publication, by AUX input (R379). -/
  ntcOwn : List Nat := []
  /-- At the root: the polled nodes by number, the place of the poll in the binding table, and its cycle (R381). -/
  nodes : Sparse Neighbour := []
  pollNext : Nat := 0
  pollCycle : Nat := 0
  deriving DecidableEq, Repr

/-- Calibration (spec/15). A trim is named by a number: 3 × path + 0 OFS, 1 GAIN, 2 DLY with the paths of CAL_SEL, and
100 + 2 × monitor + 0 HI, 1 LO. -/
structure Cal where
  /-- Live trims, the values they move toward, and those a run has measured (R394, R396). -/
  live : Sparse Int := []
  target : Sparse Int := []
  staged : Sparse Int := []
  /-- Trims loaded at BOOT were invalid: every IS monitor counts as untrimmed (R399). -/
  untrimmed : Bool := false
  /-- A run is due, or runs; accepted trims are being applied (R391, R392, R396). -/
  due : Bool := false
  running : Bool := false
  applying : Bool := false
  /-- Cause: 0 BOOT, 1 TEMP, 2 SCHED, 3 CMD, 4 RETRY (R398). -/
  cause : Nat := 0
  /-- The rest of the run belongs in CALIBRATE; and the mode FULL was written in (R392). -/
  full : Bool := false
  /-- ABORT, or what aborts a run, came (R395). -/
  abort : Bool := false
  /-- The group whose slot is next, and the step of the slot in progress: 2 settle, 3 and 4 the passes, 5 compute, 6
  return; 0 no slot (R388). -/
  group : Nat := 0
  step : Nat := 0
  /-- A sweep boundary has come since the last slot (R392). -/
  ready : Bool := false
  /-- What pass 1 and pass 2 of the slot gave (R388, R389). -/
  pass1 : List Int := []
  pass2 : List Int := []
  /-- Causes of rejection met in the run (R394). -/
  disagree : Bool := false
  outside : Bool := false
  refSeen : Bool := false
  /-- Effective Tj at each slot of the run, oldest first (R394, R396). -/
  tj : List Int := []
  /-- Largest difference of OFS or GAIN, in nV at 4.096 V (R389). -/
  diff : Nat := 0
  /-- Rejections in a row (R394). -/
  rejected : Nat := 0
  /-- The bank of the last record: B (R398). -/
  lastB : Bool := true
  /-- At the root: COUNT and REJECTS last read of each node, nodes asked for them, and the place of the next poll (R400). -/
  seen : Sparse (Option (Nat × Nat)) := []
  asked : List Nat := []
  pollNext : Nat := 0
  deriving DecidableEq, Repr

/-- Self-test (spec/16). Results are in the ST_RES registers. -/
structure SelfTest where
  /-- KEY_A was written correctly, and the tick (R404); failures in a row (R405). -/
  keyAt : Option Nat := none
  failures : Nat := 0
  /-- Ticks of the accepted STARTs of the last hour, newest first (R406). -/
  starts : List Nat := []
  /-- Tests still to run, and the one in progress (R401). -/
  left : List Nat := []
  cur : Option Nat := none
  /-- The tick in which the test in progress began, and the part of its blocks under test: a group of INJ_MAIN, a converter of
  INJ_SEC, a monitor of TRIP, a segment of MARCH_MIRROR (R401). -/
  since : Nat := 0
  part : Nat := 0
  /-- Mirror writes that wait for the segment under march: node, payload (none: the node is missing), sweep (R414). -/
  mirrorWait : List (Nat × Option (List Byte) × Nat) := []
  /-- LOOP: ports still to test, the port under test or waiting, ports whose part was skipped, ports tested (R407). -/
  ports : List Nat := []
  port : Option Nat := none
  skipped : List Nat := []
  tested : List Nat := []
  /-- Directions that ports under test had before (R407). -/
  dirs : Sparse Nat := []
  /-- A START was accepted while a pin test runs: the sequence begins after its step 5 (R77). -/
  held : Bool := false
  /-- The sequence was cut short (R410). -/
  abort : Bool := false
  /-- A march failed in this sequence (R412). -/
  marchFail : Bool := false
  /-- LBIST_ENG failed: the engines stay STOPPED (R412). -/
  engFail : Bool := false
  /-- Failing endpoints of LBIST_ACQ and of INJ_MAIN (R412). -/
  epFail1 : BitVec 32 := 0
  epFail6 : BitVec 32 := 0
  /-- Background: the item that runs, the next item (0 SAR A, 1 SAR B, 2 converter, 3 monitor), and the next monitor
  from 4 on (R413). -/
  bg : Option Nat := none
  bgNext : Nat := 0
  bgMon : Nat := 4
  /-- The item next is due and waits for its block (R413). -/
  bgDue : Bool := false
  deriving DecidableEq, Repr

/-- One host check-value unit's feed (R418): BUSY shows a feed whose end is a command; later writes wait. -/
structure Cvu where
  /-- The value VAL takes when the feed completes, and the bytes it feeds. -/
  feed : Option (List Byte) := none
  /-- Writes that wait for the feed, in order: address and value. -/
  waiting : List (Nat × Half) := []
  deriving DecidableEq, Repr

/-- The set-up of a session at the node (R428 to R430): what KEY_HELLO brought and what the node drew. -/
structure Setup where
  kgen : Nat := 0
  nonceR : List Byte := []
  ephR : List Byte := []
  nonceN : List Byte := []
  ephPriv : BitVec 256 := 0
  ephN : List Byte := []
  sigN : List Byte := []
  /-- KEY_AUTH passed: the derived session key. -/
  key : Option (BitVec 128) := none
  deriving DecidableEq, Repr

/-- A session as the root holds it (R428). -/
structure RootSession where
  kgen : Nat := 0
  key : Option (BitVec 128) := none
  inForce : Bool := false
  setup : Setup := {}
  /-- The stage of the exchange: 0 none, 1 HELLO sent, 2 AUTH sent, 3 CONFIRM sent (R428). -/
  step : Nat := 0
  /-- The node's SIG_N, which waits for its certificate (R428). -/
  sigN : List Byte := []
  /-- The sweep in which the last command of the exchange was sent (R233). -/
  askedAt : Nat := 0
  deriving DecidableEq, Repr

/-- Keys and tags (spec/17). KGEN, TKGEN, SESSION, TREE, KEYS_OK and TRNG_FAIL are in KEY_STATUS. -/
structure Keys where
  /-- The session key and KGEN; the tree key, the one before it, and TKGEN (R428, R429, R436). -/
  session : Option (BitVec 128) := none
  kgen : Nat := 0
  treeKey : Option (BitVec 128) := none
  treePrev : Option (BitVec 128) := none
  tkgen : Nat := 0
  /-- The pairs (SWEEP, TREE) of the last three SWEEP_START Milestones, newest first; before the first one (0, 0) (R434). -/
  pairs : List (Nat × Nat) := [(0, 0)]
  /-- Tags accepted under a pair still held (R434). -/
  seen : List ((Nat × Nat) × List Byte) := []
  /-- The root certificate accepted, and the set-up in progress (R428). -/
  rootCert : Option (List Byte) := none
  setup : Setup := {}
  /-- A key computation: the OP it serves, the frame, whether its end has come, and whether the command still waits for
  its answer (R430). -/
  op : Nat := 0
  busy : Bool := false
  ready : Option (List Byte) := none
  awaited : Bool := false
  /-- Signing for ATT_CMD is in progress; for ATTEST likewise through `busy` (R427). -/
  signing : Bool := false
  /-- The statement being signed for ATT_CMD, complete but for its signature's arrival (R426, R427). -/
  stmt : List Byte := []
  /-- The statement being signed for ATTEST (R426, R428). -/
  attested : List Byte := []
  /-- The attestation window's bytes (R427). -/
  window : List Byte := []
  /-- DIGEST of R426. -/
  digest : BitVec 256 := 0
  /-- KEY_PIN registers by pin: 4 × pin + word (R431). -/
  pins : Sparse Half := []
  /-- At the root: sessions by node, the tree key it moves to, and the nodes whose acknowledgement of it is awaited (R428,
  R436). -/
  sessions : Sparse RootSession := []
  nextTree : Option (BitVec 128) := none
  treeAcks : List Nat := []
  treeSweeps : Nat := 0
  deriving DecidableEq, Repr

/-- One entry of the tag list (R450, R451): the ID, its last values (`none` shows 0x8000), its misses in a row. -/
structure AlyTag where
  id : BitVec 64
  val0 : Option Half := none
  val1 : Option Half := none
  misses : Nat := 0
  fresh : Bool := false
  deriving DecidableEq, Repr

/-- Where an exchange stands: no exchange, a hail comes next, the tags were hailed, the tags wanted are addressed, the
strong pull-up is closed for a conversion. -/
inductive AlyStage where
  | idle | hail | hailed | addressed | converting
  deriving DecidableEq, Repr

/-- The Alley (spec/18). -/
structure Alley where
  /-- The list of 32 entries by index; an unlisted index is free (R450). -/
  list : Sparse (Option AlyTag) := []
  /-- Pending requests (R452): a scan, a page of a tag, a poll. -/
  reqScan : Bool := false
  reqPage : Option (Nat × Nat) := none
  reqPoll : Bool := false
  /-- Where the exchange in progress stands (R441, R452). -/
  stage : AlyStage := .idle
  /-- The page exchange's tag and page (R452). -/
  page : Nat × Nat := (0, 0)
  /-- Poll: the tag read next or being read, `none` while the tags measure; and its first read failed (R451). -/
  tag : Option Nat := none
  retry : Bool := false
  /-- Scan (R449): the last fork taken to 0, the path as the bits of an ID, failures of the pass and of the scan, and
  the IDs found. -/
  last : Option Nat := none
  path : BitVec 64 := 0
  passFails : Nat := 0
  scanFails : Nat := 0
  found : List (BitVec 64) := []
  deriving DecidableEq, Repr

/-- Mode requests and what follows them (R454 to R460). -/
structure ModeCtl where
  /-- The request that waits for a sweep boundary, and one held during BOOT. -/
  pend : Option Mode := none
  held : Option Nat := none
  /-- FULL: the node enters CALIBRATE at the next boundary, from this mode; and the mode it came from (R392, R457). -/
  calEnter : Bool := false
  calFrom : Mode := .active
  /-- The mode the shutdown order leads to (R460), and whether its writes have begun (steps 3 and 4). -/
  shutdown : Option Mode := none
  writing : Bool := false
  deriving DecidableEq, Repr

/-- BOOT (R463 to R467). The ledger's registers hold START, FAILS, ALT and SKIP. -/
structure Boot where
  /-- The step in progress, and its path: 0 normal, 1 alternate, 2 skipped. -/
  step : Nat := 0
  path : Nat := 0
  /-- This start wrote BEGIN. -/
  begun : Bool := false
  /-- Losses of alignment by port within step LINK. -/
  losses : List Nat := [0, 0, 0, 0, 0, 0]
  /-- FALLBACK, which only CLR_FALLBACK and a profile switch end: it outlasts a reset (R466). -/
  fallback : Bool := false
  deriving DecidableEq, Repr

/-- Writing a profile (R474 to R476). STATE, ERR and XFER are in UPD_STATUS. -/
structure Update where
  /-- The first key was written, and the tick; the unlock of the host path. -/
  keyAt : Option Nat := none
  unlocked : Bool := false
  /-- The profile being written; bytes 0 to 63 as held; words that have arrived. -/
  target : Nat := 0
  header : List Byte := []
  arrived : List Nat := []
  /-- D0 to D3 as written. -/
  data : List Half := [0, 0, 0, 0]
  /-- The header is being programmed. -/
  committing : Bool := false
  deriving DecidableEq, Repr

/-- A profile switch that is staged, or the profile kept for a rollback (R472, R473): the profile, the bytes of its
header and image, and the registers the image changed with their earlier values. -/
structure Switch where
  profile : Nat
  bytes : List Byte := []
  undo : List (Nat × Half) := []
  /-- For a rollback: role, cells, BLOCKLESS, TAKEOVER and the step tables before the switch. -/
  role : Nat := 0
  cells : Nat := 0
  blockless : Bool := false
  takeover : Bool := false
  tables : Sparse Word := []
  deriving DecidableEq, Repr

/-- A frame of the QSPI port or the DBG pins whose accesses wait (R484). -/
structure HostFrame where
  path : Path
  /-- The command word, and a write's data words. -/
  cmd : BitVec 32
  words : List Half := []
  /-- HCS has ended it: its accesses stand and nothing is driven (R488). -/
  cut : Bool := false
  deriving DecidableEq, Repr

/-- Why the part stops. -/
inductive Fault where
  /-- Raised by a meaning whose command is ill-formed (`Instr.wf` is false): a list that is too short or a number out of
  its range, which no sender can send. Safe: the hardware never sees such a command. -/
  | illFormed
  deriving DecidableEq, Repr

/-- Why a command has no meaning. -/
inductive Refusal where
  /-- Answered by an arm of `exec` for a command that has no meaning yet. Safe. -/
  | notModelled (mnemonic : String)
  deriving DecidableEq, Repr

/-- The state of one node. -/
structure State where
  /-- The commands that wait, first in, first out (log entry 1). -/
  pending : List Instr := []
  /-- Idle ticks taken so far: the model's own clock (log entry 2). -/
  now : Nat := 0
  /-- The index of the next free value: the model's own (log entry 3). -/
  freeCtr : Nat := 0
  /-- The host registers; an unlisted address holds its reset value. -/
  regs : Sparse Half := []
  /-- Low halves written and not yet applied by the write of their high half. -/
  held : Sparse Half := []
  /-- The captured SNAP values of R8, one set per access path (R65, R158, R489). -/
  snapQspi : Sparse Half := []
  snapRemote : Sparse Half := []
  snapDbg : Sparse Half := []
  /-- The mode the node is in (R21). -/
  mode : Mode := .boot
  /-- The running timers and the idle tick each was started in. -/
  timers : List (Timer × Nat) := []
  /-- What the node has sent on its link ports (log entry 6). -/
  sent : List Sent := []
  acq : Acq := {}
  wd : WireDiag := {}
  imp : Imp := {}
  bal : Bal := {}
  /-- Stages held by chain transactions, by SUBSYS (R148). -/
  txn : Sparse (Option TxnStage) := []
  /-- The transaction the root runs (R140). -/
  rootTxn : RootTxn := {}
  /-- The TARGET bitmap of TXN_BM, as the nodes it names (root; R140). -/
  txnTargets : List Nat := []
  tb : Timebase := {}
  mon : Monitors := {}
  /-- Step CAL of this BOOT is over, so the monitors run (R189). -/
  trimsLoaded : Bool := false
  link : Link := {}
  rings : List Ring := [{}, {}, {}]
  ms : Membership := {}
  tree : Tree := {}
  engSweep : Eng := {}
  engNode : Eng := {}
  engRail : Eng := {}
  /-- Engine data memory, byte by byte; an unlisted byte is 0 (R263). -/
  dmem : Sparse Byte := []
  /-- Data-memory bytes whose parity is wrong (R290). -/
  badData : List Nat := []
  /-- The register-bus queue (R270). -/
  bus : List BusWrite := []
  /-- The first debug key was written (R281). -/
  dbgKeyArmed : Bool := false
  /-- DBG_STAT's UNLOCKED and PIN (R281, R284). -/
  dbgOpen : Bool := false
  dbgPin : Bool := false
  fla : Flash := {}
  hs : Store := {}
  minute : Summary := {}
  hour : Summary := {}
  /-- At the root: the summaries received in part and not yet logged, the newest first (R332). -/
  parts : List SummaryIn := []
  /-- At the root: records of the event tier that its preset SWEEP program writes next (R331). -/
  toLog : List (List Byte) := []
  rail : Rails := {}
  th : Thermal := {}
  cal : Cal := {}
  st : SelfTest := {}
  keys : Keys := {}
  cvus : List Cvu := [{}, {}, {}, {}]
  aly : Alley := {}
  /-- VSTK is there: the node has its supply (R457). -/
  powered : Bool := true
  mc : ModeCtl := {}
  bt : Boot := {}
  upd : Update := {}
  /-- The switch staged, and what a ROLLBACK of the last switch restores (R472, R473). -/
  sw : Option Switch := none
  swShadow : Option Switch := none
  /-- Frames of the host port and the DBG pins that wait, and what the last frame of each port drove: HSTAT, the data
  words and the CRC-16 of a read (R482, R483). -/
  hostWait : List HostFrame := []
  hostAnswer : List Half := []
  dbgAnswer : List Half := []
  deriving DecidableEq, Repr

/-- The part right after reset: every host register at its reset value, BOOT about to run its first step, and no
command waiting (R457, R463). -/
def State.reset : State := {}

end Sys2Proof.Machine
end

