-- ==== Sys2Proof/Machine/Ops.lean ====
section
/-!
DEFINITION. The operations every family shares: the sparse map, the host registers and their fields, counters, free
values, timers, and what the node is (its role, its active cells). A register a rule says saturates goes through
`incSat`, one it says wraps through `incWrap`.
-/
namespace Sys2Proof.Machine

/-! ### Sparse maps -/

/-- What the map holds at `k`; an unlisted key reads as `d`. -/
def sparseGet {α : Type} (m : Sparse α) (d : α) (k : Nat) : α :=
  match m with
  | [] => d
  | (a, v) :: rest => if a = k then v else sparseGet rest d k

/-- The map without `k`. -/
def sparseErase {α : Type} (m : Sparse α) (k : Nat) : Sparse α := m.filter (fun p => p.1 != k)

/-- An entry put in its place among rising keys. -/
def sparsePlace {α : Type} (m : Sparse α) (k : Nat) (v : α) : Sparse α :=
  match m with
  | [] => [(k, v)]
  | (a, w) :: rest => if k < a then (k, v) :: (a, w) :: rest else (a, w) :: sparsePlace rest k v

/-- The map with an entry put at `k`, whatever it says; keys stay rising. -/
def keyPut {α : Type} (m : Sparse α) (k : Nat) (v : α) : Sparse α := sparsePlace (sparseErase m k) k v

/-- The map with `v` at `k`, in canonical form: an entry equal to what an unlisted `k` reads as is removed. -/
def sparseSet {α : Type} [DecidableEq α] (m : Sparse α) (d : α) (k : Nat) (v : α) : Sparse α :=
  if v = d then sparseErase m k else keyPut m k v

/-- A list with its element `i` replaced; places a shorter list lacks hold `d`, which is what a read of them gives. -/
def listPut {α : Type} (l : List α) (d : α) (i : Nat) (v : α) : List α := (l ++ List.replicate (i + 1 - l.length) d).set i v

/-- Keys strictly rising from `lo` on, and no entry that says what `d` says. -/
def sparseWfFrom {α : Type} [DecidableEq α] (d : Nat → α) (lo : Nat) : Sparse α → Bool
  | [] => true
  | (a, v) :: rest => decide (lo ≤ a) && !(decide (v = d a)) && sparseWfFrom d (a + 1) rest

/-- The canonical form of a sparse map whose unlisted keys read as `d` says. -/
def sparseWf {α : Type} [DecidableEq α] (d : Nat → α) (m : Sparse α) : Bool := sparseWfFrom d 0 m

/-! ### Bit fields -/

/-- The greatest value of a field. -/
def BitField.mask (f : BitField) : Half := BitVec.ofNat 16 (2 ^ (f.hi + 1 - f.lo) - 1)

/-- The value of a field in a register's contents. -/
def BitField.read (f : BitField) (w : Half) : Nat := ((w >>> f.lo) &&& f.mask).toNat

/-- A register's contents with a field replaced; bits of `v` beyond the field are lost. -/
def BitField.write (f : BitField) (w : Half) (v : Nat) : Half :=
  (w &&& ~~~(f.mask <<< f.lo)) ||| ((BitVec.ofNat 16 v &&& f.mask) <<< f.lo)

/-- Bit `i` of a word as a one-bit field. -/
def bitField (a i : Nat) : BitField := ⟨a, i, i⟩

/-! ### Host registers -/

/-- The value a register holds at reset (the "reset" of its heading; FACT0 to FACT3 show the key store). -/
def resetValue (a : Nat) : Half :=
  if 0x1890 ≤ a ∧ a ≤ 0x1893 then Config.factoryNumber.extractLsb' (16 * (a - 0x1890)) 16
  else BitVec.ofNat 16 (resetLookup resetRows a)

/-- The stored contents of a host register. -/
def State.reg (s : State) (a : Nat) : Half := sparseGet s.regs (resetValue a) a

/-- The node stores `v` in a host register, whatever its access code. -/
def State.setReg (s : State) (a : Nat) (v : Half) : State :=
  { s with regs := sparseSet s.regs (resetValue a) a v }

/-- The value of a field. -/
def State.fld (s : State) (f : BitField) : Nat := f.read (s.reg f.addr)

/-- The node gives a field a value. -/
def State.setFld (s : State) (f : BitField) (v : Nat) : State := s.setReg f.addr (f.write (s.reg f.addr) v)

/-- A one-bit field as a truth value. -/
def State.flag (s : State) (f : BitField) : Bool := s.fld f != 0

def State.setFlag (s : State) (f : BitField) (b : Bool) : State := s.setFld f b.toNat

/-- The whole register as a number. -/
def State.regN (s : State) (a : Nat) : Nat := (s.reg a).toNat

def State.setRegN (s : State) (a : Nat) (n : Nat) : State := s.setReg a (BitVec.ofNat 16 n)

/-- Two registers as one 32-bit number, low half first (R3). -/
def State.pair (s : State) (lo hi : Nat) : Nat := s.regN lo + 65536 * s.regN hi

def State.setPair (s : State) (lo hi : Nat) (n : Nat) : State :=
  (s.setRegN lo (n % 65536)).setRegN hi (n / 65536 % 65536)

/-- Three registers as one 48-bit number. -/
def State.triple (s : State) (a : Nat) : Nat := s.regN a + 65536 * s.regN (a + 1) + 4294967296 * s.regN (a + 2)

def State.setTriple (s : State) (a : Nat) (n : Nat) : State :=
  ((s.setRegN a (n % 65536)).setRegN (a + 1) (n / 65536 % 65536)).setRegN (a + 2) (n / 4294967296 % 65536)

/-- A counter register that stops at 0xFFFF. -/
def State.incSat (s : State) (a : Nat) : State :=
  if s.regN a = 65535 then s else s.setRegN a (s.regN a + 1)

/-- A counter register that wraps from 0xFFFF to 0. -/
def State.incWrap (s : State) (a : Nat) : State := s.setRegN a ((s.regN a + 1) % 65536)

/-- A two-register counter that wraps at 2^32. -/
def State.incPair (s : State) (lo hi : Nat) : State := s.setPair lo hi ((s.pair lo hi + 1) % 4294967296)

/-- A counter in a field that stops at `top`. -/
def State.incFld (s : State) (f : BitField) (top : Nat) : State :=
  if s.fld f < top then s.setFld f (s.fld f + 1) else s

/-- A signed 16-bit number as a register holds it. -/
def half (i : Int) : Half := BitVec.ofInt 16 i

/-- A signed result in `w` bits; where it falls outside them the spec states none, and it is free (log entry 135). -/
def State.fitFree (s : State) (w : Nat) (x : Int) : BitVec w × State :=
  if -(2 ^ (w - 1) : Nat) ≤ x ∧ x < (2 ^ (w - 1) : Nat) then (BitVec.ofInt w x, s)
  else (BitVec.ofNat w (Config.freeValue s.freeCtr).toNat, { s with freeCtr := s.freeCtr + 1 })

/-- The signed reading of a register. -/
def State.regI (s : State) (a : Nat) : Int := (s.reg a).toInt

/-- A number held to a range. -/
def clamp (lo hi x : Int) : Int := if x < lo then lo else if hi < x then hi else x

/-- Apply an update for each number of a list. -/
def State.forEach {α : Type} (s : State) (l : List α) (f : State → α → State) : State := l.foldl f s

/-- Apply an update if a condition holds. -/
def State.when (s : State) (c : Bool) (f : State → State) : State := if c then f s else s

/-! ### Free values, timers, what is sent -/

/-- The next free value, and the state that will give another one next time (log entry 3). -/
def State.draw (s : State) : BitVec 64 × State := (Config.freeValue s.freeCtr, { s with freeCtr := s.freeCtr + 1 })

/-- The next free value as a number below `n`. -/
def State.drawBelow (s : State) (n : Nat) : Nat × State := (s.draw.1.toNat % n, s.draw.2)

/-- Start or restart a timer. -/
def State.startTimer (s : State) (t : Timer) : State :=
  { s with timers := (t, s.now) :: s.timers.filter (fun p => p.1 != t) }

/-- Stop a timer. -/
def State.stopTimer (s : State) (t : Timer) : State := { s with timers := s.timers.filter (fun p => p.1 != t) }

/-- A timer is running. -/
def State.running (s : State) (t : Timer) : Bool := s.timers.any (fun p => p.1 == t)

/-- The node drives a frame on a port. -/
def State.send (s : State) (port : Nat) (bytes : List Byte) : State := { s with sent := s.sent ++ [{ port := port, bytes := bytes }] }

/-! ### Bytes -/

/-- A number as `n` bytes, lowest first (R3). -/
def leBytes : Nat → Nat → List Byte
  | 0, _ => []
  | n + 1, x => BitVec.ofNat 8 x :: leBytes n (x / 256)

/-- The number that bytes spell, lowest first (R3). -/
def fromLe : List Byte → Nat
  | [] => 0
  | b :: rest => b.toNat + 256 * fromLe rest

/-- `n` bytes of a list from an offset, zeros where it ends. -/
def slice (l : List Byte) (off n : Nat) : List Byte :=
  let t := (l.drop off).take n
  t ++ List.replicate (n - t.length) 0

/-- The number in `n` bytes at an offset. -/
def leAt (l : List Byte) (off n : Nat) : Nat := fromLe (slice l off n)

/-- A list with the bytes at an offset replaced. -/
def putAt (l : List Byte) (off : Nat) (bs : List Byte) : List Byte :=
  l.take off ++ bs ++ l.drop (off + bs.length)

/-- The six bytes that begin a record of the history store (R331). -/
def recordHead (len kind node : Nat) : List Byte := leBytes 2 len ++ leBytes 1 kind ++ [0] ++ leBytes 2 node

/-! ### What the node is -/

/-- ROLE in NODE_ROLE: 0 leaf, 1 hub, 2 root (R1, R19). -/
def State.role (s : State) : Nat := s.fld Fld.NODE_ROLE_ROLE

def State.isRoot (s : State) : Bool := s.role == 2
def State.isHub (s : State) : Bool := s.role == 1

/-- An event record for the root's preset SWEEP program to write: kind and content after the head (R331). -/
def State.noteEvent (s : State) (kind node : Nat) (content : List Byte) : State :=
  if s.isRoot then { s with toLog := s.toLog ++ [recordHead (6 + content.length) kind node ++ content] } else s

/-- A root with no node found on any ring. -/
def State.alone (s : State) : Bool := s.flag Fld.NODE_ROLE_ALONE

/-- The active cells, 0 or 8 to 24 (R17). -/
def State.cells (s : State) : Nat := s.fld Fld.CELL_MAP_ACTIVE_CELLS

def State.nodeNum (s : State) : Nat := s.fld Fld.NODE_NUM_NODE
def State.numbered (s : State) : Bool := s.flag Fld.NODE_NUM_NUMBERED

/-- The tree time in seconds (R166). -/
def State.treeTime (s : State) : Nat := s.pair Reg.TREE_TIME_LO Reg.TREE_TIME_HI

/-- The 48-bit timebase: cycle count and phase (R13, R156). -/
def Timebase.value (t : Timebase) : Nat := t.cycle.toNat * 65536 + t.acc.toNat / 4294967296

/-- The visible phase. -/
def Timebase.phase (t : Timebase) : Nat := t.acc.toNat / 4294967296

def Timebase.prevValue (t : Timebase) : Nat := t.prevCycle.toNat * 65536 + t.prevAcc.toNat / 4294967296
def Timebase.prevPhase (t : Timebase) : Nat := t.prevAcc.toNat / 4294967296

/-- Die temperature in 0.1 °C as TH_TJ shows it. -/
def State.tj (s : State) : Int := s.regI Reg.TH_TJ

/-- R24: the node's sweeps run. At a root and a node used alone SWEEP_EN says it; elsewhere a SWEEP_START of the last
1 s, whose lapse the command SWEEP_START_LAPSE tells. -/
def State.sweepsRun (s : State) : Bool :=
  if s.isRoot || s.alone then s.flag Fld.TREE_CTL_SWEEP_EN else s.running .sweepLapse

/-- The modes R24 lists. -/
def modeSweeps : Mode → Bool
  | .active | .balance | .spectrum | .calibrate | .service | .safe => true
  | _ => false

/-- R24: the node is in a mode with scheduled sweeps. -/
def State.scheduled (s : State) : Bool := modeSweeps s.mode && s.sweepsRun

/-- OFF, SHIP and WATCH. -/
def modeAsleep : Mode → Bool
  | .off | .ship | .watch => true
  | _ => false

end Sys2Proof.Machine
end

