-- ==== Sys2Proof/Machine/Flags.lean ====
section
/-!
DEFINITION. The flags the part raises: the fault summary (R492), the interrupt sources (R491), the engines' event
lines (R273), and the level flags that a tick sets again while their cause lasts.
-/
namespace Sys2Proof.Machine

/-- Set bits of a register. -/
def State.setBits (s : State) (a : Nat) (m : Half) : State := s.setReg a (s.reg a ||| m)

/-- Clear bits of a register. -/
def State.clearBits (s : State) (a : Nat) (m : Half) : State := s.setReg a (s.reg a &&& ~~~m)

/-- The word whose only set bit is `i`. -/
def bit16 (i : Nat) : Half := 1#16 <<< i

/-- Bit `m` of a map of monitors or endpoints that spans several registers. -/
def State.mapBit (s : State) (a m : Nat) : Bool := (s.reg (a + m / 16)).getLsbD (m % 16)

def State.setMapBit (s : State) (a m : Nat) (b : Bool) : State :=
  if b then s.setBits (a + m / 16) (bit16 (m % 16)) else s.clearBits (a + m / 16) (bit16 (m % 16))

/-! ### Interrupt sources (R491) -/

def irqFault : Nat := 0
def irqCmp : Nat := 1
def irqMon : Nat := 2
def irqThermal : Nat := 3
def irqRail : Nat := 4
def irqEngine : Nat := 5
def irqTxn : Nat := 6
def irqRemote : Nat := 7
def irqSelftest : Nat := 8
def irqCvu : Nat := 9
def irqSweep : Nat := 10
def irqResult : Nat := 11
def irqCal : Nat := 12
def irqAlley : Nat := 13
def irqStore : Nat := 14
def irqMode : Nat := 15

/-- Set an interrupt source's bit in IRQ_PEND. -/
def State.raiseIrq (s : State) (i : Nat) : State := s.setBits Reg.IRQ_PEND (bit16 i)

/-! ### Fault summary flags (R492) -/

def fltAcq : Nat := 0
def fltRef : Nat := 1
def fltWire : Nat := 2
def fltBal : Nat := 3
def fltOverrun : Nat := 4
def fltTree : Nat := 5
def fltEngine : Nat := 6
def fltRail : Nat := 7
def fltCal : Nat := 8
def fltThermal : Nat := 9
def fltStore : Nat := 10
def fltSelftest : Nat := 11
def fltSafe : Nat := 12

/-- Raise a flag of the fault summary. -/
def State.raiseFlt (s : State) (i : Nat) : State := s.setBits Reg.FLT_SUM (bit16 i)

/-! ### Engines and their event lines -/

def State.eng (s : State) : Engine → Eng
  | .sweep => s.engSweep
  | .node => s.engNode
  | .rail => s.engRail

def State.setEng (s : State) (e : Engine) (x : Eng) : State :=
  match e with
  | .sweep => { s with engSweep := x }
  | .node => { s with engNode := x }
  | .rail => { s with engRail := x }

/-- A line fires at one engine: its bit in the event latch sets, whatever the engine is doing (R273). -/
def State.fireAt (s : State) (e : Engine) (line : Nat) : State :=
  let x := s.eng e
  s.setEng e { x with latch := x.latch ||| (1#32 <<< line) }

/-- A line fires at every engine. -/
def State.fireAll (s : State) (line : Nat) : State := ((s.fireAt .sweep line).fireAt .node line).fireAt .rail line

def lineBoundary : Nat := 8
def linePublished : Nat := 9
def lineFrame : Nat := 10
def lineCallDone : Nat := 11
def lineRailMon : Nat := 12
def lineCellMon : Nat := 13
def lineThermal : Nat := 14
def lineMode : Nat := 15
def lineTxn : Nat := 24
def lineHalfWatchdog : Nat := 25

/-! ### Level flags -/

/-- CMP_FLAG follows the reported states: a monitor that is ABOVE or BELOW sets its bit in every tick (R191). -/
def settleMonitors (s : State) : State :=
  s.forEach [0, 1, 2] fun s i =>
    s.setBits (Reg.CMP_FLAG i) (s.reg (Reg.CMP_ABOVE i) ||| s.reg (Reg.CMP_BELOW i))

/-- A pin of the wire diagnostics is in HIGH_R, SUSPECT or OPEN: a state field of WD_PIN_STATE is not CLEAR. -/
def State.wirePinBad (s : State) : Bool :=
  [0, 1, 2, 3].any fun i => s.reg (Reg.WD_PIN_STATE i) != 0

/-- The causes of the level flags of FLT_SUM that hold now (R492). -/
def State.levelFlags (s : State) : Half :=
  let on (c : Bool) (i : Nat) : Half := if c then bit16 i else 0
  on s.acq.refFallback fltRef
  ||| on (s.flag Fld.WD_STATUS_SUM_FAIL || s.flag Fld.WD_STATUS_UNUSED_FAULT || s.wirePinBad) fltWire
  ||| on ([0, 1, 2, 3].any fun n => s.flag (Fld.BAL_GRP_LOCKED n)) fltBal
  ||| on (s.flag Fld.CAL_STATUS_FAIL) fltCal
  ||| on (s.flag Fld.TH_STATUS_SHUT || s.flag Fld.TH_STATUS_SENSOR_FAIL) fltThermal
  ||| on (s.flag Fld.HS_STATUS_POOL_EMPTY || decide (1 < s.fld Fld.HS_STATUS_PROBE)) fltStore
  ||| on (s.mode == .safe) fltSafe

/-- A point of the impedance unit during which the timebase is free-running is marked (R111). -/
def markFreerun (s : State) : State :=
  if s.imp.inPoint && (s.fld Fld.TB_STATUS_STATE == 0 || s.fld Fld.TB_STATUS_STATE == 3)
  then ({ s with imp := { s.imp with freerun := true } }).setFlag Fld.IMP_STATUS_FREERUN true else s

/-- The level flags of the fault summary (R492). -/
def showFaults (s : State) : State := s.setBits Reg.FLT_SUM s.levelFlags

/-- The two level interrupt sources (R491). -/
def showIrqs (s : State) : State :=
  (s.when (s.reg Reg.FLT_SUM != 0) fun s => s.raiseIrq irqFault).when (s.reg Reg.ENG_HOSTEVT != 0) fun s => s.raiseIrq irqEngine

/-- What every tick sets again while its cause lasts: CMP_FLAG, the level flags of the fault summary, and the two level
interrupt sources (R191, R491, R492). -/
def settle (s : State) : State := showIrqs (showFaults (markFreerun (settleMonitors s)))

/-- The answer of a command: the next state with the level flags of its tick. -/
def done (s : State) : Host.Outcome State Fault Refusal := .next (settle s)

end Sys2Proof.Machine
end

