-- ==== Sys2Proof/Machine/TimebaseOps.lean ====
section
/-!
DEFINITION. The phase timebase (spec/06): its value and increment, the crossing rule, the sources, the lock states,
steps and loads, the compare units, and the general pulse generators.
-/
namespace Sys2Proof.Machine

/-- STATE of TB_STATUS. -/
def tbFree : Nat := 0
def tbAcquire : Nat := 1
def tbLocked : Nat := 2
def tbHoldover : Nat := 3

def State.tbState (s : State) : Nat := s.fld Fld.TB_STATUS_STATE

/-- R154: the timebase is free-running in FREE and HOLDOVER. -/
def State.freeRunning (s : State) : Bool := s.tbState == tbFree || s.tbState == tbHoldover

/-- The nominal period of TB_NOM in 1/16 tick. -/
def State.tbNom (s : State) : Nat := s.pair Reg.TB_NOM_LO Reg.TB_NOM_HI

/-- R156: 2^52 divided by the period in 1/16 tick, to the nearest integer, halves up. -/
def tbIncrement (period : Nat) : Nat := (2 ^ 52 + period / 2) / period

/-- The whole 80-bit timebase: cycle count, phase, fraction and guard bits. -/
def Timebase.total (t : Timebase) : Nat := t.cycle.toNat * 2 ^ 48 + t.acc.toNat

/-- One tick: the increment, with a carry into the cycle count (R13, R156); the units may fire again. -/
def Timebase.tick (t : Timebase) : Timebase :=
  let n := t.total + tbIncrement t.period
  { t with
    prevAcc := t.acc, prevCycle := t.cycle,
    acc := BitVec.ofNat 48 n, cycle := BitVec.ofNat 32 (n / 2 ^ 48), done := 0 }

/-- R170 in PERIODIC mode: between the 48-bit values `prev` and `cur` the phase crosses `target`, modulo one cycle. A step
may take the value through a cycle and more (R173). -/
def crossesPhase (target prev cur : Nat) : Bool :=
  let d := (target + 65536 - prev % 65536) % 65536
  decide ((if d = 0 then 65536 else d) ≤ (cur + 2 ^ 48 - prev) % 2 ^ 48)

/-- R170 in ABS mode. -/
def crossesAbs (target prev cur : Nat) : Bool := decide (prev < target) && decide (target ≤ cur)

/-! ### Sources -/

/-- The source in effect (R151): 0 none, 1 PHASE_IN, 2 Milestones. -/
def State.tbSource (s : State) : Nat :=
  match s.tb.src with
  | 0 => if s.isRoot || s.alone || (s.isHub && s.tb.localDom) then 1 else 2
  | 1 => 1
  | 2 => 2
  | _ => 0

/-- EFF_SRC shows the source in effect, and none in FREE (DEDUCED: its reset value is none, log entry 20). -/
def showSource (s : State) : State :=
  s.setFld Fld.TB_STATUS_EFF_SRC (if s.tbState = tbFree then 0 else s.tbSource)

/-- Instants accumulation restarts (R44, R159). -/
def restartInstants (s : State) : State :=
  { s with acq := { s.acq with chans := s.acq.chans.map fun p => (p.1, { p.2 with sum := 0, windows := 0 }) } }

/-- Enter a lock state: the counts of R153 begin anew, in ACQUIRE the loop's integrator at the present period; MISSED is
cleared on entering LOCKED. -/
def tbEnter (s : State) (st : Nat) : State :=
  let s := s.setFld Fld.TB_STATUS_STATE st
  let s := { s with tb := { s.tb with okCount := 0, missCount := 0, acqCount := 0, goodIntervals := 0, rejected := [] } }
  let s := s.when (st == tbAcquire) fun s => { s with tb := { s.tb with integ := s.tb.period * 65536 } }
  showSource (s.when (st == tbLocked) fun s => s.setFld Fld.MS_STATUS_MISSED 0)

/-- Entry to FREE: the period is TB_NOM (R153). -/
def tbEnterFree (s : State) : State :=
  let s := tbEnter s tbFree
  { s with tb := { s.tb with period := s.tbNom } }

/-- SRC takes effect (R151). -/
def tbApplySource (s : State) : State :=
  let src := s.fld Fld.TB_CTL_SRC
  let was := s.tb.src
  let s := { s with tb := { s.tb with src := src } }
  if src = 3 ∧ was ≠ 3 then tbEnterFree s else showSource s

/-- LOCAL takes effect at a sweep boundary and where the node takes its role: a hub with SRC = AUTO or PHASE_IN heads its
own domain; it is ignored except at a hub (R167). -/
def tbApplyLocal (s : State) : State :=
  showSource { s with tb := { s.tb with localDom := s.isHub && s.flag Fld.MS_CTL_LOCAL && decide (s.tb.src < 2) } }

/-- The period estimated from intervals that agree: the spec gives no formula, so it is free among the values they span,
in 1/16 tick (R152, R153; log entry 21). -/
def tbEstimate (s : State) (lo hi : Nat) : State :=
  let (k, s) := s.drawBelow (hi - lo + 1)
  { s with tb := { s.tb with period := lo + k } }

/-- The period estimated from Milestones, free in the range R152 accepts, 1600 to 8,000,000 tick (R153; log entry 21). -/
def tbMilestonePeriod (s : State) : State := tbEstimate s 25600 128000000

/-- The proportional part of the loop of R155, in 2^-16 of 1/16 tick: with an error of a cycle it changes the period P by
2π P / (16 × 2^BW), which is a bandwidth of the cycle frequency divided by 16 × 2^BW; 2π is 6.283185307. -/
def loopProp (bw period : Nat) (e : Int) : Int := period * e * 6283185307 / (16 * 2 ^ bw * 1000000000)

/-- What an error adds to the integrator: a quarter of the square of the proportional gain, times the loop's damping;
4π² is 39.478417604. -/
def loopInt (bw period : Nat) (e : Int) : Int :=
  period * e * 39478417604 * (Config.loopDamping bw % 65536 + 1 : Nat) / (4 * 65536 * 256 * 4 ^ bw * 1000000000)

/-- The proportional-integral loop of R155 corrects the period by the error; the result is held in the range R152 accepts
(log entry 21). -/
def tbCorrect (s : State) (e : Int) : State :=
  let bw := s.fld Fld.TB_CTL_BW
  let sum := s.tb.integ + loopInt bw s.tb.period e
  let p := (sum + loopProp bw s.tb.period e + 32768) / 65536
  { s with tb := { s.tb with integ := sum, period := (clamp 25600 128000000 p).toNat } }

/-- ±PULL of R152 as a fraction of 1000. -/
def State.pull (s : State) : Nat :=
  match s.fld Fld.TB_CTL_PULL with
  | 0 => 5 | 1 => 20 | 2 => 100 | _ => 500

/-- `x` lies within ±PULL of `ref`. -/
def withinPull (pull ref x : Nat) : Bool :=
  decide (1000 * x ≤ (1000 + pull) * ref) && decide ((1000 - pull) * ref ≤ 1000 * x)

/-- Intervals, newest first, agree among themselves: each lies within ±PULL of every one before it (R152). -/
def intervalsAgree (pull : Nat) : List Nat → Bool
  | [] => true
  | n :: older => older.all (fun m => withinPull pull m n) && intervalsAgree pull older

/-- A phase difference as a signed number, −32,768 to 32,767. -/
def signedPhase (n : Nat) : Int := (BitVec.ofNat 16 n).toInt

/-- The phase error of R155 at a reference edge: phase minus PH_OFS. -/
def State.phaseError (s : State) : Int :=
  signedPhase (s.tb.phase + 65536 - s.regN Reg.TB_PH_OFS)

/-- TB_ERR, saturating at ±32,767. -/
def setTbErr (s : State) (e : Int) : State := s.setReg Reg.TB_ERR (half (clamp (-32767) 32767 e))

/-- A step: the phase moves forward to `target`, and the cycle count with it across the wrap (R159). The span belongs to
the present tick: a PERIODIC unit whose target lies in it crosses it, and one whose target was written in this tick is
compared from the next (R171, R173). -/
def tbStep (s : State) (target : Nat) : State :=
  let d := (target + 65536 - s.tb.phase) % 65536
  let n := s.tb.total + d * 2 ^ 32
  let s := { s with tb := { s.tb with acc := BitVec.ofNat 48 n, cycle := BitVec.ofNat 32 (n / 2 ^ 48) } }
  restartInstants (s.setFlag Fld.TB_STATUS_STEP true)

/-- The timebase crosses the target of a wait in this tick; the issue tick is none (R274, R303). -/
def State.crossed (s : State) (w : Wait) : Bool :=
  match w.kind with
  | .event => false
  | .phase => !w.done && crossesPhase w.target s.tb.prevValue s.tb.value
  | .timebase => !w.done && (w.late || crossesAbs w.target s.tb.prevValue s.tb.value)

/-- A load of the whole value: no PERIODIC unit fires, and an armed ABS unit at or below it fires in the next tick with
LATE, and so does a wait on the timebase; a target the timebase had crossed before the load stays met (R159, R173, R274,
R303). -/
def tbLoad (s : State) (v : Nat) : State :=
  let old := s
  let loadLatched (e : Engine) : Bool := ((old.eng e).wait.map old.crossed).getD false
  let late := (List.range 8).foldl (fun (m : BitVec 8) u =>
    if s.tb.armed.getLsbD u && decide ((sparseGet s.tb.target 0 u).toNat ≤ v) then m ||| (1#8 <<< u) else m) 0
  let acc := BitVec.ofNat 48 (v % 65536 * 2 ^ 32)
  let cyc := BitVec.ofNat 32 (v / 65536)
  let s := { s with tb := { s.tb with
    acc := acc, cycle := cyc, prevAcc := acc, prevCycle := cyc, late := s.tb.late ||| late, done := s.tb.done ||| late } }
  let s := s.forEach [.sweep, .node, .rail] fun s e =>
    let x := s.eng e
    match x.wait with
    | some w =>
      if w.latched then s
      else if loadLatched e then s.setEng e { x with wait := some { w with latched := true } }
      else if w.kind = .timebase ∧ w.target ≤ v then s.setEng e { x with wait := some { w with late := true, done := true } }
      else s
    | none => s
  restartInstants (s.setFlag Fld.TB_STATUS_LOAD true)

/-- The lock states at an accepted edge or Milestone with error `e` (R153); the loop corrects the period in ACQUIRE and
LOCKED (R155). -/
def tbJudge (s : State) (e : Int) : State :=
  let thr := s.regN Reg.TB_LOCK_THR
  let s := setTbErr s e
  let s := { s with tb := { s.tb with missCount := 0 } }
  if s.tbState = tbAcquire then
    let s := tbCorrect s e
    let ok := if e.natAbs ≤ thr then s.tb.okCount + 1 else 0
    let s := { s with tb := { s.tb with okCount := ok, acqCount := s.tb.acqCount + 1 } }
    if 16 ≤ ok then tbEnter s tbLocked else s
  else if s.tbState = tbLocked then
    let s := tbCorrect s e
    if 8 * thr < e.natAbs then tbEnter (s.setFlag Fld.TB_STATUS_LOCK_LOST true) tbAcquire else s
  else s

/-- MISS consecutive misses in LOCKED or ACQUIRE (R153). -/
def tbHoldoverDue (s : State) : Bool :=
  (s.tbState == tbLocked || s.tbState == tbAcquire) && decide (s.fld Fld.TB_CTL_MISS ≤ s.tb.missCount)

def tbEnterHoldover (s : State) : State := tbEnter (s.setFlag Fld.TB_STATUS_LOCK_LOST true) tbHoldover

/-- One expected edge or Milestone not received or not accepted (R153); Milestones count in MISSED. -/
def tbMiss (s : State) : State :=
  let s := { s with tb := { s.tb with missCount := s.tb.missCount + 1, okCount := 0 } }
  s.when (s.tbSource == 2) fun s => s.incFld Fld.MS_STATUS_MISSED 255

/-- The glitch filter and EDGE: an edge of the chosen polarity between levels of at least 4 ticks is taken (R152). -/
def State.edgeTaken (s : State) (falling : Bool) (before after : Nat) : Bool :=
  falling == s.flag Fld.TB_CTL_EDGE && decide (4 ≤ before) && decide (4 ≤ after)

/-- A taken edge of PHASE_IN (R152, R153, R155, R159). -/
def phaseInEdge (s : State) (interval : Option Nat) : State :=
  if s.tbSource ≠ 1 then s
  else
    match interval with
    | none => { s with tb := { s.tb with lastInterval := none } }
    | some n =>
      let locked := s.tbState = tbLocked
      let last := s.tb.lastInterval
      let inRange := decide (1600 ≤ n) && decide (n ≤ 8000000)
      let accepted :=
        if locked then withinPull s.pull s.tb.period (16 * n)
        else inRange && (match last with | some m => withinPull s.pull m n | none => false)
      let s := { s with tb := { s.tb with lastInterval := some n } }
      if !accepted then
        -- Outside LOCKED the first interval has no partner to agree with: in range, it is neither accepted nor rejected.
        if !locked && last.isNone && inRange then s
        else
          let s := tbMiss (s.setFlag Fld.TB_STATUS_REF_BAD true)
          if locked then
            let rej := (n :: s.tb.rejected).take 4
            let s := { s with tb := { s.tb with rejected := rej } }
            if rej.length = 4 ∧ intervalsAgree s.pull rej then
              tbEnter (tbEstimate s (16 * rej.foldl min n) (16 * rej.foldl max n)) tbAcquire
            else s
          else s
      else
        let s := { s with tb := { s.tb with rejected := [] } }
        if s.freeRunning then
          let k := s.tb.goodIntervals + 1
          let m := last.getD n
          if 2 ≤ k then tbEnter (tbEstimate s (16 * min m n) (16 * max m n)) tbAcquire
          else { s with tb := { s.tb with goodIntervals := k, missCount := 0 } }
        else
          let e := s.phaseError
          let s := if s.tbState = tbAcquire ∧ s.tb.acqCount = 1 ∧ s.regN Reg.TB_LOCK_THR < e.natAbs
            then tbStep s (s.regN Reg.TB_PH_OFS) else s
          tbJudge s e

/-- MS_LAT in ph at the present period, to the nearest, halves up (R162). -/
def State.msLatPh (s : State) : Nat :=
  (s.regN Reg.MS_LAT * 65536 + s.tb.period / 2) / s.tb.period

/-- The node's own timebase when a Milestone's mark arrives, `frac` sixteenths of a tick after the last tick (R162). -/
def State.tbStamp (s : State) (frac : Nat) : Nat :=
  (s.tb.total + frac * tbIncrement s.tb.period / 16) / 2 ^ 32

/-- The modulator clock is to fall on the instant of a Milestone's mark at its sender again: the ticks by which its edges
must move later, or earlier where that is nearer (R37; log entry 148). -/
def modRealign (s : State) (frac : Nat) : State :=
  let at16 : Int := 16 * s.acq.modClk.pos + frac - s.regN Reg.MS_LAT
  let d := (at16 + 8) / 16 % 32
  { s with acq := { s.acq with modClk := { s.acq.modClk with left := if d ≤ 16 then d else d - 32 } } }

/-- A tick of the modulator clock: its period is 32 ticks, and while it is being realigned one period in 64 is a tick
longer or shorter (R37). -/
def ModClock.tick (m : ModClock) : ModClock :=
  if m.pos + 1 < m.len then { m with pos := m.pos + 1 }
  else
    let since := min 64 (m.since + 1)
    if m.left = 0 ∨ since < 64 then { m with pos := 0, len := 32, since := since }
    else if 0 < m.left then { pos := 0, len := 33, left := m.left - 1, since := 0 }
    else { pos := 0, len := 31, left := m.left + 1, since := 0 }

/-- The phase error of a Milestone: the node's own timebase at the mark less the carried value corrected by MS_LAT
(R162). -/
def State.milestoneDiff (s : State) (frac carried : Nat) : Int :=
  (BitVec.ofNat 48 (s.tbStamp frac + 2 ^ 48 - (carried + s.msLatPh) % 2 ^ 48)).toInt

/-- A Milestone, SYNC or SWEEP_START, at a node that follows Milestones and has a valid MS_LAT: the modulator clock is
realigned, and the timebase loads the corrected value, steps, or corrects its period (R37, R153, R159, R162, R164). -/
def milestoneUse (s : State) (frac : Nat) (localFlag : Bool) (carried : Nat) : State :=
  let s := s.setFlag Fld.MS_STATUS_LOCAL_DOM localFlag
  if s.tbSource ≠ 2 ∨ !s.flag Fld.MS_STATUS_LAT_VALID then s
  else
    let s := modRealign s frac
    let diff := s.milestoneDiff frac carried
    let e := clamp (-32768) 32767 diff
    let far := decide (32768 ≤ diff.natAbs)
    let value := (carried + s.msLatPh) % 2 ^ 48
    if s.freeRunning then tbEnter (tbMilestonePeriod (s.when far fun s => tbLoad s value)) tbAcquire
    else
      let acquiring := s.tbState == tbAcquire
      let s :=
        if far || (acquiring && s.tb.acqCount == 0) then tbLoad s value
        else if acquiring && s.tb.acqCount == 1 && decide (s.regN Reg.TB_LOCK_THR < e.natAbs) then
          tbStep s (((s.tb.phase : Int) - e) % 65536).toNat
        else s
      tbJudge s e

/-- A SYNC Milestone (R162 to R164, R168): a hub that heads its own domain captures its offset from the root's timebase. -/
def milestoneReceive (s : State) (frac : Nat) (localFlag : Bool) (carried : Nat) : State :=
  let own := s.milestoneDiff frac carried
  let s := s.when (s.isHub && s.tb.localDom) fun s => s.setTriple (Reg.DOM_OFS 0) (own % 2 ^ 48).toNat
  milestoneUse s frac localFlag carried

/-- LAT_VALID falls as the ring re-forms: until a new MS_LAT is there, a member that follows Milestones holds over (R164,
R251). -/
def latInvalid (s : State) : State :=
  let s := s.setFlag Fld.MS_STATUS_LAT_VALID false
  if s.tbSource = 2 ∧ (s.tbState = tbLocked ∨ s.tbState = tbAcquire) then tbEnterHoldover s else s

/-! ### TB_NOM and tree time -/

/-- A write of TB_NOM_HI applies both halves if the value lies in its range; in FREE the period follows in the next
tick. -/
def writeTbNomHi (s : State) (hi : Half) : State :=
  let lo := sparseGet s.held (s.reg Reg.TB_NOM_LO) Reg.TB_NOM_LO
  let n := lo.toNat + 65536 * (hi.toNat % 2048)
  let s := { s with held := s.held.filter (·.1 != Reg.TB_NOM_LO) }
  if 25600 ≤ n ∧ n ≤ 128000000 then
    let s := s.setPair Reg.TB_NOM_LO Reg.TB_NOM_HI n
    if s.tbState = tbFree then { s with tb := { s.tb with period := n } } else s
  else s

/-- A write of TREE_TIME_HI at the root sets the count and restarts the second (R166). -/
def writeTreeTimeHi (s : State) (hi : Half) : State :=
  if s.isRoot then
    let lo := sparseGet s.held (s.reg Reg.TREE_TIME_LO) Reg.TREE_TIME_LO
    let s := { s with held := s.held.filter (·.1 != Reg.TREE_TIME_LO) }
    ((s.setReg Reg.TREE_TIME_LO lo).setReg Reg.TREE_TIME_HI hi).startTimer .treeSecond
  else s

/-- Tree time takes a value from a SWEEP_START and the second restarts (R166). -/
def adoptTreeTime (s : State) (tree : Nat) : State :=
  if s.isRoot then s else (s.setPair Reg.TREE_TIME_LO Reg.TREE_TIME_HI tree).startTimer .treeSecond

/-- A second ends (R166). -/
def treeSecond (s : State) : State :=
  (s.setPair Reg.TREE_TIME_LO Reg.TREE_TIME_HI ((s.treeTime + 1) % 2 ^ 32)).startTimer .treeSecond

/-! ### Compare units -/

def bit8 (u : Nat) : BitVec 8 := 1#8 <<< u

/-- The unit's evaluation for this tick is over: a target written now is compared from the next tick (R171). -/
def cmpHoldOff (s : State) (u : Nat) : State := { s with tb := { s.tb with done := s.tb.done ||| bit8 u } }

def cmpDisarm (s : State) (u : Nat) : State :=
  { s with tb := { s.tb with armed := s.tb.armed &&& ~~~bit8 u, late := s.tb.late &&& ~~~bit8 u } }

def State.cmpEn (s : State) (u : Nat) : Bool := s.flag (Fld.CMP_CTL_EN u)
def State.cmpAbs (s : State) (u : Nat) : Bool := s.flag (Fld.CMP_CTL_MODE u)

/-- The three words of a unit's target. -/
def State.cmpWords (s : State) (u : Nat) : Nat :=
  s.regN (Reg.CMP_T0 u) + 65536 * s.regN (Reg.CMP_T1 u) + 4294967296 * s.regN (Reg.CMP_T2 u)

/-- After a write of CMPu_0: in PERIODIC mode the new target counts from the tick after (R171). -/
def cmpTargetWritten (s : State) (u : Nat) : State :=
  if s.cmpEn u && !s.cmpAbs u then cmpHoldOff s u else s

/-- After a write of CMPu_2: an enabled ABS unit takes the three words and arms; at or below the present value it fires
in the next tick with LATE (R172). -/
def cmpArm (s : State) (u : Nat) : State :=
  if s.cmpEn u && s.cmpAbs u then
    let t := s.cmpWords u
    let late := if t ≤ s.tb.value then s.tb.late ||| bit8 u else s.tb.late &&& ~~~bit8 u
    cmpHoldOff { s with tb := { s.tb with
      armed := s.tb.armed ||| bit8 u, late := late, target := sparseSet s.tb.target 0 u (BitVec.ofNat 48 t) } } u
  else s

/-- After a write of CMPu_CTL: enabling, or a change to PERIODIC, counts as a write of the target; clearing EN or a
change of mode disarms (R171, R172). -/
def cmpCtlWritten (s : State) (u : Nat) (old : Half) : State :=
  let was := (Fld.CMP_CTL_EN u).read old
  let wasAbs := (Fld.CMP_CTL_MODE u).read old
  let en := s.fld (Fld.CMP_CTL_EN u)
  let abs := s.fld (Fld.CMP_CTL_MODE u)
  let s := if en = 0 ∨ abs = 0 ∨ was ≠ en ∨ wasAbs ≠ abs then cmpDisarm s u else s
  if en = 1 ∧ abs = 0 ∧ (was ≠ en ∨ wasAbs ≠ abs) then cmpHoldOff s u else s

/-- The unit fires in this tick (R170, R172, R173). -/
def State.cmpFires (s : State) (u : Nat) : Bool :=
  s.cmpEn u && !s.tb.done.getLsbD u &&
  (if s.cmpAbs u then
     s.tb.armed.getLsbD u &&
       (s.tb.late.getLsbD u || crossesAbs (sparseGet s.tb.target 0 u).toNat s.tb.prevValue s.tb.value)
   else crossesPhase (s.regN (Reg.CMP_T0 u)) s.tb.prevValue s.tb.value)

/-! ### General pulse generators -/

def State.gen (s : State) (n : Nat) : PulseGen := s.tb.gens.getD n {}

def State.setGen (s : State) (n : Nat) (g : PulseGen) : State :=
  { s with tb := { s.tb with gens := listPut s.tb.gens {} n g } }

/-- The fields of a generator's control word (PG*n*_CTL). -/
def genEn (w : Half) : Bool := w.getLsbD 0
def genTickDomain (w : Half) : Bool := w.getLsbD 1
def genTrig (w : Half) : Bool := w.getLsbD 5
def genPol (w : Half) : Bool := w.getLsbD 4
def genQw (w : Half) : Nat := (w.toNat / 4) % 4
def genRoute (w : Half) : Nat := (w.toNat / 256) % 8

/-- The quiet-window length Q of R45 in ticks: max(W × 0.4 µs, 16 µs) + 2 × G ticks, with W in modulator periods of 32
ticks and 16 µs = 1280 ticks. -/
def quietTicks (wcode guard : Nat) : Nat := max (16 * 2 ^ wcode * 32) 1280 + 2 * max guard 16

/-- Quiet windows are open: instants mode is in force (R45, R177). -/
def State.quietOn (s : State) : Bool := s.acq.mode == 1 && s.acq.powered

/-- The settings the quiet windows have now (R45). -/
def State.quietNow (s : State) : QuietSet :=
  { on := s.quietOn, wcode := s.acq.wcode, guard := s.acq.eff.guard.toNat % 256, instPh := s.acq.eff.instPh.toNat }

/-- QW_LEN and QW_ACTIVE show the quiet windows (R45). A change of them is for the windows that open at least 20 µs
later (R179). -/
def showQuiet (s : State) : State :=
  let q := s.quietNow
  let s := if q = s.acq.qw then s
    else { s with acq := { s.acq with qw := q, qwOld := s.acq.qw, qwFrom := s.now + 1600 } }
  let s := s.setRegN Reg.QW_LEN (if q.on then (quietTicks q.wcode q.guard + 31) / 32 else 0)
  s.setFlag Fld.PG_STATUS_QW_ACTIVE q.on

/-- The length of a quiet window in 1/16 tick. -/
def QuietSet.span (q : QuietSet) : Int := 16 * quietTicks q.wcode q.guard

/-- The opening of the first window that ends after `start` and opens at `lo` or later, in 1/16 tick from phase 0 of the
present cycle: the windows lie centred on INST_PH of every cycle (R45). -/
def QuietSet.opens (q : QuietSet) (period : Nat) (start lo : Int) : Int :=
  let p : Int := max 1 period
  let o : Int := (q.instPh * period / 65536 : Nat) - q.span / 2
  let k := (start - q.span - o) / p + 1
  let j := (lo - o + p - 1) / p
  o + max k j * p

/-- Where in the cycle the timebase stands, in 1/16 tick. -/
def State.sinceWrap (s : State) : Nat := s.tb.phase * s.tb.period / 65536

/-- A span of `len` from `start`, in 1/16 tick from phase 0 of the present cycle, meets a quiet window: the end of that
window. A window that opens before a change of the windows applies has the settings before it (R45, R177, R179). -/
def State.quietEnd (s : State) (start len : Int) : Option Int :=
  let p := s.tb.period
  let from' : Int := 16 * ((s.acq.qwFrom : Int) - s.now) + s.sinceWrap
  let old := s.acq.qwOld
  let new := s.acq.qw
  let a := old.opens p start (start - old.span - p)
  let b := new.opens p start from'
  if old.on && decide (a < from') && decide (a < start + max 1 len) then some (a + old.span)
  else if new.on && decide (b < start + max 1 len) then some (b + new.span)
  else none

/-- A span meets a quiet window. -/
def State.meetsQuiet (s : State) (start len : Int) : Bool := (s.quietEnd start len).isSome

/-- One edge: a position in 1/65536 of 1/16 tick is placed on a tick and its remainder carried (R175). -/
def placeEdge (pos : Int) (rem : Nat) : Int × Nat := ((pos + rem) / 1048576, ((pos + rem) % 1048576).toNat)

/-- How far the timebase stands past phase 0 of its cycle, in 1/65536 of 1/16 tick. -/
def State.sinceWrapFine (s : State) : Int := s.tb.acc.toNat * s.tb.period / 4294967296

/-- The generator gives its pulse for this cycle, period or trigger: RISE and FALL are in ph (PHASE domain) or in 1/16
tick (TICK domain and one-shots); a pulse with FALL below RISE spans the wrap in the PHASE domain, RISE = FALL gives
none, and in the TICK domain an edge beyond the period stands at its end (R175, R178, R180). In the PHASE domain
positions count from phase 0, which lay a fraction before the present tick's end. -/
def genPlace (s : State) (n : Nat) (g : PulseGen) (oneShot : Bool) : State :=
  let phaseDom := !genTickDomain g.ctl && !oneShot
  let p := s.tb.period
  let rise := g.rise.toNat
  let fall := if phaseDom && decide (g.fall.toNat < rise) then g.fall.toNat + 65536 else g.fall.toNat
  if phaseDom && rise == fall then s.setGen n { g with pulse := none }
  else
    let unit : Int := if phaseDom then p else 65536
    let base : Int := if phaseDom then -s.sinceWrapFine else 0
    let (r, rr) := placeEdge (rise * unit + base) g.riseRem
    let (f, fr) := placeEdge (fall * unit + base) g.fallRem
    let top : Int := if genTickDomain g.ctl && !oneShot then g.per.toNat else max r f
    let r := min r top
    let f := min f top
    let g := { g with riseRem := rr, fallRem := fr }
    match s.quietEnd (s.sinceWrap + 16 * r) (16 * (f - r)) with
    | some e =>
      if genQw g.ctl == 1 then
        -- HOLD: the pulse is held off and counted (R177)
        (s.incPair Reg.PG_OMIT_LO Reg.PG_OMIT_HI).setGen n { g with pulse := none }
      else if genQw g.ctl == 2 then
        let d := (e - (s.sinceWrap + 16 * r) + 15) / 16
        s.setGen n { g with pulse := some (s.now + r + d, s.now + f + d) }
      else s.setGen n { g with pulse := some (s.now + r, s.now + f) }
    | none => s.setGen n { g with pulse := some (s.now + r, s.now + f) }

/-- The routes of the enabled general generators, lowest first; two on one output conflict (R181). -/
def State.routeConflict (s : State) : Bool :=
  let on := (List.range 4).filter fun n => genEn (s.gen n).ctl && genRoute (s.gen n).ctl != 0
  on.any fun a => on.any fun b => a != b && genRoute (s.gen a).ctl == genRoute (s.gen b).ctl

/-- The generator that drives an output: the lowest-numbered one routed to it (R181). One with EN = 0 counts as routed to
none: it neither drives an output nor conflicts over one (DESIGN CHOICE, log entry 172). -/
def State.routeDriver (s : State) (route : Nat) : Option Nat :=
  (List.range 4).find? fun n => genEn (s.gen n).ctl && genRoute (s.gen n).ctl == route

/-- The output of a general generator: high from its rising edge up to its falling edge, inverted with POL = 1 before it
is routed (R174, R180). -/
def State.genOut (s : State) (n : Nat) : Bool :=
  let g := s.gen n
  let high (p : Option (Int × Int)) : Bool := match p with
    | some (r, f) => decide (r ≤ s.now) && decide ((s.now : Int) < f)
    | none => false
  genEn g.ctl && ((high g.pulse || g.tail.any fun p => high (some p)) != genPol g.ctl)

/-- The level general generators give an output: 1 SYNC_OUT, 2 FAULT_N, 3 and 4 the dither of MRG0 and MRG1 (R181). -/
def State.routeLevel (s : State) (route : Nat) : Bool :=
  match s.routeDriver route with
  | some n => s.genOut n
  | none => false

/-- The pulses of a generator that have not ended yet (R178, R180). -/
def State.genPulses (s : State) (g : PulseGen) : List (Int × Int) :=
  (g.pulse.toList ++ g.tail).filter fun p => decide ((s.now : Int) < p.2)

/-- At the start of its cycle or period a generator takes its registers (R180) and, unless it waits for a trigger,
gives its pulse. Those before run on to their falling edges. -/
def genCycleStart (s : State) (n : Nat) : State :=
  let g := s.gen n
  let g := { g with
    ctl := s.reg (Reg.PG_CTL n), rise := s.reg (Reg.PG_RISE n), fall := s.reg (Reg.PG_FALL n),
    per := s.reg (Reg.PG_PER n), tail := s.genPulses g, pulse := none }
  let s := s.setGen n g
  let s := if genEn g.ctl && !genTrig g.ctl then genPlace s n g false else s
  s.setFlag Fld.PG_STATUS_ROUTE_CONFLICT s.routeConflict

/-- A compare unit starts a one-shot on its generator (R180). -/
def genTrigger (s : State) (n : Nat) : State :=
  let g := s.gen n
  if genEn g.ctl && genTrig g.ctl then genPlace s n { g with tail := s.genPulses g, pulse := none } true else s

/-- What a compare unit's firing does (R170, R172, R173). -/
def cmpFire (s : State) (u : Nat) : State :=
  let wasLate := s.cmpAbs u && s.tb.late.getLsbD u
  let s := if (s.reg Reg.CMP_FLAGS).getLsbD u then s.setBits Reg.CMP_OVR (bit16 u) else s
  let s := s.setBits Reg.CMP_FLAGS (bit16 u)
  let s := if wasLate then s.setBits Reg.CMP_FLAGS (bit16 (8 + u)) else s
  let s := s.when (s.flag (Fld.CMP_CTL_IRQ u)) fun s => s.raiseIrq irqCmp
  let s := s.when (s.flag (Fld.CMP_CTL_EVT u)) fun s => s.fireAll u
  let s := s.when (s.flag (Fld.CMP_CTL_PGT_EN u)) fun s => genTrigger s (s.fld (Fld.CMP_CTL_PGT u))
  let s := cmpHoldOff s u
  if s.cmpAbs u then cmpDisarm s u else s

end Sys2Proof.Machine
end

