-- ==== Sys2Proof/Machine/AlleyOps.lean ====
section
/-!
DEFINITION. The Alley tag wire (spec/18): requests and exchanges, slots as their low times tell them, the search, the
tag list, polls and pages.
-/
namespace Sys2Proof.Machine

/-! ### Slots (R442, R443, R445) -/

/-- The bit a low time tells, in ticks: 3.0 to 6.0 µs is a 1, 16.0 to 22.0 µs a 0; anything else is a timing error
(R443). -/
def slotBit (low : Nat) : Option Bool :=
  if 240 ≤ low ∧ low ≤ 480 then some true else if 1280 ≤ low ∧ low ≤ 1760 then some false else none

/-- A read slot; a list that ends is a slot still low at 22 µs. -/
def readSlot : List Nat → Option (Bool × List Nat)
  | [] => none
  | t :: rest => (slotBit t).map fun b => (b, rest)

/-- A write slot is correct if its low time tells the bit written. -/
def writeSlot (b : Bool) (l : List Nat) : Option (List Nat) :=
  match readSlot l with
  | some (x, rest) => if x = b then some rest else none
  | none => none

/-- Write slots for the low `n` bits of a number, most significant first. -/
def writeBits (x : Nat) : Nat → List Nat → Option (List Nat)
  | 0, l => some l
  | n + 1, l => (writeSlot (x.testBit n) l).bind (writeBits x n)

/-- `n` read slots as a number, most significant bit first. -/
def readBits : Nat → List Nat → Option (Nat × List Nat)
  | 0, l => some (0, l)
  | n + 1, l => (readSlot l).bind fun (b, rest) => (readBits n rest).map fun (x, rest) => (b.toNat * 2 ^ n + x, rest)

/-- `n` bytes in the order sent. -/
def readBytes : Nat → List Nat → Option (List Byte × List Nat)
  | 0, l => some ([], l)
  | n + 1, l => (readBits 8 l).bind fun (b, rest) => (readBytes n rest).map fun (bs, rest) => (BitVec.ofNat 8 b :: bs, rest)

/-- The command bytes of R445. -/
def alyByteFind : Nat := 0xE1
def alyByteName : Nat := 0xD2
def alyByteAll : Nat := 0xC3
def alyByteIdent : Nat := 0xB4
def alyByteMeasure : Nat := 0x87
def alyByteFetch : Nat := 0x96
def alyBytePage : Nat := 0x78

/-! ### IDs and the list (R446, R450) -/

def alyFamily (id : BitVec 64) : Nat := id.toNat / 2 ^ 56

/-- The seven bytes of the factory number, most significant first. -/
def alyNumberBytes (id : BitVec 64) : List Byte := (List.range 7).map fun i => id.extractLsb' (56 - 8 * i) 8

def alyCheck (bs : List Byte) : Byte := crc8Run 0 bs

/-- The check byte of an ID matches its factory number. -/
def alyIdGood (id : BitVec 64) : Bool := alyCheck (alyNumberBytes id) == id.setWidth 8

/-- Nine bytes read: the check byte over the eight before it matches. -/
def alyDataGood (bs : List Byte) : Bool := alyCheck (bs.take 8) == bs.getD 8 0

def setAly (s : State) (x : Alley) : State := { s with aly := x }

def State.alyTag (s : State) (i : Nat) : Option AlyTag := sparseGet s.aly.list none i

def State.alyTags (s : State) : List Nat := (List.range 32).filter fun i => (s.alyTag i).isSome

/-- The registers that mirror the list: ALY_NTAG and ALY_TV. -/
def showAlley (s : State) : State :=
  (s.forEach (List.range 32) fun s i =>
    s.setReg (Reg.ALY_TV i) (((s.alyTag i).bind (·.val0)).getD 0x8000)).setRegN Reg.ALY_NTAG s.alyTags.length

def setAlyTag (s : State) (i : Nat) (t : Option AlyTag) : State :=
  setAly s { s.aly with list := sparseSet s.aly.list none i t }

/-- An addition or removal (R450). -/
def alyChanged (s : State) : State := ((s.incWrap Reg.ALY_GEN).setFlag Fld.ALY_STATUS_CHANGED true).raiseIrq irqAlley

def State.alyIndexOf (s : State) (id : BitVec 64) : Option Nat :=
  (List.range 32).find? fun i => (s.alyTag i).any fun t => t.id == id

/-- A found ID takes the lowest free index. -/
def alyAdd (s : State) (id : BitVec 64) : State :=
  match s.alyIndexOf id with
  | some _ => s
  | none =>
    match (List.range 32).find? fun i => (s.alyTag i).isNone with
    | some i => setAlyTag s i (some { id := id })
    | none => s

/-- The list after a scan that found `found` (R450). Removed entries are free for the IDs added; one update counts one
change of ALY_GEN (DEDUCED). -/
def alyUpdate (s : State) (found : List (BitVec 64)) (incomplete : Bool) : State :=
  let old := s.aly.list
  let s := if incomplete then s
    else s.forEach (List.range 32) fun s i =>
      if (s.alyTag i).any fun t => !found.contains t.id then setAlyTag s i none else s
  let s := s.forEach found alyAdd
  showAlley (if s.aly.list = old then s else alyChanged s)

/-! ### Requests and exchanges (R440, R452) -/

def alyScan (s : State) : State := setAly s { s.aly with reqScan := true }
def alyPoll (s : State) : State := setAly s { s.aly with reqPoll := true }

/-- A PAGE request; a tag that is not an identity tag fails it at once. A request that waits keeps its tag and page. -/
def alyPage (s : State) (tag page : Nat) : State :=
  if (s.alyTag tag).any fun t => alyFamily t.id == 0xA3 then
    setAly s { s.aly with reqPage := some (s.aly.reqPage.getD (tag, page)) }
  else s.setFlag Fld.ALY_STATUS_PAGE_ERR true

/-- A write of ALY_CMD. -/
def alyCommand (s : State) (v : Half) : State :=
  let s := s.when (v.getLsbD 0) alyScan
  let s := s.when (v.getLsbD 1) alyPoll
  s.when (v.getLsbD 2) fun s => alyPage s (v.toNat / 2048) (v.toNat / 256 % 8)

/-- R440, R462: the Alley may open a slot; BOOT's own step runs the first scan. -/
def State.alyRuns (s : State) : Bool :=
  !modeAsleep s.mode && (s.mode != .boot || s.bt.step == 14) && !s.flag Fld.MODE_STATUS_VDDIO_SAG

/-- With QW = 1 nothing opens on the Alley whose span, in µs, would meet a quiet window (R444). -/
def State.alyQuiet (s : State) (span : Nat) : Bool := s.flag Fld.ALY_CTL_QW && s.meetsQuiet s.sinceWrap (1280 * span)

/-- A slot of 40 µs may open now (R442, R444). The first slot of a command waits for the window's end; those behind it do too,
which no tag notices. -/
def State.alyOpens (s : State) : Bool := s.alyRuns && !s.alyQuiet 40

def State.alyOp (s : State) : Nat := s.fld Fld.ALY_STATUS_OP

def alyStage (s : State) (g : AlyStage) : State := setAly s { s.aly with stage := g }

/-- The exchange in progress is over. -/
def alyEnd (s : State) : State :=
  (alyStage s .idle).setFld Fld.ALY_STATUS_OP 0 |>.setFlag Fld.ALY_STATUS_BUSY false

def alyBegin (s : State) (op : Nat) : State :=
  (alyStage s .hail).setFld Fld.ALY_STATUS_OP op |>.setFlag Fld.ALY_STATUS_BUSY true

/-- The node goes to OFF, SHIP or WATCH: the exchange is cut; the list stays (R440). -/
def alyAsleep (s : State) : State :=
  let s := setAly (alyEnd s) { s.aly with reqScan := false, reqPage := none, reqPoll := false }
  alyStage s .idle

/-- The next request of R452, in the order SCAN, PAGE, POLL. -/
def alyStart (s : State) : State :=
  if !s.alyRuns || !s.flag Fld.ALY_CTL_EN || s.aly.stage != .idle then s
  else if s.aly.reqScan then
    alyBegin (setAly s { s.aly with reqScan := false, last := none, path := 0, passFails := 0, scanFails := 0, found := [] }) 1
  else match s.aly.reqPage with
    | some p => alyBegin (setAly s { s.aly with reqPage := none, page := p }) 3
    | none =>
      if s.aly.reqPoll then alyBegin (setAly s { s.aly with reqPoll := false, tag := none, retry := false }) 2 else s

/-- A timing error is counted (R443); a check error is counted (R446). -/
def alyTimingError (s : State) : State := (s.incSat Reg.ALY_TERR_N).setFlag Fld.ALY_STATUS_TERR true
def alyCheckError (s : State) : State := (s.incSat Reg.ALY_CRC_N).setFlag Fld.ALY_STATUS_CRC true

/-- A scan ends and the list is updated (R449, R450). -/
def alyScanEnd (s : State) (incomplete : Bool) : State :=
  alyEnd (alyUpdate (s.setFlag Fld.ALY_STATUS_INCOMPLETE incomplete) s.aly.found incomplete)

/-- A page exchange fails. -/
def alyPageFailed (s : State) : State := (alyEnd s).setFlag Fld.ALY_STATUS_PAGE_ERR true

/-- The hail of R441, of 360 µs: `low` at 70 µs, `high` at the check. -/
def alyHailed (s : State) (low high : Bool) : State :=
  if !s.alyRuns || s.alyQuiet 360 || s.aly.stage != .hail then s
  else
    let s := s.setFlag Fld.ALY_STATUS_PRESENT low
    if !high then
      let s := s.setFlag Fld.ALY_STATUS_STUCK true
      if s.alyOp = 3 then alyPageFailed s else alyEnd s
    else if s.alyOp = 1 ∧ !low then alyScanEnd s false
    else alyStage s .hailed

/-! ### Search (R448, R449, R453) -/

/-- How the steps of a pass end: the tag that remains sends its check byte, no tag remains, or a timing error; with the
path, the last fork taken to 0, and the slots left. -/
inductive FindEnd where
  | remains | noTag | timing
  deriving DecidableEq, Repr

/-- A path with bit `i` replaced. -/
def pathPut (path : BitVec 64) (i : Nat) (d : Bool) : BitVec 64 :=
  if d then path ||| (1#64 <<< i) else path &&& ~~~(1#64 <<< i)

/-- The steps of a pass from bit `n` + 7 down to bit 8. -/
def findSteps (last : Option Nat) : Nat → BitVec 64 → Option Nat → List Nat → FindEnd × BitVec 64 × Option Nat × List Nat
  | 0, path, fork, l => (.remains, path, fork, l)
  | n + 1, path, fork, l =>
    let i := n + 8
    match readBits 2 l with
    | none => (.timing, path, fork, l)
    | some (3, l) => (.noTag, path, fork, l)
    | some (1, l) => findSteps last n (pathPut path i true) fork l
    | some (2, l) => findSteps last n (pathPut path i false) fork l
    | some (_, l) =>
      let above := last.any fun k => decide (k < i)
      let d := if above then path.getLsbD i else last == some i
      let fork := if above || last == some i then fork else some i
      match writeSlot d l with
      | none => (.timing, path, fork, l)
      | some l => findSteps last n (pathPut path i d) fork l

/-- A pass failed: its branch is restarted, after two failures the scan, and after three of the scan it ends. -/
def alyPassFailed (s : State) : State :=
  let s := s.incSat Reg.ALY_RESTARTS
  if s.aly.passFails + 1 < 2 then alyStage (setAly s { s.aly with passFails := s.aly.passFails + 1 }) .hail
  else
    let s := setAly s { s.aly with passFails := 0, last := none, scanFails := s.aly.scanFails + 1 }
    if s.aly.scanFails = 3 then alyScanEnd s true else alyStage s .hail

/-- A pass found an ID. -/
def alyPassFound (s : State) (id : BitVec 64) (fork : Option Nat) : State :=
  let found := if s.aly.found.contains id then s.aly.found else s.aly.found ++ [id]
  let s := setAly s { s.aly with found := found, last := fork, path := id, passFails := 0 }
  if fork.isNone then alyScanEnd s false else alyStage s .hail

/-- FIND: one pass of the search. -/
def alyFindPass (s : State) (slots : List Nat) : State :=
  if !s.alyOpens || s.alyOp != 1 || s.flag Fld.ALY_CTL_PTP || s.aly.stage != .hailed then s
  else
    match writeBits alyByteFind 8 slots with
    | none => alyPassFailed (alyTimingError s)
    | some l =>
      let (e, path, fork, l) := findSteps s.aly.last 56 s.aly.path none l
      let s := setAly s { s.aly with path := path }
      match e with
      | .timing => alyPassFailed (alyTimingError s)
      | .noTag => alyPassFailed s
      | .remains =>
        match readBits 8 l with
        | none => alyPassFailed (alyTimingError s)
        | some (c, _) =>
          let id := (path &&& ~~~255#64) ||| BitVec.ofNat 64 c
          if alyIdGood id then alyPassFound s id fork else alyPassFailed (alyCheckError s)

/-- IDENT: the scan of point-to-point mode. -/
def alyIdentRead (s : State) (slots : List Nat) : State :=
  if !s.alyOpens || s.alyOp != 1 || !s.flag Fld.ALY_CTL_PTP || s.aly.stage != .hailed then s
  else
    match (writeBits alyByteIdent 8 slots).bind (readBits 64) with
    | none => alyEnd (alyTimingError s)
    | some (x, _) =>
      let id := BitVec.ofNat 64 x
      if alyIdGood id then alyScanEnd (setAly (s.setFlag Fld.ALY_STATUS_MULTI false) { s.aly with found := [id] }) false
      else alyEnd ((alyCheckError s).setFlag Fld.ALY_STATUS_MULTI true)

/-! ### Polls and pages (R451, R445) -/

/-- The listed tag at or after an index. -/
def State.alyNext (s : State) (i : Nat) : Option Nat := s.alyTags.find? fun k => decide (i ≤ k)

/-- The poll goes on with the tag at or after an index, or ends. -/
def alyPollFrom (s : State) (i : Nat) : State :=
  match s.alyNext i with
  | some k => alyStage (setAly s { s.aly with tag := some k, retry := false }) .hail
  | none => alyEnd s

/-- A tag's read failed: it is repeated once; a second failure is a miss, and MISS_MAX misses in a row remove the tag. -/
def alyReadFailed (s : State) (i : Nat) : State :=
  if !s.aly.retry then alyStage (setAly s { s.aly with retry := true }) .hail
  else match s.alyTag i with
    | none => alyPollFrom s (i + 1)
    | some t =>
      let m := min 15 (t.misses + 1)
      if s.fld Fld.ALY_CTL_MISS_MAX ≤ m then
        alyPollFrom (alyScan (showAlley (alyChanged (setAlyTag s i none)))) (i + 1)
      else alyPollFrom (setAlyTag s i (some { t with misses := m, fresh := false })) (i + 1)

/-- What FETCH gives by family (R447). -/
def alyValues (family : Nat) (bs : List Byte) : Option Half × Option Half :=
  let at2 (i : Nat) : Half := BitVec.ofNat 16 ((bs.getD i 0).toNat * 256 + (bs.getD (i + 1) 0).toNat)
  (if family = 0xA1 ∨ family = 0xA2 then some (at2 0) else none, if family = 0xA2 then some (at2 2) else none)

/-- A slot error while tags are addressed or measure: a tag's read fails, a page fails, a poll's measuring ends it. -/
def alySlotFailed (s : State) : State :=
  let s := alyTimingError s
  if s.alyOp = 3 then alyPageFailed s
  else match s.aly.tag with
    | some i => alyReadFailed s i
    | none => alyEnd s

/-- The tag an exchange addresses with NAME. -/
def State.alyTarget (s : State) : Option Nat :=
  if s.alyOp = 3 then some s.aly.page.1 else if s.alyOp = 2 then s.aly.tag else none

/-- NAME with the ID of the target, outside point-to-point mode. A target that left the list fails. -/
def alyNameTag (s : State) (slots : List Nat) : State :=
  if !s.alyOpens || s.flag Fld.ALY_CTL_PTP || s.aly.stage != .hailed then s
  else match s.alyTarget with
    | none => s
    | some i =>
      match s.alyTag i with
      | none => if s.alyOp = 3 then alyPageFailed s else alyPollFrom s (i + 1)
      | some t =>
        match (writeBits alyByteName 8 slots).bind (writeBits t.id.toNat 64) with
        | none => alySlotFailed s
        | some _ => alyStage s .addressed

/-- ALL: before MEASURE, and in point-to-point mode in place of NAME. -/
def alyAllTags (s : State) (slots : List Nat) : State :=
  if !s.alyOpens || s.aly.stage != .hailed || s.alyOp == 1 || (s.alyTarget.isSome && !s.flag Fld.ALY_CTL_PTP) then s
  else match writeBits alyByteAll 8 slots with
    | none => alySlotFailed s
    | some _ => alyStage s .addressed

/-- MEASURE: the strong pull-up closes. -/
def alyMeasureTags (s : State) (slots : List Nat) : State :=
  if !s.alyOpens || s.alyOp != 2 || s.aly.tag.isSome || s.aly.stage != .addressed then s
  else match writeBits alyByteMeasure 8 slots with
    | none => alySlotFailed s
    | some _ => alyStage s .converting

/-- The conversion time ends and the strong pull-up opens. -/
def alyConverted (s : State) : State := if s.aly.stage != .converting then s else alyPollFrom s 0

/-- FETCH of the addressed tag. -/
def alyFetchTag (s : State) (slots : List Nat) : State :=
  if !s.alyOpens || s.alyOp != 2 || s.aly.stage != .addressed then s
  else match s.aly.tag with
    | none => s
    | some i =>
      match (writeBits alyByteFetch 8 slots).bind (readBytes 9) with
      | none => alySlotFailed s
      | some (bs, _) =>
        if !alyDataGood bs then alyReadFailed (alyCheckError s) i
        else match s.alyTag i with
          | none => alyPollFrom s (i + 1)
          | some t =>
            let (v0, v1) := alyValues (alyFamily t.id) bs
            alyPollFrom (showAlley (setAlyTag s i (some { t with val0 := v0, val1 := v1, misses := 0, fresh := true }))) (i + 1)

/-- PAGE of the addressed identity tag: the bytes go to ALY_PAGE0 to ALY_PAGE3, two to a word. -/
def alyPageRead (s : State) (slots : List Nat) : State :=
  if !s.alyOpens || s.alyOp != 3 || s.aly.stage != .addressed then s
  else match ((writeBits alyBytePage 8 slots).bind (writeBits s.aly.page.2 8)).bind (readBytes 9) with
    | none => alySlotFailed s
    | some (bs, _) =>
      if !alyDataGood bs then alyPageFailed (alyCheckError s)
      else
        let s := s.forEach [0, 1, 2, 3] fun s m => s.setRegN (Reg.ALY_PAGE m) (leAt bs (2 * m) 2)
        (alyEnd s).setFlag Fld.ALY_STATUS_PAGE_DONE true

/-- The POLL and RESCAN periods restart when ALY_TIME is written or AUTO requests (R452). -/
def alyPeriod (s : State) (t : Timer) (field : BitField) (f : State → State) : State :=
  if s.flag Fld.ALY_CTL_AUTO && s.fld field != 0 then f (s.startTimer t) else s

end Sys2Proof.Machine
end

