-- ==== Sys2Proof/Machine/AcqOps.lean ====
section
/-!
DEFINITION. The acquisition front end (spec/02): channels and ranges, settings and restarts, the latch of a set, the
secondary rotations with their checks, and conversions on request. Readings come with the commands; rounding of a
mean the spec does not fix is free between the two nearest values (log entry 22).
-/
namespace Sys2Proof.Machine

/-- Division to one of the two nearest integers: which one is free where the quotient is not exact (log entry 22). -/
def State.divFree (s : State) (a : Int) (b : Int) : Int × State :=
  if a % b = 0 then (a / b, s)
  else
    let (k, s) := s.drawBelow 2
    (a / b + (k : Int), s)

/-! ### Endpoints (R25) -/

def epIsCell (e : Nat) : Bool := decide (e < 24)
def epIsAux (e : Nat) : Bool := decide (24 ≤ e) && decide (e < 30)

/-- The endpoints of the 26 simultaneous channels (R36). -/
def simEps : List Nat := List.range 24 ++ [30, 31]

/-- The endpoints SAR A and SAR B serve, in rotation order (R54). -/
def sarEps (b : Bool) : List Nat :=
  if b then [12, 13, 14, 15, 16, 17, 18, 19, 20, 21, 22, 23, 27, 28, 29, 30]
  else [0, 1, 2, 3, 4, 5, 6, 7, 8, 9, 10, 11, 24, 25, 26, 31]

/-- The measuring range of an endpoint in µV (the table of "Channels and ranges"); `volt`: the VOLT range. -/
def epRange (e : Nat) (volt : Bool) : Int × Int :=
  if e < 24 then (-500000, 5200000)
  else if e < 30 then (-200000, 5000000)
  else if e = 30 then (if volt then (-5000000, 5000000) else (-160000, 160000))
  else (0, 4300000)

/-- DIFF_RANGE in force: VOLT. -/
def State.diffVolt (s : State) : Bool := s.acq.eff.ctl.getLsbD 6

/-- A reading held to its range, and whether it lay outside (R33). -/
def State.clampEp (s : State) (e : Nat) (x : Int) : Int × Bool :=
  let (lo, hi) := epRange e s.diffVolt
  (clamp lo hi x, decide (x < lo) || decide (hi < x))

/-- A channel declared unused: a cell above the active count, or an AUX input not enabled (R26, R50). -/
def State.epUnused (s : State) (e : Nat) : Bool :=
  (epIsCell e && decide (s.cells ≤ e)) || (epIsAux e && !s.acq.eff.auxEn.getLsbD (e - 24))

/-- Endpoints that failed self-test (R412), in ST_FAULT. -/
def State.epFault (s : State) (e : Nat) : Bool := s.mapBit Reg.ST_FAULT_LO e

/-! ### Pin states of the wire diagnostics (R75, R85) -/

def pinClear : Nat := 0
def pinSuspect : Nat := 1
def pinOpen : Nat := 2
def pinHighR : Nat := 3

def pinField (j : Nat) : BitField := ⟨Reg.WD_PIN_STATE (j / 8), 2 * (j % 8) + 1, 2 * (j % 8)⟩

def State.pinState (s : State) (j : Nat) : Nat := s.fld (pinField j)

def State.setPinState (s : State) (j v : Nat) : State := s.setFld (pinField j) v

/-- The cells a pin's test measures, by endpoint: the cells beside the pin (R74). -/
def pinCells (n j : Nat) : List Nat :=
  if j = 0 then [0] else if j = n then [n - 1] else [j - 1, j]

/-- The cell at endpoint `e` lies beside a pin in SUSPECT or OPEN (R85). -/
def State.openSuspect (s : State) (e : Nat) : Bool :=
  epIsCell e && decide (e < s.cells) &&
  [e, e + 1].any fun j => s.pinState j == pinSuspect || s.pinState j == pinOpen

/-! ### Settings -/

/-- The settings the registers hold. -/
def State.acqWanted (s : State) : AcqSet :=
  { ctl := s.reg Reg.ACQ_CTL, instPh := s.reg Reg.INST_PH, instWin := s.reg Reg.INST_WIN,
    guard := s.reg Reg.QW_GUARD, auxEn := s.reg Reg.AUX_EN, refTrim := s.reg Reg.REF_TRIM }

/-- The corner code in force: 0 where SAFE forces it (R40). -/
def State.corner (s : State) : Nat := if s.acq.safeForced then 0 else s.acq.eff.ctl.toNat / 4 % 8

/-- K of the block in force (R44). -/
def State.blockK (s : State) : Nat := s.acq.eff.instWin.toNat / 256 + 1

/-- sinc3 OSR of a corner (R49). -/
def cornerOsr (c : Nat) : Nat := 8192 / 2 ^ c

/-- Settling of a corner, in ticks (R49: the Settling column). -/
def cornerSettle (c : Nat) : Nat :=
  match c with
  | 0 => 8784000 | 1 => 3592000 | 2 => 1800000 | 3 => 896000
  | 4 => 368800 | 5 => 184800 | 6 => 92000 | _ => 26160

/-- Group delay of a corner, in ticks (R49). -/
def cornerDelay (c : Nat) : Nat :=
  match c with
  | 0 => 3088000 | 1 => 1272000 | 2 => 636800 | 3 => 318400
  | 4 => 132000 | 5 => 66160 | 6 => 33040 | _ => 9840

def State.chan (s : State) (e : Nat) : Chan := sparseGet s.acq.chans {} e

def State.setChan (s : State) (e : Nat) (c : Chan) : State :=
  { s with acq := { s.acq with chans := sparseSet s.acq.chans {} e c } }

def State.secChan (s : State) (e : Nat) : SecChan := sparseGet s.acq.sec {} e

def State.setSecChan (s : State) (e : Nat) (c : SecChan) : State :=
  { s with acq := { s.acq with sec := sparseSet s.acq.sec {} e c } }

/-- What settings bear on an endpoint's decimator and filter: mode, and the window or the corner, and the range
(R42). A change of KM1 alone counts as a change of the window, as INST_WIN holds both (log entry 165). -/
def State.chanKey (s : State) (e : Nat) : List Nat :=
  let own := if e = 30 then [s.diffVolt.toNat] else []
  if s.acq.mode = 1 then
    [1, s.acq.wcode, s.acq.eff.instWin.toNat / 256, s.acq.eff.instPh.toNat] ++ own
  else [s.acq.mode, s.corner] ++ own

/-- Restart an endpoint's decimator, filter and accumulation (R42, R515). -/
def restartChan (s : State) (e : Nat) (powerUp : Bool) : State :=
  let wait := if powerUp then 16000 else 0
  s.setChan e { s.chan e with
    sum := 0, windows := 0, since := s.now + wait, settled := false
    sinceTb := (s.tb.value + wait * tbIncrement s.tb.period / 2 ^ 32) % 2 ^ 48 }

/-- The settling time of an endpoint's setting: the Settling column of its corner in ticks, or for an AUX input the three
output periods of its OSR (R42, R49, R50). -/
def State.settleTicks (s : State) (e : Nat) : Nat :=
  if epIsAux e then 3 * 32 * 64 * 2 ^ (s.acq.eff.ctl.toNat / 256 % 16) else cornerSettle s.corner

/-- The settling time has elapsed since the endpoint's restart: that of `settleTicks`, or K cycles (R42, R515). -/
def State.chanSettled (s : State) (e : Nat) : Bool :=
  let c := s.chan e
  c.settled ||
  (if s.acq.mode = 1 && !epIsAux e then
    decide (c.since ≤ s.now) && decide (s.blockK * 65536 ≤ (s.tb.value + 2 ^ 48 - c.sinceTb) % 2 ^ 48)
  else decide (c.since + s.settleTicks e ≤ s.now))

/-- A block, output or scan value for the latch: completed since the last one, of a channel that has settled (R42,
R52). -/
def State.chanFresh (s : State) (e : Nat) : Bool := (s.chan e).fresh && s.chanSettled e

/-- The lowest enabled AUX input; 6 if none. -/
def State.firstAux (s : State) : Nat := ((List.range 6).find? fun i => s.acq.eff.auxEn.getLsbD i).getD 6

/-- The enabled AUX input after `i`, wrapping. -/
def State.nextAux (s : State) (i : Nat) : Nat :=
  ((List.range 6).find? fun j => decide (i < j) && s.acq.eff.auxEn.getLsbD j).getD s.firstAux

/-- The AUX scan restarts at the lowest enabled input; what is being converted is discarded (R50). -/
def restartAux (s : State) : State := { s with acq := { s.acq with auxInput := s.firstAux, auxOuts := 0 } }

/-- AUTO resolves to FILTER when the tree holds a hub, else to INSTANTS; a node used alone takes INSTANTS (R39). -/
def State.resolveMode (s : State) (ctl : Half) : Nat :=
  match ctl.toNat % 4 with
  | 0 => if s.alone then 1 else if s.acq.hubs then 2 else 1
  | 1 => 1
  | _ => 2

/-- The largest window code up to `w` whose quiet window is no longer than half the measured cycle (R46). -/
def fitWindow (period guard : Nat) : Nat → Option Nat
  | 0 => if 32 * quietTicks 0 guard ≤ period then some 0 else none
  | w + 1 => if 32 * quietTicks (w + 1) guard ≤ period then some (w + 1) else fitWindow period guard w

/-- The settings `want` take effect: R39, R40, R41, R42, R46, R50. Channels whose setting changes restart; `forced`: SAFE
forces FILTER at corner 0; `powerUp`: the main path is powered up in this tick, and every channel and the AUX scan restart
(R515). -/
def useAcqSettings (s : State) (want : AcqSet) (forced powerUp : Bool) : State :=
  let before := simEps.map fun e => (e, s.chanKey e)
  let old := s.acq.eff
  let mode := if forced then 2 else s.resolveMode want.ctl
  let w := want.instWin.toNat % 16
  let fit := fitWindow s.tb.period (want.guard.toNat % 256) w
  let (mode, wcode, clipped) :=
    if mode = 1 then
      match fit with
      | some k => (1, k, decide (k < w))
      | none => (2, w, true)
    else (mode, w, false)
  let s := { s with acq := { s.acq with
    eff := want, mode := mode, wcode := wcode, clipped := clipped, safeForced := forced } }
  let s := s.forEach before fun s p =>
    if powerUp || p.2 != s.chanKey p.1 then restartChan s p.1 powerUp else s
  let s := if powerUp then s.forEach [24, 25, 26, 27, 28, 29] fun s e => restartChan s e true else s
  let s := if powerUp || old.auxEn != want.auxEn || old.ctl.toNat / 256 % 16 != want.ctl.toNat / 256 % 16
    then restartAux s else s
  showQuiet s

/-- The settings the registers hold take effect. -/
def applyAcqSettings (s : State) (powerUp : Bool) : State := useAcqSettings s s.acqWanted (s.mode == .safe) powerUp

/-- AUTO is resolved at every sweep boundary (R39, R46): at one where settings wait for a conversion on request, those in
force go on. -/
def resolveAuto (s : State) : State := useAcqSettings s s.acq.eff s.acq.safeForced false

/-- The secondary rotations start at their first slots (R54). -/
def startRotations (s : State) : State := { s with acq := { s.acq with slotA := 0, slotB := 0 } }

/-- Where sweeps cease to be scheduled the main path is powered only while a conversion on request runs, and while self-test
tests it (R515). -/
def acqPowerCheck (s : State) : State :=
  let s := { s with acq := { s.acq with sched := s.acq.sched && s.scheduled } }
  if s.scheduled || s.acq.req != .idle || !s.acq.test.isEmpty then s
  else showQuiet { s with acq := { s.acq with powered := false } }

/-! ### The latch (R51 to R53) -/

/-- A 24-bit code and a status as the endpoint registers hold them. -/
def State.setEp (s : State) (lo hi : Nat) (value : Int) (status : Nat) : State :=
  let w := (BitVec.ofInt 24 value).toNat
  (s.setRegN lo (w % 65536)).setRegN hi (w / 65536 + 256 * status)

/-- The value an endpoint register pair holds. -/
def State.epValue (s : State) (lo hi : Nat) : Int :=
  (BitVec.ofNat 24 (s.regN lo + 65536 * (s.regN hi % 256))).toInt

def State.mainValue (s : State) (e : Nat) : Int := s.epValue (Reg.EP_LO e) (Reg.EP_HI e)
/-- The block voltage in µV: endpoint 31 is at the output of a 1:32 divider (R34). -/
def State.vstk (s : State) : Int := 32 * s.mainValue 31

def State.mainStatus (s : State) (e : Nat) : Nat := s.fld (Fld.EP_HI_STATUS e)
def State.secValue (s : State) (e : Nat) : Int := s.epValue (Reg.SEC_LO e) (Reg.SEC_HI e)
def State.secStatus (s : State) (e : Nat) : Nat := s.regN (Reg.SEC_HI e) / 256 % 16

/-- The status codes of R27. -/
def stOk : Nat := 0
def stSecondary : Nat := 1
def stCal : Nat := 2
def stUnused : Nat := 3
def stOpenSuspect : Nat := 4
def stOverrange : Nat := 5
def stHeld : Nat := 7
def stFault : Nat := 8
def stNotReceived : Nat := 9

/-- The calibration group an endpoint belongs to (R386). -/
def calGroup (e : Nat) : Nat := if e < 24 then e / 6 else if e = 31 then 0 else if e = 30 then 1 else 2

/-- The endpoint's group is in its calibration slot (R388). -/
def State.epInSlot (s : State) (e : Nat) : Bool := s.acq.calGroups.contains (calGroup e)

/-- The endpoint's group is under calibration, or was in the interval of this latch (R62, R390). -/
def State.epCal (s : State) (e : Nat) : Bool := s.epInSlot e || s.acq.calTail.contains (calGroup e)

/-- A pull test holds the endpoint at a value (R76). Where two tests held it in the interval of one latch, the value held
by the earlier one stands (log entry 149). -/
def State.pullHold (s : State) (e : Nat) : Option Int := (s.wd.hold.find? (·.1 == e)).map (·.2.1)

/-- The endpoint is served from the secondary path: its main path is under self-test, has given no settled value since, or
failed (R60, R411, R412). -/
def State.secServed (s : State) (e : Nat) : Bool := s.acq.test.contains e || s.acq.after.contains e || s.epFault e

/-- The endpoint has a new main-path value for the set: for a latch one completed since the last, for a conversion on
request one completed for it (R52, R59). -/
def State.newMain (s : State) (e : Nat) (onRequest : Bool) : Bool := if onRequest then (s.chan e).forReq else s.chanFresh e

/-- The endpoint has a new secondary value for the set (R60). -/
def State.newSec (s : State) (e : Nat) (onRequest : Bool) : Bool :=
  if onRequest then (s.secChan e).forReq else (s.secChan e).sinceLatch

/-- Value and status of a main-path endpoint in a set, by the ranking of R27. -/
def State.latchEp (s : State) (e : Nat) (onRequest : Bool) : Int × Nat :=
  let c := s.chan e
  let served := s.secServed e
  let new := s.newMain e onRequest
  let last := s.mainValue e
  if s.epUnused e then (0, stUnused)
  else
    let held := s.pullHold e
    let v : Int :=
      if s.epCal e then last
      else match held with
        | some v => v
        | none =>
          if served then (if s.newSec e onRequest then (s.secChan e).value else last)
          else if new then c.value else last
    let st :=
      if s.epFault e then stFault
      else if s.openSuspect e then stOpenSuspect
      else if s.epCal e then stCal
      else if served then stSecondary
      else if held.isNone && new && c.clamped then stOverrange
      else if held.isSome || !new then stHeld
      else stOk
    (v, st)

/-- The result set is published: sequence, VALID, status word, timebase value; the host's and the engines' events
(R53, R63). The values under OVERRANGE keep that status only while fresh. -/
def publishMain (s : State) (onRequest : Bool) : State :=
  let vals := (List.range 32).map fun e => (e, s.latchEp e onRequest)
  let fresh := simEps.any fun e => s.newMain e onRequest
  let s := s.forEach vals fun s p => s.setEp (Reg.EP_LO p.1) (Reg.EP_HI p.1) p.2.1 p.2.2
  let s := s.incWrap Reg.RES_SEQ
  let s := s.setFlag Fld.RES_STATUS_VALID true
  let s := s.setFlag Fld.RES_STATUS_ON_REQUEST onRequest
  let s := s.setFlag Fld.RES_STATUS_SAFE_FORCED s.acq.safeForced
  let s := s.setFlag Fld.RES_STATUS_REF_FALLBACK s.acq.refFallback
  let s := s.setFlag Fld.RES_STATUS_INST_CLIPPED s.acq.clipped
  let s := s.setFld Fld.RES_STATUS_EFF_MODE s.acq.mode
  let s := if fresh then s.setTriple (Reg.RES_TB 0) s.acq.lastTb else s
  (s.raiseIrq irqResult).fireAll linePublished

/-- After a latch: nothing is fresh until a new value completes (R52), and a pull test whose span is over no longer
holds its cells (R76). -/
def afterLatch (s : State) : State :=
  let s := s.forEach (List.range 32) fun s e =>
    let s := s.setChan e { s.chan e with fresh := false, settled := s.chanSettled e }
    s.setSecChan e { s.secChan e with sinceLatch := false }
  { s with
    wd := { s.wd with hold := s.wd.hold.filter fun p => !p.2.2 }
    acq := { s.acq with calTail := [] } }

/-- The cross-check of main-path against secondary values at a latch (R55, R61). -/
def secCrossCheck (s : State) : State :=
  if !s.acq.eff.ctl.getLsbD 5 then s
  else
    let thr : Int := s.fld Fld.SEC_XCHK_THR * 100
    let persist := s.fld Fld.SEC_XCHK_PERSIST
    s.forEach (List.range 32) fun s e =>
      let c := s.secChan e
      let testing := ((sarEps false).contains e && (s.acq.sarATest || s.acq.sarAFail)) ||
        ((sarEps true).contains e && (s.acq.sarBTest || s.acq.sarBFail))
      if !c.sinceLatch || testing || s.mainStatus e != stOk then s
      else
        let n := if thr < (c.value - s.mainValue e).natAbs then c.bad + 1 else 0
        let s := s.setSecChan e { c with bad := n }
        if persist ≤ n ∧ !s.mapBit Reg.SEC_MISMATCH_LO e then
          (s.setMapBit Reg.SEC_MISMATCH_LO e true).raiseFlt fltAcq
        else s

/-! ### Windows, outputs and scan values -/

/-- A reading against REFP − REFN, as it is with a reference of 4.096 V, in µV with 4.096 V plus REF_TRIM; scaled against
the bandgap it is taken as it comes (R56, R57). -/
def State.scaleRef (s : State) (x : Int) : Int × State :=
  if s.acq.refFallback then (x, s) else s.divFree (x * (4096000 + s.acq.eff.refTrim.toInt)) 4096000

/-- The value counts for a conversion on request: one full block, an output after the settling time, a scan value (R59). -/
def State.reqCounts (s : State) (e : Nat) : Bool :=
  s.acq.req == .measuring && (epIsAux e || s.acq.mode == 1 || s.chanSettled e)

/-- A value is published to the latch, scaled to the reference (R33, R57); a settled one ends the service by the secondary
path after a self-test (R411). -/
def State.complete (s : State) (e : Nat) (x : Int) : State :=
  let (x, s) := s.scaleRef x
  let (v, clamped) := s.clampEp e x
  let c := s.chan e
  let settled := s.chanSettled e
  let req := c.forReq || s.reqCounts e
  let s := s.setChan e { c with
    value := v, clamped := clamped, fresh := true, ever := true, takenAt := s.now, forReq := req }
  { s with acq := { s.acq with after := if settled then s.acq.after.filter (· != e) else s.acq.after } }

/-- The main path measures: a scheduled conversion, or an on-request one past its power-up. -/
def State.measuring (s : State) : Bool :=
  s.acq.powered && (s.scheduled || s.acq.req == .measuring)

/-- An endpoint whose main path is in service: not under self-test and not under calibration. -/
def State.mainInService (s : State) (e : Nat) : Bool := !s.acq.test.contains e && !s.epInSlot e

/-- The timebase value of the instant whose window has just closed (R53). -/
def State.instantTb (s : State) : Nat :=
  let ph := s.acq.eff.instPh.toNat
  let c := s.tb.cycle.toNat
  (if ph ≤ s.tb.phase then c else c + 2 ^ 32 - 1) % 2 ^ 32 * 65536 + ph

/-- The aperture of a window that closes now, W modulator periods of 32 ticks, reaches back into a calibration slot of
the endpoint's group (R43, R390). -/
def State.reachesSlot (s : State) (e : Nat) : Bool :=
  s.acq.calEnds.any fun p => p.1 == calGroup e && decide (s.now < p.2 + 16 * 2 ^ s.acq.wcode * 32)

/-- An output period of the endpoint's sinc3 in ticks: OSR modulator periods of 32 ticks (R49, R50). -/
def State.outputTicks (s : State) (e : Nat) : Nat :=
  32 * (if epIsAux e then 64 * 2 ^ (s.acq.eff.ctl.toNat / 256 % 16) else cornerOsr s.corner)

/-- After a calibration slot of its group a decimator is fed the last output for three output periods more (R390). -/
def State.fedLast (s : State) (e : Nat) : Bool :=
  s.acq.calEnds.any fun p => p.1 == calGroup e && decide (s.now < p.2 + 3 * s.outputTicks e)

/-- A decimator fed its last output gives that again. -/
def feedLast (s : State) (e : Nat) : State :=
  let c := s.chan e
  s.setChan e { c with fresh := true, ever := true, takenAt := s.now, forReq := c.forReq || s.reqCounts e }

/-- One window of one channel closes; the K-th publishes the mean as a block (R43, R44). -/
def windowClose (s : State) (e : Nat) (x : Int) : State :=
  if !s.mainInService e || s.reachesSlot e then s
  else
    let c := s.chan e
    let k := s.blockK
    if c.windows + 1 < k then s.setChan e { c with sum := c.sum + x, windows := c.windows + 1 }
    else
      let (m, s) := s.divFree (c.sum + x) k
      let s := s.setChan e { c with sum := 0, windows := 0 }
      { s with acq := { s.acq with lastTb := s.instantTb } }.complete e m

/-- One filter output of one channel, of what it is fed (R390), with its instant less the group delay (R49, R53). Between two
ph an exact half is taken up, which R53's "nearest" leaves open (DESIGN CHOICE, log entry 150). -/
def filterOutput (s : State) (e : Nat) (x : Int) : State :=
  if !s.mainInService e then s
  else if s.fedLast e then feedLast s e
  else
    let back := (s.tb.total + 2 ^ 80 - cornerDelay s.corner * tbIncrement s.tb.period) % 2 ^ 80
    { s with acq := { s.acq with lastTb := (back + 2 ^ 31) / 2 ^ 32 % 2 ^ 48 } }.complete e x

/-- The third output of the scanned AUX input (R50); the scan goes on while the modulator is out of service. -/
def auxValue (s : State) (x : Int) : State :=
  let i := s.acq.auxInput
  if i < 6 ∧ s.acq.eff.auxEn.getLsbD i then
    let s := if !s.mainInService (24 + i) then s else if s.fedLast (24 + i) then feedLast s (24 + i) else s.complete (24 + i) x
    { s with acq := { s.acq with auxInput := s.nextAux i, auxOuts := s.acq.auxOuts + 1 } }
  else s

/-! ### The secondary path -/

/-- The converter is under self-test (R61). -/
def State.sarTest (s : State) (b : Bool) : Bool := if b then s.acq.sarBTest else s.acq.sarATest

/-- A secondary value is taken. -/
def secTake (s : State) (e : Nat) (x : Int) : State :=
  let (v, clamped) := s.clampEp e x
  let c := s.secChan e
  s.setSecChan e { c with value := v, clamped := clamped, sinceLatch := true, sincePub := true, ever := true, forReq := true }

/-- The endpoint's converter failed its self-test (R412). -/
def State.secFail (s : State) (e : Nat) : Bool :=
  ((sarEps false).contains e && s.acq.sarAFail) || ((sarEps true).contains e && s.acq.sarBFail)

/-- Value and status of a secondary endpoint: the ranking of R27 without SECONDARY. -/
def State.latchSec (s : State) (e : Nat) (onRequest : Bool) : Int × Nat :=
  let c := s.secChan e
  if s.epUnused e || (onRequest && !c.onReq) then (0, stUnused)
  else
    let st :=
      if s.epFault e || s.secFail e then stFault
      else if s.openSuspect e then stOpenSuspect
      else if s.epCal e then stCal
      else if c.sincePub && c.clamped then stOverrange
      else if !c.sincePub then stHeld
      else stOk
    (if s.epCal e then s.secValue e else c.value, st)

/-- The secondary set is published (R54, R59, R63); the marks of a conversion on request end with it. -/
def publishSec (s : State) (onRequest : Bool) : State :=
  let vals := (List.range 32).map fun e => (e, s.latchSec e onRequest)
  let s := s.forEach vals fun s p => s.setEp (Reg.SEC_LO p.1) (Reg.SEC_HI p.1) p.2.1 p.2.2
  let s := s.forEach (List.range 32) fun s e =>
    s.setSecChan e { s.secChan e with sincePub := false, onReq := (s.secChan e).onReq && !onRequest }
  let s := s.incWrap Reg.SEC_SEQ
  s.setFlag Fld.SEC_STATUS_VALID true

/-- The expected reference voltage in µV (R57). -/
def State.refExpected (s : State) : Int := 4096000 + s.acq.eff.refTrim.toInt

/-- The reference slot: the fourth reading in a row outside ±3 % asks for the bandgap, the sixteenth in a row inside for the
reference again (R56). -/
def refSlot (s : State) (x : Int) : State :=
  let e := s.refExpected
  if 3 * e < 100 * (x - e).natAbs then
    let n := s.acq.refBad + 1
    { s with acq := { s.acq with refBad := n, refGood := 0, refWant := s.acq.refWant || decide (4 ≤ n) } }
  else
    let n := s.acq.refGood + 1
    { s with acq := { s.acq with refBad := 0, refGood := n, refWant := s.acq.refWant && decide (n < 16) } }

/-- At a boundary the scaling follows what the reference slots asked for (R56). -/
def refApply (s : State) : State := { s with acq := { s.acq with refFallback := s.acq.refWant } }

/-! ### Conversions on request (R59) -/

/-- A conversion on request is in progress. -/
def State.reqBusy (s : State) : Bool := s.acq.req != .idle || s.acq.reqSec

/-- The modes that accept REQ, and only while no sweeps are scheduled. -/
def State.reqAccepted (s : State) : Bool :=
  (s.mode == .standby || s.mode == .selftest || s.mode == .safe) && !s.scheduled && !s.reqBusy

/-- REQ with SRC = 0: the settings take effect, and the modulators power up (R41, R59, R515). -/
def reqMain (s : State) (byNode : Bool) : State :=
  if !s.reqAccepted then s
  else
    -- the interval of this set begins: a calibration slot that was over before has no part in it (R62, R390)
    let s := { s with acq := { s.acq with req := .powering, powered := true, reqByNode := byNode, calTail := [] } }
    let s := applyAcqSettings s true
    s.forEach (List.range 32) fun s e =>
      (s.setChan e { s.chan e with fresh := false, forReq := false }).setSecChan e { s.secChan e with forReq := false }

/-- The power-up is over: every channel and the AUX scan start (R59, R515). -/
def powerupDone (s : State) : State :=
  if s.acq.req != .powering then s
  else
    let s := { s with acq := { s.acq with req := .measuring } }
    let s := s.forEach (List.range 32) fun s e => restartChan s e false
    restartAux s

/-- The endpoint has its value for the on-request set: it needs none, its group is under calibration (R62), or a value of
the path that serves it was completed for the request (R59, R60). -/
def State.reqEpDone (s : State) (e : Nat) : Bool :=
  s.epUnused e || s.epCal e || (if s.secServed e then (s.secChan e).forReq else (s.chan e).forReq)

/-- Both parts of an on-request main conversion are complete. -/
def State.reqComplete (s : State) : Bool :=
  s.acq.req == .measuring && (List.range 32).all s.reqEpDone

/-- The set is published with ON_REQUEST and the modulators power down (R59); an engine's request fires line 11
(R312). The set counts as a latch for HELD and CAL (log entry 164). -/
def requestComplete (s : State) : State :=
  if !s.reqComplete then s
  else
    let s := publishMain s true
    let s := afterLatch s
    let by' := s.acq.reqByNode
    let s := { s with acq := { s.acq with req := .idle, reqByNode := false } }
    let s := acqPowerCheck s
    s.when by' fun s => s.fireAt .node lineCallDone

/-- REQ with SRC = 1 (R59): the settings take effect at its start (R41); the conversion waits while a converter is under
self-test (R61). -/
def reqSecondary (s : State) (byNode : Bool) : State :=
  if !s.reqAccepted then s
  else
    let s := applyAcqSettings s false
    let s := { s with acq := { s.acq with reqSec := true, reqByNode := byNode } }
    s.forEach (List.range 32) fun s e => s.setSecChan e { s.secChan e with onReq := false }

/-- The next endpoint an on-request secondary conversion serves on a converter: in rotation order, unused ones and those
converted skipped. -/
def State.reqSecNext (s : State) (b : Bool) : Option Nat :=
  (sarEps b).find? fun e => !s.epUnused e && !(s.secChan e).onReq

/-- Both converters have finished an on-request secondary conversion: the set is published (R59). -/
def reqSecFinish (s : State) : State :=
  if s.acq.reqSec && (s.reqSecNext false).isNone && (s.reqSecNext true).isNone then
    let s := publishSec s true
    let by' := s.acq.reqByNode
    let s := { s with acq := { s.acq with reqSec := false, reqByNode := false } }
    s.when by' fun s => s.fireAt .node lineCallDone
  else s

/-- An endpoint is converted for an on-request secondary conversion. -/
def reqSecTake (s : State) (e : Nat) (x : Int) : State :=
  let s := secTake s e x
  s.setSecChan e { s.secChan e with onReq := true }

/-- A converter's slot of an on-request secondary conversion. -/
def reqSecSlot (s : State) (b : Bool) (x : Int) : State :=
  match s.reqSecNext b with
  | none => s
  | some e => reqSecFinish (reqSecTake s e x)

/-- An on-request secondary conversion goes on: no converter is under self-test (R61). -/
def State.reqSecRuns (s : State) : Bool := s.acq.reqSec && !s.acq.sarATest && !s.acq.sarBTest

/-- A slot of the rotation for an endpoint. While a conversion on request goes on where sweeps have become scheduled, the
rotation's slots serve it too (log entry 104). -/
def rotationTake (s : State) (e : Nat) (x : Int) : State :=
  if s.epUnused e then s else if s.reqSecRuns then reqSecTake s e x else secTake s e x

/-- A slot of the rotation: SAR A's seventeenth is the reference slot and ends the rotation, at which the secondary set
is published (R54, R56, R61). The answer says whether a set was published. -/
def rotationSlot (s : State) (b : Bool) (x : Int) : State × Bool :=
  if b then
    let e := (sarEps true).getD s.acq.slotB 0
    let s := rotationTake s e x
    ({ s with acq := { s.acq with slotB := (s.acq.slotB + 1) % 16 } }, false)
  else if s.acq.slotA = 16 then
    let s := refSlot s x
    (publishSec { s with acq := { s.acq with slotA := 0 } } false, true)
  else
    let e := (sarEps false).getD s.acq.slotA 0
    let s := rotationTake s e x
    ({ s with acq := { s.acq with slotA := s.acq.slotA + 1 } }, false)

end Sys2Proof.Machine
end

