-- ==== Sys2Proof/Machine/WireDiagOps.lean ====
section
/-!
DEFINITION. The wire diagnostics (spec/03): requests and their queue, the block-sum checks, the pair detector, the
check of unused channels, and the pull test's arithmetic.
-/
namespace Sys2Proof.Machine

def State.blockless (s : State) : Bool := s.flag Fld.NODE_ROLE_BLOCKLESS

/-- Modes in which pull tests run (R77). -/
def pullModes : Mode → Bool
  | .standby | .active | .balance | .service | .safe => true
  | _ => false

/-- Queued pins whose cells lie in a group that is in its calibration slot wait until the run ends (R77). -/
def holdInSlot (s : State) : State :=
  let held := (s.wd.queue.map (·.1)).filter fun j => s.wd.calHeld.contains j || (pinCells s.cells j).any s.epInSlot
  { s with wd := { s.wd with calHeld := held } }

/-- The pins C0 to CN (R66). -/
def State.pins (s : State) : List Nat := List.range (s.cells + 1)

/-- A pin test is requested: merged with a queued one, appended otherwise; a pin above CN is ignored, and a blockless
root runs none (R78, R82). -/
def requestPin (s : State) (j : Nat) : State :=
  if s.blockless || decide (s.cells < j) then s
  else if s.wd.queue.any (·.1 == j) then s
  else holdInSlot { s with wd := { s.wd with queue := s.wd.queue ++ [(j, false)] } }

/-- A scan is requested: C0 to CN in order; ignored while a scan runs. Pins already queued merge into it (R78). -/
def requestScan (s : State) : State :=
  if s.blockless || s.wd.scan then s
  else
    let q := s.pins.map fun j => (j, true)
    holdInSlot { s with wd := { s.wd with queue := q, scan := true } }

/-- A pin takes a state of R75 or R72. -/
def setPin (s : State) (j v : Nat) : State := s.setPinState j v

/-- Some pin is OPEN. -/
def State.anyOpen (s : State) : Bool := s.pins.any fun j => s.pinState j == pinOpen

/-- The baselines of all active cells are retaken from the latched values (R71; DEDUCED, log entry 23). -/
def retakeBaselines (s : State) : State :=
  let s := s.forEach (List.range s.cells) fun s e =>
    { s with wd := { s.wd with base := sparseSet s.wd.base 0 e (s.mainValue e) } }
  { s with wd := { s.wd with baseTaken := true } }

/-- An endpoint's status allows the sum check. -/
def sumStatusOk (st : Nat) : Bool := st == stOk || st == stOpenSuspect

/-- The counting rule of R69: beyond `persist` times in a row sets, within `persist` times in a row clears. The answer:
the new counts and the new flag. -/
def persistRule (persist bad good : Nat) (beyond flag : Bool) : Nat × Nat × Bool :=
  if beyond then (bad + 1, 0, flag || decide (persist ≤ bad + 1))
  else (0, good + 1, flag && !decide (persist ≤ good + 1))

/-- D of R69 over a set of values. -/
def blockDiff (cells : List Int) (block : Int) : Int := cells.foldl (· + ·) 0 - 32 * block

/-- The block-sum check at a latch (R69), and the scans it requests (R78). -/
def blockSumCheck (s : State) : State :=
  let cells := List.range s.cells
  if s.blockless || !s.flag Fld.WD_CTL_SUM_EN || !(cells ++ [31]).all (fun e => sumStatusOk (s.mainStatus e)) then s
  else
    let d := blockDiff (cells.map s.mainValue) (s.mainValue 31)
    let (shown, s) := s.divFree d 10000
    let s := s.setReg Reg.WD_SUM_DIFF (half shown)
    let was := s.flag Fld.WD_STATUS_SUM_FAIL
    let (bad, good, now) := persistRule (s.fld Fld.WD_CTL_PERSIST) s.wd.sumBad s.wd.sumGood
      (decide ((s.fld Fld.WD_SUM_THR_SUM_THR * 10000 : Nat) < d.natAbs)) was
    let s := { s with wd := { s.wd with sumBad := bad, sumGood := good } }
    let s := s.setFlag Fld.WD_STATUS_SUM_FAIL now
    let auto := s.flag Fld.WD_CTL_AUTO_PULL
    s.when (auto && ((!was && now) || (was && !now && s.anyOpen))) requestScan

/-- The same difference from a published secondary set (R70). -/
def secSumCheck (s : State) : State :=
  let cells := List.range s.cells
  if s.blockless || !s.flag Fld.WD_CTL_SEC_SUM_EN || !(cells ++ [31]).all (fun e => sumStatusOk (s.secStatus e)) then s
  else
    let d := blockDiff (cells.map s.secValue) (s.secValue 31)
    let was := s.flag Fld.WD_STATUS_SEC_SUM_FAIL
    let (bad, good, now) := persistRule (s.fld Fld.WD_CTL_PERSIST) s.wd.secBad s.wd.secGood
      (decide ((s.fld Fld.WD_SUM_THR_SEC_SUM_THR * 10000 : Nat) < d.natAbs)) was
    let s := { s with wd := { s.wd with secBad := bad, secGood := good } }
    s.setFlag Fld.WD_STATUS_SEC_SUM_FAIL now

/-- Insert into an ascending list. -/
def insertAsc (x : Int) : List Int → List Int
  | [] => [x]
  | y :: rest => if x ≤ y then x :: y :: rest else y :: insertAsc x rest

/-- The median of R71: of an even count, the lower of the two middle values. -/
def median (l : List Int) : Int :=
  let sorted := l.foldl (fun acc x => insertAsc x acc) []
  sorted.getD ((l.length - 1) / 2) 0

/-- The three inequalities of R72, in either sign. -/
def pairCondition (dj dj1 m thr : Int) : Bool :=
  ((decide (dj ≤ m - thr) && decide (m + thr ≤ dj1)) || (decide (m + thr ≤ dj) && decide (dj1 ≤ m - thr))) &&
  decide (2 * (dj + dj1 - 2 * m).natAbs ≤ thr.natAbs)

/-- The pair detector at a latch (R71, R72), and the pin tests it requests (R78). A cell that became active since the
baselines were taken has the baseline 0 (log entry 152). Before any baseline was taken the detector is off and counts nothing
(log entry 166). -/
def pairDetect (s : State) : State :=
  if s.blockless || !s.flag Fld.WD_CTL_STEP_EN || s.cells = 0 || !s.wd.baseTaken then
    { s with wd := { s.wd with pair := [] } }
  else
    let d (e : Nat) : Int := s.mainValue e - sparseGet s.wd.base 0 e
    let m := median ((List.range s.cells).map d)
    let thr : Int := s.fld Fld.WD_STEP_STEP_THR * 1000
    let persist := s.fld Fld.WD_CTL_PERSIST
    let st := (List.range s.cells).map s.mainStatus
    let meets (j : Nat) : Bool :=
      sumStatusOk (st.getD (j - 1) stUnused) && sumStatusOk (st.getD j stUnused) && pairCondition (d (j - 1)) (d j) m thr
    s.forEach ((List.range s.cells).filter (1 ≤ ·)) fun s j =>
      let n := if meets j then sparseGet s.wd.pair 0 j + 1 else 0
      let s := { s with wd := { s.wd with pair := sparseSet s.wd.pair 0 j n } }
      if persist ≤ n ∧ (s.pinState j = pinClear ∨ s.pinState j = pinHighR) then
        let s := setPin s j pinSuspect
        s.when (s.flag Fld.WD_CTL_AUTO_PULL) fun s => requestPin s j
      else s

/-- The first latch after reset at which every active cell is OK takes the baselines (R71). -/
def firstBaselines (s : State) : State :=
  if !s.wd.firstTaken && decide (0 < s.cells) && (List.range s.cells).all (fun e => s.mainStatus e == stOk)
  then retakeBaselines { s with wd := { s.wd with firstTaken := true } } else s

/-- The check of unused cell channels against ±50 mV (R81). -/
def unusedCheck (s : State) : State :=
  let bad := ((List.range 24).filter (s.cells ≤ ·)).any fun e => decide (50000 < (s.chan e).value.natAbs)
  let (b, g, now) := persistRule (s.fld Fld.WD_CTL_PERSIST) s.wd.unusedBad s.wd.unusedGood bad
    (s.flag Fld.WD_STATUS_UNUSED_FAULT)
  let s := { s with wd := { s.wd with unusedBad := b, unusedGood := g } }
  s.setFlag Fld.WD_STATUS_UNUSED_FAULT now

/-- What the wire diagnostics do at a latch (R69, R71, R72, R81). -/
def wdLatch (s : State) : State := unusedCheck (pairDetect (blockSumCheck (firstBaselines s)))

/-- The converter that serves an endpoint is SAR B. -/
def sarOf (e : Nat) : Bool := (sarEps true).contains e

/-- A queued pin may start: its mode, no shutdown order, no self-test that waits for the last pin, its group not under
calibration, its converters not under test (R77). -/
def State.pinMayStart (s : State) (j : Nat) : Bool :=
  pullModes s.mode && s.mc.shutdown.isNone && !s.st.held && !s.wd.calHeld.contains j &&
  (pinCells s.cells j).all fun e => !s.epInSlot e && !s.sarTest (sarOf e)

/-- The pin whose turn it is, if it may start: pins are tested in the order of the queue (R78). -/
def State.nextPin (s : State) : Option (Nat × Bool) := s.wd.queue.head?.filter fun p => s.pinMayStart p.1

/-- DEFERRED: a request waits under R77. -/
def State.wdDeferred (s : State) : Bool := s.wd.queue.any fun p => !s.pinMayStart p.1

/-- The pin under test uses the converter: its readings and, in filter mode, the recovery stand in the place of slots of the
rotation, which is taken up again after step 5 (R74). -/
def State.pullUses (s : State) (b : Bool) : Bool :=
  (s.wd.phase == .reading || (s.wd.phase == .recovery && s.acq.mode != 1)) &&
  (pinCells s.cells s.wd.pin).any fun e => sarOf e == b

/-- Step 1 of R74. -/
def pinStart (s : State) : State :=
  if s.wd.phase != .idle then s
  else match s.nextPin with
    | none => s
    | some (j, inScan) =>
      let s := { s with wd := { s.wd with
        phase := .baseline, pin := j, pinInScan := inScan, queue := s.wd.queue.filter (·.1 != j) } }
      let s := s.setFlag Fld.WD_STATUS_BUSY true
      s.setFld Fld.WD_STATUS_CUR_PIN j

/-- Step 2 of R74: the baselines are read and the pull is switched on; from here the affected cells are held at their last
values, those a latch in this tick would report (R76). A pin test goes on to its step 5 in a mode entered meanwhile in which
none starts (log entry 151). -/
def pinBaselines (s : State) (v1 v2 : Int) : State :=
  if s.wd.phase != .baseline then s
  else
    let hold := (pinCells s.cells s.wd.pin).map fun e =>
      (e, (s.latchEp e (s.acq.req == .measuring)).1, false)
    { s with wd := { s.wd with phase := .pulling, b1 := v1, b2 := v2, hold := s.wd.hold ++ hold } }

/-- Step 3 of R74: PULL_T has passed, and the converters' grid is re-anchored. -/
def pullElapsed (s : State) : State :=
  if s.wd.phase != .pulling then s else { s with wd := { s.wd with phase := .reading } }

/-- Twice the shift of R75 in µV: a pin with two cells takes the mean of the fall of cell j and the rise of cell j + 1. -/
def shift2 (n j : Nat) (b1 b2 r1 r2 : Int) : Int :=
  if j = 0 ∨ j = n then 2 * (b1 - r1) else (b1 - r1) + (r2 - b2)

/-- The state of R75 for twice a shift in µV; thresholds in units of 10 mV. -/
def shiftState (sh2 : Int) (highr opn : Nat) : Nat :=
  if (2 * 10000 * opn : Nat) ≤ sh2 then pinOpen
  else if (2 * 10000 * highr : Nat) ≤ sh2 then pinHighR
  else pinClear

/-- Step 4 of R74 and R75: the pull is switched off, the shift written, the pin's state set. -/
def pinReadings (s : State) (v1 v2 : Int) : State :=
  if s.wd.phase != .reading then s
  else
    let j := s.wd.pin
    let sh := shift2 s.cells j s.wd.b1 s.wd.b2 v1 v2
    let (w, s) := s.divFree sh 200
    let (h, s) := s.fitFree 16 w
    let s := s.setReg (Reg.WD_SHIFT j) h
    let s := setPin s j (shiftState sh (s.fld Fld.WD_PULL_HIGHR_THR) (s.fld Fld.WD_PULL_OPEN_THR))
    { s with wd := { s.wd with phase := .recovery } }

/-- A full scan completes or is aborted: the periodic count restarts (R78). -/
def restartPeriod (s : State) : State := s.startTimer .wdPeriod

/-- CLEAR of R78 on what is not running: pins CLEAR, the sum failures and their counts cleared, baselines retaken. -/
def wdClearAll (s : State) : State :=
  let s := s.forEach (List.range 25) fun s j => setPin s j pinClear
  let s := s.setFlag Fld.WD_STATUS_SUM_FAIL false
  let s := s.setFlag Fld.WD_STATUS_SEC_SUM_FAIL false
  let s := { s with wd := { s.wd with sumBad := 0, sumGood := 0, secBad := 0, secGood := 0 } }
  retakeBaselines s

/-- The span of R76 is over for the cells held: the latch whose interval it overlapped is the last. -/
def endHold (s : State) : State :=
  { s with wd := { s.wd with hold := s.wd.hold.map fun p => (p.1, p.2.1, true) } }

/-- A full scan is over once no pin of it waits or is under test: it is counted, and the count of PERIOD restarts (R78). -/
def State.scanOver (s : State) : Bool :=
  s.wd.scan && !s.wd.queue.any (·.2) && !(s.wd.phase != .idle && s.wd.pinInScan)

def scanEnd (s : State) : State :=
  if s.scanOver then restartPeriod ({ s with wd := { s.wd with scan := false } }.incWrap Reg.WD_SCANS) else s

/-- With no request left DONE shows that the tests are over (R78). -/
def wdDone (s : State) : State := s.when s.wd.queue.isEmpty fun s => s.setFlag Fld.WD_STATUS_DONE true

/-- Step 5 of R74, and what follows the end of a test, a scan or an abort (R71, R78). -/
def pinRecovered (s : State) : State :=
  if s.wd.phase != .recovery then s
  else
    let s := endHold s
    let s := s.setFlag Fld.WD_STATUS_BUSY false
    let wasScan := s.wd.pinInScan
    let s := { s with wd := { s.wd with phase := .idle } }
    if s.wd.abort then
      -- a scan ends with its pin; one requested since the CLEAR goes on
      let s := s.setFlag Fld.WD_STATUS_ABORTED true
      let s := { s with wd := { s.wd with abort := false, scan := s.wd.scan && !wasScan } }
      wdClearAll (if wasScan then restartPeriod s else s)
    else
      let last := s.scanOver
      let s := scanEnd s
      wdDone (if (last || !wasScan) && !s.anyOpen then retakeBaselines s else s)

/-- The CLEAR command (R78): a running test, and a running scan with it, is aborted after its current step 5; requests that
wait are dropped at once. -/
def wdClear (s : State) : State :=
  let testing := s.wd.phase != .idle
  let busy := s.wd.scan || !s.wd.queue.isEmpty
  let waits := s.wd.scan && !(testing && s.wd.pinInScan)
  let s := { s with wd := { s.wd with queue := [], scan := s.wd.scan && !waits, abort := s.wd.abort || testing } }
  let s := s.when (busy && !testing) fun s => s.setFlag Fld.WD_STATUS_ABORTED true
  wdClearAll (if waits then restartPeriod s else s)

/-- The shutdown order stops a running pin test at once: its pin keeps its state, and its cells stay held until the mode
is entered (R77, R460). A scan the pin belongs to is aborted with it (R78). -/
def wdStop (s : State) : State :=
  if s.wd.phase = .idle then s
  else
    let scan := s.wd.pinInScan
    let s := { s with wd := { s.wd with
      phase := .idle, abort := false, scan := s.wd.scan && !scan
      queue := if scan then s.wd.queue.filter (!·.2) else s.wd.queue } }
    (if scan then restartPeriod s else s).setFlag Fld.WD_STATUS_BUSY false

/-- A pin test ends at once where its pin may be pulled no longer: the pull is switched off, and the pin keeps its state and its
shift (log entry 167). -/
def pinCancel (s : State) : State :=
  endHold ({ s with wd := { s.wd with phase := .idle, abort := false } }.setFlag Fld.WD_STATUS_BUSY false)

/-- The node pulls no pin above CN, and a blockless root none (R73, R82): a test of such a pin ends, pins requested under other
active cells leave the queue, and a scan that waits or runs goes up to the present CN; one that has nothing left is over
(R78). `old`: the active cells before. -/
def wdReplan (s : State) (old : Nat) : State :=
  let testing := s.wd.phase != .idle
  let s := if testing && (s.blockless || decide (s.cells < s.wd.pin)) then
      let aborted := s.wd.abort
      let t := pinCancel s
      if aborted then wdClearAll (t.setFlag Fld.WD_STATUS_ABORTED true) else t
    else s
  if s.blockless then
    let scan := s.wd.scan
    let s := { s with wd := { s.wd with queue := [], scan := false } }
    if scan then restartPeriod s else s
  else
    let kept := s.wd.queue.filter fun p => decide (p.1 ≤ s.cells)
    let more := (s.pins.filter fun j => decide (old < j) && s.wd.scan && !kept.contains (j, true)).map fun j => (j, true)
    let busy := testing || !s.wd.queue.isEmpty
    let s := { s with wd := { s.wd with queue := kept.filter (·.2) ++ more ++ kept.filter fun p => !p.2 && !more.contains (p.1, true) } }
    let last := s.scanOver
    let s := scanEnd s
    let s := if last && !s.anyOpen then retakeBaselines s else s
    if busy && s.wd.phase == .idle then wdDone s else s

/-- On entry to OFF, SHIP and WATCH requests waiting are dropped (R77). -/
def wdDrop (s : State) : State :=
  endHold ({ s with wd := { s.wd with phase := .idle, queue := [], scan := false, abort := false } }.setFlag
    Fld.WD_STATUS_BUSY false)

/-- WD_CMD as written: CLEAR takes precedence over PIN_TEST and SCAN (R78). -/
def wdCommand (s : State) (v : Half) : State :=
  if v.getLsbD 2 then wdClear s
  else
    let s := s.when (v.getLsbD 1) fun s => requestPin s (v.toNat / 256 % 32)
    s.when (v.getLsbD 0) requestScan

end Sys2Proof.Machine
end

