-- ==== Sys2Proof/Machine/FlashOps.lean ====
section
/-!
DEFINITION. The internal flash (R343 to R346), the write permissions (R336 to R338) and the first-fault log (R347 to
R349).
-/
namespace Sys2Proof.Machine

/-! ### Words and bytes -/

def State.flashWord (s : State) (w : Nat) : Dword := sparseGet s.fla.mem (BitVec.allOnes 64) w

/-- A byte of the flash by its address (words lowest byte first, R3). -/
def State.flashByte (s : State) (a : Nat) : Byte := (s.flashWord (a / 8)).extractLsb' (8 * (a % 8)) 8

def State.flashBytes (s : State) (a n : Nat) : List Byte := (List.range n).map fun i => s.flashByte (a + i)

/-- Bytes as 64-bit words; the last is filled with erased bytes. -/
def packWords : Nat → List Byte → List Dword
  | 0, _ => []
  | n + 1, bs => BitVec.ofNat 64 (fromLe (bs.take 8 ++ List.replicate (8 - (bs.take 8).length) 0xFF)) :: packWords n (bs.drop 8)

/-- The programs that put bytes at an address that is a multiple of 8. -/
def programs (a : Nat) (bs : List Byte) : List FlashOp :=
  ((packWords ((bs.length + 7) / 8) bs).zipIdx).map fun p => .program (a / 8 + p.2) p.1

/-! ### Areas (R344, R346) -/

def Area.sectors : Area → Nat × Nat
  | .calA => (0x6C, 0x6D)
  | .calB => (0x6E, 0x6F)
  | .ffl => (0x72, 0x73)
  | .ledger => (0x74, 0x75)

/-- Size of an entry and entries in a sector after its 64-byte header (R347, R398, R467). -/
def Area.entrySize : Area → Nat
  | .calA | .calB => 448
  | .ffl => 64
  | .ledger => 16

def Area.capacity : Area → Nat
  | .calA | .calB => 9
  | .ffl => 63
  | .ledger => 252

def Area.code : Area → Nat
  | .calA => 1 | .calB => 2 | .ffl => 3 | .ledger => 4

def commitWord : Nat := 0x3C5AA5C3

/-- The 16 bytes that head a sector (R346): the numbers of AREA and FMT are the model's (log entry 24). -/
def areaHeader (a : Area) (gen : Nat) : List Byte :=
  let head := leBytes 1 a.code ++ leBytes 1 1 ++ leBytes 2 0 ++ leBytes 4 gen
  head ++ leBytes 4 (crc32 0 head).toNat ++ leBytes 4 commitWord

/-- The GEN of a committed sector; `none` where it is void (R346). -/
def State.sectorGen (s : State) (sector : Nat) : Option Nat :=
  let h := s.flashBytes (4096 * sector) 16
  if s.fla.void.contains sector then none
  else if leAt h 12 4 = commitWord ∧ leAt h 8 4 = (crc32 0 (slice h 0 8)).toNat then some (leAt h 4 4) else none

/-- The live sector of an area: of two committed ones, the one with the higher GEN (R346). -/
def State.liveSector (s : State) (a : Area) : Option Nat :=
  let (x, y) := a.sectors
  match s.sectorGen x, s.sectorGen y with
  | none, none => none
  | some _, none => some x
  | none, some _ => some y
  | some g, some h => if g < h then some y else some x

def entryAddr (a : Area) (sector i : Nat) : Nat := 4096 * sector + 64 + a.entrySize * i

/-- The place of an entry has never been programmed. -/
def State.entryFree (s : State) (a : Area) (sector i : Nat) : Bool :=
  (s.flashBytes (entryAddr a sector i) a.entrySize).all (· == 0xFF)

/-- An entry ends in a CRC-32 over what precedes it and the COMMIT word; one whose CRC or COMMIT is wrong is void
(R345). -/
def entryValid (bs : List Byte) : Bool :=
  let n := bs.length
  leAt bs (n - 4) 4 == commitWord && leAt bs (n - 8) 4 == (crc32 0 (bs.take (n - 8))).toNat

/-- A payload with its CRC and COMMIT. -/
def sealEntry (payload : List Byte) : List Byte :=
  payload ++ leBytes 4 (crc32 0 payload).toNat ++ leBytes 4 commitWord

def State.entryAt (s : State) (a : Area) (sector i : Nat) : List Byte := s.flashBytes (entryAddr a sector i) a.entrySize

/-- The valid entries of the live sector, oldest first. -/
def State.areaEntries (s : State) (a : Area) : List (List Byte) :=
  match s.liveSector a with
  | none => []
  | some x => ((List.range a.capacity).map (s.entryAt a x)).filter entryValid

/-- Entries of the live sector that were programmed and fail their check: readers pass over them (R345). -/
def State.voidEntries (s : State) (a : Area) : Nat :=
  match s.liveSector a with
  | none => 0
  | some x => ((List.range a.capacity).filter fun i => !s.entryFree a x i && !entryValid (s.entryAt a x i)).length

/-- The first free place of a sector from `lo` on. -/
def State.freeSlot (s : State) (a : Area) (sector lo : Nat) : Option Nat :=
  ((List.range a.capacity).filter (lo ≤ ·)).find? fun i => s.entryFree a sector i

/-- The entries a move takes along: the first-fault slot and the newest 31 ring entries; a calibration bank's newest
record; of the start ledger as many of the newest as `keep` says (R347, R398, R467). -/
def lastN {α : Type} (n : Nat) (l : List α) : List α := l.drop (l.length - n)

/-- The operations that move an area to its other sector with the given entries at the given places (R346). -/
def State.moveOps (s : State) (a : Area) (entries : List (Nat × List Byte)) : List FlashOp × Nat :=
  let (x, y) := a.sectors
  let (fresh, gen) := match s.liveSector a with
    | some z => (if z = x then y else x, (s.sectorGen z).getD 0 + 1)
    | none => (x, 1)
  (.erase fresh :: entries.flatMap (fun p => programs (entryAddr a fresh p.1) p.2)
     ++ programs (4096 * fresh) (areaHeader a gen), fresh)

/-- The ring entries of the first-fault log, oldest first. -/
def State.fflRing (s : State) : List (List Byte) :=
  match s.liveSector .ffl with
  | none => []
  | some x => (((List.range 62).map fun i => s.entryAt .ffl x (i + 1)).filter entryValid)

/-- The first-fault slot's entry. -/
def State.fflFirst (s : State) : Option (List Byte) :=
  match s.liveSector .ffl with
  | none => none
  | some x => let e := s.entryAt .ffl x 0; if entryValid e then some e else none

def numberFrom {α : Type} (k : Nat) (l : List α) : List (Nat × α) := l.zipIdx.map fun p => (p.2 + k, p.1)

/-- What a move of an area takes along. -/
def State.moveEntries (s : State) (a : Area) : List (Nat × List Byte) :=
  match a with
  | .calA | .calB => numberFrom 0 (lastN 1 (s.areaEntries a))
  | .ffl =>
    (match s.fflFirst with | some e => [(0, e)] | none => []) ++ numberFrom 1 (lastN 31 s.fflRing)
  | .ledger =>
    -- the newest FLAGS, the newest END and every entry of the present start (R467)
    let all := (s.areaEntries a).zipIdx
    let last (kind : Nat) : Option Nat := ((all.filter fun x => leAt x.1 0 1 == kind).getLast?).map (·.2)
    numberFrom 0 ((all.filter fun x =>
      leAt x.1 2 2 == s.regN Reg.LED_START || last 5 == some x.2 || last 3 == some x.2).map (·.1))

/-- The operations of a request, planned from the flash as it stands when the request begins. -/
def State.planRequest (s : State) (r : FlashReq) : List FlashOp :=
  match r with
  | .update ops => ops
  | .fflClear => (s.moveOps .ffl (numberFrom 1 (lastN 32 s.fflRing))).1
  | .entry a first bytes =>
    let lo := if a = .ffl ∧ ¬first then 1 else 0
    let slot := match s.liveSector a with
      | none => none
      | some x => ((if first then (if s.entryFree a x 0 then some 0 else none) else s.freeSlot a x lo)).map fun i => (x, i)
    match slot with
    | some (x, i) => programs (entryAddr a x i) bytes
    | none =>
      let keep := (s.moveEntries a).filter fun p => !(first && p.1 == 0)
      let (ops, fresh) := s.moveOps a keep
      let i := if first then 0 else max lo (keep.foldl (fun m p => max m (p.1 + 1)) 0)
      ops ++ programs (entryAddr a fresh i) bytes

/-- A write waits for the flash. -/
def flashQueue (s : State) (r : FlashReq) : State := { s with fla := { s.fla with queue := s.fla.queue ++ [r] } }

/-! ### The operations in progress (R336, R338, R345) -/

/-- A first-fault entry is being written. -/
def State.fflWriting (s : State) : Bool :=
  match s.fla.cur with
  | some (.entry .ffl _ _) => true
  | _ => false

/-- The next request: the queue's first; with an empty queue the first-fault log's clear or its next pending entry. -/
def State.nextRequest (s : State) : Option FlashReq :=
  match s.fla.queue with
  | r :: _ => some r
  | [] =>
    if s.fla.clearWaits then some .fflClear
    else match s.fla.pending.find? (·.1) with
      | some (f, e) => some (.entry .ffl f e)
      | none =>
        match s.fla.pending with
        | (f, e) :: _ => some (.entry .ffl f e)
        | [] => none

/-- If nothing is under way, the next request begins: its operations are planned. -/
def flashBegin (s : State) : State :=
  match s.fla.cur with
  | some _ => s
  | none =>
    match s.nextRequest with
    | none => s
    | some r =>
      { s with fla := { s.fla with cur := some r, ops := s.planRequest r, queue := s.fla.queue.drop 1 } }

/-- R336 for the internal flash: the thermal condition now, the supplies and the hold-up as last evaluated. -/
def State.flashPermitted (s : State) : Bool :=
  s.flag Fld.TH_STATUS_WRITE_OK && s.fla.supplyIf && s.fla.holdIf

def isErase : FlashOp → Bool
  | .erase _ => true
  | .program _ _ => false

/-- The first operation left starts, if it is of the kind named and permitted. -/
def flashStart (s : State) (erase : Bool) : State :=
  let s := flashBegin s
  match s.fla.ops with
  | [] => s
  | op :: _ =>
    if s.fla.busy || isErase op != erase || !s.flashPermitted then s
    else ({ s with fla := { s.fla with busy := true } }).setFlag Fld.IF_STATUS_BUSY true

/-- The operation in progress ends. -/
def flashOpOver (s : State) : State :=
  ({ s with fla := { s.fla with busy := false } }).setFlag Fld.IF_STATUS_BUSY false

/-- The words of a sector read erased. -/
def eraseSector (s : State) (x : Nat) : State :=
  let n := sparseGet s.fla.erases 0 x + 1
  let s := { s with fla := { s.fla with
    mem := s.fla.mem.filter (fun p => p.1 / 512 != x)
    void := s.fla.void.filter (· != x)
    erases := sparseSet s.fla.erases 0 x n } }
  if s.regN Reg.IF_ERASE_MAX < n then s.setRegN Reg.IF_ERASE_MAX (min n 65535) else s

/-- A word is programmed; one that reads back wrong holds a value the spec does not state (log entry 3). -/
def programWord (s : State) (w : Nat) (v : Dword) (good : Bool) : State :=
  let (v, s) := if good then (v, s) else s.draw
  let s := s.when (!good) fun s => s.setFlag Fld.IF_STATUS_WORD_ERR true
  { s with fla := { s.fla with mem := sparseSet s.fla.mem (BitVec.allOnes 64) w v } }

/-- A sector whose erase did not end is void until erased again: nothing in it counts any more (R338, R339, R346). -/
def voidSector (s : State) (x : Nat) : State :=
  { s with fla := { s.fla with
    mem := s.fla.mem.filter (fun p => p.1 / 512 != x), void := x :: s.fla.void.filter (· != x) } }

/-- Thermal shutdown aborts a sector erase in progress: the sector is void, and the erase waits to be done again
(R338). -/
def flashShutdown (s : State) : State :=
  match s.fla.busy, s.fla.ops with
  | true, .erase x :: _ =>
    let s := voidSector (flashOpOver s) x
    s.setFlag Fld.IF_STATUS_ERASE_ABORTED true
  | _, _ => s

/-! ### Write permissions (R336, R337) -/

/-- HOLD of R337 as a fraction: numerator and denominator in units of 10 µs, from HOLD_C in 0.1 µF, VSTK in µV and P_IN
in mW. -/
def holdUp (holdC : Nat) (vstk : Int) (pin : Nat) : Int × Nat :=
  (holdC * (vstk * vstk - 64000000000000), 200000000000 * pin)

/-- HOLD ≥ T_op + HOLD_MARGIN, in units of 10 µs; with no input power the hold-up has no end. -/
def holdEnough (holdC : Nat) (vstk : Int) (pin topUnits margin : Nat) : Bool :=
  let (a, b) := holdUp holdC vstk pin
  decide (((topUnits + margin) * b : Nat) ≤ a) && decide (8000000 ≤ vstk)

/-- The evaluation made once every 1 ms: HS_PIN, HS_HOLD, the REF bits, and what a start may rely on (R336, R337). -/
def permissionCheck (s : State) (vreg vddd vddio pin : Nat) (store : Bool) : State :=
  let c := s.regN Reg.HOLD_C
  let margin := s.regN Reg.HOLD_MARGIN
  let v := s.vstk
  let s := s.setRegN Reg.HS_PIN (min pin 65535)
  let (a, b) := holdUp c v pin
  let (h, s) := if b = 0 then ((if 0 < a then 65535 else 0 : Int), s) else s.divFree a b
  let s := s.setRegN Reg.HS_HOLD (clamp 0 65535 (if v < 8000000 then 0 else h)).toNat
  let temp := s.flag Fld.TH_STATUS_WRITE_OK
  let supIf := decide (4400 ≤ vreg) && decide (1080 ≤ vddd)
  let supNand := decide (3000 ≤ vddio)
  let hIf := holdEnough c v pin 4 margin
  let hNand := holdEnough c v pin 75 margin
  let s := { s with fla := { s.fla with
    supplyIf := supIf, supplyNand := supNand, holdIf := hIf, holdNand := hNand, vreg := vreg } }
  let s := s.setFlag Fld.IF_STATUS_REF_HOLD (!hIf)
  let s := s.setFlag Fld.IF_STATUS_REF_SUPPLY (!supIf)
  let s := s.setFlag Fld.IF_STATUS_REF_TEMP (!temp)
  s.when store fun s =>
    let s := s.setFlag Fld.HS_STATUS_REF_HOLD (!hNand)
    let s := s.setFlag Fld.HS_STATUS_REF_SUPPLY (!supNand)
    s.setFlag Fld.HS_STATUS_REF_TEMP (!temp)

/-! ### The first-fault log (R347 to R349) -/

/-- PENDING and RING_N as FFL_STATUS shows them. -/
def showFfl (s : State) : State :=
  let s := s.setFld Fld.FFL_STATUS_PENDING s.fla.pending.length
  s.setFld Fld.FFL_STATUS_RING_N (min 32 s.fflRing.length)

/-- The snapshot of R348: the bytes of an entry from TB to PROFILE, with the reserved byte. -/
def fflSnapshot (s : State) (step : Nat) : List Byte × State :=
  let (vstk, s) := s.divFree s.vstk 10000
  (leBytes 6 s.tb.value ++ leBytes 4 s.treeTime ++ leBytes 1 s.mode.code ++ leBytes 1 step ++ leBytes 2 (s.regN Reg.TH_TJ)
    ++ (List.range 12).flatMap (fun n => leBytes 2 (s.regN (Reg.RAIL_V n)))
    ++ leBytes 2 s.fla.vreg ++ leBytes 2 vstk.toNat ++ leBytes 1 (s.fld Fld.PROF_STATUS_ACTIVE) ++ leBytes 1 0, s)

/-- A fault entry over a snapshot (R348). -/
def State.fflEntry (s : State) (first : Bool) (src code rail : Nat) (snap : List Byte) : List Byte :=
  sealEntry (leBytes 1 (if first then 1 else 2) ++ leBytes 1 src ++ leBytes 1 code ++ leBytes 1 rail
    ++ leBytes 4 s.fla.faults ++ snap ++ leBytes 4 s.fla.clearGen)

/-- The oldest pending ring entry is dropped (R349). -/
def dropOldest : List (Bool × List Byte) → List (Bool × List Byte)
  | [] => []
  | (true, e) :: rest => (true, e) :: dropOldest rest
  | (false, _) :: rest => rest

/-- The rail step in progress, 0xFF outside a sequence (R358). -/
def State.stepNow (s : State) : Nat := if s.fld Fld.SEQ_STATUS_SEQ = 0 then 255 else s.fld Fld.SEQ_STEP_STEP

/-- What the fault record of the history store holds in its two reserved bytes: for a rail of TYPE LOAD its KIND, which R353
stores with the fault and R348 gives no place (DESIGN CHOICE, log entry 174). -/
def State.faultKind (s : State) (rail : Nat) : List Byte :=
  leBytes 1 (if rail < 12 ∧ s.fld (Fld.RAIL_CFG_TYPE rail) = 2 then s.fld (Fld.RAIL_CFG_KIND rail) else 0) ++ [0]

/-- A fault reaches the first-fault log with its snapshot (R349). `rail` is 0xFF where none is concerned. -/
def captureWith (s : State) (src code rail : Nat) (snap : List Byte) : State :=
  let first := !s.flag Fld.FFL_STATUS_FROZEN
  let s := { s with fla := { s.fla with faults := (s.fla.faults + 1) % 2 ^ 32 } }
  let e := s.fflEntry first src code rail snap
  let s := s.noteEvent 0x11 0 (s.faultKind rail ++ e)
  let s := s.setFlag Fld.FFL_STATUS_FROZEN true
  let all := s.fla.pending ++ [(first, e)]
  let s := if 4 < all.length then
      ({ s with fla := { s.fla with pending := dropOldest all } }).setFlag Fld.FFL_STATUS_LOST true
    else { s with fla := { s.fla with pending := all } }
  showFfl s

/-- A fault is captured now. -/
def captureFault (s : State) (src code rail : Nat) : State :=
  let (snap, s) := fflSnapshot s s.stepNow
  captureWith s src code rail snap

/-- CLEAR of R349 begins: an empty slot, GEN + 1, the ring kept. -/
def fflStartClear (s : State) : State :=
  let g := s.fla.clearGen + 1
  let s := { s with fla := { s.fla with clearWaits := true, clearGen := g, faults := 0 } }
  (s.setFlag Fld.FFL_STATUS_FROZEN false).setRegN Reg.FFL_GEN (g % 65536)

/-- CLEAR in FFL_CMD (R349): while the first fault is still pending it is held back. -/
def fflClear (s : State) : State :=
  if s.fla.pending.any (·.1) then { s with fla := { s.fla with clearHeld := true } } else fflStartClear s

/-- A request of the first-fault log is complete. -/
def fflFinish (s : State) (r : FlashReq) : State :=
  match r with
  | .entry .ffl f e =>
    let s := { s with fla := { s.fla with pending := s.fla.pending.filter (· != (f, e)) } }
    let s := if f && s.fla.clearHeld then fflStartClear { s with fla := { s.fla with clearHeld := false } } else s
    showFfl s
  | .fflClear => showFfl { s with fla := { s.fla with clearWaits := false } }
  | _ => s

/-- The entry FFL_SEL selects: 0 the first-fault slot, 1 to 32 ring entries, newest first; entries captured and not yet
written count (R347, R349). -/
def State.fflSelected (s : State) : List Byte :=
  let k := s.fld Fld.FFL_SEL_ENTRY
  let waiting := (s.fla.pending.filter (!·.1)).map (·.2)
  if k = 0 then
    match s.fla.pending.find? (·.1) with
    | some (_, e) => e
    | none => (s.fflFirst).getD []
  else if k ≤ 32 then ((s.fflRing ++ waiting).reverse).getD (k - 1) [] else []

end Sys2Proof.Machine
end

