-- ==== Sys2Proof/Machine/ThermalOps.lean ====
section
/-!
DEFINITION. The thermal supervisor (spec/14): board NTCs and their conversion, the effective Tj with its substitute,
the three levels, the local check, and the charge inhibit.
-/
namespace Sys2Proof.Machine

/-! ### Board NTCs (R131, R379) -/

/-- One second in ticks of 12.5 ns (spec/00_scope.md, "Numbers and units"). -/
def second : Nat := 80000000

/-- R131: the AUX endpoint's status makes a mapped reading valid. -/
def State.auxValid (s : State) (i : Nat) : Bool :=
  let st := s.mainStatus (24 + i)
  let c := s.chan (24 + i)
  st == stOk || st == stSecondary || st == stCal ||
  (st == stHeld && c.ever && decide (s.now < c.takenAt + second))

/-- The NTC table: codes in mV and temperatures in 0.1 °C. -/
def State.ntcTable (s : State) : List (Nat × Int) :=
  (List.range (s.fld Fld.TH_NT_N_NM1 + 1)).map fun j => (s.regN (Reg.TH_NT_CODE j), s.regI (Reg.TH_NT_TEMP j))

def strictlyUp : List Int → Bool
  | a :: b :: rest => decide (a < b) && strictlyUp (b :: rest)
  | _ => true

/-- Strictly increasing or strictly decreasing. -/
def strictlyMonotone (l : List Int) : Bool := strictlyUp l || strictlyUp (l.map fun x => -x)

/-- The two entries that bracket a key; an end entry brackets itself. -/
def bracket : List (Int × Int) → Int → Option ((Int × Int) × (Int × Int))
  | a :: b :: rest, x =>
    if (a.1 ≤ x ∧ x ≤ b.1) ∨ (b.1 ≤ x ∧ x ≤ a.1) then some (a, b) else bracket (b :: rest) x
  | _, _ => none

/-- Linear interpolation between the bracketing entries; `none` outside the table. The rounding is free (log entry
22). -/
def interpolate (s : State) (table : List (Int × Int)) (x : Int) : Option Int × State :=
  match bracket table x with
  | none => (none, s)
  | some (a, b) =>
    let dx := b.1 - a.1
    let num := a.2 * dx + (b.2 - a.2) * (x - a.1)
    let (v, s) := if 0 < dx then s.divFree num dx else s.divFree (-num) (-dx)
    (some v, s)

/-- The preset NODE program is in charge: it makes the conversions (R266, R267, R379). -/
def State.nodePreset (s : State) : Bool :=
  !s.engNode.own && (s.engNode.st == .running || s.engNode.st == .waiting)

/-- An own NODE program is in charge: the readings are those it writes (R379). -/
def State.nodeOwn (s : State) : Bool := s.engNode.own && (s.engNode.st == .running || s.engNode.st == .waiting)

/-- An own NODE program writes a reading, which is its conversion of the present set (log entry 180). -/
def ntcWritten (s : State) (i : Nat) (v : Half) : State :=
  ({ s with th := { s.th with ntcOwn := i :: s.th.ntcOwn.filter (· != i) } }).setReg (Reg.TH_NTC_T i) v

/-- The conversions of R379 at a publication: TH_NTC_T and TBL_BAD. A reading that an own program has not written since the
last publication is invalid. -/
def ntcConvert (s : State) : State :=
  let on := s.fld Fld.TH_NT_N_NM1 != 0
  let table := s.ntcTable.map fun p => ((p.1 : Int) * 1000, p.2)
  let good := strictlyMonotone (table.map (·.1))
  let s := s.setFlag Fld.TH_STATUS_TBL_BAD (on && !good)
  let s := s.forEach (List.range 6) fun s i =>
    if on && good && s.nodeOwn && s.th.ntcOwn.contains i then s
    else
      let (t, s) := if on && good && s.nodePreset && s.auxValid i
        then interpolate s table (s.mainValue (24 + i)) else (none, s)
      s.setReg (Reg.TH_NTC_T i) (match t with | some v => half v | none => 0x8000)
  { s with th := { s.th with ntcOwn := [] } }

/-- A valid conversion of an AUX input, in 0.1 °C (R131, R379). -/
def State.ntc (s : State) (i : Nat) : Option Int :=
  if i < 6 ∧ s.auxValid i ∧ s.reg (Reg.TH_NTC_T i) ≠ 0x8000 then some (s.regI (Reg.TH_NTC_T i)) else none

/-- The AUX input mapped to a cell; `none` for 0xF and the reserved codes (BAL_NTC). -/
def State.ntcMap (s : State) (k : Nat) : Option Nat :=
  let c := s.regN (Reg.BAL_NTC (k / 4)) / 16 ^ (k % 4) % 16
  if c < 6 then some c else none

/-- The valid reading mapped to a cell. -/
def State.cellNtc (s : State) (k : Nat) : Option Int :=
  match s.ntcMap k with
  | some i => s.ntc i
  | none => none

/-- A signed byte field of BAL_TEMP in 0.1 °C. -/
def signedByte (n : Nat) : Int := (BitVec.ofNat 8 n).toInt

def State.tLo (s : State) : Int := 10 * signedByte (s.fld Fld.BAL_TEMP_T_LO)
def State.tHi (s : State) : Int := 10 * signedByte (s.fld Fld.BAL_TEMP_T_HI)

/-! ### The effective Tj (R382) -/

/-- T_model, where one exists. -/
def State.tModel (s : State) : Option Int :=
  if s.reg Reg.TH_MODEL_TJ = 0x8000 then none else some (s.regI Reg.TH_MODEL_TJ)

def State.substitute (s : State) : Option Int := s.tModel.map fun t => t + 10 * (s.fld Fld.TH_XCHK_SUB_MARGIN : Int)

def State.suspect (s : State) : Bool := s.flag Fld.TH_STATUS_LOCAL_SUSPECT || s.flag Fld.TH_NB_SUSPECT

/-- The table of R382 for a reading: the effective Tj, whether throttle is forced, whether the substitute is in use. -/
def State.effectiveTj (s : State) (sample : Int) : Option Int × Bool × Bool :=
  if s.flag Fld.TH_STATUS_SENSOR_FAIL || s.th.sensorTest then
    match s.substitute with
    | some t => (some t, false, true)
    | none => (s.th.eff, true, false)
  else if s.suspect then
    match s.substitute with
    | some t => (some (max sample t), false, decide (sample < t))
    | none => (some sample, true, false)
  else (some sample, false, false)

/-! ### Levels (R374, R375) -/

/-- Entry and release of warning, throttle, shutdown in 0.1 °C. -/
def State.levelEntry (s : State) (k : Nat) : Int :=
  10 * ((match k with | 0 => s.fld Fld.TH_WARN_ENTRY | 1 => s.fld Fld.TH_THROT_ENTRY | _ => s.fld Fld.TH_SHUT_ENTRY : Nat) : Int)

def State.levelRelease (s : State) (k : Nat) : Int :=
  10 * ((match k with | 0 => s.fld Fld.TH_WARN_RELEASE | 1 => s.fld Fld.TH_THROT_RELEASE | _ => s.fld Fld.TH_SHUT_RELEASE : Nat) : Int)

/-- A level is in force. -/
def State.level (s : State) (k : Nat) : Bool :=
  match k with
  | 0 => s.flag Fld.TH_STATUS_WARN
  | 1 => s.th.throttle
  | _ => s.flag Fld.TH_STATUS_SHUT

/-- THROT shows the level or the forced throttle (R382). -/
def showThrottle (s : State) : State := s.setFlag Fld.TH_STATUS_THROT (s.th.throttle || s.th.forced)

def State.setLevel (s : State) (k : Nat) (b : Bool) : State :=
  match k with
  | 0 => s.setFlag Fld.TH_STATUS_WARN b
  | 1 => showThrottle { s with th := { s.th with throttle := b } }
  | _ => s.setFlag Fld.TH_STATUS_SHUT b

/-- The part runs under throttle. -/
def State.throttled (s : State) : Bool := s.flag Fld.TH_STATUS_THROT

/-- A change the supervisor reports: EVT and engine line 14 (R377). -/
def thermalEvent (s : State) : State := (s.setFlag Fld.TH_STATUS_EVT true).fireAll lineThermal

/-- A level enters, and every lower level with it; entering warning raises the interrupt source (R374, R377). -/
def enterLevel (s : State) (k : Nat) : State :=
  s.forEach ((List.range 3).filter (· ≤ k)) fun s j =>
    if s.level j then s
    else
      let s := thermalEvent (s.setLevel j true)
      s.when (j == 0) fun s => s.raiseIrq irqThermal

/-- One level's count of one sample (R374). -/
def levelSample (s : State) (t : Int) (k : Nat) : State :=
  let up := if s.levelEntry k ≤ t then s.th.up.getD k 0 + 1 else 0
  let down := if t < s.levelRelease k then s.th.down.getD k 0 + 1 else 0
  let s := { s with th := { s.th with up := listPut s.th.up 0 k (min up 8), down := listPut s.th.down 0 k (min down 8) } }
  if !s.level k && decide (8 ≤ up) then enterLevel s k
  else if s.level k && decide (8 ≤ down) then thermalEvent (s.setLevel k false)
  else s

/-- The levels after one sample: shutdown first, so that a level it brings in is in force. -/
def levelsSample (s : State) (t : Int) : State := s.forEach [2, 1, 0] fun s k => levelSample s t k

/-- WRITE_OK (R378). -/
def showWriteOk (s : State) : State :=
  let ok := match s.th.eff with
    | some t => decide (-400 ≤ t) && decide (t ≤ 1250)
    | none => false
  s.setFlag Fld.TH_STATUS_WRITE_OK (ok && !s.flag Fld.TH_STATUS_INIT)

/-- The effective Tj takes a value: TH_MAX follows (TH_MAX, R382). -/
def setEff (s : State) (t : Option Int) : State :=
  let s := { s with th := { s.th with eff := t } }
  match t with
  | none => s
  | some v =>
    if s.th.maxRestart || decide (s.regI Reg.TH_MAX < v) then
      ({ s with th := { s.th with maxRestart := false } }).setReg Reg.TH_MAX (half v)
    else s

/-- The forced throttle of R382; a change of it is a change of the level shown. -/
def setForced (s : State) (b : Bool) : State :=
  let was := s.throttled
  let s := showThrottle { s with th := { s.th with forced := b } }
  if s.throttled = was then s else thermalEvent s

/-- The reading of the sensor is judged (R382): 8 samples in a row outside −55 °C to +175 °C set SENSOR_FAIL. -/
def sensorRange (s : State) (x : Int) : State :=
  let n := if x < -550 ∨ 1750 < x then min 8 (s.th.outside + 1) else 0
  let s := { s with th := { s.th with outside := n } }
  if n = 8 ∧ ¬s.flag Fld.TH_STATUS_SENSOR_FAIL then
    captureFault (thermalEvent (s.setFlag Fld.TH_STATUS_SENSOR_FAIL true)) 9 2 255
  else s

/-- The power-up evaluation begins after a self-test of the sensor (R375): no level is reported, and leaving one is a change of
it (R377). -/
def thermalInit (s : State) : State :=
  let had := s.flag Fld.TH_STATUS_WARN || s.throttled || s.flag Fld.TH_STATUS_SHUT
  let s := { s with th := { s.th with
    initCount := 0, initSum := 0, eff := none, throttle := false, forced := false, up := [0, 0, 0], down := [0, 0, 0] } }
  let s := s.setFlag Fld.TH_STATUS_INIT true
  let s := s.setFlag Fld.TH_STATUS_WARN false
  let s := s.setFlag Fld.TH_STATUS_SHUT false
  let s := showWriteOk (showThrottle s)
  if had then thermalEvent s else s

/-- The power-up evaluation ends: the mean of 8 samples sets the levels (R375, R382). -/
def thermalPowerUp (s : State) : State :=
  let s := s.setFlag Fld.TH_STATUS_INIT false
  let (mean, s) := s.divFree s.th.initSum 8
  let (t, forced, subst) := s.effectiveTj mean
  let s := setEff s t
  let s := s.setFlag Fld.TH_STATUS_SUBST subst
  let s := match t with
    | none => s
    | some v =>
      let exact := !s.flag Fld.TH_STATUS_SENSOR_FAIL && decide (v = mean)
      let atLeast (limit : Int) : Bool := if exact then decide (8 * limit ≤ s.th.initSum) else decide (limit ≤ v)
      let s := if atLeast (s.levelEntry 0) then
          (thermalEvent (s.setLevel 0 true)).raiseIrq irqThermal
        else s
      let s := if atLeast (s.levelEntry 1) then thermalEvent (s.setLevel 1 true) else s
      if atLeast (s.levelRelease 2) then thermalEvent (s.setLevel 2 true) else s
  showWriteOk (setForced s forced)

/-- One sample of the die sensor up to the levels (R373 to R375, R382). -/
def thermalSample (s : State) (x : Int) : State :=
  let s := s.setReg Reg.TH_TJ (half x)
  let s := sensorRange s x
  if s.flag Fld.TH_STATUS_INIT then
    let s := { s with th := { s.th with initCount := s.th.initCount + 1, initSum := s.th.initSum + x } }
    if s.th.initCount < 8 then s else thermalPowerUp s
  else
    let (t, forced, subst) := s.effectiveTj x
    let s := setEff s t
    let s := s.setFlag Fld.TH_STATUS_SUBST subst
    let s := match t with
      | some v => levelsSample s v
      | none => s
    showWriteOk (setForced s forced)

/-! ### Model and local check (R380) -/

/-- The readings of the board NTCs that are valid. -/
def State.boardNtcs (s : State) : List Int :=
  (List.range 6).filterMap fun i => if (s.reg Reg.TH_BOARD).getLsbD i then s.ntc i else none

/-- LOCAL_SUSPECT takes a value. -/
def setLocalSuspect (s : State) (b : Bool) : State :=
  if s.flag Fld.TH_STATUS_LOCAL_SUSPECT = b then s else thermalEvent (s.setFlag Fld.TH_STATUS_LOCAL_SUSPECT b)

/-- T_model of R380 in 0.1 °C, from THETA in 0.1 °C per W and P_IN in mW; the check follows while LOCAL_EN is 1. -/
def modelCheck (s : State) : State :=
  match s.boardNtcs with
  | [] => s.setReg Reg.TH_MODEL_TJ 0x8000
  | l =>
    let n : Int := l.length
    let theta : Int := s.fld Fld.TH_MODEL_THETA
    let pin : Int := s.regN Reg.HS_PIN
    let (t, s) := s.divFree (1000 * l.foldl (· + ·) 0 + n * theta * pin) (1000 * n)
    let s := s.setReg Reg.TH_MODEL_TJ (half t)
    if !s.flag Fld.TH_CTL_LOCAL_EN then s
    else
      let persist := s.fld Fld.TH_XCHK_PERSIST
      let (bad, good, now) := persistRule persist s.th.xBad s.th.xGood
        (decide (10 * s.fld Fld.TH_MODEL_XTOL < (s.tj - t).natAbs)) (s.flag Fld.TH_STATUS_LOCAL_SUSPECT)
      setLocalSuspect { s with th := { s.th with xBad := bad, xGood := good } } now

/-- TH_NB as the root writes it: NB_SUSPECT is a copy of its SUSPECT bit (R381). -/
def showNb (s : State) : State :=
  let b := s.flag Fld.TH_NB_SUSPECT
  if s.flag Fld.TH_STATUS_NB_SUSPECT = b then s else thermalEvent (s.setFlag Fld.TH_STATUS_NB_SUSPECT b)

/-- CLR_SUSPECT: LOCAL_SUSPECT, SUSPECT and their counts. -/
def clearSuspect (s : State) : State :=
  let s := { s with th := { s.th with xBad := 0, xGood := 0 } }
  showNb ((setLocalSuspect s false).setFlag Fld.TH_NB_SUSPECT false)

/-- CLR_MAX: TH_MAX restarts with the next effective Tj. -/
def clearMax (s : State) : State := { s with th := { s.th with maxRestart := true } }

/-! ### Charge inhibit (R383) -/

/-- Active cells with a mapped NTC. -/
def State.mappedCells (s : State) : List Nat := (List.range s.cells).filter fun k => (s.ntcMap k).isSome

/-- Set outside T_LO to T_HI or with an invalid reading; clear with every reading 2 °C inside. -/
def chargeInhibit (s : State) : State :=
  let r := s.mappedCells.map s.cellNtc
  let lo := s.tLo
  let hi := s.tHi
  let bad := r.any fun t => match t with | some v => decide (v < lo) || decide (hi < v) | none => true
  let good := r.all fun t => match t with | some v => decide (lo + 20 ≤ v) && decide (v ≤ hi - 20) | none => false
  let was := s.flag Fld.TH_STATUS_CHG_INH
  let now := if bad then true else if good then false else was
  if now = was then s else thermalEvent (s.setFlag Fld.TH_STATUS_CHG_INH now)

/-- R376: a threshold register keeps its value unless the order of all three holds. -/
def thermalOrderOk (warn throt shut : Half) : Bool :=
  let e (w : Half) : Nat := w.toNat / 256
  let r (w : Half) : Nat := w.toNat % 256
  decide (r warn + 2 ≤ e warn) && decide (r throt + 2 ≤ e throt) && decide (r shut + 2 ≤ e shut) &&
  decide (e warn ≤ e throt) && decide (e throt ≤ e shut) && decide (e shut ≤ 150)

end Sys2Proof.Machine
end

