-- ==== Sys2Proof/Machine/BalOps.lean ====
section
/-!
DEFINITION. Charge-transfer balancing (spec/05, R116 to R139): plans and their stage, permissions, slots and stagger,
metering, trips and lockouts, and what the latch reports.
-/
namespace Sys2Proof.Machine

/-! ### Channels, groups, plans -/

/-- The group of the cell at endpoint `k`, and the key of its channel (R122). -/
def balGroup (k : Nat) : Nat := k / 6
def balKey (k : Nat) : Nat := 4 * (k % 6) + k / 6

/-- The channels in ascending key order. -/
def balKeyOrder : List Nat := (List.range 6).flatMap fun i => (List.range 4).map fun n => 6 * n + i

def State.balChan (s : State) (k : Nat) : BalChan := sparseGet s.bal.chans {} k

def State.setBalChan (s : State) (k : Nat) (c : BalChan) : State :=
  { s with bal := { s.bal with chans := sparseSet s.bal.chans {} k c } }

def State.balGrp (s : State) (n : Nat) : BalGroup := s.bal.groups.getD n {}

def State.setBalGrp (s : State) (n : Nat) (g : BalGroup) : State :=
  { s with bal := { s.bal with groups := listPut s.bal.groups {} n g } }

/-- DIR of a setpoint word: 0 idle, 1 C2B, 2 B2C. -/
def spDir (w : Half) : Nat := w.toNat / 16384
/-- SETPT in 10 mA. -/
def spSet (w : Half) : Nat := w.toNat % 256

/-- The direction the running plan asks of a channel; 0 without a plan. -/
def State.balDir (s : State) (k : Nat) : Nat :=
  match s.bal.running with
  | some p => spDir (p.sp.getD k 0)
  | none => 0

def State.balSetpt (s : State) (k : Nat) : Nat :=
  match s.bal.running with
  | some p => spSet (p.sp.getD k 0)
  | none => 0

def State.locked (s : State) (n : Nat) : Bool := s.flag (Fld.BAL_GRP_LOCKED n)

/-- The IS monitor of a group is in service (R20, R188): enabled, not under self-test, its threshold trimmed. -/
def State.isInService (s : State) (n : Nat) : Bool :=
  s.flag (Fld.MON_CTL_EN n) && !s.mon.test.contains n && !s.mon.failed.contains n && !s.cal.untrimmed && s.trimsLoaded

/-! ### The stage (R137, R138) -/

def stageNone : Nat := 0
def stagePrepared : Nat := 1
def stageCommitted : Nat := 2

def State.balStage (s : State) : Nat := s.fld Fld.BAL_STATUS_STAGE

/-- The plan the registers hold. -/
def State.planRegs (s : State) : Plan :=
  { sp := (List.range 24).map fun k => s.reg (Reg.BAL_SP k)
    bud := (List.range 24).map fun k => s.reg (Reg.BAL_BUD k)
    limit := s.reg Reg.BAL_PLAN_TO }

/-- A chain transaction holds the stage of a subsystem: it prepared it, and the stage has not become active. -/
def State.chainHoldsStage (s : State) (sub : Nat) : Bool :=
  match sparseGet s.txn none sub with
  | some t => !t.active
  | none => false

def State.chainHolds (s : State) : Bool := s.chainHoldsStage 1

/-- The first cause of R137 that applies; 0 none. -/
def State.balPrepareError (s : State) (p : Plan) (byChain : Bool) : Nat :=
  let cells := List.range 24
  let asks (k : Nat) : Bool := spDir (p.sp.getD k 0) != 0
  if cells.any (fun k => decide (s.fld Fld.BAL_IMAX_IMAX < spSet (p.sp.getD k 0)) || spDir (p.sp.getD k 0) == 3 ||
      (asks k && decide (s.cells ≤ k))) then 1
  else if !(s.mode == .active || s.mode == .balance) || !s.flag Fld.BAL_CTL_EN then 2
  else if cells.any (fun k => asks k && s.locked (balGroup k)) then 3
  else if !cells.any asks then 4
  else if !byChain && s.balStage != stageNone && s.chainHolds then 6
  else 0

/-- The shadow is dropped (R145). -/
def balDropShadow (s : State) : State :=
  ({ s with bal := { s.bal with shadow := none } }).setFlag Fld.BAL_STATUS_SHADOW false

/-- PREPARE (R137). -/
def balPrepare (s : State) (byChain : Bool) : State :=
  let p := s.planRegs
  let err := s.balPrepareError p byChain
  let s := balDropShadow s
  let s := s.setFld Fld.BAL_STATUS_PLAN_ERR err
  if err = 0 then
    ({ s with bal := { s.bal with staged := some p } }).setFld Fld.BAL_STATUS_STAGE stagePrepared
  else s

/-- COMMIT written to BAL_CMD (R138). A chain transaction that had prepared the stage holds it no more. -/
def balCommit (s : State) : State :=
  if s.balStage = stagePrepared then
    let s := if s.chainHolds then { s with txn := sparseSet s.txn none 1 none } else s
    (s.setFld Fld.BAL_STATUS_STAGE stageCommitted).setRegN Reg.BAL_ACT ((s.regN Reg.SWEEP_NUM + 1) % 65536)
  else s

/-- The stage is empty again. -/
def balClearStage (s : State) : State :=
  ({ s with bal := { s.bal with staged := none }, txn := sparseSet s.txn none 1 none }).setFld
    Fld.BAL_STATUS_STAGE stageNone

/-- CANCEL (R138). -/
def balCancel (s : State) : State :=
  if s.balStage = stageNone then s
  else (balClearStage s).setFlag Fld.BAL_STATUS_CANCELLED true

/-- All channels leave the slot set. A pulse that has begun is not cut short (R129). -/
def balGatesOff (s : State) : State :=
  s.forEach (List.range 24) fun s k =>
    if (s.balChan k).joined then s.setBalChan k { s.balChan k with joined := false, soft := 0 } else s

/-- The running plan ends (R139). In BALANCE the node returns to ACTIVE at the next boundary. -/
def balEndPlan (s : State) : State :=
  match s.bal.running with
  | none => s
  | some _ =>
    let s := balGatesOff s
    let s := { s with bal := { s.bal with running := none, stopping := false, leaving := true } }
    let s := s.setFlag Fld.BAL_STATUS_RUN false
    (s.setFlag Fld.BAL_STATUS_DONE true).stopTimer .balPlan

/-- STOP: the plan ends with the period in progress (R138). -/
def balStop (s : State) : State :=
  match s.bal.running with
  | none => s
  | some _ => { s with bal := { s.bal with stopping := true } }

/-! ### Permissions (R130 to R135) -/

/-- R130 with its release band; an invalid reading forbids (R131), and so does the supervisor's power-up (R375). -/
def tempForbidden (s : State) (k : Nat) (was : Bool) : Bool :=
  s.flag Fld.TH_STATUS_INIT ||
  match s.cellNtc k with
  | none => true
  | some t =>
    if was then decide (t < s.tLo + 20) || decide (s.tHi - 20 < t) else decide (t < s.tLo) || decide (s.tHi < t)

/-- R132 for the upper limit: at or above VLIM_HI, released 20 mV inside. -/
def hiForbidden (s : State) (k : Nat) (was : Bool) : Bool :=
  let v := s.mainValue k
  let lim : Int := 1000 * s.regN Reg.BAL_VLIM_HI
  if was then decide (lim - 20000 < v) else decide (lim ≤ v)

/-- R132 for the lower limit. -/
def loForbidden (s : State) (k : Nat) (was : Bool) : Bool :=
  let v := s.mainValue k
  let lim : Int := 1000 * s.regN Reg.BAL_VLIM_LO
  if was then decide (v < lim + 20000) else decide (v ≤ lim)

/-- A pull test runs whose cells include the cell (R76, R133). -/
def State.pullAffects (s : State) (k : Nat) : Bool := s.wd.hold.any fun p => p.1 == k && !p.2.2

/-- R133, first sentence. -/
def State.balExcluded (s : State) (k : Nat) : Bool :=
  decide (s.cells ≤ k) || s.epFault k || s.openSuspect k || s.pullAffects k

/-- R133, second sentence; the pause in CALIBRATE (R392) and that of R462 while VREG sags. -/
def State.balPaused (s : State) (n : Nat) : Bool :=
  s.mode == .calibrate || s.acq.calGroups.contains n || !s.isInService n || s.flag Fld.MODE_STATUS_VREG_SAG

/-- Under throttle the groups that rest in this sweep (R134). -/
def State.halvedOut (s : State) (n : Nat) : Bool :=
  s.throttled && (if s.regN Reg.SWEEP_NUM % 2 = 0 then decide (2 ≤ n) else decide (n < 2))

/-- What R130 to R134 say of a channel: a state code of R136, or 0. The supervisor's power-up withholds every permission (R375);
no code is stated for cell-to-block then: TEMP (DESIGN CHOICE, log entry 171). -/
def State.balBlock (s : State) (k : Nat) (c : BalChan) : Nat :=
  if s.balExcluded k then 3
  else if s.balPaused (balGroup k) then 4
  else if (s.balDir k = 2 ∧ c.tempOff) ∨ s.flag Fld.TH_STATUS_INIT then 5
  else if (s.balDir k = 2 ∧ c.hiOff) ∨ (s.balDir k = 1 ∧ c.loOff) then 6
  else if s.halvedOut (balGroup k) then 7
  else 0

/-- The evaluation of R135. What it changes takes effect when the next period starts. -/
def balPermissions (s : State) : State :=
  let s := s.forEach (List.range 24) fun s k =>
    let c := s.balChan k
    let c := { c with
      tempOff := tempForbidden s k c.tempOff, hiOff := hiForbidden s k c.hiOff, loOff := loForbidden s k c.loOff }
    s.setBalChan k { c with block := s.balBlock k c }
  s.setFlag Fld.BAL_STATUS_HALVED s.throttled

/-! ### What runs: the plan's channels, or in SPECTRUM the excited ones (R87, R119) -/

/-- An impedance point excites the cell (R87, R110). -/
def State.excited (s : State) (k : Nat) : Bool :=
  s.mode == .spectrum && s.imp.inPoint && s.imp.corr.any fun c => c.cell == k && c.stop == 0

/-- The phase of the excitation, of 2^32 (R88). -/
def State.excPhase (s : State) : Nat := s.imp.phase % 4294967296

/-- The direction a channel is driven in: that of the running plan, or in SPECTRUM the excitation's, whose current flows
into the cell in the first half of its cycle (R87). 0: none. -/
def State.driveDir (s : State) (k : Nat) : Nat :=
  if s.mode == .spectrum then (if s.excited k then (if s.excPhase < 2147483648 then 2 else 1) else 0) else s.balDir k

/-- A channel that may transfer in the next period. -/
def State.balWants (s : State) (k : Nat) : Bool :=
  let c := s.balChan k
  !s.locked (balGroup k) && !(s.balGrp (balGroup k)).off &&
  (if s.mode == .spectrum then s.excited k
   else s.mode == .balance && s.balDir k != 0 && !c.reached && c.block == 0)

/-- The B2C requesters of a group that may run, lowest cell first. -/
def State.b2cOf (s : State) (n : Nat) : List Nat :=
  ((List.range 6).map (6 * n + ·)).filter fun k => s.driveDir k == 2 && s.balWants k

/-! ### Slots (R119, R121 to R123) -/

/-- A quotient to the nearest integer; a half goes either way (log entry 22). -/
def State.roundFree (s : State) (a b : Nat) : Nat × State :=
  let r := a % b
  if 2 * r < b then (a / b, s)
  else if b < 2 * r then (a / b + 1, s)
  else let (k, s) := s.drawBelow 2; (a / b + k, s)

/-- The channels that join at this period's start: at most JOIN_MAX, in ascending key order (R123). In SPECTRUM the excited
channels start with their point, all at once (R95). -/
def State.balJoining (s : State) : List Nat :=
  let l := balKeyOrder.filter fun k => s.balWants k && !(s.balChan k).joined
  if s.mode == .spectrum then l else l.take (s.fld Fld.BAL_CTL_JOIN_MAX)

/-- The slots, in ascending key order, each as the channels it serves: a C2B channel, or a group's joined B2C
requesters under the key of the lowest (R122). -/
def State.balSlots (s : State) : List (List Nat) :=
  balKeyOrder.filterMap fun k =>
    if !(s.balChan k).joined then none
    else if s.driveDir k = 1 then some [k]
    else
      let all := (s.b2cOf (balGroup k)).filter fun j => (s.balChan j).joined
      if all.head? = some k then some all else none

/-- An offset moves toward its new value by at most `step` (R123). -/
def moveToward (step from' to' : Nat) : Nat :=
  if from' < to' then min to' (from' + step) else max to' (from' - min step from')

/-- The slot recomputation of R123: channels that may no longer run leave, at most JOIN_MAX join at their new offsets,
the others move by at most P/16, which is P in units of 1/16 tick. -/
def balSlotRecompute (s : State) : State :=
  let s := s.forEach (List.range 24) fun s k =>
    let c := s.balChan k
    if c.joined && !s.balWants k then s.setBalChan k { c with joined := false, soft := 0 } else s
  let joining := s.balJoining
  let s := s.forEach joining fun s k =>
    s.setBalChan k { s.balChan k with joined := true, soft := 0, on := 0, lastQ := 0, debt := 0 }
  let p := s.bal.period
  let slots := s.balSlots
  s.forEach (slots.zipIdx) fun s x =>
    let (target, s) := s.roundFree (x.2 * p) slots.length
    s.forEach x.1 fun s k =>
      let c := s.balChan k
      let o := if joining.contains k then 16 * target else moveToward p c.offset (16 * target)
      s.setBalChan k { c with offset := o }

/-- The turn of a group's B2C period: the lowest requester after the one that last completed a pulse, wrapping
(R119). -/
def b2cTurn (all : List Nat) (last : Option Nat) : Option Nat :=
  match last with
  | none => all.head?
  | some l => match all.find? (l < ·) with
    | some k => some k
    | none => all.head?

/-! ### Regulation (R87, R89, R120, R123, R125, R129) -/

/-- The greatest r with r^p ≤ a, bit by bit from bit `fuel` down. -/
def rootFrom (p a : Nat) : Nat → Nat → Nat
  | 0, r => r
  | k + 1, r => let t := r + 2 ^ k; rootFrom p a k (if t ^ p ≤ a then t else r)

def floorRoot (p a : Nat) : Nat := rootFrom p a (Nat.log2 a / p + 1) 0

/-- Soft-start length in periods. -/
def State.softPeriods (s : State) : Nat := 2 ^ (s.fld Fld.BAL_CTL_SOFT + 1)

/-- sin(2π × phase / 2^32) for a phase of the first quarter, in units of 10^-9, by its series. -/
def sineQuarter (phase : Nat) : Nat :=
  let x : Int := 6283185307 * phase / 4294967296
  let x2 := x * x / 1000000000
  ((List.range 8).foldl (fun (acc : Int × Int) (k : Nat) =>
    (acc.1 + acc.2, -(acc.2 * x2 / 1000000000 / ((2 * k + 2) * (2 * k + 3) : Nat)))) (0, x)).1.toNat

/-- |sin| of a phase of 2^32, in units of 10^-9. -/
def sineSize (phase : Nat) : Nat :=
  let h := phase % 2147483648
  sineQuarter (if h ≤ 1073741824 then h else 2147483648 - h)

/-- A in mA: 50 mA × AMP of the working plan (R87). -/
def State.excAmplitude (s : State) : Nat :=
  match s.imp.plan with
  | some p => 50 * (p.ctl.toNat / 16 % 16)
  | none => 0

/-- The mean cell-side current of a channel's next pulse over its period, in mA: A × |sin| in SPECTRUM (R87); else the
setpoint, or for one of several B2C requesters what would give each its setpoint, capped at IMAX (R120); it ramps from zero
over the soft start (R123). -/
def State.pulseCurrent (s : State) (k : Nat) : Nat :=
  if s.mode == .spectrum then s.excAmplitude * sineSize s.excPhase / 1000000000
  else
    let b := (s.b2cOf (balGroup k)).length
    let full := 10 * (if s.balDir k = 2 ∧ 1 < b then min (b * s.balSetpt k) (s.fld Fld.BAL_IMAX_IMAX) else s.balSetpt k)
    full * min ((s.balChan k).soft + 1) s.softPeriods / s.softPeriods

/-- The longest on-time, in 1/16 tick, whose cell-side current stays within IPK (R125): the current rises from zero with the
cell's voltage over LMAG, or with the block's over LMAG and the turns ratio (DEDUCED, log entry 25). IPK is in 10 mA, LMAG
in 0.1 µH, TURNS in 1/8, voltages in µV. Without a positive voltage no on-time is known to be within it. -/
def State.onLimit (s : State) (k : Nat) : Nat :=
  let l := 1280000 * s.fld Fld.BAL_IPK_IPK * s.regN Reg.BAL_LMAG
  if s.driveDir k = 2 then l * s.fld Fld.BAL_XFMR_TURNS / (8 * s.vstk.toNat) else l / (s.mainValue k).toNat

/-- A/(πf) in mA times ticks, for the frequency word of the point (R88, R89). -/
def State.halfCharge (s : State) : Nat := s.excAmplitude * 32 * 2 ^ 32 * 1000000000 / (3141592654 * max 1 s.imp.fw)

/-- The net charge of the present excitation cycle in a cell, in mA times ticks: what its ended pulses moved, and what those
still to be metered are to move (R89). -/
def State.cycleNet (s : State) (k : Nat) : Int :=
  let cyc := s.imp.phase / 4294967296
  let met : Int := match s.imp.corr.find? (·.cell == k) with
    | some c => if c.cycle = cyc then 80 * c.net else 0
    | none => 0
  ((s.balChan k).pulses.filter (·.cycle == cyc)).foldl (fun t p => t + p.want) met

/-- What an excitation pulse is to move, in mA times ticks (R87, R89). The first half of the cycle follows the sine into the
cell; the second takes out again what the cycle has put in, spread over the rest of the half as the sine is, within the
±0.1 % of A/(πf). Where within it is not stated: a free value (log entry 152). -/
def State.excWant (s : State) (k : Nat) : Int × State :=
  let i : Int := s.pulseCurrent k * s.bal.period
  if s.driveDir k = 2 then (i, s)
  else
    let half := s.halfCharge
    let size := sineSize (s.excPhase / 2)
    let left : Int := half * size * size / 1000000000000000000
    let net := s.cycleNet k
    let band := half / 1000
    let (t, s) := s.drawBelow (2 * band + 1)
    let out := if left ≤ i then net else net * i / left
    (out + (t - band : Int), s)

/-- The charge a pulse is to move, in mA times ticks. -/
def State.pulseWant (s : State) (k : Nat) : Int × State :=
  if s.mode == .spectrum then s.excWant k
  else ((s.balChan k).debt + s.pulseCurrent k * s.bal.period, s)

/-- The on-time, in 1/16 tick, that moves a charge in mA times ticks through an ideal channel: the energy ½ L i² of the
primary's ramp, from the declared turns ratio and LMAG (R125, DEDUCED, log entry 25). -/
def State.onFor (s : State) (k : Nat) (want : Int) : Nat :=
  let w := want.toNat * s.regN Reg.BAL_LMAG
  let v := (s.mainValue k).toNat
  let turns := s.fld Fld.BAL_XFMR_TURNS
  if s.driveDir k = 2 then floorRoot 2 (64000 * w * turns * turns * v / (s.vstk.toNat * s.vstk.toNat))
  else floorRoot 2 (4096000 * w / v)

/-- The on-time of a channel's next pulse, in 1/16 tick; 0: none. It is at least 12 ticks (R124) and within IPK, longer
than the last where that moved less than is wanted, shorter where it moved more (R125). By how much is not stated: a free
value (log entry 25). While a channel's current ramps up, and for a first pulse, no pulse is longer than what moves the wanted
charge (R123). -/
def State.pulseOn (s : State) (k : Nat) (want : Int) : Nat × State :=
  let c := s.balChan k
  let ramps := c.on == 0 || s.mode != .spectrum && decide (c.soft < s.softPeriods)
  let most := min (s.onLimit k) (15 * s.bal.period)
  let top := if ramps then min most (s.onFor k want) else most
  if want ≤ 0 ∨ top < 192 then (0, s)
  else
    let got : Int := 80 * c.lastQ
    let lo := if c.on ≠ 0 ∧ got < want then min top (max 192 c.on) else 192
    let hi := if c.on ≠ 0 ∧ want < got then max 192 (min top c.on) else top
    let (d, s) := s.drawBelow (hi - lo + 1)
    (lo + d, s)

/-! ### Placing the pulses (R124, R129, R175, R177) -/

/-- An edge put in its place by time. -/
def insertEdge (e : Nat × Nat) : List (Nat × Nat) → List (Nat × Nat)
  | [] => [e]
  | x :: rest => if e.1 < x.1 then e :: x :: rest else x :: insertEdge e rest

/-- The first tick from `t` on that lies at least 12 ticks from each of the rising edges `fixed`. -/
def clearOf (t : Nat) : List Nat → Nat
  | [] => t
  | x :: rest => clearOf (if t < x + 12 ∧ x < t + 12 then x + 12 else t) rest

/-- Edges of a group in order of time, none before `lo`, each at least 12 ticks after the one before it and away from the
`fixed` ones: the later edge is delayed (R124). -/
def spaceEdges (fixed : List Nat) (lo : Nat) : List (Nat × Nat) → List (Nat × Nat)
  | [] => []
  | (t, x) :: rest =>
    let u := clearOf (max lo t) fixed
    (u, x) :: spaceEdges fixed (u + 12) rest

/-- The pulses of a group, each a channel with its two edges, with the edges kept apart (R124), and from the edges of pulses
that still run: those were placed in the period before, and a placed pulse is not moved (R177). -/
def spacePulses (fixed : List Nat) (l : List (Nat × Nat × Nat)) : List (Nat × Nat × Nat) :=
  let edges := l.flatMap fun p => [(p.2.1, 2 * p.1), (p.2.2, 2 * p.1 + 1)]
  let placed := spaceEdges fixed 0 (edges.foldl (fun acc e => insertEdge e acc) [])
  let time (tag t : Nat) : Nat := ((placed.find? (·.2 == tag)).map (·.1)).getD t
  l.map fun p => (p.1, time (2 * p.1) p.2.1, time (2 * p.1 + 1) p.2.2)

/-- The pulses of a group's channels that are still to be metered. -/
def State.groupPulses (s : State) (n : Nat) : List BalPulse :=
  ((List.range 6).map (6 * n + ·)).flatMap fun k => (s.balChan k).pulses

/-- The edges of a group's earlier pulses that a new edge has to keep clear of: those ahead, and those of the last 11 ticks,
in order of time. -/
def State.edgesAhead (s : State) (n : Nat) : List Nat :=
  let l := (s.groupPulses n).flatMap (fun p => [p.rise, p.fall]) ++ (s.balGrp n).recent
  ((l.filter fun t => decide (s.now < t + 12)).foldl (fun acc t => insertEdge (t, 0) acc) []).map (·.1)

/-- The last falling edge of the generator that drives the channel next: its output must be low before it rises again. -/
def State.outputFree (s : State) (k : Nat) : Nat :=
  let b2c := s.driveDir k == 2
  let mine := if b2c then (List.range 6).map (6 * balGroup k + ·) else [k]
  (mine.flatMap fun j => ((s.balChan j).pulses.filter (·.b2c == b2c)).map (·.fall + 12)).foldl max 0

/-- The channel gives a pulse in this period: it runs C2B, or has its group's B2C turn. -/
def State.pulsesNow (s : State) (k : Nat) : Bool :=
  (s.balChan k).joined && (s.driveDir k == 1 || (s.balGrp (balGroup k)).served == some k)

/-- A channel's next pulse is computed, its edges put on ticks with the remainders of its generator carried (R175); the
charge it is to move is owed from here on. -/
def planPulse (acc : State × List (Nat × Nat × Nat)) (k : Nat) : State × List (Nat × Nat × Nat) :=
  let (s, l) := acc
  let (want, s) := s.pulseWant k
  let (on, s) := s.pulseOn k want
  let c := { s.balChan k with debt := want }
  if on = 0 then (s.setBalChan k c, l)
  else
    let n := balGroup k
    let g := s.balGrp n
    let b2c := s.driveDir k == 2
    let (r, rr) := placeEdge (65536 * c.offset) (if b2c then g.riseRem else c.riseRem)
    let (f, fr) := placeEdge (65536 * (c.offset + on)) (if b2c then g.fallRem else c.fallRem)
    let rise := max (s.now + r.toNat) (s.outputFree k)
    let s := if b2c then (s.setBalGrp n { g with riseRem := rr, fallRem := fr }).setBalChan k { c with on := on }
      else s.setBalChan k { c with on := on, riseRem := rr, fallRem := fr }
    (s, l ++ [(k, rise, max (rise + 12) (s.now + f.toNat))])

/-- The whole span of a pulse lies outside every quiet window (R129, R177). -/
def State.pulseClear (s : State) (p : Nat × Nat × Nat) : Bool :=
  !s.meetsQuiet (s.sinceWrap + 16 * ((p.2.1 : Int) - s.now)) (16 * ((p.2.2 : Int) - p.2.1))

/-- The pulses of the period (R87, R92, R124, R125, R129, R177): which channel each group's B2C slot serves, and where the
edges stand. A pulse that meets a quiet window is omitted and counted; one that the spacing would make longer than IPK
allows is not given (R125). -/
def balPulses (s : State) : State :=
  let s := s.forEach [0, 1, 2, 3] fun s n =>
    let all := (s.b2cOf n).filter fun k => (s.balChan k).joined
    s.setBalGrp n { s.balGrp n with served := b2cTurn all (s.balGrp n).last }
  let (s, planned) := (balKeyOrder.filter s.pulsesNow).foldl planPulse (s, [])
  let open' := planned.filter s.pulseClear
  let placed := [0, 1, 2, 3].flatMap fun n =>
    spacePulses (s.edgesAhead n) (open'.filter fun p => balGroup p.1 == n)
  s.forEach planned fun s p =>
    let k := p.1
    let c := s.balChan k
    match placed.find? (·.1 == k) with
    | some q =>
      if !s.pulseClear q then (s.incPair Reg.PG_OMIT_LO Reg.PG_OMIT_HI).setBalChan k { c with omitted := true }
      else if s.onLimit k < 16 * (q.2.2 - q.2.1) then s
      else
        let b2c := s.driveDir k == 2
        let pulse : BalPulse := { rise := q.2.1, fall := q.2.2, b2c := b2c, want := if b2c then c.debt else -c.debt
                                  cycle := s.imp.phase / 4294967296 }
        s.setBalChan k { c with pulses := c.pulses ++ [pulse] }
    | none => (s.incPair Reg.PG_OMIT_LO Reg.PG_OMIT_HI).setBalChan k { c with omitted := true }

/-- PG_RUN: PG(k − 1) of a running C2B channel, PG(24 + n) of a group that runs B2C (R116, R174). -/
def balShowRun (s : State) : State :=
  let bit (i : Nat) (on : Bool) : Nat := if on then 2 ^ i else 0
  let c2b := (List.range 24).map fun k => bit k ((s.balChan k).joined && s.driveDir k == 1)
  let b2c := (List.range 4).map fun n => bit (24 + n) ((s.balGrp n).served.isSome)
  s.setPair Reg.PG_RUN_LO Reg.PG_RUN_HI ((c2b ++ b2c).foldl (· + ·) 0)

/-! ### Metering and the end of a period (R126, R139) -/

/-- The cell-side and the block-side charge of a pulse in nC, from the steps at its edges in µV, positive for B2C: the
winding the switch drives carries the mean of its two currents for the on-time; the other carries, at its voltage, the
energy the pulse stored in LMAG (R126; DEDUCED, log entry 153). RSNS is in 10 µΩ, TURNS in 1/8. -/
def State.pulseCharge (s : State) (k : Nat) (p : BalPulse) (step0 step1 : Int) : (Int × Int) × State :=
  let turns : Int := s.fld Fld.BAL_XFMR_TURNS
  let rsns : Int := s.regN Reg.BAL_RSNS
  let on : Int := (p.fall - p.rise : Nat)
  let energy : Int := 500000 * s.regN Reg.BAL_LMAG * turns * turns * (step1 * step1 - step0 * step0)
  if p.b2c then
    let (b, s) := s.divFree (5 * (step0 + step1) * on) (8 * rsns)
    let (c, s) := s.divFree energy (64 * rsns * rsns * max 1 (s.mainValue k))
    ((c, b), s)
  else
    let (c, s) := s.divFree (5 * (step0 + step1) * turns * on) (64 * rsns)
    let (b, s) := s.divFree energy (64 * rsns * rsns * max 1 s.vstk)
    ((-c, -b), s)

/-- A pulse's charge enters the correlator of its cell: into its slot's sums, and into the net charge of the cycle it was
planned in (R89, R94, R126). -/
def meterExcitation (s : State) (k cycle : Nat) (q b : Int) : State :=
  { s with imp := { s.imp with corr := s.imp.corr.map fun c =>
    if c.cell ≠ k then c
    else { c with cycle := cycle, net := (if c.cycle = cycle then c.net else 0) + q
                  cellQ := c.cellQ + q, blockQ := c.blockQ + b } } }

/-- The meter's steps for one pulse that has ended, the channel's oldest: its charge enters the channel's counters and the
regulator's account (R125, R126). -/
def meterPulse (s : State) (x : Fin 24 × Int × Int) : State :=
  let k := x.1.val
  let c := s.balChan k
  match c.pulses with
  | [] => s
  | p :: rest =>
    if s.now < p.fall then s else
    let ((q, b), s) := s.pulseCharge k p x.2.1 x.2.2
    let s := s.setBalChan k { c with
      pulses := rest, q := c.q + q, moved := c.moved + q, lastQ := q.natAbs, debt := c.debt - 80 * q.natAbs }
    meterExcitation s k p.cycle q b

/-- The charge of the ended pulses is metered; a pulse that has ended and was not metered leaves no charge. -/
def balMeter (s : State) (steps : List (Fin 24 × Int × Int)) : State :=
  let s := s.forEach steps meterPulse
  s.forEach (List.range 24) fun s k =>
    let c := s.balChan k
    if c.pulses.all fun p => decide (s.now < p.fall) then s
    else s.setBalChan k { c with pulses := c.pulses.filter fun p => decide (s.now < p.fall) }

/-- BAL_Q shows a channel's charge in mC; the rounding is free (log entry 22). -/
def balShowQ (s : State) : State :=
  s.forEach (List.range 24) fun s k =>
    let (m, s) := s.divFree (s.balChan k).q 1000000
    s.setPair (Reg.BAL_Q_LO k) (Reg.BAL_Q_HI k) (BitVec.ofInt 32 m).toNat

/-- Channels whose charge reached the budget are DONE (R139). -/
def balBudgets (s : State) : State :=
  match s.bal.running with
  | none => s
  | some p =>
    s.forEach (List.range 24) fun s k =>
      let c := s.balChan k
      let b := (p.bud.getD k 0).toNat
      if s.balDir k != 0 && b != 0 && !c.reached && decide (b * 1000000000 ≤ c.q.natAbs)
      then s.setBalChan k { c with reached := true } else s

/-- Every requesting channel is DONE. -/
def State.balAllDone (s : State) : Bool :=
  s.bal.running.isSome && (List.range 24).all fun k => s.balDir k == 0 || (s.balChan k).reached

/-- The cell of the group's B2C pulse that was completed last in the period that ends, if any: one that a trip cut is not
completed, and one that still runs is not yet (R119). -/
def State.lastCompleted (s : State) (n : Nat) : Option Nat :=
  let l := ((List.range 6).map (6 * n + ·)).flatMap fun k =>
    ((s.balChan k).pulses.filter fun p => p.b2c && !p.cut && decide (p.fall ≤ s.now)).map fun p => (p.fall, k)
  (l.foldl (fun (best : Option (Nat × Nat)) x => match best with
    | some y => if y.1 < x.1 then some x else best
    | none => some x) none).map (·.2)

/-- A period ends and the next starts (R119, R121, R123, R127, R138, R139). `steps`: what the meters saw of the pulses that
have ended. -/
def pwmPeriod (s : State) (steps : List (Fin 24 × Int × Int)) : State :=
  let s := { s with
    bal := { s.bal with interval := s.bal.interval + s.bal.period }
    imp := { s.imp with slotTicks := if s.imp.inPoint then s.imp.slotTicks + s.bal.period else 0 } }
  let s := s.forEach [0, 1, 2, 3] fun s n =>
    let g := s.balGrp n
    s.setBalGrp n { g with
      trips := (g.trips.map (· + 1)).filter (· < 256)
      hold := g.hold - 1
      last := match s.lastCompleted n with
        | some k => some k
        | none => g.last
      recent := ((s.groupPulses n).filter fun p => decide (p.fall ≤ s.now)).flatMap fun p =>
        [p.rise, p.fall].filter fun t => decide (s.now < t + 12) }
  let s := balShowQ (balBudgets (balMeter s steps))
  let s := if s.bal.stopping || s.balAllDone then balEndPlan s else s
  let s := { s with bal := { s.bal with period := s.bal.nextPeriod, start := s.now } }
  let s := balShowRun (balPulses (balSlotRecompute s))
  s.forEach (List.range 24) fun s k =>
    let c := s.balChan k
    if c.joined then s.setBalChan k { c with soft := c.soft + 1 } else s

/-! ### Trips (R127, R128) -/

/-- The gate outputs of a channel go off in this tick: a pulse that runs ends here, and one that has not begun is not given
(R127, R176). -/
def cutPulses (s : State) (k : Nat) : State :=
  let c := s.balChan k
  s.setBalChan k { c with pulses := (c.pulses.filter fun p => decide (p.rise < s.now)).map fun p =>
    { p with fall := min p.fall s.now, cut := p.cut || decide (s.now < p.fall) } }

/-- The group's trip: gates off, TRIP, the count, and the lockout when TRIP_MAX trips lie within 256 periods. -/
def groupTrip (s : State) (n : Nat) : State :=
  let s := s.setFlag Fld.BAL_STATUS_TRIP true
  let s := s.incFld (Fld.BAL_GRP_TRIPS n) 255
  let s := s.forEach ((List.range 6).map (6 * n + ·)) fun s k =>
    let s := cutPulses s k
    s.setBalChan k { s.balChan k with tripped := true, joined := false, soft := 0 }
  let g := s.balGrp n
  let s := s.setBalGrp n { g with
    trips := 0 :: g.trips, off := true, hold := s.fld Fld.BAL_TRIP_HOLD, served := none }
  if s.fld Fld.BAL_TRIP_TRIP_MAX ≤ g.trips.length + 1 then
    (s.setFlag (Fld.BAL_GRP_LOCKED n) true).raiseFlt fltBal
  else s

/-- The HOLD periods are over: the group is released, and resumes with soft start at the start of the next period, its
channels joining anew (R123, R127). -/
def tripHoldEnd (s : State) (n : Nat) : State :=
  let g := s.balGrp n
  if g.off && decide (g.hold ≤ 1) then s.setBalGrp n { g with off := false, hold := 0 } else s

/-- BAL_GRP_CLR for one group (R128). -/
def groupClear (s : State) (n : Nat) : State :=
  let s := s.setFlag (Fld.BAL_GRP_LOCKED n) false
  let s := s.setFld (Fld.BAL_GRP_TRIPS n) 0
  s.setBalGrp n { s.balGrp n with trips := [] }

/-! ### Boundary and latch (R126, R129, R136, R138, R144) -/

/-- The state code of R136. A group still off under HOLD in an interval after the trip's own has no code of its own there: its
channels read RUNNING or SLICED (DESIGN CHOICE, log entry 169). -/
def State.balCode (s : State) (k : Nat) : Nat :=
  let c := s.balChan k
  let n := balGroup k
  if s.balDir k = 0 then 0
  else if c.reached then 1
  else if s.locked n then 2
  else if c.block ≠ 0 then c.block
  else if c.tripped then 8
  else if s.balDir k = 2 ∧ 1 < (s.b2cOf n).length then 9
  else 10

/-- The average current a channel is regulated to, in mA (R120). -/
def State.balTarget (s : State) (k : Nat) : Nat :=
  if s.balDir k = 2 then min (10 * s.balSetpt k) (10 * s.fld Fld.BAL_IMAX_IMAX / max 1 (s.b2cOf (balGroup k)).length)
  else 10 * s.balSetpt k

/-- The balancer's report at a latch: states, mean currents, QW_LIMIT; the interval begins anew (R126, R129, R136). A
mean is charge over the time of the periods that ended in the interval, 12.5 ns a tick; where none ended none has a stated mean,
and ACHIEVED reads 0 (DESIGN CHOICE, log entry 46). -/
def balLatch (s : State) : State :=
  let t : Nat := s.bal.interval
  let short := (List.range 24).any fun k =>
    let c := s.balChan k
    c.omitted && decide (80 * c.moved.natAbs < s.balTarget k * t)
  let s := s.setFlag Fld.BAL_STATUS_QW_LIMIT short
  let s := s.forEach (List.range 24) fun s k =>
    let c := s.balChan k
    let (i, s) := if t = 0 then ((0 : Int), s) else s.divFree (80 * c.moved) t
    let (i, s) := s.fitFree 12 i
    let s := s.setReg (Reg.BAL_CH k) (BitVec.ofNat 16 (4096 * s.balCode k + i.toNat))
    s.setBalChan k { c with moved := 0, tripped := false, omitted := false }
  { s with bal := { s.bal with interval := 0, nextPeriod := s.fld Fld.BAL_PWM_PER } }

/-- The activation of R138, without the mode change. -/
def balActivate (s : State) (p : Plan) : State :=
  let old := s.bal.running.map fun r =>
    (r, (List.range 24).map fun k => ((s.balChan k).q, (s.balChan k).reached))
  let s := s.forEach (List.range 24) fun s k => s.setBalChan k { s.balChan k with q := 0, reached := false }
  let s := { s with bal := { s.bal with
    shadow := old, running := some p, staged := none, stopping := false, leaving := false } }
  let s := s.setFld Fld.BAL_STATUS_STAGE stageNone
  -- a channel that changes its direction leaves the set and joins anew (R123)
  let s := s.forEach (List.range 24) fun s k =>
    let was := match old with | some (r, _) => spDir (r.sp.getD k 0) | none => 0
    if spDir (p.sp.getD k 0) = was then s else s.setBalChan k { s.balChan k with joined := false, soft := 0 }
  let s := s.setFlag Fld.BAL_STATUS_SHADOW old.isSome
  let s := s.incWrap Reg.BAL_PLAN_SEQ
  let s := balShowQ (s.setFlag Fld.BAL_STATUS_RUN true)
  balPermissions (if p.limit = 0 then s.stopTimer .balPlan else s.startTimer .balPlan)

/-- ROLLBACK at a boundary (R144): the shadow resumes with its remaining budgets, its charge counted on from where it
stood and its time limit from zero (log entry 26), under permissions evaluated for it (R135); with no shadow no plan runs.
The answer says whether a plan runs. -/
def balRollback (s : State) : State × Bool :=
  let s := balGatesOff s
  let s := s.setFlag Fld.BAL_STATUS_ROLLED_BACK true
  match s.bal.shadow with
  | some (p, l) =>
    let s := s.forEach (List.range 24) fun s k =>
      let (q, r) := l.getD k (0, false)
      s.setBalChan k { s.balChan k with q := q, reached := r }
    let s := { s with bal := { s.bal with running := some p, shadow := none, stopping := false, leaving := false } }
    let s := (s.setFlag Fld.BAL_STATUS_SHADOW false).setFlag Fld.BAL_STATUS_RUN true
    (balPermissions (balShowQ (if p.limit = 0 then s.stopTimer .balPlan else s.startTimer .balPlan)), true)
  | none =>
    let s := { s with bal := { s.bal with running := none, stopping := false, leaving := true } }
    ((s.setFlag Fld.BAL_STATUS_RUN false).stopTimer .balPlan, false)

/-- R183-like rule of BAL_TEMP: a write with T_LO + 4 > T_HI leaves both fields. -/
def balTempOk (w : Half) : Bool := decide (signedByte (w.toNat % 256) + 4 ≤ signedByte (w.toNat / 256))

end Sys2Proof.Machine
end

