-- ==== Sys2Proof/Machine/ImpOps.lean ====
section
/-!
DEFINITION. Impedance spectroscopy (spec/04): the frequencies of a plan and its duration, prepare, commit and abort,
rounds and points, the correlators, records, and the temperature estimate.
-/
namespace Sys2Proof.Machine

/-! ### Exact frequencies (R88, R97, R98, R100)

Point i of a plan has the frequency FSTART × 10^(i/PPD), which is irrational between decades. Comparisons raise both
sides to the power PPD; integer parts come from integer roots. -/

/-- FSTART × 10^(i/PPD) mHz, times `c`, is at most `x`. -/
def freqAtMost (fstart ppd i c x : Nat) : Bool := decide ((fstart * c) ^ ppd * 10 ^ i ≤ x ^ ppd)

/-- The same, at least `x`. -/
def freqAtLeast (fstart ppd i c x : Nat) : Bool := decide (x ^ ppd ≤ (fstart * c) ^ ppd * 10 ^ i)

def ImpPlan.ppd (p : ImpPlan) : Nat := p.plan.toNat / 4096
def ImpPlan.npts (p : ImpPlan) : Nat := p.plan.toNat / 64 % 64
def ImpPlan.nim1 (p : ImpPlan) : Nat := p.plan.toNat % 64
def ImpPlan.ns (p : ImpPlan) : Nat := p.ctl.toNat / 256 % 8
def ImpPlan.amp (p : ImpPlan) : Nat := p.ctl.toNat / 16 % 16
/-- Slot count of R99, and this node's slot. -/
def ImpPlan.slotCount (p : ImpPlan) : Nat := if p.ctl.getLsbD 12 then 2 else 1
def ImpPlan.slot (p : ImpPlan) : Nat := if p.ctl.getLsbD 12 ∧ p.ctl.getLsbD 11 then 1 else 0

/-- The frequency word of R88: round(f × 2^32 / 2.5 MHz). -/
def ImpPlan.fw (p : ImpPlan) (i : Nat) : Nat :=
  let r := floorRoot p.ppd ((p.fstart * 2 ^ 33) ^ p.ppd * 10 ^ i)
  (r + 2500000000) / 5000000000

/-- Integration cycles of R98: min(64, max(NIM1 + 1, ⌈f × TMIN⌉)). -/
def ImpPlan.ni (p : ImpPlan) (i : Nat) : Nat :=
  let need := ((List.range 64).find? fun n => freqAtMost p.fstart p.ppd i p.tmin (n * 1000000)).getD 64
  min 64 (max (p.nim1 + 1) need)

/-- Slots per cycle of R93. -/
def ImpPlan.s (p : ImpPlan) (i : Nat) : Nat :=
  if freqAtMost p.fstart p.ppd i 1 390625 then 64
  else if freqAtMost p.fstart p.ppd i 1 1562500 then 16
  else 8

/-- Every frequency lies from 0.1 Hz to 2 kHz (R97). -/
def ImpPlan.inRange (p : ImpPlan) : Bool :=
  decide (100 ≤ p.fstart) && freqAtMost p.fstart p.ppd (p.npts - 1) 1 2000000

/-- The plan's duration in whole ms, rounded up (R100). In units of 10^-40 of 10^6 / FSTART ms, the terms of whole
decades are exact and the others, which are irrational, are taken to the unit below. -/
def ImpPlan.need (p : ImpPlan) : Nat :=
  let term (i : Nat) : Nat := floorRoot p.ppd ((p.ns + p.ni i) ^ p.ppd * 10 ^ (40 * p.ppd - i))
  let x := ((List.range p.npts).map term).foldl (· + ·) 0
  let rational := decide (p.ppd = 1) || decide (p.npts = 1)
  let d := p.fstart * 10 ^ 34
  if rational then (x + d - 1) / d else x / d + 1

/-- R100: ROUND × the measured cycle period is at least NEED × 1.001 + 10 ms; a period of 1/16 tick is 0.78125 ns. -/
def roundLongEnough (round period need : Nat) : Bool :=
  decide ((need * 1001 + 10000) * 100000000000 ≤ round * period * 78125000)

/-! ### Prepare, commit, abort (R103 to R106) -/

def impIdle : Nat := 0
def impPrepared : Nat := 1
def impRunning : Nat := 2

def State.impState (s : State) : Nat := s.fld Fld.IMP_STATUS_STATE

/-- The plan the registers hold. -/
def State.impRegs (s : State) : ImpPlan :=
  { ctl := s.reg Reg.IMP_CTL, plan := s.reg Reg.IMP_PLAN, fstart := s.pair Reg.IMP_FSTART_LO Reg.IMP_FSTART_HI
    tmin := s.regN Reg.IMP_TMIN, mask := s.pair Reg.IMP_CELLS_LO Reg.IMP_CELLS_HI % 2 ^ 24
    start := s.pair Reg.IMP_START_LO Reg.IMP_START_HI, round := s.pair Reg.IMP_ROUND_LO Reg.IMP_ROUND_HI }

/-- The keys of the temperature table in use. -/
def State.impKeys (s : State) : List Int :=
  (List.range (s.fld Fld.IMP_TEMP_CFG_NENTM1 + 1)).map fun i => s.regI (Reg.IMP_TT_KEY i)

/-- A plan can be prepared in the present mode (R103): in ACTIVE and BALANCE, and in SPECTRUM from DONE on, before the boundary
at which the node returns to ACTIVE (R105). -/
def State.impMode (s : State) : Bool := s.mode == .active || s.mode == .balance || (s.mode == .spectrum && s.imp.ended)

/-- What a chain transaction prepared is the host's, or is gone: the transaction holds no stage any more (R107; log entry
168). A plan that has answered ACTIVATED stays the transaction's until CLOSE. -/
def impUnstage (s : State) : State :=
  match sparseGet s.txn none 2 with
  | some t => if t.active then s else { s with txn := sparseSet s.txn none 2 none }
  | none => s

/-- PREPARE (R103, R114): NEED, TBL_BAD, and the first cause that applies. A plan refused with RANGE has no stated duration, so
NEED keeps what it showed (log entry 154). With a bad table every estimate reads 0x8000. -/
def impPrepare (s : State) : State :=
  let p := s.impRegs
  let need := if p.inRange then p.need else 0
  let s := if p.inRange then s.setPair Reg.IMP_NEED_LO Reg.IMP_NEED_HI (need % 2 ^ 32) else s
  let bad := s.fld Fld.IMP_TEMP_CFG_NENTM1 != 0 && !strictlyMonotone s.impKeys
  let s := (s.setFlag Fld.IMP_STATUS_TBL_BAD bad).when bad fun s =>
    s.forEach (List.range 24) fun s k => s.setReg (Reg.IMP_TEMP k) 0x8000
  let err :=
    if !p.inRange then 1
    else if !roundLongEnough p.round s.tb.period need then 2
    else if !s.impMode || s.impState == impRunning then 3
    else if p.mask % 2 ^ s.cells = 0 then 4
    else 0
  let s := s.setFld Fld.IMP_STATUS_PREP_ERR err
  if err = 0 then
    let s := impUnstage s
    ({ s with imp := { s.imp with plan := some p, begun := false } }).setFld Fld.IMP_STATUS_STATE impPrepared
  else s

/-- COMMIT (R104): late, the node stays PREPARED. -/
def impCommit (s : State) : State :=
  match s.imp.plan with
  | none => s
  | some p =>
    if s.impState ≠ impPrepared then s
    else if p.start * 65536 < s.tb.value then s.setFld Fld.IMP_STATUS_PREP_ERR 5
    else
      let s := (impUnstage s).incWrap Reg.IMP_PLAN_SEQ
      let s := { s with imp := { s.imp with
        begun := false, next := 0, inRound := false, inPoint := false, corr := [], records := [],
        recSeq := s.regN Reg.IMP_PLAN_SEQ } }
      let s := s.setFld Fld.IMP_STATUS_PREP_ERR 0
      let s := s.setFlag Fld.IMP_STATUS_DONE false
      let s := s.setFlag Fld.IMP_STATUS_ABORTED false
      let s := s.setFlag Fld.IMP_STATUS_CUT false
      let s := s.setFlag Fld.IMP_STATUS_FREERUN false
      s.setFld Fld.IMP_STATUS_STATE impRunning

/-! ### Records (R112) -/

/-- A record nothing has written since the last COMMIT: NOT_RUN. -/
def notRun (seq : Nat) : List Byte := leBytes 1 9 ++ leBytes 1 0 ++ leBytes 2 seq ++ leBytes 12 0

/-- The record of a cell and point; one of an inactive cell reads NOT_RUN (IMP_RD_SEL). -/
def State.impRecord (s : State) (cell point : Nat) : List Byte :=
  if cell < s.cells then sparseGet s.imp.records (notRun s.imp.recSeq) (32 * cell + point) else notRun s.imp.recSeq

def State.setImpRecord (s : State) (cell point : Nat) (r : List Byte) : State :=
  { s with imp := { s.imp with
    records := sparseSet s.imp.records (notRun s.imp.recSeq) (32 * cell + point) r } }

def recOk : Nat := 0
def recClip : Nat := 1
def recCut : Nat := 2
def recAborted : Nat := 3
def recNotPermitted : Nat := 4
def recExcluded : Nat := 5
def recTripped : Nat := 6
def recThrottled : Nat := 7
def recLowSignal : Nat := 8

/-- A record is written whole. -/
def writeRecord (s : State) (p : ImpPlan) (cell point status cycles : Nat) (re im : Int) : State :=
  let (freq, s) := s.roundFree (p.fw point * 2500000000000) (2 ^ 32)
  let st := status + (if s.imp.freerun && point == s.imp.point then 128 else 0)
  s.setImpRecord cell point
    (leBytes 1 st ++ leBytes 1 cycles ++ leBytes 2 (s.regN Reg.IMP_PLAN_SEQ) ++ leBytes 4 freq
      ++ leBytes 4 (BitVec.ofInt 32 re).toNat ++ leBytes 4 (BitVec.ofInt 32 im).toNat)

/-- A record of a point that gave no result: its RE and IM have no stated value (log entry 27). -/
def writeEmpty (s : State) (p : ImpPlan) (cell point status cycles : Nat) : State :=
  let (a, s) := s.draw
  let (b, s) := s.draw
  writeRecord s p cell point status cycles (a.setWidth 32).toInt (b.setWidth 32).toInt

/-! ### Rounds and points (R99, R101, R105, R110) -/

/-- The cell a group excites in a round, if any (R99). With EN = 0 in BAL_CTL none is, and its records stay NOT_RUN: no record
status is stated for it (log entry 154). -/
def State.roundCell (s : State) (p : ImpPlan) (r n : Nat) : Option Nat :=
  let k := 6 * n + r / p.slotCount
  if r % p.slotCount = p.slot ∧ k < s.cells ∧ p.mask.testBit k ∧ s.flag Fld.BAL_CTL_EN then some k else none

/-- What keeps a cell from being excited at a point's start: the first condition of R110 that holds, by its record
status; 0 for none. A locked-out group starts no transfer (R128) and is reported as tripped (log entry 28); a cell that
reports FAULT is excluded as one that reports OPEN_SUSPECT is (R133; log entry 154). -/
def State.startStatus (s : State) (k : Nat) : Nat :=
  if tempForbidden s k (s.balChan k).tempOff || s.balPaused (balGroup k) then recNotPermitted
  else if s.openSuspect k || s.epFault k then recExcluded
  else if s.locked (balGroup k) then recTripped
  else if s.throttled && decide (12 ≤ k) then recThrottled
  else 0

/-- A point starts: the cells of the round settle (R95, R110). -/
def startPoint (s : State) (i : Nat) : State :=
  let s := { s with imp := { s.imp with
    point := i, inPoint := true, integrating := false, freerun := false, slotTicks := 0, phase := 0
    fw := match s.imp.plan with
      | some p => p.fw i
      | none => 0
    corr := s.imp.corr.map fun (c : Corr) => { cell := c.cell, stop := s.startStatus c.cell } } }
  s.setFld Fld.IMP_PROGRESS_POINT i

/-- A round begins, the mode aside (R99). -/
def startRound (s : State) (p : ImpPlan) : State :=
  let r := s.imp.next
  let cells := (List.range 4).filterMap (s.roundCell p r)
  let s := { s with imp := { s.imp with
    begun := true, inRound := true, inPoint := false, leaving := false, ended := false, point := 0, corr := cells.map fun k => { cell := k } } }
  let s := s.setFld Fld.IMP_PROGRESS_ROUND r
  let s := s.setFld Fld.IMP_PROGRESS_POINT 0
  if cells.isEmpty then s else startPoint s 0

/-- The round that is due begins in this tick: the timebase reaches START + r × ROUND (R99, R170). A count beyond 32 bits, or
one that a load of the timebase jumps over, is never reached (log entry 154). -/
def State.roundDue (s : State) (p : ImpPlan) : Bool :=
  s.impState == impRunning && !s.imp.inRound && decide (s.imp.next < 6 * p.slotCount) &&
  crossesAbs ((p.start + s.imp.next * p.round) * 65536) s.tb.prevValue s.tb.value

/-- The excitation has gone through `n` whole cycles of the point (R88). -/
def State.excCycles (s : State) (n : Nat) : Bool := decide (n * 4294967296 ≤ s.imp.phase)

/-- The settle cycles end, after NS whole cycles: V0 by group, the accumulators cleared (R88, R95). What the mean net current of
the last settle slot was, an input of the first slot's compensation, is free: no slot is sampled before the integration (DESIGN
CHOICE, log entry 155). -/
def settleEnd (s : State) (v0 : List Int) : State :=
  match s.imp.plan with
  | none => s
  | some p =>
    if !s.imp.inPoint || s.imp.integrating || !s.excCycles p.ns then s
    else
      let (b, s) := s.draw
      { s with imp := { s.imp with
        integrating := true, slotTicks := 0
        corr := s.imp.corr.map fun c =>
          { c with v0 := v0.getD (balGroup c.cell) 0, vi := 0, vq := 0, ii := 0, iq := 0, slots := 0, clip := false
                   cellQ := 0, blockQ := 0, before := ((b >>> (8 * balGroup c.cell)).setWidth 16).toInt } } }

/-- The first quarter of the 64-slot cosine: 2047 × cos(2πj/64), to the nearest integer (DEDUCED from "signed 12-bit
values with a peak of 2047", log entry 29). -/
def cosQuarter : List Int :=
  [2047, 2037, 2008, 1959, 1891, 1805, 1702, 1582, 1447, 1299, 1137, 965, 783, 594, 399, 201, 0]

/-- The cosine weight of slot j of S: S divides 64. -/
def cosWeight (S j : Nat) : Int :=
  let a := (64 / S) * j % 64
  if a ≤ 16 then cosQuarter.getD a 0
  else if a ≤ 32 then -cosQuarter.getD (32 - a) 0
  else if a ≤ 48 then -cosQuarter.getD (a - 32) 0
  else cosQuarter.getD (64 - a) 0

/-- The sine weight: a quarter cycle behind the cosine. -/
def sinWeight (S j : Nat) : Int := cosWeight S (j + 3 * (S / 4))

/-- The mean current of a slot in 0.1 mA, from a charge in nC over the PWM periods that ended in it (R94). Where none ended,
none has a stated mean: that of the slot before stands in. -/
def State.slotMean (s : State) (q before : Int) : Int × State :=
  if s.imp.slotTicks = 0 then (before, s) else s.divFree (800 * q) s.imp.slotTicks

/-- One slot of one correlator (R93 to R95): `volt` by group, the voltage samples in µV, and `now`, the cell's mean net
current of the slot. A cell that is not excited, or has had its slots, adds nothing. The current sample is made of the net
currents of this slot and the one before, its half-period delay compensated (R94). -/
def slotCorr (s : State) (p : ImpPlan) (volt : List Int) (now : Int) (c : Corr) : Corr :=
  let S := p.s s.imp.point
  let d := { c with cellQ := 0, blockQ := 0, before := now }
  if c.stop ≠ 0 ∨ p.ni s.imp.point * S ≤ c.slots then d
  else
    let x := volt.getD (balGroup c.cell) 0 - c.v0
    let v := clamp (-65535) 65535 x
    let i := Config.slotCurrent s.imp.fw s.bal.period c.before now
    let cw := cosWeight S (c.slots % S)
    let sw := sinWeight S (c.slots % S)
    { d with vi := c.vi + v * cw, vq := c.vq + v * sw, ii := c.ii + i * cw, iq := c.iq + i * sw
             slots := c.slots + 1, clip := c.clip || decide (v ≠ x) }

/-- One slot of each correlator. The net current of a cell is its cell-side current less `block`, the block-side currents of all
excited channels (R91), over the PWM periods that ended in the slot (R94); a block-side current counts as its channel's
cell-side current does, out of the block for one into the cell (log entry 153). -/
def slotCorrs (p : ImpPlan) (volt : List Int) (block : Int) : List Corr → State → List Corr × State
  | [], s => ([], s)
  | c :: rest, s =>
    let (now, s) := s.slotMean (c.cellQ - block) c.before
    let (l, s) := slotCorrs p volt block rest s
    (slotCorr s p volt now c :: l, s)

/-- The means of the slot's sums, rounded to µV as the part does (R94, log entry 22). -/
def State.slotVoltages (s : State) (sums : List Int) (n : Nat) : List Int × State :=
  sums.foldl (fun (a : List Int × State) x =>
    let (v, s) := a.2.divFree x n
    (a.1 ++ [v], s)) ([], s)

/-- The block-side charge of all channels excited in the slot, of those stopped during it up to their stop (R91). -/
def State.slotBlock (s : State) : Int := s.imp.corr.foldl (fun (t : Int) c => t + c.blockQ) 0

/-- One slot of the integration (R94, R95). -/
def impSlot (s : State) (volt : List Int) : State :=
  match s.imp.plan with
  | none => s
  | some p =>
    if !s.imp.inPoint || !s.imp.integrating then s
    else
      let (l, s) := slotCorrs p volt s.slotBlock s.imp.corr s
      { s with imp := { s.imp with slotTicks := 0, corr := l } }

/-- A value held in 32 bits; outside them the result has no stated value. -/
def State.fit32 (s : State) (x : Int) : Int × State :=
  if -2147483648 ≤ x ∧ x ≤ 2147483647 then (x, s) else ((s.draw.1.setWidth 32).toInt, s.draw.2)

/-- Z in nΩ: re and im of (VI + jVQ) / (II + jIQ), the imaginary part with the sign of R96; µV over 0.1 mA is 10^7 nΩ.
A zero current has no stated quotient. -/
def impedance (s : State) (c : Corr) : Int × Int × State :=
  let d := c.ii * c.ii + c.iq * c.iq
  if d = 0 then
    let (a, s) := s.draw
    let (b, s) := s.draw
    ((a.setWidth 32).toInt, (b.setWidth 32).toInt, s)
  else
    let (re, s) := s.divFree (10000000 * (c.vi * c.ii + c.vq * c.iq)) d
    let (im, s) := s.divFree (10000000 * (c.vi * c.iq - c.vq * c.ii)) d
    let (re, s) := s.fit32 re
    let (im, s) := s.fit32 im
    (re, im, s)

/-- |II + jIQ| is below half of what amplitude A gives: A × 2047 × N / 2 over N slots (R110; DEDUCED, log entry 29).
A is 500 × AMP in 0.1 mA. -/
def lowSignal (p : ImpPlan) (c : Corr) : Bool :=
  decide (16 * (c.ii * c.ii + c.iq * c.iq) < ((500 * p.amp * 2047 * c.slots : Nat) : Int) ^ 2)

/-- The record of one cell at its point's end (R95, R110, R112). -/
def finishCell (s : State) (p : ImpPlan) (c : Corr) : State :=
  let cycles := c.slots / p.s s.imp.point
  if c.stop ≠ 0 then writeEmpty s p c.cell s.imp.point c.stop cycles
  else
    let (re, im, s) := impedance s c
    let st := if c.clip then recClip else if lowSignal p c then recLowSignal else recOk
    writeRecord s p c.cell s.imp.point st cycles re im

/-- The integration of the point is complete: every excited cell has had NI × S slots, and the excitation stands at the end of
NS + NI whole cycles (R88). -/
def State.pointComplete (s : State) (p : ImpPlan) : Bool :=
  s.imp.inPoint && s.imp.integrating && s.excCycles (p.ns + p.ni s.imp.point) &&
  s.imp.corr.all fun c => c.stop != 0 || decide (c.slots = p.ni s.imp.point * p.s s.imp.point)

/-- A point ends: its records, then the next point without a gap (R95, R98). -/
def pointEnd (s : State) : State :=
  match s.imp.plan with
  | none => s
  | some p =>
    if !s.pointComplete p then s
    else
      let s := s.forEach s.imp.corr fun s c => finishCell s p c
      let i := s.imp.point + 1
      if i < p.npts then startPoint s i
      else { s with imp := { s.imp with inPoint := false, integrating := false, point := i } }

/-- The excited cells are marked with a status from the point in progress on: the unfinished point, and if `later`, all
later points of the round (R101, R106). -/
def markUnfinished (s : State) (p : ImpPlan) (status : Nat) (later : Bool) : State :=
  let first := s.imp.point
  s.forEach s.imp.corr fun s c =>
    let s := writeEmpty s p c.cell first status (if s.imp.integrating then c.slots / p.s first else 0)
    if later then
      s.forEach ((List.range p.npts).filter (first < ·)) fun s i => writeEmpty s p c.cell i status 0
    else s

/-! ### Internal temperature (R113) -/

/-- atan(y/x) for 0 ≤ y ≤ x, 0 < x, in units of 10^-18 rad, by the series after one reduction by 45°. -/
def atanSeries (num den : Int) : Int :=
  let scale : Int := 1000000000000000000
  let t := num * scale / den
  let t2 := t * t / scale
  ((List.range 30).foldl (fun (acc : Int × Int) (k : Nat) =>
    let (sum, pw) := acc
    let term := pw / (2 * (k : Int) + 1)
    (if k % 2 = 0 then sum + term else sum - term, pw * t2 / scale)) (0, t)).1

/-- π/4 in units of 10^-18. -/
def quarterPi : Int := 785398163397448310

def atanFirst (y x : Int) : Int :=
  if 5 * y ≤ 2 * x then atanSeries y x else quarterPi + atanSeries (y - x) (x + y)

/-- The phase of re + j im in 10^-3 of 0.01°. -/
def phaseOf (re im : Int) : Int :=
  let ax : Int := re.natAbs
  let ay : Int := im.natAbs
  if ax = 0 ∧ ay = 0 then 0
  else
    let a := if ay ≤ ax then atanFirst ay ax else 2 * quarterPi - atanFirst ax ay
    let a := if re < 0 then 4 * quarterPi - a else a
    let a := if im < 0 then -a else a
    (a * 4500000 + quarterPi / 2) / quarterPi

/-- The key of a record, times 1000, in the unit KEY names: phase in 0.01°, Re or Im in 1 µΩ. -/
def recordKey (kind : Nat) (r : List Byte) : Int :=
  let re := (BitVec.ofNat 32 (leAt r 8 4)).toInt
  let im := (BitVec.ofNat 32 (leAt r 12 4)).toInt
  match kind with
  | 0 => phaseOf re im
  | 1 => re
  | _ => im

/-- The estimates at a round's end (R113, R114). -/
def tempEstimates (s : State) (p : ImpPlan) : State :=
  if !p.ctl.getLsbD 15 || s.fld Fld.IMP_TEMP_CFG_NENTM1 == 0 then s
  else
    s.forEach s.imp.corr fun s c =>
      let r := s.impRecord c.cell (s.fld Fld.IMP_TEMP_CFG_POINT)
      if s.flag Fld.IMP_STATUS_TBL_BAD then s.setReg (Reg.IMP_TEMP c.cell) 0x8000
      else if leAt r 0 1 % 16 ≠ 0 then s
      else
        let vals := (List.range (s.fld Fld.IMP_TEMP_CFG_NENTM1 + 1)).map fun i => s.regI (Reg.IMP_TT_VAL i)
        let table := (s.impKeys.map (· * 1000)).zip vals
        let (t, s) := interpolate s table (recordKey (s.fld Fld.IMP_TEMP_CFG_KEY) r)
        s.setReg (Reg.IMP_TEMP c.cell) (match t with | some v => half v | none => 0x8000)

/-- The root's own completed plan is logged, a record for each of its cells: KIND 0x10 (R331, R333). -/
def impNote (s : State) (p : ImpPlan) : State :=
  s.forEach ((List.range s.cells).filter p.mask.testBit) fun s k =>
    let point (i : Nat) : List Byte := let r := s.impRecord k i; r.take 2 ++ r.drop 4
    s.noteEvent 0x10 0 (leBytes 2 (s.regN Reg.IMP_PLAN_SEQ) ++ leBytes 4 s.treeTime ++ leBytes 1 k ++ leBytes 1 p.npts
      ++ leBytes 1 p.amp ++ [0] ++ leBytes 4 p.start ++ leBytes 2 (s.regN (Reg.IMP_TEMP k)) ++ leBytes 2 0
      ++ (List.range p.npts).flatMap point)

/-- The plan is over: STATE returns to IDLE. -/
def impIdleNow (s : State) : State :=
  ({ s with imp := { s.imp with plan := none, inRound := false, inPoint := false, integrating := false, corr := [] } }
    ).setFld Fld.IMP_STATUS_STATE impIdle

/-- A round ends (R101, R105, R113). The pulses of the PWM period in progress run on, and the next period gives none for its
cells. -/
def roundEnd (s : State) : State :=
  match s.imp.plan with
  | none => s
  | some p =>
    if !s.imp.inRound then s
    else
      let s := if s.imp.inPoint then
          (markUnfinished s p recCut true).setFlag Fld.IMP_STATUS_CUT true
        else s
      let s := tempEstimates s p
      let next := s.imp.next + 1
      let s := { s with imp := { s.imp with inRound := false, inPoint := false, integrating := false, corr := [], next := next } }
      if next < 6 * p.slotCount then s
      else
        let s := { s with imp := { s.imp with leaving := true, ended := true } }
        impNote ((impIdleNow s).setFlag Fld.IMP_STATUS_DONE true) p

/-- ABORT (R106): excitation stops with the PWM period in progress, whose pulses are placed; before round 0 it discards the
plan; later the point in progress is marked and the node leaves SPECTRUM. -/
def impAbort (s : State) : State :=
  match s.imp.plan with
  | none => s
  | some p =>
    let s := impUnstage s
    if s.imp.begun && s.impState == impRunning then
      let s := if s.imp.inPoint then markUnfinished s p recAborted false else s
      let s := { s with imp := { s.imp with leaving := true } }
      (impIdleNow s).setFlag Fld.IMP_STATUS_ABORTED true
    else impIdleNow s

/-- A condition of R110 meets the cells it names during a point: a cell's record carries the first in table order, which is
that of the status codes. -/
def impStop (s : State) (code : Nat) (hit : Corr → Bool) : State :=
  { s with imp := { s.imp with corr := s.imp.corr.map fun c =>
    let first := s.imp.inPoint && hit c && (c.stop == 0 || decide (code < c.stop))
    if first then { c with stop := code } else c } }

/-- A trip stops the group's excitation for the rest of the point (R110, R128). -/
def impTrip (s : State) (n : Nat) : State := impStop s recTripped fun c => balGroup c.cell == n

/-- Permission withdrawn during a point stops the cell with the PWM period in progress (R110). -/
def impPermissions (s : State) : State :=
  impStop s recNotPermitted fun c => tempForbidden s c.cell (s.balChan c.cell).tempOff || s.balPaused (balGroup c.cell)

/-- The evaluation of R135, with what it means for a point in progress (R110). -/
def transferPermissions (s : State) : State := impPermissions (balPermissions s)

/-- A round holds calibration back while its points last, and one that excites no cell to its end (R109). -/
def State.impBusy (s : State) : Bool := s.imp.inRound && (s.imp.inPoint || s.imp.corr.isEmpty)

end Sys2Proof.Machine
end

