-- ==== Sys2Proof/Machine/CalOps.lean ====
section
/-!
DEFINITION. Calibration (spec/15): triggers, the slots of a run, agreement and rejection, the gradual application of
accepted trims, and their record in banks A and B.
-/
namespace Sys2Proof.Machine

/-! ### Trims (R385, R386) -/

/-- The path whose trims a CAL_SEL value selects: the AUX inputs share one modulator. -/
def calPath (p : Nat) : Nat := if 24 ≤ p ∧ p ≤ 29 then 24 else p

def trimOfs (p : Nat) : Nat := 3 * p
def trimGain (p : Nat) : Nat := 3 * p + 1
def trimDly (p : Nat) : Nat := 3 * p + 2
def trimHi (m : Nat) : Nat := 100 + 2 * m
def trimLo (m : Nat) : Nat := 101 + 2 * m

/-- The trims a group's slot measures, in the order of its readings: OFS, GAIN and DLY of its cells, then its
companions'; group 3 closes with HI and LO of the 41 monitors. The AUX modulator has no DLY, and the differential
channel's stands with its SHUNT path (R385, R386; log entry 30). -/
def groupTrims (g : Nat) : List Nat :=
  let cells := (List.range 6).flatMap fun i => let p := 6 * g + i; [trimOfs p, trimGain p, trimDly p]
  cells ++ match g with
    | 0 => [trimOfs 31, trimGain 31, trimDly 31]
    | 1 => [trimOfs 30, trimGain 30, trimDly 30, trimOfs 32, trimGain 32]
    | 2 => [trimOfs 24, trimGain 24]
    | _ => (List.range 41).flatMap fun m => [trimHi m, trimLo m]

/-- Trims by kind: OFS, GAIN, DLY of a path, or a threshold DAC. -/
def trimIsOfs (t : Nat) : Bool := decide (t < 100) && t % 3 == 0
def trimIsGain (t : Nat) : Bool := decide (t < 100) && t % 3 == 1
def trimIsDly (t : Nat) : Bool := decide (t < 100) && t % 3 == 2

def trimInRange (t : Nat) (x : Int) : Bool :=
  if trimIsDly t then decide (0 ≤ x) && decide (x ≤ 31)
  else if t < 100 then decide (-511 ≤ x) && decide (x ≤ 511)
  else decide (-127 ≤ x) && decide (x ≤ 127)

/-- What a difference of taps is at the channel input at 4.096 V, in nV: OFS 5 µV, in the SHUNT range 0.25 µV; GAIN
2 ppm of 4.096 V. -/
def trimNv (t : Nat) (taps : Nat) : Nat :=
  if trimIsOfs t then taps * (if t = trimOfs 30 then 250 else 5000)
  else if trimIsGain t then taps * 8192
  else 0

/-- R389: 3 taps, or for OFS and GAIN 60 µV, whichever allows more. -/
def trimAgrees (t : Nat) (a b : Int) : Bool :=
  let d := (a - b).natAbs
  decide (d ≤ 3) || ((trimIsOfs t || trimIsGain t) && decide (trimNv t d ≤ 60000))

def State.trim (s : State) (t : Nat) : Int := sparseGet s.cal.live 0 t

/-! ### The status register -/

/-- STATE: APPLYING until every trim has arrived, else RUNNING, DUE or IDLE (R396). -/
def showCal (s : State) : State :=
  s.setFld Fld.CAL_STATUS_STATE
    (if s.cal.applying then 3 else if s.cal.running then 2 else if s.cal.due then 1 else 0)

/-! ### Triggers (R391, R392) -/

/-- Modes a run starts in, BOOT's own run apart (R392). -/
def calModes : Mode → Bool
  | .active | .balance | .service | .standby | .calibrate | .spectrum => true
  | _ => false

/-- CAL_WAIT.MODE: due, in a mode that does not allow it. -/
def showCalMode (s : State) : State :=
  s.setFlag Fld.CAL_WAIT_MODE (s.cal.due && !calModes s.mode && s.mode != .boot)

/-- A run becomes due; a trigger that finds one due or in progress is absorbed (R391). -/
def calTrigger (s : State) (cause : Nat) : State :=
  if s.cal.due || s.cal.running then s
  else
    let s := { s with cal := { s.cal with
      due := true, cause := cause, full := false, abort := false, group := 0, step := 0, staged := [],
      disagree := false, outside := false, refSeen := false, tj := [], diff := 0 } }
    let s := s.setFld Fld.CAL_STATUS_CAUSE (min cause 3)
    showCalMode (showCal s)

/-- TEMP (R391). -/
def calTempDue (s : State) : Bool :=
  s.flag Fld.CAL_CTL_TEMP_EN &&
  match s.th.eff with
  | some t => decide (10 * s.fld Fld.CAL_CTL_TRIG < (t - s.regI Reg.CAL_LAST_TJ).natAbs)
  | none => false

/-- SCHED (R391). -/
def calSchedDue (s : State) : Bool := s.flag Fld.CAL_CTL_SCHED_EN && s.regN Reg.CAL_PERIOD != 0

/-! ### The end of a run (R394, R396, R398) -/

/-- The record of an accepted run (R398). -/
def calRecord (s : State) : List Byte :=
  let staged (t : Nat) : Int := sparseGet s.cal.target 0 t
  let i16 (x : Int) : List Byte := leBytes 2 (BitVec.ofInt 16 x).toNat
  let i8 (x : Int) : List Byte := leBytes 1 (BitVec.ofInt 8 x).toNat
  let path (p : Nat) : List Byte := i16 (staged (trimOfs p)) ++ i16 (staged (trimGain p)) ++ i8 (staged (trimDly p)) ++ leBytes 3 0
  let mon (m : Nat) : List Byte := i8 (staged (trimHi m)) ++ i8 (staged (trimLo m)) ++ leBytes 2 0
  sealEntry (leBytes 2 0xCA1B ++ leBytes 1 1 ++ leBytes 1 s.cal.cause
    ++ leBytes 4 (s.pair Reg.CAL_COUNT_LO Reg.CAL_COUNT_HI) ++ leBytes 6 (s.triple (Reg.CAL_LAST_TB 0))
    ++ leBytes 4 (s.pair Reg.CAL_LAST_TREE_LO Reg.CAL_LAST_TREE_HI) ++ leBytes 2 (s.regN Reg.CAL_LAST_TJ) ++ leBytes 12 0
    ++ (List.range 24 ++ [24, 30, 31, 32]).flatMap path
    ++ (List.range 41).flatMap mon
    ++ (List.range 6).flatMap (fun p => leBytes 1 (s.fld (Fld.CAL_PHY_TX p)) ++ leBytes 1 (s.fld (Fld.CAL_PHY_RX p)))
    ++ leBytes 8 0)

/-- A request that stores a calibration record. -/
def isCalStore : FlashReq → Bool
  | .entry .calA _ _ | .entry .calB _ _ => true
  | _ => false

/-- The record waits to be stored in the bank that did not take the last one; a store not yet begun is replaced
(R398). -/
def calStore (s : State) : State :=
  let had := s.fla.queue.any isCalStore
  let b := if had then s.cal.lastB else !s.cal.lastB
  let s := { s with
    fla := { s.fla with queue := s.fla.queue.filter fun r => !isCalStore r }
    cal := { s.cal with lastB := b } }
  (flashQueue s (.entry (if b then .calB else .calA) false (calRecord s))).setFlag Fld.CAL_STATUS_STORE_PEND true

/-- The run is over: nothing due, nothing in progress, DONE (R394). -/
def calOver (s : State) (result : Nat) : State :=
  let s := { s with
    wd := { s.wd with calHeld := [] }
    cal := { s.cal with due := false, running := false, full := false, abort := false, step := 0, group := 0 } }
  let s := s.setFld Fld.CAL_STATUS_RESULT result
  let (d, s) := s.divFree s.cal.diff 1000
  let s := s.setRegN Reg.CAL_DIFF (min d.toNat 65535)
  let s := s.setReg Reg.CAL_WAIT 0
  showCal ((s.setFlag Fld.CAL_STATUS_DONE true).raiseIrq irqCal)

/-- The root's own run is logged: KIND 0x14, with the slots that completed and the bank of its store (R331, R400). -/
def calNote (s : State) (result slots bank : Nat) : State :=
  s.noteEvent 0x14 0 (leBytes 4 s.treeTime ++ leBytes 4 (s.pair Reg.CAL_COUNT_LO Reg.CAL_COUNT_HI) ++ leBytes 2 (s.regN Reg.TH_TJ)
    ++ leBytes 1 result ++ leBytes 1 (2 ^ slots - 1) ++ leBytes 1 bank ++ leBytes 5 0)

/-- Accepted (R396). -/
def calAccept (s : State) : State :=
  let (tj, s) := s.divFree (s.cal.tj.foldl (· + ·) 0) (max 1 s.cal.tj.length : Nat)
  let s := s.setReg Reg.CAL_LAST_TJ (half tj)
  let s := s.setTriple (Reg.CAL_LAST_TB 0) s.tb.value
  let s := s.setPair Reg.CAL_LAST_TREE_LO Reg.CAL_LAST_TREE_HI s.treeTime
  let s := s.incPair Reg.CAL_COUNT_LO Reg.CAL_COUNT_HI
  let s := { s with cal := { s.cal with target := s.cal.staged, applying := true, rejected := 0, untrimmed := false } }
  let s := s.setFlag Fld.CAL_STATUS_FAIL false
  let s := (s.startTimer .calSched).stopTimer .calRetry
  let s := calStore (calOver s 0)
  calNote s 0 4 (if s.cal.lastB then 1 else 0)

/-- Rejected with a result (R394). -/
def calReject (s : State) (result : Nat) : State :=
  let s := s.incSat Reg.CAL_REJECTS
  let n := s.cal.rejected + 1
  let slots := s.cal.group
  let s := { s with cal := { s.cal with rejected := n } }
  let s := calNote (calOver s result) result slots 255
  if s.fld Fld.CAL_RETRY_RETRY_MAX ≤ n then
    captureFault (((s.setFlag Fld.CAL_STATUS_FAIL true).raiseFlt fltCal).stopTimer .calRetry) 10 result 255
  else s.startTimer .calRetry

/-- The result of a run whose last slot has ended: the first row of R394 that applies (log entry 31). -/
def State.calResult (s : State) : Nat :=
  let moved := match s.cal.tj.head?, s.cal.tj.getLast? with
    | some a, some b => decide (20 < (b - a).natAbs)
    | _, _ => false
  if s.cal.disagree then 1 else if s.cal.outside then 2 else if s.cal.refSeen then 3 else if moved then 4 else 0

/-- ABORT, a mode change or a profile switch (R395): a slot in progress runs to its end. A run only due is aborted too by ABORT,
and by leaving CALIBRATE (`drop`; R394, R455), and stays due over any other mode change (R392). -/
def calAbort (s : State) (drop : Bool) : State :=
  if s.cal.running then
    if s.cal.step = 0 then calReject s 5 else { s with cal := { s.cal with abort := true } }
  else if drop && s.cal.due then calReject s 5
  else s

/-! ### Slots (R388 to R393) -/

/-- A pull test affects a cell of the group, or runs as a run becomes due (R77, R392; log entry 143). -/
def State.calPullWait (s : State) (g : Nat) : Bool :=
  s.wd.phase != .idle && (!s.cal.running || (pinCells s.cells s.wd.pin).any fun e => e / 6 == g)

/-- The calibration converter is under its background test (R413). -/
def State.calConvTest (s : State) : Bool := s.st.bg == some 2

/-- A channel of the group or the calibration converter is under self-test (R392). -/
def State.calTestWait (s : State) (g : Nat) : Bool :=
  s.calConvTest || ((List.range 32).any fun e => calGroup e == g && s.acq.test.contains e)

/-- The slots run back to back: BOOT's run, CALIBRATE, and modes without scheduled sweeps (R392). -/
def State.calBackToBack (s : State) : Bool := s.cal.cause == 0 || s.mode == .calibrate || !s.scheduled

/-- Step CALRUN of BOOT (R463), in which the run due starts where BOOT_EN asks for one (R391, R392). -/
def bootCalStep : Nat := 13

/-- A run starts in the present mode, or in BOOT's own step. -/
def State.calModeRuns (s : State) : Bool :=
  calModes s.mode || (s.mode == .boot && s.bt.step == bootCalStep && s.flag Fld.CAL_CTL_BOOT_EN)

/-- A slot may start: a run is due or in progress, no slot is, the mode allows it, thermal INIT is over (R392), and in
SPECTRUM the round's points are over (R109). -/
def State.calMayStart (s : State) : Bool :=
  (s.cal.due || s.cal.running) && s.cal.step == 0 && s.calModeRuns && !s.flag Fld.TH_STATUS_INIT &&
  (s.calBackToBack || s.cal.ready) && !s.impBusy && !(s.cal.full && s.mode != .calibrate)

/-- The PHY trims are measured at BOOT, in step PROBE (R393, R463): free, 0 to 63, for each enabled port. -/
def phyMeasure (s : State) : State :=
  s.forEach (List.range 6) fun s p =>
    if s.flag (Fld.LP_CTL_EN p) then
      let (tx, s) := s.drawBelow 64
      let (rx, s) := s.drawBelow 64
      (s.setFld (Fld.CAL_PHY_TX p) tx).setFld (Fld.CAL_PHY_RX p) rx
    else s

/-- Step 1 of a slot: the group leaves service (R388). -/
def calSlotStart (s : State) : State :=
  if !s.calMayStart then showCalMode s
  else
    let g := s.cal.group
    let pull := s.calPullWait g
    let test := s.calTestWait g
    let s := s.setFlag Fld.CAL_WAIT_PULL pull
    let s := s.setFlag Fld.CAL_WAIT_SELFTEST test
    let s := s.setFlag Fld.CAL_WAIT_MODE false
    if pull || test then { s with cal := { s.cal with ready := false } }
    else
      let s := { s with
        acq := { s.acq with calGroups := [g] }
        cal := { s.cal with
          due := false, running := true, step := 2, ready := false, pass1 := [], pass2 := []
          refSeen := s.cal.refSeen || s.acq.refFallback
          tj := s.cal.tj ++ (match s.th.eff with | some t => [t] | none => []) } }
      transferPermissions (showCal ((holdInSlot s).setFld Fld.CAL_STATUS_GROUP g))

/-- Step 5: the trims of both passes are compared and staged (R389). Which value a trim takes between two passes that
agree is not stated (log entry 32). -/
def calCompare (s : State) : State :=
  let g := s.cal.group
  s.forEach (groupTrims g).zipIdx fun s x =>
    let t := x.1
    let a := s.cal.pass1.getD x.2 0
    let b := s.cal.pass2.getD x.2 0
    let d := (a - b).natAbs
    let (k, s) := if d = 0 then (0, s) else s.drawBelow (d + 1)
    let v := min a b + k
    { s with cal := { s.cal with
      disagree := s.cal.disagree || !trimAgrees t a b
      outside := s.cal.outside || !(trimInRange t a && trimInRange t b)
      diff := max s.cal.diff (trimNv t d)
      staged := sparseSet s.cal.staged 0 t v } }

/-- A timed phase of a slot ends and the next begins (R388); the readings are those of a pass. -/
def calPhaseEnd (s : State) (readings : List Int) : State :=
  let s := { s with cal := { s.cal with refSeen := s.cal.refSeen || (s.cal.step != 0 && s.acq.refFallback) } }
  match s.cal.step with
  | 2 => { s with cal := { s.cal with step := 3 } }
  | 3 => { s with cal := { s.cal with step := 4, pass1 := readings } }
  | 4 => { s with cal := { s.cal with step := 5, pass2 := readings } }
  | 5 => let s := calCompare s; { s with cal := { s.cal with step := 6 } }
  | _ => s

/-- Step 6 ends: the group is back in service; after the last slot the run is judged (R394). -/
def calSlotEnd (s : State) : State :=
  if s.cal.step ≠ 6 then s
  else
    let g := s.cal.group
    let s := { s with
      acq := { s.acq with
        calGroups := [], calTail := g :: s.acq.calTail.filter (· != g)
        calEnds := (g, s.now) :: s.acq.calEnds.filter (·.1 != g) }
      cal := { s.cal with step := 0, refSeen := s.cal.refSeen || s.acq.refFallback } }
    let s := { s with cal := { s.cal with group := g + 1 } }
    let s := if s.cal.abort then calReject s 5
      else if g < 3 then s
      else
        let r := s.calResult
        if r = 0 then calAccept s else calReject s r
    transferPermissions s

/-! ### Application (R396) -/

/-- One application moment: every trim moves toward its target by at most STEP taps, or all the way with STEP 0. -/
def calApply (s : State) : State :=
  if !s.cal.applying then s
  else
    let step : Int := s.fld Fld.CAL_CTL_STEP
    let move (a b : Int) : Int := if step = 0 then b else if a < b then min b (a + step) else max b (a - step)
    let trims := (List.range 4).flatMap groupTrims
    let live := trims.foldl (fun m t => sparseSet m 0 t (move (sparseGet m 0 t) (sparseGet s.cal.target 0 t))) s.cal.live
    let arrived := trims.all fun t => sparseGet live 0 t == sparseGet s.cal.target 0 t
    showCal { s with cal := { s.cal with live := live, applying := !arrived } }

/-! ### Loading at BOOT (R399) -/

def calRecordValid (r : List Byte) : Bool := entryValid r && leAt r 0 2 == 0xCA1B

/-- The valid record with the highest COUNT, and whether it lies in bank B. -/
def State.calNewest (s : State) : Option (Bool × List Byte) :=
  let all := (s.areaEntries .calA).map (fun r => (false, r)) ++ (s.areaEntries .calB).map (fun r => (true, r))
  (all.filter fun p => calRecordValid p.2).foldl (fun best p =>
    match best with
    | none => some p
    | some q => if leAt q.2 4 4 < leAt p.2 4 4 then some p else some q) none

def i8At (r : List Byte) (o : Nat) : Int := (BitVec.ofNat 8 (leAt r o 1)).toInt
def i16At (r : List Byte) (o : Nat) : Int := (BitVec.ofNat 16 (leAt r o 2)).toInt

/-- The trims of a record. -/
def recordTrims (r : List Byte) : List (Nat × Int) :=
  ((List.range 24 ++ [24, 30, 31, 32]).zipIdx.flatMap fun (x : Nat × Nat) =>
    let o := 32 + 8 * x.2
    [(trimOfs x.1, i16At r o), (trimGain x.1, i16At r (o + 2)), (trimDly x.1, (leAt r (o + 4) 1 : Int))])
  ++ (List.range 41).flatMap fun m => [(trimHi m, i8At r (256 + 4 * m)), (trimLo m, i8At r (257 + 4 * m))]

/-- Trims, COUNT, LAST_TB, LAST_TREE and LAST_TJ from the newest record, or the factory trims. -/
def calLoad (s : State) : State :=
  let (trims, s) := match s.calNewest with
    | some (b, r) =>
      let s := s.setFld Fld.CAL_STATUS_SOURCE (if b then 2 else 1)
      let s := s.setPair Reg.CAL_COUNT_LO Reg.CAL_COUNT_HI (leAt r 4 4)
      let s := s.setTriple (Reg.CAL_LAST_TB 0) (leAt r 8 6)
      let s := s.setPair Reg.CAL_LAST_TREE_LO Reg.CAL_LAST_TREE_HI (leAt r 14 4)
      let s := s.setRegN Reg.CAL_LAST_TJ (leAt r 18 2)
      let s := s.forEach (List.range 6) fun s p =>
        (s.setFld (Fld.CAL_PHY_TX p) (leAt r (420 + 2 * p) 1)).setFld (Fld.CAL_PHY_RX p) (leAt r (421 + 2 * p) 1)
      (recordTrims r, { s with cal := { s.cal with lastB := b, untrimmed := false } })
    | none =>
      let t := (List.range 4).flatMap groupTrims
      (t.map fun t => (t, (Config.factoryTrim t).toInt),
       { s.setFld Fld.CAL_STATUS_SOURCE 0 with cal := { s.cal with untrimmed := !Config.factoryTrimsValid } })
  let live := trims.foldl (fun m p => sparseSet m 0 p.1 p.2) []
  { s with cal := { s.cal with live := live, target := live } }

end Sys2Proof.Machine
end

