-- ==== Sys2Proof/Machine/MonitorOps.lean ====
section
/-!
DEFINITION. The window monitors (spec/07): thresholds, the comparator table of R184, power-up (R185), where each class
runs (R189), and the change of a reported state with its events (R187, R191).
-/
namespace Sys2Proof.Machine

/-- The class of a monitor (R182). -/
inductive MonClass where
  | isense | rail | cell | block
  deriving DecidableEq, Repr

def monClass (m : Nat) : MonClass :=
  if m < 4 then .isense else if m < 16 then .rail else if m < 40 then .cell else .block

/-- The class LSB in units of 0.05 µV (R182). -/
def monLsb : MonClass → Int
  | .isense => 10000 | .rail => 93750 | .cell => 100000 | .block => 93750

/-- A threshold code as a number: two's complement for IS, unsigned otherwise (R182). -/
def monCode (c : MonClass) (code : Nat) : Int :=
  if c = .isense ∧ 512 ≤ code then (code : Int) - 1024 else code

def State.monHi (s : State) (m : Nat) : Int := monCode (monClass m) (s.fld (Fld.MON_HI_CODE m))
def State.monLo (s : State) (m : Nat) : Int := monCode (monClass m) (s.fld (Fld.MON_LO_CODE m))

/-- The hysteresis width in units of 0.05 µV; HYST = 0 leaves the built-in half LSB. -/
def State.monHyst (s : State) (m : Nat) : Int :=
  let h := s.fld (Fld.MON_CTL_HYST m)
  if h = 0 then monLsb (monClass m) / 2 else h * monLsb (monClass m)

/-- The comparator's decision (R184); `x`, the thresholds and `h` in one unit. -/
def compareStep (present : MonState) (hi lo h x : Int) : MonState :=
  match present with
  | .inside => if hi ≤ x then .above else if x ≤ lo then .below else .inside
  | .above => if x < hi - h then (if x ≤ lo then .below else .inside) else .above
  | .below => if lo + h < x then (if hi ≤ x then .above else .inside) else .below

/-- The first evaluation after power-up (R185). -/
def comparePowerUp (init : Bool) (hi lo h x : Int) : MonState :=
  if hi ≤ x then .above
  else if x ≤ lo then .below
  else if hi - h ≤ x then (if init then .above else .inside)
  else if x ≤ lo + h then (if init then .below else .inside)
  else .inside

/-- A cell monitor whose cell is inactive is held disabled (R182). -/
def State.monEnabled (s : State) (m : Nat) : Bool :=
  s.flag (Fld.MON_CTL_EN m) && (monClass m != .cell || decide (m - 16 < s.cells))

/-- The monitors' classes run: in BOOT only once step CAL is over (`trimsLoaded`), never in OFF and SHIP, and in WATCH
only the cell and block class (R189). -/
def State.monRuns (s : State) (m : Nat) : Bool :=
  s.monEnabled m &&
  match s.mode with
  | .off | .ship => false
  | .watch => monClass m == .cell || monClass m == .block
  | .boot => s.trimsLoaded
  | _ => true

/-- The monitor runs sampled (R189): in WATCH, and elsewhere with SAMPLED = 1. -/
def State.monSampled (s : State) (m : Nat) : Bool :=
  (monClass m == .cell || monClass m == .block) && (s.mode == .watch || s.flag (Fld.MON_CTL_SAMPLED m))

/-- The reported state, kept in CMP_ABOVE and CMP_BELOW. -/
def State.monReported (s : State) (m : Nat) : MonState :=
  if s.mapBit (Reg.CMP_ABOVE 0) m then .above else if s.mapBit (Reg.CMP_BELOW 0) m then .below else .inside

def State.setMonReported (s : State) (m : Nat) (r : MonState) : State :=
  (s.setMapBit (Reg.CMP_ABOVE 0) m (r == .above)).setMapBit (Reg.CMP_BELOW 0) m (r == .below)

/-- The comparator's own state. -/
def State.monComp (s : State) (m : Nat) : MonState := sparseGet s.mon.comp .inside m

def State.setMonComp (s : State) (m : Nat) (r : MonState) : State :=
  let since := if s.monComp m = r then s.mon.since else sparseSet s.mon.since 0 m s.now
  { s with mon := { s.mon with comp := sparseSet s.mon.comp .inside m r, since := since } }

/-- The comparator has differed from the reported state, with one and the same value, for FILT + 1 ticks (R187). -/
def State.monFiltered (s : State) (m : Nat) : Bool :=
  s.monComp m != s.monReported m && decide (sparseGet s.mon.since 0 m + s.fld (Fld.MON_CTL_FILT m) + 1 ≤ s.now)

/-- The monitor has had its power-up evaluation. -/
def State.monSettled (s : State) (m : Nat) : Bool := s.mon.settled.contains m

/-- The next evaluation of the monitor is a power-up (R185). -/
def State.monUnsettle (s : State) (m : Nat) : State :=
  { s with mon := { s.mon with settled := s.mon.settled.filter (· != m), run := s.mon.run.filter (·.1 != m) } }

/-- A class goes off: its monitors report INSIDE, and their next evaluation is a power-up (R185, R189). -/
def State.monOff (s : State) (m : Nat) : State := ((s.monUnsettle m).setMonReported m .inside).setMonComp m .inside

/-- All monitors of the classes that do not run in the present mode go off (R189). -/
def monModeChange (s : State) : State :=
  s.forEach (List.range 41) fun s m => if s.monRuns m then s else s.monOff m

/-- The monitor is evaluated: its class runs in the mode, it is enabled and not under self-test (R189). -/
def State.monActive (s : State) (m : Nat) : Bool := s.monRuns m && !s.mon.test.contains m

/-- The decision of a comparator on an input in units of 0.05 µV, and whether it is its power-up. -/
def State.monDecide (s : State) (m : Nat) (x : Int) : MonState :=
  let lsb := monLsb (monClass m)
  let hi := s.monHi m * lsb
  let lo := s.monLo m * lsb
  if s.monSettled m then compareStep (s.monComp m) hi lo (s.monHyst m) x
  else comparePowerUp (s.flag (Fld.MON_CTL_INIT m)) hi lo (s.monHyst m) x

/-- The reported state of a monitor takes a value: its bits, CMP_FLAG while beyond, the interrupt source, and the
engines' lines 12 and 13 (R191, R273). -/
def monReport (s : State) (m : Nat) (r : MonState) : State :=
  if s.monReported m = r then s
  else
    let s := s.setMonReported m r
    let s := s.when (r != .inside) fun s => s.setMapBit (Reg.CMP_FLAG 0) m true
    let s := s.when (r != .inside && s.flag (Fld.MON_CTL_IRQ m)) fun s => s.raiseIrq irqMon
    let s := s.when (monClass m == .rail) fun s => s.fireAll lineRailMon
    s.when (monClass m == .cell || monClass m == .block) fun s => s.fireAll lineCellMon

/-- The power-up evaluation: comparator and reported state are set directly (R185). -/
def monPowerUp (s : State) (m : Nat) (r : MonState) : State :=
  let s := { s with mon := { s.mon with settled := m :: s.mon.settled.filter (· != m) } }
  monReport (s.setMonComp m r) m r

/-- One sample of a monitor in sampled operation (R190): a power-up at once, otherwise SCOUNT equal samples. -/
def monSample (s : State) (m : Nat) (x : Int) : State :=
  let r := s.monDecide m x
  if !s.monSettled m then monPowerUp s m r
  else
    let s := s.setMonComp m r
    let others := s.mon.run.filter (·.1 != m)
    if s.monReported m = r then { s with mon := { s.mon with run := others } }
    else
      let n := match s.mon.run.find? (·.1 == m) with
        | some (_, r', k) => if r' = r then k + 1 else 1
        | none => 1
      if s.fld Fld.CMP_SAMPLE_SCM1 + 1 ≤ n then
        monReport { s with mon := { s.mon with run := others } } m r
      else { s with mon := { s.mon with run := (m, r, n) :: others } }

/-- The monitors that drive FAULT_N low: FAULT = 1 and the CMP_FLAG bit set (R192). -/
def State.monFaultLow (s : State) : Bool :=
  (List.range 41).any fun m => s.flag (Fld.MON_CTL_FAULT m) && s.mapBit (Reg.CMP_FLAG 0) m

/-- R183: a write of HI, LO or HYST is kept only if HI − LO stays at least 2 × HYST + 1 codes. -/
def monWindowOk (m : Nat) (hi lo hyst : Nat) : Bool :=
  decide (2 * (hyst : Int) + 1 ≤ monCode (monClass m) hi - monCode (monClass m) lo)

end Sys2Proof.Machine
end

