-- ==== Sys2Proof/Machine/RailOps.lean ====
section
/-!
DEFINITION. The rail sequencer (spec/13), the part that raises no fault: rail states and their switching, the inrush
budget, requests, the margin DACs, and the step tables' checks and starts.
-/
namespace Sys2Proof.Machine

/-! ### Rail states (R355) -/

def rsOff : Nat := 0
def rsWait : Nat := 1
def rsRamping : Nat := 2
def rsGood : Nat := 3
def rsHoldOn : Nat := 4
def rsDischarge : Nat := 5
def rsOut : Nat := 6
def rsRetry : Nat := 7
def rsLocked : Nat := 8

def State.railSt (s : State) (n : Nat) : Nat := s.fld (Fld.RAIL_STAT_STATE n)

def State.railOf (s : State) (n : Nat) : Rail := sparseGet s.rail.rails {} n

def State.setRail (s : State) (n : Nat) (r : Rail) : State :=
  { s with rail := { s.rail with rails := sparseSet s.rail.rails {} n r } }

/-- REN*n* is active. -/
def State.ren (s : State) (n : Nat) : Bool := (s.reg Reg.RAIL_ON).getLsbD n

/-- TYPE: 0 NONE, 1 SUPPLY, 2 LOAD (R353). -/
def State.railType (s : State) (n : Nat) : Nat := s.fld (Fld.RAIL_CFG_TYPE n)
def State.railLoad (s : State) (n : Nat) : Bool := s.railType n == 2
def State.railSense (s : State) (n : Nat) : Bool := s.flag (Fld.RAIL_CFG_SENSE n)

/-- The rail's monitor is consulted: SENSE = 1, and the monitor is enabled and its class runs (R356, R357). -/
def State.railWatched (s : State) (n : Nat) : Bool := s.railSense n && s.monRuns (n + 4)

def State.railMon (s : State) (n : Nat) : MonState := s.monReported (n + 4)

/-- RAIL_RAMP: the inrush of rails granted or RAMPING (R361). -/
def showRamp (s : State) : State :=
  s.setRegN Reg.RAIL_RAMP (((List.range 12).map fun n =>
    if s.railSt n = rsRamping ∨ (s.railOf n).granted then s.fld (Fld.RAIL_INRUSH_INRUSH n) else 0).foldl (· + ·) 0)

/-! ### Margin DACs (R367, R368) -/

/-- The DAC assigned to a rail. -/
def State.railDac (s : State) (n : Nat) : Option Nat :=
  [0, 1].find? fun d => s.flag (Fld.MRG_CTL_EN d) && s.fld (Fld.MRG_CTL_RAIL d) == n

/-- The output is driven while its rail is RAMPING, GOOD, HOLD_ON or OUT, and never in OFF, SHIP and WATCH (R367). -/
def State.dacDriven (s : State) (d : Nat) : Bool :=
  let st := s.railSt (s.fld (Fld.MRG_CTL_RAIL d))
  s.flag (Fld.MRG_CTL_EN d) && !modeAsleep s.mode &&
  (st == rsRamping || st == rsGood || st == rsHoldOn || st == rsOut)

def State.dacNeutral (s : State) (d : Nat) : Nat := s.fld (Fld.MRG_NEUTRAL_NEUTRAL d)

/-- DRIVEN of both DACs; an output that switches on drives NEUTRAL (R367). -/
def showDacs (s : State) : State :=
  s.forEach [0, 1] fun s d =>
    let on := s.dacDriven d
    let was := s.flag (Fld.MRG_CODE_DRIVEN d)
    let s := s.setFlag (Fld.MRG_CODE_DRIVEN d) on
    s.when (on && !was) fun s => s.setFld (Fld.MRG_CODE_CODE d) (s.dacNeutral d)

/-- The code a DAC moves toward: its target's distance from NEUTRAL, which follows a write of NEUTRAL (R367). -/
def State.dacTarget (s : State) (d : Nat) : Nat := (clamp 0 4095 ((s.dacNeutral d : Int) + s.rail.dacOffset.getD d 0)).toNat

/-- The distance of a DAC's target from NEUTRAL is `k` codes. -/
def setDacOffset (s : State) (d : Nat) (k : Int) : State :=
  { s with rail := { s.rail with dacOffset := listPut s.rail.dacOffset 0 d k } }

/-- A DAC's target returns to 0 when its rail goes off (R368). -/
def dacRailOff (s : State) (n : Nat) : State :=
  match s.railDac n with
  | none => s
  | some d =>
    setDacOffset (s.setFld (Fld.MRG_TGT_TGT d) 0) d 0

/-- Both DACs return to NEUTRAL at once (R366). -/
def dacsNeutral (s : State) : State :=
  s.forEach [0, 1] fun s d =>
    let n := s.dacNeutral d
    let s := s.setFld (Fld.MRG_TGT_TGT d) 0
    let s := if s.flag (Fld.MRG_CODE_DRIVEN d) then s.setFld (Fld.MRG_CODE_CODE d) n else s
    setDacOffset s d 0

/-- M × GAIN / 16 to the nearest integer; a half goes either way (R367; log entry 22). -/
def State.marginCodes (s : State) (d : Nat) (m : Int) : Int × State :=
  let x := m * s.regI (Reg.MRG_GAIN d)
  let q := x / 16
  let r := x % 16
  if r < 8 then (q, s) else if 8 < r then (q + 1, s) else let (k, s) := s.drawBelow 2; (q + (k : Int), s)

/-- The expected pin voltage lies strictly between the monitor's LO + h and HI − h (R368), in 0.05 µV. -/
def State.marginInWindow (s : State) (d : Nat) (m : Int) : Bool :=
  let n := s.fld (Fld.MRG_CTL_RAIL d)
  let x : Int := s.regN (Reg.RAIL_NOM n) * (1000 + m) * 20
  let h := s.monHyst (n + 4)
  let lsb := monLsb .rail
  decide (s.monLo (n + 4) * lsb + h < x) && decide (x < s.monHi (n + 4) * lsb - h)

/-- A margin target is taken or refused (R368). The answer says whether it was taken. -/
def setMargin (s : State) (d : Nat) (m : Int) : State × Bool :=
  let (k, s) := s.marginCodes d m
  let code := (s.dacNeutral d : Int) + k
  if 0 ≤ code ∧ code ≤ 4095 ∧ s.marginInWindow d m ∧ -100 ≤ m ∧ m ≤ 100 then
    let s := s.setFld (Fld.MRG_TGT_TGT d) (BitVec.ofInt 8 m).toNat
    (setDacOffset s d k, true)
  else (s.setFlag Fld.SEQ_STATUS_TGT_ERR true, false)

/-- GAIN was written: the code of the present target follows (R367; log entry 22). -/
def dacGain (s : State) (d : Nat) : State :=
  let (k, s) := s.marginCodes d (signedByte (s.fld (Fld.MRG_TGT_TGT d)))
  setDacOffset s d k

/-- Every 100 µs a code moves by at most SLEW toward its target, or in one step (R367). -/
def slewStep (s : State) (d : Nat) : State :=
  if !s.flag (Fld.MRG_CODE_DRIVEN d) then s
  else
    let slew := s.fld (Fld.MRG_CTL_SLEW d)
    let t := s.dacTarget d
    s.setFld (Fld.MRG_CODE_CODE d) (if slew = 0 then t else moveToward slew (s.fld (Fld.MRG_CODE_CODE d)) t)

/-! ### Switching (R352, R355, R361, R362) -/

/-- A rail takes a state: GOOD, the sum of inrush and the DACs follow. -/
def setRailSt (s : State) (n st : Nat) : State :=
  let s := s.setFld (Fld.RAIL_STAT_STATE n) st
  let s := if st = rsGood then s.setBits Reg.RAIL_GOOD (bit16 n) else s.clearBits Reg.RAIL_GOOD (bit16 n)
  showDacs (showRamp s)

/-- REN*n* becomes active; unsensed, the rail is power-good (R356). -/
def railActivate (s : State) (n : Nat) : State :=
  let s := s.setBits Reg.RAIL_ON (bit16 n)
  let s := s.setRail n { s.railOf n with onAt := s.now, granted := false, offReady := false, maxed := false, insideAt := none }
  setRailSt s n (if s.railSense n then rsRamping else rsGood)

/-- REN*n* becomes inactive and the rail takes a state. -/
def railInactive (s : State) (n st : Nat) : State :=
  let was := s.ren n
  let s := s.clearBits Reg.RAIL_ON (bit16 n)
  let r := s.railOf n
  let s := s.setRail n { r with granted := false, offReady := false, offAt := if was then some s.now else r.offAt }
  let s := { s with rail := { s.rail with queue := s.rail.queue.filter (· != n) } }
  dacRailOff (setRailSt s n st) n

/-- A switched-off rail discharges until its monitor reports BELOW; one that is not watched, or already is BELOW, is
OFF. -/
def railSwitchOff (s : State) (n : Nat) : State :=
  railInactive s n (if s.railWatched n && s.railMon n != .below then rsDischarge else rsOff)

/-- The mode forbids a request (R360). -/
def State.railModeRefuses (s : State) (n : Nat) (on : Bool) : Bool :=
  modeAsleep s.mode || s.mode == .selftest || s.mode == .update ||
  (on && s.mode == .safe && s.flag (Fld.RAIL_CFG_SAFE_OFF n))

/-- INRUSH exceeds BUDGET (R361). -/
def State.overBudget (s : State) (n : Nat) : Bool :=
  s.regN Reg.RAIL_BUDGET != 0xFFFF && decide (s.regN Reg.RAIL_BUDGET < s.fld (Fld.RAIL_INRUSH_INRUSH n))

def State.seqKind (s : State) : Nat := s.fld Fld.SEQ_STATUS_SEQ

/-- A group change holds the rail: staged, committed, or settling (R360). -/
def State.groupHolds (s : State) (n : Nat) : Bool :=
  s.fld Fld.RGRP_STATUS_STAGE != 0 && s.rail.group.mask.testBit n

/-- Who makes a request (R360). -/
inductive RailSource where
  | command | upStep | downStep | group | restart
  deriving DecidableEq, Repr

/-- The first cause of R360 that refuses a request; 0 for none. -/
def State.railRefusal (s : State) (n : Nat) (on : Bool) (src : RailSource) : Nat :=
  if 11 < n ∨ s.railType n = 0 ∨ (on = true ∧ s.overBudget n = true) then 1
  else if (src = .command ∨ src = .group) ∧ s.seqKind ≠ 0 ∨ src ≠ .group ∧ src ≠ .restart ∧ s.groupHolds n = true then 2
  else if s.railModeRefuses n on then 3
  else if on ∧ s.railSt n = rsLocked then 4
  else 0

/-- The rail waits for its grant, after those that wait already (R361). -/
def railQueue (s : State) (n : Nat) : State :=
  let s := { s with rail := { s.rail with queue := s.rail.queue.filter (· != n) ++ [n] } }
  setRailSt s n rsWait

/-- An ON request (R360). The answer says whether it was accepted. -/
def railRequestOn (s : State) (n : Nat) (src : RailSource) : State × Bool :=
  match s.railRefusal n true src with
  | 0 =>
    let st := s.railSt n
    if st = rsOff ∨ st = rsDischarge ∨ (st = rsRetry ∧ src = .restart) then (railQueue s n, true)
    else if st = rsHoldOn then
      let s := s.setRail n { s.railOf n with offReady := false }
      (setRailSt s n (if s.railWatched n && s.railMon n != .inside then rsOut else rsGood), true)
    else (s, true)
  | e => (s.setFld Fld.SEQ_STATUS_CMD_ERR e, false)

/-- 100 ms in ticks. -/
def tenth : Nat := 8000000

/-- MIN_ON has not elapsed since the rail went active (R365). -/
def State.minOnLeft (s : State) (n : Nat) : Bool :=
  s.railLoad n && decide (s.now < (s.railOf n).onAt + tenth * s.fld (Fld.RAIL_DWELL_MIN_ON n))

/-- MIN_OFF has elapsed since the rail went inactive (R361). -/
def State.minOffOver (s : State) (n : Nat) : Bool :=
  !s.railLoad n ||
  match (s.railOf n).offAt with
  | none => true
  | some t => decide (t + tenth * s.fld (Fld.RAIL_DWELL_MIN_OFF n) ≤ s.now)

/-- An active rail goes off for a request: at once, or with ALIGN at the crossing of RAIL_PH (R362). -/
def railOffReady (s : State) (n : Nat) : State :=
  if s.flag Fld.RAIL_CTL_ALIGN then s.setRail n { s.railOf n with offReady := true } else railSwitchOff s n

/-- An OFF request (R360, R365). -/
def railRequestOff (s : State) (n : Nat) (src : RailSource) : State × Bool :=
  match s.railRefusal n false src with
  | 0 =>
    let st := s.railSt n
    if st = rsWait ∨ st = rsRetry then (railInactive s n rsOff, true)
    else if st = rsRamping ∨ st = rsGood ∨ st = rsOut then
      if src != .downStep && s.minOnLeft n then (setRailSt s n rsHoldOn, true) else (railOffReady s n, true)
    else if st = rsHoldOn ∧ src = .downStep then (railOffReady s n, true)
    else (s, true)
  | e => (s.setFld Fld.SEQ_STATUS_CMD_ERR e, false)

/-- The rail at the head of the queue fits: the budget, during a power-up table under SLOW no other rail counted, and MIN_OFF
(R361, R366). -/
def State.railFits (s : State) (n : Nat) : Bool :=
  let ramp := s.regN Reg.RAIL_RAMP
  let budget := s.regN Reg.RAIL_BUDGET
  (budget == 0xFFFF || decide (ramp + s.fld (Fld.RAIL_INRUSH_INRUSH n) ≤ budget)) && s.minOffOver n &&
  !(s.flag Fld.RAIL_CTL_SLOW && s.seqKind == 1 && (List.range 12).any fun m => s.railSt m == rsRamping || (s.railOf m).granted)

/-- The first waiting rail is granted its start (R361). -/
def railGrant (s : State) : State :=
  match s.rail.queue with
  | [] => s
  | n :: rest =>
    if s.railFits n then
      let s := { s with rail := { s.rail with queue := rest } }
      if s.flag Fld.RAIL_CTL_ALIGN then showRamp (s.setRail n { s.railOf n with granted := true })
      else railActivate s n
    else s

/-- The changes that are ready take place together, with ALIGN = 1 in a tick in which the timebase crosses RAIL_PH (R157,
R362). -/
def railAligned (s : State) : State :=
  if s.flag Fld.RAIL_CTL_ALIGN && !crossesPhase (s.regN Reg.RAIL_PH) s.tb.prevValue s.tb.value then s
  else s.forEach (List.range 12) fun s n =>
    if (s.railOf n).granted then railActivate s n
    else if (s.railOf n).offReady then railSwitchOff s n
    else s

/-- CLEAR (R359): the restart count and the RAIL_FLAGS bit, also those an OFF in RETRY left behind (R360). -/
def railClear (s : State) (n : Nat) : State :=
  if n < 12 then
    let st := s.railSt n
    let s := s.setRail n { s.railOf n with restarts := [] }
    let s := (s.setFld (Fld.RAIL_STAT_RESTARTS n) 0).clearBits Reg.RAIL_FLAGS (bit16 n)
    if st = rsLocked ∨ st = rsRetry then setRailSt s n rsOff else s
  else s

/-- A LOAD in HOLD_ON goes off when MIN_ON has elapsed (R365). -/
def railMinOnEnd (s : State) (n : Nat) : State :=
  if s.railSt n = rsHoldOn then railOffReady s n else s

/-- A LOAD that was active for MAXON goes off, its monitor not consulted (R365). -/
def railMaxOnEnd (s : State) (n : Nat) : State :=
  if s.railLoad n ∧ s.ren n ∧ s.regN (Reg.RAIL_MAXON n) ≠ 0 then
    let s := railInactive s n rsOff
    s.setRail n { s.railOf n with maxed := true }
  else s

/-- Every rail still active goes off, in descending order (R364). -/
def railsAllOff (s : State) : State :=
  s.forEach (List.range 12).reverse fun s n => if s.ren n then railSwitchOff s n else s

/-! ### Step tables (R363, R364) -/

def stepOp (w : Word) : Nat := w.toNat / 2 ^ 28
def stepRail (w : Word) : Nat := w.toNat / 2 ^ 24 % 16
def stepArg (w : Word) : Nat := w.toNat / 2 ^ 16 % 256
def stepTime (w : Word) : Nat := w.toNat % 2 ^ 16
def stepArgSigned (w : Word) : Int := signedByte (stepArg w)

/-- Step `i`, 0 to 63 power-up, 64 to 127 power-down. -/
def State.stepWord (s : State) (i : Nat) : Word := sparseGet s.rail.tables 0 i

/-- SEQ_ERR of one step (R364); 0 for none. -/
def State.stepError (s : State) (w : Word) : Nat :=
  let op := stepOp w
  let n := stepRail w
  let unused := match op with
    | 0 => w != 0
    | 1 | 3 => stepArg w != 0
    | 2 => decide (1 < stepArg w)
    | 4 => n != 0 || stepArg w != 0
    | 5 => stepTime w != 0
    | _ => true
  let named := op == 1 || op == 2 || op == 3 || op == 5
  if unused || decide (11 < n) then 1
  else if named && s.railType n == 0 then 2
  else if (op == 3 || (op == 2 && stepArg w == 1)) && !s.railSense n then 3
  else if op == 5 && ((s.railDac n).isNone || decide (100 < (stepArgSigned w).natAbs)) then 4
  else if op == 1 && s.overBudget n then 5
  else 0

/-- The check from step 0 to the first END: the first failing step and its code, none if the table may run. -/
def State.tableErrorFrom (s : State) (base : Nat) : Nat → Nat → Option (Nat × Nat)
  | 0, i => some (base + (i - 1), 6)
  | k + 1, i =>
    let w := s.stepWord (base + i)
    match s.stepError w with
    | 0 => if stepOp w = 0 then none else s.tableErrorFrom base k (i + 1)
    | e => some (base + i, e)

def State.tableError (s : State) (base : Nat) : Option (Nat × Nat) := s.tableErrorFrom base 64 0

/-- A table starts at its first step: `kind` 1 power-up, 2 power-down. -/
def seqBegin (s : State) (kind : Nat) : State :=
  let s := s.setFld Fld.SEQ_STATUS_SEQ kind
  let s := s.setFld Fld.SEQ_STATUS_SEQ_ERR 0
  let s := s.setFld Fld.SEQ_STEP_STEP (64 * (kind - 1))
  { s with rail := { s.rail with seq := {} } }

/-- A table is refused at its check. -/
def seqRefused (s : State) (step err : Nat) : State :=
  (s.setFld Fld.SEQ_STEP_STEP step).setFld Fld.SEQ_STATUS_SEQ_ERR err

/-- The power-down table runs; if it fails to start, every active rail goes off (R364). -/
def seqDownStart (s : State) : State :=
  match s.tableError 64 with
  | none => seqBegin s 2
  | some (i, e) => railsAllOff (seqRefused s i e)

/-- The power-up table runs, or is refused with FAILED. -/
def seqUpStart (s : State) : State :=
  match s.tableError 0 with
  | none => seqBegin s 1
  | some (i, e) => (seqRefused s i e).setFlag Fld.SEQ_STATUS_FAILED true

/-- No sequence runs any more. -/
def seqStop (s : State) : State :=
  ({ s with rail := { s.rail with seq := {} } }).setFld Fld.SEQ_STATUS_SEQ 0

/-- ABORT (R364). A mode entry that waits still has the power-down table run before it where ABORT ends a power-up, and every
active rail switched off where it ends the power-down. -/
def seqAbort (s : State) : State :=
  if s.seqKind = 0 then s
  else
    let down := s.seqKind == 2
    let s := seqStop s
    if s.mc.shutdown.isNone then s else if down then railsAllOff s else seqDownStart s

/-- DOWN (R364): during a power-up sequence it waits for the current step. -/
def seqDown (s : State) : State :=
  match s.seqKind with
  | 0 => seqDownStart s
  | 1 => { s with rail := { s.rail with seq := { s.rail.seq with thenDown := true } } }
  | _ => s

/-- Entry to SAFE (R366). -/
def railsSafe (s : State) : State :=
  let s := seqAbort s
  let s := s.forEach (List.range 12).reverse fun s n =>
    if s.flag (Fld.RAIL_CFG_SAFE_OFF n) then
      if s.ren n then railSwitchOff s n
      else if s.railSt n = rsWait then railInactive s n rsOff
      else s
    else s
  dacsNeutral s

/-- In OFF, SHIP and WATCH every REN is inactive (R352). -/
def railsAsleep (s : State) : State :=
  s.forEach (List.range 12) fun s n => if s.ren n || s.railSt n != rsOff then railInactive s n rsOff else s

end Sys2Proof.Machine
end

