-- ==== Sys2Proof/Machine/LinkOps.lean ====
section
/-!
DEFINITION. The Krovdun link (spec/08): the frame's layout and its two checks, the receiver's steps, sequence numbers
and windows, and the sending of a frame on a port.
-/
namespace Sys2Proof.Machine

/-! ### RS(255,249) (R212) -/

/-- Multiplication by α in GF(2^8) with 0x11D. -/
def gfDouble (a : Byte) : Byte := if a.getLsbD 7 then (a <<< 1) ^^^ 0x1D#8 else a <<< 1

def gfMul (a b : Byte) : Byte :=
  ((List.range 8).foldl (fun (p : Byte × Byte) i => (if b.getLsbD i then p.1 ^^^ p.2 else p.1, gfDouble p.2)) (0, a)).1

def gfPow (a : Byte) : Nat → Byte
  | 0 => 1
  | n + 1 => gfMul (gfPow a n) a

/-- The inverse of a non-zero element: its 254th power. -/
def gfInv (a : Byte) : Byte := gfPow a 254

/-- α to a power, counted modulo 255. -/
def alphaPow (n : Nat) : Byte := gfPow 2 (n % 255)

/-- The coefficients of g below x^6, from x^5 down. -/
def rsGen : List Byte := [0x3F, 0x01, 0xDA, 0x20, 0xE3, 0x26]

/-- One step of the encoder: registers r5 to r0 and a message byte. -/
def rsStep (r : List Byte) (d : Byte) : List Byte :=
  let fb := d ^^^ r.headD 0
  List.zipWith (fun (x g : Byte) => x ^^^ gfMul fb g) (r.tail ++ [0]) rsGen

/-- The six PARITY bytes of a message. -/
def rsParity (msg : List Byte) : List Byte := msg.foldl rsStep [0, 0, 0, 0, 0, 0]

/-- The value of a word's polynomial at x; byte 0 has the highest degree. -/
def rsEval (w : List Byte) (x : Byte) : Byte := w.foldl (fun a b => gfMul a x ^^^ b) 0

def rsSyndromes (w : List Byte) : List Byte := (List.range 6).map fun j => rsEval w (alphaPow j)

/-- A polynomial with coefficients from x^0 up. -/
def gfAt (p : List Byte) (i : Nat) : Byte := p.getD i 0
def gfHorner (p : List Byte) (x : Byte) : Byte := p.foldr (fun c a => gfMul a x ^^^ c) 0

/-- The error locator of up to three errors: the discrepancy method over the six syndromes. The state: the locator,
the last one before a change of length with its discrepancy, the length, and the distance. -/
def rsLocator (syn : List Byte) : List Byte × Nat :=
  let step (a : List Byte × List Byte × Byte × Nat × Nat) (n : Nat) : List Byte × List Byte × Byte × Nat × Nat :=
    let (c, b, d0, len, m) := a
    let d := (List.range (len + 1)).foldl (fun x i => x ^^^ gfMul (gfAt c i) (if i ≤ n then gfAt syn (n - i) else 0)) 0
    if d = 0 then (c, b, d0, len, m + 1)
    else
      let k := gfMul d (gfInv d0)
      let c' := (List.range 7).map fun i => gfAt c i ^^^ (if m ≤ i then gfMul k (gfAt b (i - m)) else 0)
      if 2 * len ≤ n then (c', c, d, n + 1 - len, 1) else (c', b, d0, len, m + 1)
  let (c, _, _, len, _) := (List.range 6).foldl step ([1], [1], 1, 0, 1)
  (c, len)

/-- The word with an error value taken off at a power of x. -/
def rsFix (w : List Byte) (power : Nat) (e : Byte) : List Byte :=
  let i := w.length - 1 - power
  w.set i (w.getD i 0 ^^^ e)

/-- The decoder: the corrected word and the number of symbols corrected, or `none` where no codeword lies within three
symbols. -/
def rsDecode (w : List Byte) : Option (List Byte × Nat) :=
  let syn := rsSyndromes w
  if syn.all (· == 0) then some (w, 0)
  else
    let (c, len) := rsLocator syn
    let roots := (List.range w.length).filter fun p => gfHorner c (alphaPow (255 - p % 255)) == 0
    if len = 0 ∨ 3 < len ∨ roots.length ≠ len then none
    else
      let omega := (List.range len).map fun i =>
        (List.range (i + 1)).foldl (fun x j => x ^^^ gfMul (gfAt c j) (gfAt syn (i - j))) 0
      let fixed := roots.foldl (fun w p =>
        let xi := alphaPow (255 - p % 255)
        let slope := (List.range 7).foldl
          (fun a i => if i % 2 = 1 then a ^^^ gfMul (gfAt c i) (gfPow xi (i - 1)) else a) 0
        rsFix w p (gfMul (alphaPow p) (gfMul (gfHorner omega xi) (gfInv slope)))) w
      if (rsSyndromes fixed).all (· == 0) then some (fixed, len) else none

/-! ### Frames (R206, R207, R209, R211) -/

def tyOpen : Byte := 0x01
def tyMeasure : Byte := 0x02
def tyCommand : Byte := 0x03
def tyResponse : Byte := 0x04
def tyMilestone : Byte := 0x05
def tyRetx : Byte := 0x06
def tyEcho : Byte := 0x07
def tyCtl : Byte := 0x08
def tyBulk : Byte := 0x09

/-- The payload lengths of a type (R207). -/
def lenAllowed (ty : Byte) (n : Nat) : Bool :=
  match ty.toNat with
  | 1 => n == 0
  | 2 => n == 112
  | 3 | 4 | 8 => decide (4 ≤ n) && decide (n ≤ 237)
  | 5 => n == 16
  | 6 => n == 4
  | 7 => n == 8
  | 9 => decide (1 ≤ n) && decide (n ≤ 237)
  | _ => false

/-- Bytes 0 to 7 + LEN. -/
def frameBody (f : Frame) : List Byte :=
  [f.type, BitVec.ofNat 8 f.payload.length]
  ++ leBytes 2 (f.src.toNat + f.seq.toNat / 256 * 8192) ++ leBytes 2 f.dst.toNat
  ++ [BitVec.ofNat 8 f.seq.toNat, f.flags] ++ f.payload

/-- Seed F of R209. -/
def crcSeed (epoch : Nat) (src : BitVec 13) (seq : BitVec 11) : BitVec 32 :=
  BitVec.ofNat 32 (epoch % 256 * 2 ^ 24 + src.toNat * 2 ^ 11 + seq.toNat)

/-- A sealed frame: body, CRC, parity (R211). -/
def sealFrame (f : Frame) (epoch : Nat) : List Byte :=
  let b := frameBody f
  let m := b ++ leBytes 4 (crc32 (crcSeed epoch f.src f.seq) b).toNat
  m ++ rsParity m

/-- The fields of a frame's bytes. -/
def parseFrame (bs : List Byte) : Frame :=
  let src := leAt bs 2 2
  { type := bs.getD 0 0, src := BitVec.ofNat 13 src, dst := BitVec.ofNat 16 (leAt bs 4 2)
    seq := BitVec.ofNat 11 (src / 8192 * 256 + leAt bs 6 1), flags := bs.getD 7 0
    payload := (bs.drop 8).take (bs.length - 18) }

/-- The CRC over the bytes of a frame agrees under an epoch (R209). -/
def crcGood (epoch : Nat) (bs : List Byte) : Bool :=
  let f := parseFrame bs
  let n := bs.length - 10
  leAt bs n 4 == (crc32 (crcSeed epoch f.src f.seq) (bs.take n)).toNat

/-! ### Ports and rings (R194, R220) -/

/-- The ring of a port, in the node's own numbering: 0 on A0 and A1, 1 Lane 1, 2 Lane 2. -/
def portRing (p : Nat) : Nat := p / 2

/-- The port a head of the ring transmits on, and the one it receives on. -/
def txPort (r : Nat) : Nat := 2 * r
def rxPort (r : Nat) : Nat := 2 * r + 1

/-- The epoch of a ring as the node holds it (R210). -/
def State.epoch (s : State) (r : Nat) : Nat :=
  match r with
  | 0 => s.fld Fld.LINK_EPOCH_A_EPOCH
  | 1 => s.fld Fld.LINK_EPOCH_L_EPOCH1
  | _ => s.fld Fld.LINK_EPOCH_L_EPOCH2

/-- The epoch changes: every L of the ring is dropped (R214). -/
def setEpoch (s : State) (r epoch : Nat) : State :=
  if s.epoch r = epoch % 256 then s
  else
    let s := match r with
      | 0 => s.setFld Fld.LINK_EPOCH_A_EPOCH epoch
      | 1 => s.setFld Fld.LINK_EPOCH_L_EPOCH1 epoch
      | _ => s.setFld Fld.LINK_EPOCH_L_EPOCH2 epoch
    { s with link := { s.link with windows := s.link.windows.filter fun p => p.1 / 16384 != r } }

/-- DIR of a port: 0 off, 1 transmit, 2 receive. -/
def setDir (s : State) (p d : Nat) : State := s.setFld (Fld.LP_STATUS_DIR p) d
def State.dir (s : State) (p : Nat) : Nat := s.fld (Fld.LP_STATUS_DIR p)

/-- Both ports of a ring in the direction of R194, or reversed. -/
def ringDirection (s : State) (r : Nat) (reversed : Bool) : State :=
  (setDir s (txPort r) (if reversed then 2 else 1)).setFld (Fld.LP_STATUS_DIR (rxPort r)) (if reversed then 1 else 2)

def State.portOn (s : State) (p : Nat) : Bool := s.flag (Fld.LP_CTL_EN p)

/-- REDUCED drive in force (R197): chosen, or under AUTO on a Lane port while throttle is in force or in SAFE. -/
def showDrive (s : State) : State :=
  s.forEach (List.range 6) fun s p =>
    let d := s.fld (Fld.LP_CTL_DRIVE p)
    s.setFlag (Fld.LP_STATUS_REDUCED p)
      (d == 2 || (d == 0 && decide (2 ≤ p) && (s.flag Fld.TH_STATUS_THROT || s.mode == .safe)))

/-- The network conditions of a node's link in its mode: the transmitters are on from STANDBY to SAFE and in BOOT. -/
def State.linkOn (s : State) : Bool := !modeAsleep s.mode

/-! ### Sequence numbers and sending (R211, R215) -/

/-- The next number of the count for a destination on a ring. -/
def nextSeq (s : State) (r : Nat) (dst : BitVec 16) : BitVec 11 × State :=
  let key := 16384 * r + dst.toNat % 16384
  let n := sparseGet s.link.counts 0 key
  (BitVec.ofNat 11 n, { s with link := { s.link with counts := sparseSet s.link.counts 0 key ((n + 1) % 2048) } })

/-- A frame leaves on a port, sealed under the ring's epoch; one for a port with EN = 0 is discarded (R314), and a port
that is off sends nothing. -/
def transmit (s : State) (r p : Nat) (f : Frame) : State :=
  if s.portOn p && s.linkOn && s.dir p != 0 then
    (s.send p (sealFrame f (s.epoch r))).incPair (Reg.LP_TX_LO p) (Reg.LP_TX_HI p)
  else s

/-- A frame of the node's own, with the next number of its count. -/
def numbered (s : State) (r : Nat) (f : Frame) : Frame × State :=
  let (n, s) := nextSeq s r f.dst
  ({ f with seq := n }, s)

/-- A new frame from this node. -/
def State.newFrame (s : State) (ty : Byte) (dst : BitVec 16) (payload : List Byte) : Frame :=
  { type := ty, src := BitVec.ofNat 13 s.nodeNum, dst := dst, seq := 0, flags := 0, payload := payload }

def bcastDst : BitVec 16 := 0x2000
def nodeDst (n : Nat) : BitVec 16 := BitVec.ofNat 16 (n % 8192)

/-! ### Receiving (R204, R207, R213, R214) -/

/-- What becomes of a received frame. -/
inductive Verdict where
  | aborted | crcf | dup | accepted (f : Frame)
  deriving DecidableEq, Repr

/-- Step 5: S lies in the window of the last frame accepted from the sender. -/
def State.inWindow (s : State) (r : Nat) (f : Frame) : Bool :=
  let l := sparseGet s.link.windows 0 (16384 * r + (if f.bcast then 8192 else 0) + f.src.toNat)
  if l = 0 then true
  else
    let d := (f.seq.toNat + 2048 - (l - 1)) % 2048
    decide (1 ≤ d) && decide (d ≤ 1023)

def acceptWindow (s : State) (r : Nat) (f : Frame) : State :=
  { s with link := { s.link with
    windows := sparseSet s.link.windows 0 (16384 * r + (if f.bcast then 8192 else 0) + f.src.toNat) (f.seq.toNat + 1) } }

/-- A frame fails its check. -/
def countCrcf (s : State) (p : Nat) : State :=
  ((s.incSat (Reg.LP_CRCF p)).setFlag (Fld.LP_STATUS_CRC_ERR p) true).incSat Reg.LCVU_FAIL

/-- Add to a counter that stops at 0xFFFF. -/
def State.addSat (s : State) (a n : Nat) : State := s.setRegN a (min 65535 (s.regN a + n))

/-- Code violations on a port, within a frame or outside (R199). -/
def countViolations (s : State) (p n : Nat) : State :=
  if n = 0 then s else (s.addSat (Reg.LP_CV p) n).setFlag (Fld.LP_STATUS_CV p) true

/-- The receiver's steps 1 to 5 of R213, with the counters of the port. A hub that takes a frame in for a Lane member
leaves step 5 to that member, whose numbers the frame carries (R211). -/
def receiveFrame (s : State) (p : Nat) (bs : List Byte) (violations : Nat) (whole through : Bool) : Verdict × State :=
  let r := portRing p
  let s := countViolations s p violations
  if !whole then (.aborted, s.incSat (Reg.LP_ABORT p))
  else if bs.length < 18 then (.crcf, countCrcf s p)
  else
    let (w, s) := match rsDecode bs with
      | some (w, k) => (w, s.addSat (Reg.LP_CORR p) k)
      | none => (bs, (s.incSat (Reg.LP_UNCORR p)).setFlag (Fld.LP_STATUS_UNCORR p) true)
    let f := parseFrame w
    if leAt w 1 1 ≠ w.length - 18 ∨ !crcGood (s.epoch r) w ∨ !lenAllowed f.type f.payload.length then
      (.crcf, countCrcf s p)
    else if !through && !s.inWindow r f then (.dup, s.incSat (Reg.LP_DUP p))
    else (.accepted f, (if through then s else acceptWindow s r f).incPair (Reg.LP_RXOK_LO p) (Reg.LP_RXOK_HI p))

/-- The characters a forwarding node sends on: an undecodable one becomes 0x00, and after the fourth ABORT takes the place of
the next (R204). -/
def forwardCopy : Nat → List (Option Byte) → List Byte × Bool
  | _, [] => ([], false)
  | bad, some b :: rest => let (l, cut) := forwardCopy bad rest; (b :: l, cut)
  | bad, none :: rest => if 3 ≤ bad then ([0], true) else let (l, cut) := forwardCopy (bad + 1) rest; (0 :: l, cut)

/-- The counters of every port that saturate are cleared (LINK_CMD). -/
def clearCounters (s : State) : State :=
  s.forEach (List.range 6) fun s p =>
    s.forEach [Reg.LP_CORR p, Reg.LP_UNCORR p, Reg.LP_CRCF p, Reg.LP_CV p, Reg.LP_ABORT p, Reg.LP_DUP p] fun s a =>
      s.setReg a 0

/-- IDLE characters are sent on ports until they come back there; a receiving port is reversed for the purpose
(R242). -/
def wakeSend (s : State) (ports : List Nat) : State :=
  s.forEach ports fun s p =>
    let s := (setDir s p 1).send p []
    { s with link := { s.link with waking := p :: s.link.waking.filter (· != p) } }

/-- IDLE characters come in on a port: it need not be woken any longer, and it takes its normal direction. -/
def wakeAnswered (s : State) (p : Nat) : State :=
  if s.link.waking.contains p then
    let s := { s with link := { s.link with waking := s.link.waking.filter (· != p) } }
    if p % 2 = 1 then setDir s p 2 else s
  else s

end Sys2Proof.Machine
end

