-- ==== Sys2Proof/Machine/KeyOps.lean ====
section
/-!
DEFINITION. Tags and sessions (R423, R432 to R437): the string a tag covers, the check of a tagged frame, and the
answers a node queues.
-/
namespace Sys2Proof.Machine

/-- A number as `n` bytes, highest first: keys, nonces, coordinates and tags are octet strings (R424, R433). -/
def beBytes (n x : Nat) : List Byte := (leBytes n x).reverse

def fromBe (bs : List Byte) : Nat := fromLe bs.reverse

/-- The string of R433 for a frame whose payload before the tag is `body`. -/
def tagString (ty : Byte) (len : Nat) (src dst sweep tree key gen : Nat) (body : List Byte) : List Byte :=
  [ty, BitVec.ofNat 8 len] ++ leBytes 2 (src % 8192) ++ leBytes 2 dst ++ leBytes 2 sweep ++ leBytes 4 tree
  ++ [BitVec.ofNat 8 key, BitVec.ofNat 8 gen, 0, 0] ++ body

/-- A tag: the first 8 bytes of the CMAC. -/
def makeTag (k : BitVec 128) (str : List Byte) : List Byte := beBytes 8 ((Config.cmac k str).toNat / 2 ^ 64)

/-- The payload of a tagged frame before its tag, and the tag. -/
def tagBody (f : Frame) : List Byte := f.payload.take (f.payload.length - 8)
def tagOf (f : Frame) : List Byte := f.payload.drop (f.payload.length - 8)

/-- The tag a frame should carry under a key and a pair. -/
def tagFor (f : Frame) (k : BitVec 128) (key gen : Nat) (pair : Nat × Nat) : List Byte :=
  makeTag k (tagString f.type f.payload.length f.src.toNat f.dst.toNat pair.1 pair.2 key gen (tagBody f))

/-- The keys a node tries on a frame: the session key on a unicast frame, the tree key and the one before it on a
broadcast (R433, R434). -/
def State.tagKeys (s : State) (f : Frame) : List (BitVec 128 × Nat × Nat) :=
  if f.bcast then
    (match s.keys.treeKey with | some k => [(k, 2, s.keys.tkgen)] | none => [])
    ++ (match s.keys.treePrev with | some k => [(k, 2, (s.keys.tkgen + 255) % 256)] | none => [])
  else match s.keys.session with
    | some k => [(k, 1, s.keys.kgen)]
    | none => []

/-- The pair under which a frame's tag is right, tried from the newest pair to the oldest. -/
def State.tagPair (s : State) (f : Frame) : Option (Nat × Nat) :=
  if !f.tagged || decide (f.payload.length < 8) then none
  else s.keys.pairs.find? fun p => (s.tagKeys f).any fun k => tagFor f k.1 k.2.1 k.2.2 p == tagOf f

/-- What the check of a tag finds. -/
inductive TagCheck where
  | good | repeated | bad
  deriving DecidableEq, Repr

/-- The check of R434 and its counters: a tag accepted before is discarded. -/
def checkTag (s : State) (f : Frame) : TagCheck × State :=
  match s.tagPair f with
  | none => (.bad, s.incSat Reg.AUTH_FAIL)
  | some p =>
    if s.keys.seen.any fun x => x.2 == tagOf f then (.repeated, s.incSat Reg.DUP_TAG)
    else (.good, { s with keys := { s.keys with seen := (p, tagOf f) :: s.keys.seen } })

/-- A SWEEP_START brings a new pair: the last three are held, and the tags of the others forgotten (R434). -/
def pushPair (s : State) (sweep tree : Nat) : State :=
  let first := s.keys.pairs == [(0, 0)]
  let ps := ((sweep, tree) :: (if first then [] else s.keys.pairs)).take 3
  { s with keys := { s.keys with pairs := ps, seen := s.keys.seen.filter fun x => ps.contains x.1 } }

/-- A payload with the tag of a key, under the newest pair. -/
def State.withTag (s : State) (f : Frame) (k : BitVec 128) (key gen : Nat) : Frame :=
  let f := { f with flags := f.flags ||| 2, payload := f.payload ++ List.replicate 8 0 }
  { f with payload := tagBody f ++ tagFor f k key gen (s.keys.pairs.headD (0, 0)) }

/-- A RESPONSE waits for a train (R225); one to a tagged command carries the session's tag (R435). -/
def respond (s : State) (dst : Nat) (payload : List Byte) (tag : Bool) : State :=
  let f := s.newFrame tyResponse (nodeDst dst) payload
  let f := match tag, s.keys.session with
    | true, some k => s.withTag f k 1 s.keys.kgen
    | _, _ => f
  { s with link := { s.link with responses := s.link.responses ++ [f] } }

/-- Result codes of R150 and R234. -/
def resAck : Byte := 0
def resRefused : Byte := 1
def resLate : Byte := 2
def resNoTxn : Byte := 3
def resAuth : Byte := 4
def resBusy : Byte := 5
def resAddr : Byte := 6

/-- KEY_STATUS shows the keys held. -/
def showKeys (s : State) : State :=
  let s := s.setFlag Fld.KEY_STATUS_SESSION s.keys.session.isSome
  let s := s.setFlag Fld.KEY_STATUS_TREE s.keys.treeKey.isSome
  let s := s.setFld Fld.KEY_STATUS_KGEN (if s.keys.session.isSome then s.keys.kgen else 0)
  s.setFld Fld.KEY_STATUS_TKGEN (if s.keys.treeKey.isSome then s.keys.tkgen else 0)

/-- Session keys and the tree key are lost at reset and on entry to OFF, SHIP and WATCH (R423). -/
def dropKeys (s : State) : State :=
  showKeys { s with keys := { s.keys with
    session := none, treeKey := none, treePrev := none, setup := {}, pairs := [(0, 0)], seen := [], rootCert := none
    op := 0, busy := false, ready := none, awaited := false, sessions := [], nextTree := none, treeAcks := [] } }

/-! ### The root's side of tags -/

def State.session (s : State) (n : Nat) : RootSession := sparseGet s.keys.sessions {} n

def setSession (s : State) (n : Nat) (x : RootSession) : State :=
  { s with keys := { s.keys with sessions := sparseSet s.keys.sessions {} n x } }

/-- A command of the root with the tag of the node's session; without a session the frame carries no right tag. -/
def State.tagCommand (s : State) (f : Frame) : Frame :=
  if f.bcast then
    match s.keys.treeKey with
    | some k => s.withTag f k 2 s.keys.tkgen
    | none => f
  else match (s.session f.dstNode).key with
    | some k => s.withTag f k 1 (s.session f.dstNode).kgen
    | none => f

/-- The tag of a node's RESPONSE is right at the root. -/
def State.responseTagGood (s : State) (f : Frame) : Bool :=
  match (s.session f.src.toNat).key with
  | some k => s.keys.pairs.any fun p => tagFor f k 1 (s.session f.src.toNat).kgen p == tagOf f
  | none => false

end Sys2Proof.Machine
end

