-- ==== Sys2Proof/Machine/NandCode.lean ====
section
/-!
DEFINITION. The code of a NAND sector, RS(426,410) over GF(2^10) (spec/12, R323, R324, R335): its encoder, and how many
symbols of a codeword as read differ from the codeword stored.
-/
namespace Sys2Proof.Machine

/-- Multiplication by α with x^10 + x^3 + 1 (R323). -/
def nandDouble (a : BitVec 10) : BitVec 10 := if a.getLsbD 9 then (a <<< 1) ^^^ 0x009#10 else a <<< 1

def nandMul (a b : BitVec 10) : BitVec 10 :=
  ((List.range 10).foldl (fun (p : BitVec 10 × BitVec 10) i =>
    (if b.getLsbD i then p.1 ^^^ p.2 else p.1, nandDouble p.2)) (0, a)).1

/-- g(x) = (x − α^1) … (x − α^16): the coefficients below x^16, from x^15 down (R323). -/
def nandGen : List (BitVec 10) :=
  let times (p : List (BitVec 10) × BitVec 10) (_ : Nat) : List (BitVec 10) × BitVec 10 :=
    (List.zipWith (· ^^^ ·) (p.1 ++ [0]) (0 :: p.1.map (nandMul p.2)), nandDouble p.2)
  ((List.range 16).foldl times ([1], 2)).1.tail

/-- One step of the encoder: the remainder so far and a message symbol. -/
def nandStep (r : List (BitVec 10)) (d : BitVec 10) : List (BitVec 10) :=
  let fb := d ^^^ r.headD 0
  List.zipWith (fun x g => x ^^^ nandMul fb g) (r.tail ++ [0]) nandGen

/-- The 16 PARITY symbols of a message, the coefficient of x^15 first (R323). -/
def nandParity (msg : List (BitVec 10)) : List (BitVec 10) := msg.foldl nandStep (List.replicate 16 0)

/-- Bytes as bits, each most significant bit first (R324). -/
def bitString (bs : List Byte) : List Bool := bs.flatMap fun b => (List.range 8).map fun i => b.getLsbD (7 - i)

/-- `n` symbols cut from a bit string; the first bit of each is its bit 9 (R324). -/
def bitSymbols : Nat → List Bool → List (BitVec 10)
  | 0, _ => []
  | n + 1, bits =>
    (bits.take 10).foldl (fun (v : BitVec 10) b => (v <<< 1) ||| (if b then 1#10 else 0#10)) 0#10 :: bitSymbols n (bits.drop 10)

/-- The 410 message symbols of a sector, after the four pad bits (R324). -/
def sectorSymbols (sector : List Byte) : List (BitVec 10) := bitSymbols 410 (List.replicate 4 false ++ bitString sector)

/-- The codeword of a sector as it is stored (R323, R324). -/
def sectorCodeword (sector : List Byte) : List (BitVec 10) :=
  let msg := sectorSymbols sector
  msg ++ nandParity msg

/-- The symbols of a sector's 512 bytes and 20 PARITY bytes as read that differ from its codeword. Up to 8 are corrected;
with more the sector is uncorrectable (R323, R335). -/
def sectorErrors (sector data parity : List Byte) : Nat :=
  let read := sectorSymbols data ++ bitSymbols 16 (bitString parity)
  ((List.zip (sectorCodeword sector) read).filter fun p => p.1 != p.2).length

/-! ### A page and its spare as read (R322) -/

def pageSector (page : List Byte) (i : Nat) : List Byte := slice page (512 * i) 512
def pageParity (page : List Byte) (i : Nat) : List Byte := slice page (4096 + 20 * i) 20
/-- META0, META1 or META2. -/
def pageMeta (page : List Byte) (k : Nat) : List Byte := slice page (4256 + 32 * k) 32

end Sys2Proof.Machine
end

