-- ==== Sys2Proof/Machine/HistoryOps.lean ====
section
/-!
DEFINITION. The history store (spec/12, R318 to R342): records and page buffers, the tiers' circular logs, page
programs, erases and retirements, checkpoints, reading back, and the summaries of R332.
-/
namespace Sys2Proof.Machine

/-- The node has a history store (R318): a root or hub whose probe at BOOT found a device. -/
def State.storeOn (s : State) : Bool := s.hs.on && s.role != 0

/-! ### Geometry (R326) -/

/-- First block and number of blocks of a tier of a device with 2^b blocks: 0 minute, 1 hour, 2 event, 3 the control
area. -/
def tierArea (b t : Nat) : Nat × Nat :=
  let n := 2 ^ b
  match t with
  | 0 => (n / 8, n / 2)
  | 1 => (5 * n / 8, n - 5 * n / 8)
  | 2 => (16 + n / 256, n / 8 - (16 + n / 256))
  | _ => (0, 16)

def poolSize (b : Nat) : Nat := 2 ^ b / 256

def State.blkLog2 (s : State) : Nat := s.hs.work.blkLog2

/-- The physical block that serves a block of the layout (R328). -/
def State.physical (s : State) (block : Nat) : Nat := sparseGet s.hs.work.remap block block

def State.tier (s : State) (t : Nat) : TierLog := s.hs.tiers.getD t {}

def setTier (s : State) (t : Nat) (x : TierLog) : State :=
  { s with hs := { s.hs with tiers := listPut s.hs.tiers {} t x } }

/-- The layout's block that holds a place of a tier. -/
def State.placeBlock (s : State) (t place : Nat) : Nat := (tierArea s.blkLog2 t).1 + place / 64

/-- Blocks of a tier that the pool could not replace (R328). -/
def State.lostIn (s : State) (t : Nat) : Nat :=
  let (a, n) := tierArea s.blkLog2 t
  (s.hs.work.lost.filter fun b => decide (a ≤ b) && decide (b < a + n)).length

/-- The first place from `p` on, wrapping, that does not lie in a lost block. -/
def State.skipLost (s : State) (t : Nat) : Nat → Nat → Nat
  | 0, p => p
  | k + 1, p =>
    let size := 64 * (tierArea s.blkLog2 t).2
    let p := if size ≤ p then 0 else p
    if s.hs.work.lost.contains (s.placeBlock t p) then s.skipLost t k (64 * (p / 64 + 1)) else p

/-- Where the tier's next page goes. -/
def State.nextPlace (s : State) (t : Nat) : Nat := s.skipLost t (s.hs.work.lost.length + 2) (s.tier t).next

/-- A physical block is not erased: it holds a page, programmed or torn, or what an erase or a format left. -/
def State.physUsed (s : State) (p : Nat) : Bool :=
  s.hs.pages.any (fun x => x.1 / 64 == p) || s.hs.torn.any (fun r => r / 64 == p) || s.hs.half.contains p ||
    (match s.hs.stale with
    | some erased => !erased.contains p
    | none => false)

/-- The same of the block that serves a block of the layout. -/
def State.blockUsed (s : State) (block : Nat) : Bool := s.physUsed (s.physical block)

/-- Spare blocks left, in the order in which they serve; one that is bad serves never (R321, R328). -/
def State.spares (s : State) : List Nat :=
  (((List.range (poolSize s.blkLog2)).filter (s.hs.work.poolUsed ≤ ·)).map (16 + ·)).filter (!s.hs.work.bad.contains ·)

/-- The block a tier needs erased next: its head block if the head stands at its start, else the one after (R327). -/
def State.eraseNeeded (s : State) (t : Nat) : Option Nat :=
  let p := s.nextPlace t
  let here := s.placeBlock t p
  if p % 64 = 0 ∧ s.blockUsed here then some here
  else
    let after := s.placeBlock t (s.skipLost t (s.hs.work.lost.length + 2) (64 * (p / 64 + 1)))
    if after ≠ here ∧ s.blockUsed after then some after else none

/-! ### What the registers show -/

/-- Records in SRAM of a tier, not yet durable. -/
def State.queuedRecords (s : State) (t : Nat) : Nat :=
  ((s.hs.full ++ s.hs.filling.filterMap id ++ (match s.hs.op with | some (.page b) => [b] | _ => [])).filter
    (·.tier == t)).foldl (fun n b => n + b.nrec) 0

/-- The page of a tier with a SEQ, and its row; a copy in a replacement block goes before the retired block's page. -/
def State.heldPage (s : State) (t seq : Nat) : Option (Nat × NandPage) :=
  let is (x : Nat × NandPage) : Bool := x.2.tier == t && x.2.seq == seq
  (s.hs.pages.find? fun x => is x && !s.hs.work.bad.contains (x.1 / 64)).or (s.hs.pages.find? is)

/-- HEAD, TAIL, OLD, BLOCKS and QREC of the tiers. -/
def showStore (s : State) : State :=
  if !s.storeOn then s
  else
    let s := s.forEach [0, 1, 2] fun s t =>
      let x := s.tier t
      let s := s.setPair (Reg.HS_T_HEAD_LO t) (Reg.HS_T_HEAD_HI t) (if x.seq = x.tail then s.pair (Reg.HS_T_HEAD_LO t) (Reg.HS_T_HEAD_HI t) else (x.seq + 2 ^ 32 - 1) % 2 ^ 32)
      let s := s.setPair (Reg.HS_T_TAIL_LO t) (Reg.HS_T_TAIL_HI t) x.tail
      let s := match s.heldPage t x.tail with
        | some (_, p) => s.setPair (Reg.HS_T_OLD_LO t) (Reg.HS_T_OLD_HI t) p.tree
        | none => s
      let s := s.setRegN (Reg.HS_T_BLOCKS t) ((tierArea s.blkLog2 t).2 - s.lostIn t)
      s.setRegN (Reg.HS_T_QREC t) (min 65535 (s.queuedRecords t))
    let s := s.setRegN Reg.HS_POOL s.spares.length
    s.setFlag Fld.HS_STATUS_BUSY s.hs.op.isSome

/-! ### Records (R329 to R331) -/

/-- Buffers in use. -/
def State.buffersUsed (s : State) : Nat :=
  s.hs.full.length + (s.hs.filling.filterMap id).length + (match s.hs.op with | some (.page _) => 1 | _ => 0)

def setFilling (s : State) (t : Nat) (b : Option PageBuf) : State :=
  { s with hs := { s.hs with filling := listPut s.hs.filling none t b } }

/-- A filling buffer is closed and waits to be programmed. -/
def closeBuffer (s : State) (t : Nat) : State :=
  match s.hs.filling.getD t none with
  | none => s
  | some b =>
    let b := { b with flushed := decide (b.data.length < 4096), tb := s.tb.value }
    showStore (setFilling { s with hs := { s.hs with full := s.hs.full ++ [b] } } t none)

/-- A record enters its tier's page buffer. The answer: accepted, or no buffer is free (FULL). -/
def storeRecord (s : State) (t : Nat) (rec : List Byte) : Bool × State :=
  let s := match s.hs.filling.getD t none with
    | some b => if 4096 < b.data.length + rec.length then closeBuffer s t else s
    | none => s
  match s.hs.filling.getD t none with
  | some b =>
    (true, showStore (setFilling s t (some { b with data := b.data ++ rec, nrec := b.nrec + 1 })))
  | none =>
    if s.buffersUsed < 8 then
      let b : PageBuf := { tier := t, data := rec, nrec := 1, tree := s.treeTime, since := s.now }
      (true, showStore ((setFilling s t (some b)).startTimer (.flushAge t)))
    else (false, (s.incSat (Reg.HS_T_REFUSED t)).setFlag Fld.HS_STATUS_QFULL true)

/-- The preset SWEEP program of a root runs (R267). -/
def State.presetSweep (s : State) : Bool :=
  s.isRoot && !s.engSweep.own && (s.engSweep.st == .running || s.engSweep.st == .waiting)

/-- The root writes the records of this chapter by its preset SWEEP program, while that runs (R267, R318). -/
def State.presetRecords (s : State) : Bool := s.presetSweep && s.storeOn

def logPreset (s : State) (t : Nat) (rec : List Byte) : State :=
  if s.presetRecords then (storeRecord s t rec).2 else s

/-- The preset SWEEP program writes the event records noted since the last boundary (R331). -/
def logNotes (s : State) : State := { s.forEach s.toLog (fun s r => logPreset s 2 r) with toLog := [] }

/-- A ring event (KIND 0x12). -/
def logRingEvent (s : State) (head ring event pos epoch node : Nat) : State :=
  logPreset s 2 (recordHead 20 0x12 s.nodeNum ++ leBytes 4 s.treeTime ++ leBytes 2 (s.regN Reg.SWEEP_NUM)
    ++ leBytes 2 head ++ leBytes 1 ring ++ leBytes 1 event ++ leBytes 1 pos ++ leBytes 1 epoch ++ leBytes 2 node)

/-! ### Operations on the device (R327, R328, R330, R336) -/

/-- R336 for the NAND. -/
def State.nandPermitted (s : State) : Bool :=
  s.flag Fld.TH_STATUS_WRITE_OK && s.fla.supplyNand && s.fla.holdNand

/-- The device is under self-test: loads and programs start after it (R414). -/
def State.nandTested (s : State) : Bool := s.st.cur == some 11

/-- The place of a tier's next page can be programmed: its block is erased, also one that replaces another (R327, R328). -/
def State.placeReady (s : State) (t : Nat) : Bool :=
  let p := s.nextPlace t
  let block := s.placeBlock t p
  !(p % 64 == 0 && s.blockUsed block) && !s.hs.renew.contains block

/-- The buffer programmed next: event pages first, then in the order of filling (R329). Its tier's head block is
erased. -/
def State.nextBuffer (s : State) : Option PageBuf :=
  let ok (b : PageBuf) : Bool := s.placeReady b.tier
  match s.hs.full.find? fun b => b.tier == 2 && ok b with
  | some b => some b
  | none => s.hs.full.find? ok

/-- A checkpoint is asked for: at the root 32 pages of the binding table and one header page, elsewhere the header page
(R341). -/
def wantCheckpoint (s : State) : State :=
  if !s.storeOn then s
  else if s.hs.ckptLeft = 0 then { s with hs := { s.hs with ckptLeft := if s.isRoot then 33 else 1 } }
  else { s with hs := { s.hs with ckptDue := true } }

/-- `n` free values of eight bytes each. -/
def freeBytes : Nat → State → List Byte × State
  | 0, s => ([], s)
  | n + 1, s =>
    let (x, s) := s.draw
    let (bs, s) := freeBytes n s
    (leBytes 8 x.toNat ++ bs, s)

/-- The 16 bytes of a binding entry (R241). -/
def entryBytes (b : Sparse (List Half)) (i : Nat) : List Byte :=
  (sparseGet b (List.replicate 8 0) i).flatMap fun w => leBytes 2 w.toNat

/-- The next page of the checkpoint in progress, and the checkpoint as far as it (R341): at the root first the binding table,
256 entries of 16 bytes a page (R241), as it stands now, and last the header page with the CRC-32 over the pages before, whose
layout the spec does not give. NREC of a control page is free (log entry 59). -/
def checkpointPage (s : State) : PageBuf × Checkpoint × State :=
  let (n, s) := s.drawBelow 65536
  let page (bs : List Byte) : PageBuf := { tier := 3, data := bs, nrec := n, tree := s.treeTime, tb := s.tb.value }
  let part := s.hs.ckptPart
  if 1 < s.hs.ckptLeft then
    let first := 256 * (33 - s.hs.ckptLeft)
    let bs := (List.range 256).flatMap fun i => entryBytes s.tree.binding (first + i)
    (page bs, { part with
      binding := part.binding ++ s.tree.binding.filter (fun x => decide (first ≤ x.1) && decide (x.1 < first + 256))
      before := part.before + 1, crc := crc32 part.crc bs }, s)
  else
    let (bs, s) := freeBytes 512 s
    (page bs, { s.hs.work with
      seq := s.hs.work.seq + 1, binding := part.binding, before := part.before, crc := part.crc }, s)

/-- A page program starts (R328 to R330, R336): copies of a retirement first, then the tiers' pages, then a checkpoint's; a
load in progress goes ahead of it (R334). -/
def nandProgramStart (s : State) : State :=
  if !s.storeOn || s.hs.op.isSome || !s.nandPermitted || s.hs.load.isSome || s.nandTested then s
  else
    let begin' (s : State) (o : NandOp) : State := showStore { s with hs := { s.hs with op := some o } }
    match s.hs.copies.find? fun x => !(s.hs.renew.any fun b => s.physical b == x.1 / 64) with
    | some x => begin' { s with hs := { s.hs with copies := s.hs.copies.erase x } } (.copy x.1 x.2)
    | none =>
      match s.nextBuffer with
      | some b => begin' { s with hs := { s.hs with full := s.hs.full.erase b } } (.page b)
      | none =>
        if 0 < s.hs.ckptLeft && s.hs.copies.isEmpty && s.placeReady 3 then
          let (b, c, s) := checkpointPage s
          begin' s (.checkpoint b c)
        else s

/-- A block erase starts: a replacement block's first, then the event tier's need, the control area's last. -/
def nandEraseStart (s : State) : State :=
  if !s.storeOn || s.hs.op.isSome || !s.nandPermitted || s.nandTested then s
  else match s.hs.renew.head?.or ([2, 0, 1, 3].findSome? s.eraseNeeded) with
    | some b => showStore { s with hs := { s.hs with op := some (.erase b) } }
    | none => s

/-- The pages of a physical block are gone. -/
def wipeBlock (s : State) (phys : Nat) : State :=
  { s with hs := { s.hs with
    pages := s.hs.pages.filter (fun x => x.1 / 64 != phys), torn := s.hs.torn.filter (fun r => r / 64 != phys)
    half := s.hs.half.filter (· != phys) } }

/-- TAIL follows the pages held. -/
def trimTail (s : State) (t : Nat) : State :=
  let x := s.tier t
  let seqs := (s.hs.pages.filter (·.2.tier == t)).map (·.2.seq)
  let age (q : Nat) : Nat := (x.seq + 2 ^ 32 - q) % 2 ^ 32
  let oldest := seqs.foldl (fun m q => if age m < age q then q else m) x.seq
  setTier s t { x with tail := oldest }

/-- The tier a block of the layout belongs to. -/
def State.tierOf (s : State) (block : Nat) : Nat :=
  ([0, 1, 2].find? fun t => let (a, n) := tierArea s.blkLog2 t; decide (a ≤ block) && decide (block < a + n)).getD 3

/-- A spare block takes the place of a block of the layout; one that is not erased is erased before use. -/
def takeSpare (s : State) (block new : Nat) : State :=
  let w := s.hs.work
  let others := s.hs.renew.filter (· != block)
  { s with hs := { s.hs with
    work := { w with
      remap := sparseSet w.remap block block new, poolUsed := new - 15, bad := s.physical block :: w.bad.filter (· != s.physical block) }
    renew := if s.physUsed new then block :: others else others } }

/-- A block of the layout is retired (R328): a spare takes its place, to which its pages, and those still on their way to it,
are copied; or the tier loses it. A checkpoint follows. -/
def retireBlock (s : State) (block : Nat) : State :=
  let s := ((s.setFlag Fld.HS_STATUS_RETIRED true).incSat Reg.HS_RETIRED).raiseFlt fltStore
  let old := s.physical block
  let s :=
    match s.spares.head? with
    | some new =>
      let there (row : Nat) : Nat := 64 * new + row % 64
      let rest := s.hs.copies.map fun x => if x.1 / 64 = old then (there x.1, x.2) else x
      let moved := (s.hs.pages.filter (·.1 / 64 == old)).map fun x => (there x.1, x.2)
      takeSpare { s with hs := { s.hs with copies := rest ++ moved } } block new
    | none =>
      let w := s.hs.work
      let s := wipeBlock s old
      let s := { s with hs := { s.hs with
        work := { w with lost := block :: w.lost, bad := old :: w.bad }
        copies := s.hs.copies.filter (·.1 / 64 != old), renew := s.hs.renew.filter (· != block) } }
      trimTail (s.setFlag Fld.HS_STATUS_POOL_EMPTY true) (s.tierOf block)
  wantCheckpoint s

/-- A page stands at a row, with the erase count of its block. -/
def pageAt (s : State) (row : Nat) (p : NandPage) : State :=
  { s with hs := { s.hs with pages := keyPut s.hs.pages row { p with erases := sparseGet s.hs.erases 0 (row / 64) } } }

/-- A buffer's page stands at its tier's next place (R325, R327). -/
def putPage (s : State) (b : PageBuf) : State :=
  let t := b.tier
  let p := s.nextPlace t
  let x := s.tier t
  let s := pageAt s (64 * s.physical (s.placeBlock t p) + p % 64)
    { tier := t, flags := if b.flushed then 1 else 0, seq := x.seq, tree := b.tree, tb := b.tb, nrec := b.nrec, data := b.data }
  let atEnd := decide (64 * (tierArea s.blkLog2 t).2 ≤ p + 1)
  let s := setTier s t { x with next := if atEnd then 0 else p + 1, seq := (x.seq + 1) % 2 ^ 32 }
  -- the log wraps at its last block, also where that is lost
  s.when ((atEnd || decide (p < x.next)) && decide (t < 3)) fun s => s.incSat (Reg.HS_T_WRAPS t)

/-- A block of the control area that fails is skipped from then on, and a checkpoint follows (R328). -/
def skipControl (s : State) (block : Nat) : State :=
  let s := ((s.setFlag Fld.HS_STATUS_RETIRED true).incSat Reg.HS_RETIRED).raiseFlt fltStore
  { s with hs := { s.hs with work := { s.hs.work with lost := block :: s.hs.work.lost }, ckptDue := true } }

/-- A checkpoint stands complete: it defines the store, and what retired blocks held counts no more. -/
def saveCheckpoint (s : State) (c : Checkpoint) : State :=
  { s with hs := { s.hs with
    work := { s.hs.work with seq := c.seq }, ckpt := some c, ckptPart := {}
    pages := s.hs.pages.filter fun x => !c.bad.contains (x.1 / 64) } }

/-- A page program ends: what it leaves in the counters, and whether it failed (R328): `good`: the device reports no
failure; `symbols`: the most symbols to correct in a sector at the read-back. -/
def programOver (s : State) (good : Bool) (symbols : Nat) : Bool × State :=
  let verify := s.flag Fld.HS_CTL_VERIFY
  let s := { s with hs := { s.hs with op := none } }
  let s := s.when (!good) fun s => s.incSat Reg.HS_PROG_FAIL
  (!good || (verify && decide (4 < symbols)), s.when verify fun s => s.addSat Reg.HS_CORR (min symbols 8))

/-- The block of the layout that a replacement serves. -/
def State.replaced (s : State) (phys : Nat) : Option Nat := (s.hs.work.remap.find? (·.2 == phys)).map (·.1)

/-- A page program completes (R328, R330). A page that failed goes back to the front of what waits, and is programmed again
when it is permitted. -/
def nandProgramDone (s : State) (good : Bool) (symbols : Nat) : State :=
  match s.hs.op with
  | some (.page b) =>
    let (failed, s) := programOver s good symbols
    showStore (if failed then
        let s := retireBlock s (s.placeBlock b.tier (s.nextPlace b.tier))
        { s with hs := { s.hs with full := b :: s.hs.full } }
      else putPage s b)
  | some (.copy row p) =>
    let (failed, s) := programOver s good symbols
    showStore (if failed then
        let s := { s with hs := { s.hs with copies := (row, p) :: s.hs.copies } }
        match s.replaced (row / 64) with
        | some block => retireBlock s block
        | none => s
      else pageAt s row { p with flags := p.flags ||| 2 })
  | some (.checkpoint b c) =>
    let (failed, s) := programOver s good symbols
    showStore (if failed then skipControl s (s.placeBlock 3 (s.nextPlace 3))
      else
        let s := putPage s b
        let s := { s with hs := { s.hs with ckptLeft := s.hs.ckptLeft - 1, ckptPart := c } }
        if s.hs.ckptLeft = 0 then
          let s := saveCheckpoint s c
          if s.hs.ckptDue then wantCheckpoint { s with hs := { s.hs with ckptDue := false } } else s
        else s)
  | _ => s

/-- A physical block is erased. -/
def erasedBlock (s : State) (phys : Nat) : State :=
  let s := wipeBlock s phys
  { s with hs := { s.hs with stale := s.hs.stale.map fun l => phys :: l.filter (· != phys) } }

/-- A block erase completes (R327); one that failed retires its block (R328). -/
def nandEraseDone (s : State) (good : Bool) : State :=
  match s.hs.op with
  | some (.erase block) =>
    let phys := s.physical block
    let t := s.tierOf block
    let n := sparseGet s.hs.erases 0 phys + 1
    let s := wipeBlock { s with hs := { s.hs with op := none, erases := sparseSet s.hs.erases 0 phys n } } phys
    let s := if s.regN Reg.HS_ERASE_MAX < n then s.setRegN Reg.HS_ERASE_MAX (min n 65535) else s
    let s := trimTail s t
    showStore (if good then
        let s := erasedBlock s phys
        { s with hs := { s.hs with renew := s.hs.renew.filter (· != block) } }
      else (if t < 3 then retireBlock else skipControl) (s.incSat Reg.HS_PROG_FAIL) block)
  | _ => s

/-- FLUSH and what acts as it (R330). -/
def storeFlush (s : State) : State := s.forEach [0, 1, 2] closeBuffer

/-- FORMAT, and the format of a blank device (R321): every record is gone, marked blocks are recorded as bad, those of the
tiers replaced and those of the control area skipped (R328), and the first checkpoint is asked for. Where the device was
not blank, each block is erased before its first use, under R336 (log entry 176). -/
def storeFormat (s : State) (blank : Bool) : State :=
  let b := s.blkLog2
  let s := { s with hs := { s.hs with
    pages := [], torn := [], half := [], stale := if blank then none else some []
    tiers := [{}, {}, {}, {}], filling := [none, none, none], full := [], op := none
    copies := [], renew := [], ckptLeft := 0, ckptDue := false, ckptPart := {}, ckpt := none
    work := { blkLog2 := b, seq := s.hs.work.seq, lost := s.hs.marks.filter (· < 16), bad := s.hs.marks } } }
  let s := s.forEach ((s.hs.marks.filter fun m => decide (16 + poolSize b ≤ m) && decide (m < 2 ^ b))) fun s m =>
    match s.spares.head? with
    | some new => takeSpare s m new
    | none =>
      let w := s.hs.work
      ({ s with hs := { s.hs with work := { w with lost := m :: w.lost } } }).setFlag Fld.HS_STATUS_POOL_EMPTY true
  let s := s.forEach [0, 1, 2] fun s t => s.setReg (Reg.HS_T_WRAPS t) 0
  showStore (wantCheckpoint s)

/-! ### Probe and restore (R320, R339, R340) -/

/-- The store is in use: its geometry shows, and READY. -/
def storeReady (s : State) : State :=
  let s := { s.setFld Fld.HS_STATUS_PROBE 1 with hs := { s.hs with on := true } }
  let s := s.setFld Fld.HS_GEOM_BLK_LOG2 s.blkLog2
  showStore (s.setFlag Fld.HS_STATUS_READY true)

/-- The store is not in use, for a reason PROBE gives. -/
def storeOff (s : State) (probe : Nat) : State :=
  { s.setFld Fld.HS_STATUS_PROBE probe with hs := { s.hs with on := false } }

/-- Fewer than 8 control blocks are good: of those listed, more than 8 lie in the control area (R320). -/
def controlBad (l : List Nat) : Bool := decide (8 < (l.filter (· < 16)).length)

/-- FORMAT puts a device to use, a foreign one also (R320, R321). -/
def formatAndUse (s : State) (blank : Bool) : State :=
  if controlBad s.hs.marks then storeOff s 4
  else storeReady (storeFormat { s with hs := { s.hs with on := true } } blank)

/-- The tiers' heads by the highest SEQ, torn pages skipped (R339, R340). -/
def restoreTier (s : State) (t : Nat) : State :=
  let mine := s.hs.pages.filter (·.2.tier == t)
  let later (a b : Nat) : Bool := decide (0 < (a + 2 ^ 32 - b) % 2 ^ 32) && decide ((a + 2 ^ 32 - b) % 2 ^ 32 < 2 ^ 31)
  match mine with
  | [] => setTier s t {}
  | x :: rest =>
    let head := rest.foldl (fun (m : Nat × NandPage) p => if later p.2.seq m.2.seq then p else m) x
    let block := (((List.range (tierArea s.blkLog2 t).2).map ((tierArea s.blkLog2 t).1 + ·)).find?
      fun b => s.physical b == head.1 / 64).getD 0
    let place := 64 * (block - (tierArea s.blkLog2 t).1) + head.1 % 64 + 1
    let torn := ((List.range (64 - place % 64)).takeWhile fun i => s.hs.torn.contains (64 * (head.1 / 64) + place % 64 + i)).length
    let torn := if place % 64 = 0 then 0 else torn
    let s := setTier s t { next := place + torn, seq := (head.2.seq + 1) % 2 ^ 32 }
    trimTail s t

/-- A row lies in the head block of a tier, the block of its last page (R340). -/
def State.headRow (s : State) (row : Nat) : Bool :=
  [0, 1, 2].any fun t =>
    let x := s.tier t
    match s.heldPage t ((x.seq + 2 ^ 32 - 1) % 2 ^ 32) with
    | some (head, _) => head / 64 == row / 64
    | none => false

/-- A row lies in a spare block that replaces none. -/
def State.strayRow (s : State) (row : Nat) : Bool :=
  decide (16 ≤ row / 64) && decide (row / 64 < 16 + poolSize s.blkLog2) && (s.replaced (row / 64)).isNone

/-- The rows whose metadata the restoration reads (R340): the control area, the first page of each block, and the head
block of each tier. -/
def State.restoreReads (s : State) (row : Nat) : Bool :=
  decide (row < 1024) || row % 64 == 0 || s.headRow row

/-- Blocks of the layout whose retirement the power loss interrupted: their pages stand also in a spare block that the
checkpoint does not know (R339). -/
def State.cutRetirements (s : State) : List Nat :=
  let copied := s.hs.pages.filter (s.strayRow ·.1)
  let from' := (s.hs.pages.filter fun x => !s.strayRow x.1 && copied.any fun y => y.2.tier == x.2.tier && y.2.seq == x.2.seq)
  (from'.map fun x => (s.replaced (x.1 / 64)).getD (x.1 / 64)).eraseDups

/-- Interrupted retirements are repeated; what they left in spare blocks is void (R339). -/
def repeatRetirements (s : State) : State :=
  let cut := s.cutRetirements
  let strays := ((s.hs.pages.map (·.1) ++ s.hs.torn).filter s.strayRow).map (· / 64)
  let s := { s with hs := { s.hs with
    pages := s.hs.pages.filter (!s.strayRow ·.1), torn := s.hs.torn.filter (!s.strayRow ·)
    half := (strays ++ s.hs.half).eraseDups } }
  s.forEach cut retireBlock

/-- The CRC-32 over the pages that precede a checkpoint's header (R341). -/
def Checkpoint.check (c : Checkpoint) : Word :=
  (List.range (256 * c.before)).foldl (fun x i => crc32 x (entryBytes c.binding i)) 0

/-- The checkpoint found defines the store, which is restored (R339, R340). -/
def storeRestore (s : State) (c : Checkpoint) : State :=
  let s := { s with
    hs := { s.hs with work := c, on := true }
    tree := { s.tree with binding := if s.isRoot then c.binding else s.tree.binding } }
  let s := s.forEach [0, 1, 2, 3] restoreTier
  let torn := (s.hs.torn.filter s.headRow).length
  let s := (s.setRegN Reg.HS_TORN (min 65535 torn)).addSat Reg.HCVU_FAIL (3 * (s.hs.torn.filter s.restoreReads).length)
  let s := s.when (decide (0 < torn)) fun s => s.setFlag Fld.HS_STATUS_RECOVERED true
  let s := s.setRegN Reg.HS_ERASE_MAX (min 65535 (s.hs.erases.foldl (fun m x => max m x.2) 0))
  let s := s.setFlag Fld.HS_STATUS_POOL_EMPTY (c.lost.any (16 ≤ ·))
  storeReady (repeatRetirements s)

/-- Step NAND: the probe's outcome and the store's restoration. -/
def storeProbe (s : State) (x : NandProbe) (reduced : Bool) : State :=
  if s.role = 0 ∨ !s.flag Fld.HS_CTL_EN then storeOff s 0
  else
    -- the reduced probe takes the geometry a checkpoint records, and where there is none assumes 1024 blocks
    let found (log2 : Nat) (marks : List Nat) : State :=
      let s := s.setFlag Fld.HS_STATUS_REDUCED reduced
      { s with hs := { s.hs with
        marks := marks, work := { blkLog2 := if reduced then 10 else log2 }, pages := [], torn := [], half := [], erases := [] } }
    match x with
    | .noDevice => storeOff s 2
    | .geometry | .noPage => storeOff s 3
    | .badControl => storeOff s 4
    | .foreign log2 marks => storeOff (found log2 marks) 5
    | .blank log2 marks => formatAndUse ((found log2 marks).setFlag Fld.HS_STATUS_FORMATTED true) true
    | .checkpoint =>
      match s.hs.ckpt with
      | none => storeOff s 5
      | some c =>
        if c.check != c.crc then storeOff (s.incSat Reg.HCVU_FAIL) 5
        else if controlBad c.lost then storeOff s 4
        else storeRestore s c

/-! ### Reading back (R334) -/

/-- The 32 bytes of a page's metadata (R325); its CRC is seeded by the row. -/
def metaBytes (p : NandPage) (row : Nat) : List Byte :=
  let b := leBytes 2 0xA55A ++ leBytes 1 p.tier ++ leBytes 1 p.flags ++ leBytes 4 p.seq ++ leBytes 4 p.tree ++ leBytes 6 p.tb
    ++ leBytes 4 p.erases ++ leBytes 2 p.nrec ++ leBytes 2 p.data.length ++ leBytes 2 0
  b ++ leBytes 4 (crc32 (BitVec.ofNat 32 row) b).toNat

/-- LOAD: the read begins, or the sequence is not held. -/
def loadStart (s : State) : State :=
  if !s.storeOn || s.hs.load.isSome then s
  else
    let t := s.fld Fld.HS_RD_TIER_TIER
    let q := s.pair Reg.HS_RD_SEQ_LO Reg.HS_RD_SEQ_HI
    let s := s.setReg Reg.HS_RD_STATUS 0
    match s.heldPage t q with
    | none => s.setFlag Fld.HS_RD_STATUS_NOT_HELD true
    | some _ => ({ s with hs := { s.hs with load := some (t, q) } }).setFlag Fld.HS_RD_STATUS_BUSY true

/-- A copy of the metadata passes its CRC-32 for the row (R325). -/
def metaGood (row : Nat) (m : List Byte) : Bool := leAt m 28 4 == (crc32 (BitVec.ofNat 32 row) (m.take 28)).toNat

/-- The bytes of a page of a tier as programmed: unused bytes are 0xFF (R330). -/
def NandPage.bytes (p : NandPage) : List Byte := p.data ++ List.replicate (4096 - p.data.length) 0xFF

/-- Sector `i` of a page read as `raw`: the symbols that differ. -/
def NandPage.errors (p : NandPage) (raw : List Byte) (i : Nat) : Nat :=
  sectorErrors (pageSector p.bytes i) (pageSector raw i) (pageParity raw i)

/-- A read page that is not in the tier: its sequence is no longer held (R334). -/
def loadLost (s : State) : State :=
  let s := (s.setFlag Fld.HS_RD_STATUS_BUSY false).setFlag Fld.HS_RD_STATUS_NOT_HELD true
  { s with hs := { s.hs with load := none } }

/-- A page program is in progress: a load waits behind it (R334). -/
def State.nandPrograms (s : State) : Bool :=
  match s.hs.op with
  | some (.page _) | some (.checkpoint _ _) | some (.copy _ _) => true
  | _ => false

/-- The page, read as `raw`, its 4096 bytes and 256 of spare, is decoded (R322, R325, R334, R335): the first copy of the
metadata that passes is used, and each sector is corrected, or returned as read. -/
def loadDone (s : State) (raw : List Byte) : State :=
  match (if s.nandTested || s.nandPrograms then none else s.hs.load) with
  | none => s
  | some (t, q) =>
    match s.heldPage t q with
    | none => loadLost s
    | some (row, p) =>
      let metas := (List.range 3).map (pageMeta raw)
      let failed := (metas.takeWhile fun m => !metaGood row m).length
      let s := s.addSat Reg.HCVU_FAIL failed
      if failed = 3 then loadLost s
      else
        let sector (i : Nat) : List Byte := if 8 < p.errors raw i then pageSector raw i else pageSector p.bytes i
        let bad := (List.range 8).filter fun i => decide (8 < p.errors raw i)
        let good := ((List.range 8).map (p.errors raw)).filter (· ≤ 8)
        let s := { s with hs := { s.hs with
          load := none, window := (List.range 8).flatMap sector, windowMeta := pageMeta raw failed } }
        let s := s.addSat Reg.HS_CORR (good.foldl (· + ·) 0)
        let s := s.addSat Reg.HS_UNCORR bad.length
        let s := s.when (!bad.isEmpty) fun s => s.raiseFlt fltStore
        let s := s.setFld Fld.HS_RD_STATUS_UNCORR (bad.foldl (fun m i => m + 2 ^ i) 0)
        let s := s.setFld Fld.HS_RD_STATUS_MAXCORR (good.foldl max 0)
        let s := s.setFlag Fld.HS_RD_STATUS_BUSY false
        (s.setFlag Fld.HS_RD_STATUS_DONE true).raiseIrq irqStore

/-! ### Summaries (R332) -/

/-- A latched set enters a summary in the making. -/
def summaryLatch (s : State) (x : Summary) : Summary :=
  let eps := (List.range 32).map fun e =>
    let v := s.mainValue e
    let st := s.mainStatus e
    let o := sparseGet x.eps {} e
    let counts := st == stOk || st == stSecondary
    (e, { o with
      last := v, seen := o.seen ||| 2 ^ st
      sum := if counts then o.sum + v else o.sum
      count := if counts then o.count + 1 else o.count
      least := if counts then (if o.count = 0 then v else min o.least v) else o.least
      most := if counts then (if o.count = 0 then v else max o.most v) else o.most })
  { x with
    sets := x.sets + 1
    tb := if x.sets = 0 then s.tb.value else x.tb
    first := if x.sets = 0 then s.regN Reg.SWEEP_NUM else x.first
    tjMax := if x.sets = 0 then s.tj else max x.tjMax s.tj
    free := x.free || s.freeRunning
    eps := eps.foldl (fun m p => sparseSet m {} p.1 p.2) x.eps }

/-- The mean to an integer; its rounding is free (log entry 22). -/
def epSummary (s : State) (x : Summary) (e : Nat) : List Byte × State :=
  let o := sparseGet x.eps {} e
  let b (i : Int) : List Byte := leBytes 3 (BitVec.ofInt 24 i).toNat
  let (mean, s) := if o.count = 0 then ((0 : Int), s) else s.divFree o.sum o.count
  (b mean ++ b o.least ++ b o.most ++ b o.last ++ leBytes 1 (if x.sets = 0 then 0 else 255 * o.count / x.sets) ++ leBytes 2 o.seen, s)

/-- The 512 bytes of a summary. Whether an interval held fewer sets than it should is judged by the sweep period at a
root; the spec gives no other measure (log entry 34). -/
def summaryBytes (s : State) (x : Summary) (kind : Nat) : List Byte × State :=
  let (partial', s) := s.drawBelow 2
  let flags := partial' + (if x.profile then 2 else 0) + (if x.free then 4 else 0)
  let head := leBytes 2 512 ++ leBytes 1 kind ++ leBytes 1 flags ++ leBytes 2 s.nodeNum ++ leBytes 2 x.seq ++ leBytes 4 x.tree
    ++ leBytes 6 x.tb ++ leBytes 2 x.first ++ leBytes 2 (min x.sets 65535) ++ leBytes 1 (s.fld Fld.PROF_STATUS_ACTIVE)
    ++ leBytes 1 s.mode.code ++ leBytes 2 (BitVec.ofInt 16 x.tjMax).toNat ++ leBytes 6 0
  (List.range 32).foldl (fun (a : List Byte × State) e => let (bs, s) := epSummary a.2 x e; (a.1 ++ bs, s)) (head, s)

def SummaryIn.part (x : SummaryIn) (i : Nat) : Option (List Byte) := (x.parts.find? (·.1 == i)).map (·.2)

/-- The bytes of a summary whose three parts are there. -/
def SummaryIn.whole (x : SummaryIn) : Option (List Byte) :=
  match x.part 0, x.part 1, x.part 2 with
  | some a, some b, some c => some (a ++ b ++ c)
  | _, _, _ => none

/-- At the end of an interval of a kind that began at tree time `start`, a summary is abandoned whose own interval began
more than half an interval before that; one without its part 0, whose interval and kind are unknown, at the end of a minute
that began after its first part came (R332; DESIGN CHOICE, log entry 177). -/
def SummaryIn.abandoned (x : SummaryIn) (kind start : Nat) : Bool :=
  match x.part 0 with
  | some b => leAt b 2 1 == kind && decide (leAt b 8 4 + (if kind = 2 then 1800 else 30) < start)
  | none => kind == 1 && decide (x.came < start)

/-- An interval ends: the summary goes to the root in three RESPONSE frames; the root logs its own. -/
def summaryEnd (s : State) (isHour : Bool) : State :=
  let x := if isHour then s.hour else s.minute
  let kind := if isHour then 2 else 1
  let (bs, s) := summaryBytes s x kind
  let fresh : Summary := { seq := (x.seq + 1) % 65536, tree := s.treeTime }
  let s := if isHour then { s with hour := fresh } else { s with minute := fresh }
  if s.isRoot then
    logPreset { s with parts := s.parts.filter fun p => !p.abandoned kind x.tree } (kind - 1) bs
  else
    s.forEach [(0, 0, 232), (1, 232, 232), (2, 464, 48)] fun s p =>
      respond s 0 ([0x80, BitVec.ofNat 8 p.1] ++ leBytes 2 x.seq ++ slice bs p.2.1 p.2.2) false

/-- A part enters the newest summary of its node and SEQ that lacks it; part 0 opens a new one where there is none. -/
def partInto (node seq part came : Nat) (body : List Byte) : List SummaryIn → List SummaryIn
  | [] => [{ node := node, seq := seq, came := came, parts := [(part, body)] }]
  | x :: rest =>
    if x.node = node ∧ x.seq = seq ∧ (x.part part).isNone then { x with parts := (part, body) :: x.parts } :: rest
    else x :: partInto node seq part came body rest

/-- The root takes in a part; a summary whose three parts are there is logged. -/
def summaryPart (s : State) (node : Nat) (payload : List Byte) : State :=
  let part := leAt payload 1 1
  let seq := leAt payload 2 2
  let body := payload.drop 4
  let fresh : SummaryIn := { node := node, seq := seq, came := s.treeTime, parts := [(part, body)] }
  let all := if part = 0 then fresh :: s.parts else partInto node seq part s.treeTime body s.parts
  match all.find? fun x => x.whole.isSome with
  | some x =>
    let bs := x.whole.getD []
    logPreset { s with parts := all.filter (·.whole.isNone) } (if leAt bs 2 1 = 2 then 1 else 0) bs
  | none => { s with parts := all }

/-- A profile switch falls into the intervals in progress (R332). -/
def summarySwitched (s : State) : State :=
  { s with minute := { s.minute with profile := true }, hour := { s.hour with profile := true } }

/-- The timebase is free-running in the intervals in progress (R332). -/
def summaryFree (s : State) : State :=
  if s.freeRunning then { s with minute := { s.minute with free := true }, hour := { s.hour with free := true } } else s

end Sys2Proof.Machine
end

