-- ==== Sys2Proof/Machine/ResetOps.lean ====
section
/-!
DEFINITION. What a reset of the node leaves (R339, R457, R464): every register and every piece of SRAM takes its reset
value; the internal flash and the NAND device keep their contents, with what was being written left half done.
-/
namespace Sys2Proof.Machine

/-- Reset causes of RESET_CAUSE. -/
def causePor : Nat := 1
def causePin : Nat := 2
def causeBor : Nat := 3
def causeSys : Nat := 4
def causeBoot : Nat := 5
def causeWake : Nat := 6
def causeLink : Nat := 7
def causeMonitor : Nat := 8

/-- An operation of the internal flash that the reset cuts: a word holds what came of it, a sector is void (R339). -/
def cutFlash (s : State) : State :=
  match s.fla.busy, s.fla.ops with
  | true, .program w v :: _ => programWord s w v false
  | true, .erase x :: _ => voidSector s x
  | _, _ => s

/-- A NAND operation that the reset cuts: a torn page, or a block that is neither erased nor valid (R339). -/
def cutNand (s : State) : State :=
  let tear (row : Nat) : State := { s with hs := { s.hs with torn := row :: s.hs.torn.filter (· != row) } }
  let tearNext (t : Nat) : State :=
    let p := s.nextPlace t
    tear (64 * s.physical (s.placeBlock t p) + p % 64)
  match s.hs.op with
  | some (.page b) => tearNext b.tier
  | some (.checkpoint _ _) => tearNext 3
  | some (.copy row _) => tear row
  | some (.erase b) =>
    let s := wipeBlock s (s.physical b)
    { s with hs := { s.hs with half := s.physical b :: s.hs.half } }
  | none => s

/-- What the node finds in the internal flash of its first-fault log (R348, R349): whether the slot is taken, the clear
generation, the faults counted, the ring; and the highest erase count. The generation after a CLEAR that no fault has
followed is one more than the newest entry's (log entry 178). -/
def flashFound (s : State) : State :=
  let first := s.fflFirst
  let last := s.fflRing.getLast?
  let gen := match first, last with
    | some e, _ => leAt e 52 4
    | none, some e => (leAt e 52 4 + 1) % 2 ^ 32
    | none, none => 0
  let faults := match first, last with
    | some e, some x => if leAt x 52 4 = gen then leAt x 4 4 else leAt e 4 4
    | some e, none => leAt e 4 4
    | none, _ => 0
  let s := { s with fla := { s.fla with clearGen := gen, faults := faults } }
  let s := (s.setFlag Fld.FFL_STATUS_FROZEN first.isSome).setRegN Reg.FFL_GEN (gen % 65536)
  showFfl (s.setRegN Reg.IF_ERASE_MAX (min 65535 (s.fla.erases.foldl (fun m x => max m x.2) 0)))

/-- The node resets: BOOT begins with its first step. What the model alone holds (the commands that wait, the clock of
idle ticks, the place of the next free value, what was sent) goes on, and so does FALLBACK (R466). -/
def hardReset (s : State) (cause : Nat) : State :=
  let s := cutNand (cutFlash s)
  let r := State.reset
  flashFound (({ r with
    pending := s.pending, now := s.now, freeCtr := s.freeCtr, sent := s.sent
    bt := { r.bt with fallback := s.bt.fallback }
    fla := { r.fla with mem := s.fla.mem, void := s.fla.void, erases := s.fla.erases }
    hs := { r.hs with
      pages := s.hs.pages, torn := s.hs.torn, half := s.hs.half, stale := s.hs.stale, marks := s.hs.marks
      erases := s.hs.erases, ckpt := s.hs.ckpt } }).setRegN Reg.RESET_CAUSE cause)

end Sys2Proof.Machine
end

