-- ==== Sys2Proof/Machine/RingOps.lean ====
section
/-!
DEFINITION. Rings, trains and the tree (spec/09): the binding table and the mirror, the Milestones and trains a head
issues, closing a ring and a sweep, enumeration, the Roundabout, re-forming, and what a member does in each.
-/
namespace Sys2Proof.Machine

def State.ring (s : State) (r : Nat) : Ring := s.rings.getD r {}
def setRing (s : State) (r : Nat) (x : Ring) : State := { s with rings := listPut s.rings {} r x }

/-- STATE of RNG*r*_STATUS. -/
def rngDown : Nat := 0
def rngEnum : Nat := 1
def rngRun : Nat := 2
def rngHalved : Nat := 3
def rngReform : Nat := 4

def State.rngState (s : State) (r : Nat) : Nat := s.fld (Fld.RNG_STATUS_STATE r)

/-- The probe of BOOT found the ports of a Lane wired. -/
def State.laneWired (s : State) (r : Nat) : Bool :=
  s.flag (if r = 1 then Fld.NODE_ROLE_LANE1_WIRED else Fld.NODE_ROLE_LANE2_WIRED)

/-- The ring registers exist for rings the node may head: a root's three, and a hub's wired Lanes (R19, R220). -/
def State.mayHead (s : State) (r : Nat) : Bool := s.isRoot || (s.isHub && decide (r = 1 ∨ r = 2) && s.laneWired r)

/-- The node heads the ring: a root all three, a hub a Lane once its enumeration has been ordered (R220, R258). -/
def State.heads (s : State) (r : Nat) : Bool := s.isRoot || (s.mayHead r && s.rngState r != rngDown)

/-! ### Binding table (R240, R241) -/

def bindZero : List Half := List.replicate 8 0

def State.entry (s : State) (n : Nat) : List Half := sparseGet s.tree.binding bindZero n

def setEntry (s : State) (n : Nat) (e : List Half) : State :=
  { s with tree := { s.tree with binding := sparseSet s.tree.binding bindZero n e } }

def eWord (e : List Half) (i : Nat) : Nat := (e.getD i 0).toNat
def eFactory (e : List Half) : Nat := eWord e 0 + 65536 * eWord e 1 + 4294967296 * eWord e 2 + 281474976710656 * eWord e 3
def eHead (e : List Half) : Nat := eWord e 4 % 8192
def eRing (e : List Half) : Nat := eWord e 4 / 8192 % 4
def ePos (e : List Half) : Nat := eWord e 5 % 256
def eValid (e : List Half) : Bool := (eWord e 5).testBit 8
def ePresent (e : List Half) : Bool := (eWord e 5).testBit 9
def eHub (e : List Half) : Bool := (eWord e 5).testBit 10
def eMisses (e : List Half) : Nat := eWord e 7

/-- FLAGS with one bit given a value; bit 0 VALID, 1 PRESENT, 2 HUB, 3 TKO_CAPABLE. -/
def eSetFlag (e : List Half) (i : Nat) (b : Bool) : List Half :=
  e.set 5 ((bitField 0 (8 + i)).write (e.getD 5 0) b.toNat)

def makeEntry (factory head ring pos flags tkoFor misses : Nat) : List Half :=
  [factory, factory / 65536, factory / 4294967296, factory / 281474976710656, head % 8192 + 8192 * (ring % 4), pos % 256 + 256 * (flags % 256),
   tkoFor, misses].map (BitVec.ofNat 16)

/-- NODES_NUM and NODES_ABSENT. -/
def showNodes (s : State) : State :=
  let v := s.tree.binding.filter fun p => eValid p.2
  let s := s.setRegN Reg.NODES_NUM v.length
  s.setRegN Reg.NODES_ABSENT (v.filter fun p => !ePresent p.2).length

/-- A change of the table is stored (R241). -/
def bindingChanged (s : State) : State := wantCheckpoint (showNodes s)

/-- The root ring a node's path leads through, and the nodes on the path, the node first (R231). -/
def State.pathOf (s : State) : Nat → Nat → Option (Nat × List Nat)
  | 0, _ => none
  | k + 1, n =>
    let e := s.entry n
    if !eValid e then none
    else if eHead e = 0 then some (eRing e, [n])
    else match s.pathOf k (eHead e) with
      | some (r, l) => some (r, n :: l)
      | none => none

def State.route (s : State) (n : Nat) : Option Nat := (s.pathOf 64 n).map (·.1)

/-- A position of a ring is served: not passed over and not cut off (R249). -/
def State.posServed (s : State) (r pos : Nat) : Bool :=
  !(s.ring r).excluded.contains pos && !(s.ring r).isolated.contains pos

/-- The member of a ring with a node number. -/
def State.memberOf (s : State) (r n : Nat) : Option Member := (s.ring r).members.find? fun m => m.node == some n

/-- Where a node of a root ring lies on it: as it was found last, or as the binding table has it. -/
def State.placeOf (s : State) (n : Nat) : Nat :=
  ((s.memberOf (eRing (s.entry n)) n).map (·.pos)).getD (ePos (s.entry n))

/-- The node is expected (R228): VALID, PRESENT, and reached on a ring or half, its hubs too. -/
def State.expects (s : State) (n : Nat) : Bool :=
  match s.pathOf 64 n with
  | none => false
  | some (_, l) =>
    l.all (fun m => ePresent (s.entry m) && (eHead (s.entry m) != 0 || s.posServed (eRing (s.entry m)) (s.placeOf m))) &&
    !s.tree.joining.contains n

/-- The nodes expected on a ring at a sweep's start: at the root every node whose path leads through it, at a hub the
Lane's members. -/
def State.expectedOn (s : State) (r : Nat) : List Nat :=
  if s.isRoot then
    ((s.tree.binding.map (·.1)).filter fun n => n != 0 && s.route n == some r && s.expects n)
  else
    ((s.ring r).members.filter fun m => s.posServed r m.pos).filterMap (·.node)

/-! ### The mirror (R259) -/

def State.mirrorAt (s : State) (ea : Nat) : BitVec 32 := sparseGet s.tree.mirror 0 ea

def setMirror (s : State) (ea : Nat) (v : BitVec 32) : State :=
  { s with tree := { s.tree with mirror := sparseSet s.tree.mirror 0 ea v } }

/-- The value and status of an endpoint in a MEASURE payload (R208). -/
def measureValue (p : List Byte) (e : Nat) : Nat := leAt p (3 * e) 3
def measureStatus (p : List Byte) (e : Nat) : Nat := leAt p (96 + e / 2) 1 / (if e % 2 = 0 then 1 else 16) % 16

/-- A node's 32 entries from its MEASURE payload. -/
def mirrorNode (s : State) (n : Nat) (p : List Byte) (sweep : Nat) : State :=
  s.forEach (List.range 32) fun s e =>
    setMirror s (32 * n + e) (BitVec.ofNat 32 (measureValue p e + 2 ^ 24 * measureStatus p e + 2 ^ 28 * (sweep % 16)))

/-- At a sweep's close only the status of a missing node's entries changes (R27, R259); UNUSED ranks before it. -/
def mirrorMissing (s : State) (n : Nat) : State :=
  s.forEach (List.range 32) fun s e =>
    let v := (s.mirrorAt (32 * n + e)).toNat
    if v / 2 ^ 24 % 16 = stUnused then s
    else setMirror s (32 * n + e) (BitVec.ofNat 32 (v % 2 ^ 24 + 2 ^ 24 * stNotReceived + v / 2 ^ 28 * 2 ^ 28))

/-- The node's part of the mirror lies in the segment of 16 KiB, of 128 nodes, that is under march (R401, R414). -/
def State.mirrorTested (s : State) (n : Nat) : Bool := s.st.cur == some 5 && s.st.part == n / 128

/-- A mirror write, of a payload or of a missing node's status; it waits for the segment under march (R414). -/
def mirrorWrite (s : State) (n : Nat) (p : Option (List Byte)) (sweep : Nat) : State :=
  if s.mirrorTested n || s.st.mirrorWait.any (·.1 == n) then
    { s with st := { s.st with mirrorWait := s.st.mirrorWait ++ [(n, p, sweep)] } }
  else match p with
    | some p => mirrorNode s n p sweep
    | none => mirrorMissing s n

/-- Writes that waited are made once their segment is free. -/
def mirrorResume (s : State) : State :=
  let waits := fun (x : Nat × Option (List Byte) × Nat) => s.mirrorTested x.1
  let l := s.st.mirrorWait
  { s with st := { s.st with mirrorWait := l.filter waits } }.forEach (l.filter (!waits ·)) fun s x =>
    match x.2.1 with
    | some p => mirrorNode s x.1 p x.2.2
    | none => mirrorMissing s x.1

/-- The payload of the node's MEASURE frame: its latched set (R208). -/
def State.measurePayload (s : State) : List Byte :=
  (List.range 32).flatMap (fun e => leBytes 3 (BitVec.ofInt 24 (s.mainValue e)).toNat)
  ++ (List.range 16).map fun i => BitVec.ofNat 8 (s.mainStatus (2 * i) + 16 * s.mainStatus (2 * i + 1))

/-! ### Sending round a ring -/

/-- The ring is served as two halves: HALVED, or until the boundary of REFORM's ACT. -/
def State.inHalves (s : State) (r : Nat) : Bool :=
  s.rngState r == rngHalved || (s.rngState r == rngReform && (s.ring r).reformAt.isSome)

/-- The head's ports of a ring in halves turn: to receive after the opening, to transmit for the next outbound pass
(R247). A port that is off stays off. -/
def halfTurn (s : State) (r d : Nat) : State :=
  if s.inHalves r then s.forEach [txPort r, rxPort r] fun s p => if s.dir p = 0 then s else setDir s p d else s

/-- The ports a head sends a frame on: of a halved ring the port of the half, both for a broadcast (R246, R247). -/
def State.headPorts (s : State) (r : Nat) (f : Frame) : List Nat :=
  if s.inHalves r then
    if f.bcast then [txPort r, rxPort r]
    else
      -- at the root a node behind hubs is served where the hub of its path on this ring lies
      let n := match s.pathOf 64 f.dstNode with
        | some (_, l) => l.getLastD f.dstNode
        | none => f.dstNode
      match s.memberOf r n with
      | some m => if m.pos ≤ (s.ring r).endA then [txPort r] else [rxPort r]
      | none => [txPort r]
  else [txPort r]

/-- OP of the frames in which a hub passes its Lane's list to the root, and the root returns the numbers (R239; DESIGN CHOICE,
log entry 35). -/
def opLane : Nat := 0x20

/-- A COMMAND to one node is answered in the next train (R233). Whether a command for an engine is answered is for its
program to say. Each counts as unanswered until an answer of the node, or for REM_TO sweeps (R231, R235). -/
def noteAsked (s : State) (r : Nat) (f : Frame) : State :=
  let x := s.ring r
  let op := leAt f.payload 0 1
  if f.type ≠ tyCommand ∨ f.bcast ∨ op = opLane then s
  else setRing s r { x with asked := if op < 0x80 then x.asked ++ [f.dstNode] else x.asked
                            unanswered := x.unanswered ++ [(f.dstNode, s.regN Reg.SWEEP_NUM)] }

/-- A command sent in a sweep is still unanswered: fewer than REM_TO sweeps have passed, and the answer's own train is not
over. -/
def State.stillAsked (s : State) (sweep : Nat) : Bool :=
  decide ((s.regN Reg.SWEEP_NUM + 65536 - sweep) % 65536 < max 2 (s.fld Fld.TREE_CTL_REM_TO))

/-- The head sends a frame on its ring now. -/
def headSend (s : State) (r : Nat) (f : Frame) : State :=
  let (f, s) := numbered (noteAsked s r f) r f
  s.forEach (s.headPorts r f) fun s p => transmit s r p f

/-- No more than 32 unanswered commands are outstanding towards any one Lane (R231): those sent to nodes of the frame's
Lane. -/
def State.laneRoom (s : State) (r : Nat) (f : Frame) : Bool :=
  let lane (n : Nat) : Nat × Nat := (eHead (s.entry n), eRing (s.entry n))
  !s.isRoot || f.type != tyCommand || f.bcast || (lane f.dstNode).2 == 0 ||
  decide (((s.ring r).unanswered.filter fun (p : Nat × Nat) =>
    s.stillAsked p.2 && lane p.1 == lane f.dstNode).length < 32)

/-- The head may send on the ring: it is command time, and no echoes run (R230, R237). -/
def Ring.speaks (x : Ring) : Bool := x.command && x.quietTo.isNone

/-- A frame for command time (R230): sent now, or when command time comes and the Lane has room. -/
def ringCommand (s : State) (r : Nat) (f : Frame) : State :=
  let x := s.ring r
  if x.speaks && s.laneRoom r f then headSend s r f else setRing s r { x with waiting := x.waiting ++ [f] }

/-- A broadcast RING_CTL frame of the head (R236). -/
def ringControl (s : State) (r : Nat) (payload : List Byte) : State :=
  ringCommand s r (s.newFrame tyCtl bcastDst payload)

/-- The root sends a command toward a node (R231). The answer: a route exists. -/
def sendToNode (s : State) (n : Nat) (f : Frame) : Bool × State :=
  match s.route n with
  | some r => (true, ringCommand s r f)
  | none => (false, s)

/-- A Milestone's payload (R160). -/
def State.milestone (s : State) (kind sweep : Nat) (hubs : Bool) (tree : Nat) : List Byte :=
  leBytes 1 kind ++ leBytes 1 ((if hubs then 1 else 0) + (if s.isHub && s.tb.localDom then 2 else 0)) ++ leBytes 2 sweep
  ++ leBytes 6 s.tb.value ++ leBytes 4 tree ++ leBytes 2 0

/-- A Milestone on a ring (R161). -/
def sendMilestone (s : State) (r kind sweep : Nat) (hubs : Bool) (tree : Nat) : State :=
  headSend s r (s.newFrame tyMilestone bcastDst (s.milestone kind sweep hubs tree))

/-- The tree holds a hub (R39, R160): the root sees its binding table, and a hub is one. -/
def State.treeHubs (s : State) : Bool := s.isHub || s.tree.binding.any fun p => eValid p.2 && eHub p.2

/-- The cycle a SYNC Milestone is due for: the last one whose count is a multiple of 2^MSP (R161). -/
def State.syncCycle (s : State) : Nat := s.tb.cycle.toNat - s.tb.cycle.toNat % 2 ^ s.fld Fld.MS_CTL_MSP

/-- A SYNC Milestone is due on the ring: none was issued for that cycle yet (R161). -/
def State.syncDue (s : State) (r : Nat) : Bool := (s.ring r).syncAt != some s.syncCycle

/-- A SYNC Milestone on a ring (R160, R161). -/
def syncIssue (s : State) (r : Nat) : State :=
  let s := setRing s r { s.ring r with syncAt := some s.syncCycle }
  sendMilestone s r 1 0 s.treeHubs s.treeTime

/-- A RESPONSE of the node can come in on the ring: it is PRESENT on a route, or a Lane member still served. -/
def State.answers (s : State) (r n : Nat) : Bool :=
  if s.isRoot then ePresent (s.entry n) && s.route n == some r
  else (s.memberOf r n).any fun m => s.posServed r m.pos

/-- The answers awaited in a sweep: up to four of a node in one train (R225), the others in the next. -/
def splitAwaits : List Nat → List Nat × List Nat
  | [] => ([], [])
  | n :: rest =>
    let (now', later) := splitAwaits rest
    if 4 ≤ now'.count n then (now', n :: later) else (n :: now', later)

/-- The nodes whose ACTIVATED response is expected in the train of sweep A (R144). -/
def State.expectActive (s : State) (r sweep : Nat) : List Nat :=
  if s.isRoot && s.fld Fld.TXN_STATUS_PHASE == 3 && s.regN Reg.TXN_ACT == sweep then
    s.rootTxn.expected.filter fun n => n != 0 && s.answers r n
  else []

/-- The rings the node heads. -/
def State.headed (s : State) : List Nat := [0, 1, 2].filter s.heads

/-! ### Closing a ring and a sweep (R227, R228, R243) -/

/-- A node leaves the tree's presence (R243). -/
def losePresence (s : State) (n : Nat) : State :=
  let e := s.entry n
  let s := setEntry s n (eSetFlag e 1 false)
  let s := s.raiseFlt fltTree
  let s := logRingEvent s (eHead e) (eRing e) 6 (ePos e) (s.epoch (eRing e)) n
  -- R257: the standby leaf of a hub lost
  let s := if eHub e then
      match s.tree.binding.find? fun p => eValid p.2 && eWord p.2 6 == n && (eWord p.2 5).testBit 11 with
      | some p => s.setRegN Reg.TKO_PEND (p.1 + 32768)
      | none => s
    else s
  bindingChanged s

/-- An accepted frame of a node: PRESENT returns (R243). A hub whose Lanes are held by takeover loses HUB (R258). -/
def nodeBack (s : State) (n : Nat) : State :=
  let e := s.entry n
  if !eValid e then s
  else
    let back := !ePresent e
    let s := setEntry s n (eSetFlag e 1 true)
    if back then
      let taken := eHub e && s.tree.binding.any fun p => eValid p.2 && eWord p.2 6 == n && eHub p.2
      let s := if taken then setEntry s n (eSetFlag (s.entry n) 2 false) else s
      bindingChanged (logRingEvent s (eHead e) (eRing e) 7 (ePos e) (s.epoch (eRing e)) n)
    else s

/-- A node's MEASURE frame is accepted: it misses no longer. -/
def nodeSeen (s : State) (n : Nat) : State :=
  let s := nodeBack s n
  if eValid (s.entry n) && eMisses (s.entry n) != 0 then bindingChanged (setEntry s n ((s.entry n).set 7 0)) else s

/-- The root closes the sweep when every root ring has closed (R228). -/
def closeSweep (s : State) : State :=
  if !s.isRoot || !s.tree.sweepOpen || s.rings.any (·.isOpen) then s
  else
    let missing := s.rings.flatMap fun x => x.expected.filter fun n => !x.got.contains n
    let s := { s with tree := { s.tree with
      sweepOpen := false, missing := missing, heldMeasures := []
      remoteSweeps := s.tree.remoteSweeps + 1 } }
    let s := s.forEach missing fun s n => mirrorWrite s n none 0
    let s := s.forEach missing fun s n =>
      let e := s.entry n
      let m := min 65535 (eMisses e + 1)
      let s := setEntry s n (e.set 7 (BitVec.ofNat 16 m))
      if ePresent e && decide (s.fld Fld.TREE_CTL_MISS_MAX ≤ m) then losePresence s n else s
    let s := if missing.isEmpty then s else bindingChanged s
    let s := s.setReg Reg.LAST_SWEEP (s.reg Reg.SWEEP_NUM)
    let bit (b : Bool) (v : Nat) : Nat := if b then v else 0
    let s := s.setRegN Reg.LAST_STAT
      (bit missing.isEmpty 1 + bit (s.rings.any (·.reformed)) 2 + bit (s.rings.any (·.timedOut)) 4 + bit s.tree.skipped 8)
    let s := s.setRegN Reg.LAST_MISSING missing.length
    let s := { s with tree := { s.tree with skipped := false } }
    s.raiseIrq irqSweep

/-- A ring closes for the sweep (R227). -/
def closeRing (s : State) (r : Nat) : State :=
  let x := s.ring r
  if !x.isOpen then s
  else
    let time := if x.train then (s.now - x.openedAt) / 80 else x.trainTime
    let s := setRing s r { x with isOpen := false, trainTime := time }
    let s := s.setRegN (Reg.RNG_EXPECT r) (x.expected.length + x.awaited)
    let s := s.setRegN (Reg.RNG_GOT r) (x.got.length + (x.awaited - x.awaits.length))
    let s := s.setRegN (Reg.RNG_TIME r) (min 65535 time)
    closeSweep s

/-- Every expected frame has been accepted: MEASURE frames, and the RESPONSE frames awaited (R217, R227). -/
def Ring.complete (x : Ring) : Bool := x.expected.all x.got.contains && x.awaits.isEmpty

/-- The position on the ring a node's frames come from: its own, or that of the hub of its path (R231, R245). -/
def State.ringPos (s : State) (r n : Nat) : Option Nat :=
  let n := match s.pathOf 64 n with
    | some (_, l) => l.getLastD n
    | none => n
  (s.memberOf r n).map (·.pos)

/-- A frame of a node has been accepted in the present train. -/
def ringHeard (s : State) (r n : Nat) : State :=
  match s.ringPos r n with
  | some p => if (s.ring r).train then setRing s r { s.ring r with lastPos := some p } else s
  | none => s

/-- One RESPONSE of a node is awaited no longer. -/
def ringAnswered (s : State) (r n : Nat) : State :=
  let x := s.ring r
  let x := { x with awaits := x.awaits.erase n, unanswered := x.unanswered.eraseP (·.1 == n) }
  let s := setRing s r x
  if Ring.complete x then closeRing s r else s

/-- A MEASURE frame counts for its ring; after the close it is dropped (R227). -/
def ringGot (s : State) (r n : Nat) : State :=
  let x := s.ring r
  let x := { x with got := if x.got.contains n then x.got else x.got ++ [n] }
  let s := setRing s r x
  if Ring.complete x then closeRing s r else s

def countDrop (s : State) (r : Nat) : State := s.incSat (Reg.RNG_DROP r)

/-- A hub queues a Lane frame for its parent ring, or drops it (R226). -/
def hubQueue (s : State) (r : Nat) (f : Frame) : State :=
  if s.link.hubQueue.length + s.link.hubKept.length < 1536 then
    { s with link := { s.link with hubQueue := s.link.hubQueue ++ [f] } }
  else countDrop s r

/-- The root takes a node's MEASURE frame into the mirror. -/
def rootMeasure (s : State) (r n : Nat) (payload : List Byte) : State :=
  nodeSeen (ringGot (mirrorWrite s n (some payload) (s.regN Reg.SWEEP_NUM)) r n) n

/-- A frame accepted after the ring's close is discarded and counted (R227); at the root it brings its node's presence back
(R243). -/
def lateFrame (s : State) (r n : Nat) : State := countDrop (if s.isRoot then nodeBack s n else s) r

/-- A head accepts a MEASURE frame on a ring. With MTAG_REQ it is none until its MTAG response has come (R437). -/
def acceptMeasure (s : State) (r : Nat) (f : Frame) : State :=
  if !(s.ring r).isOpen then (if s.flag Fld.KEY_CTL_MTAG_REQ then countDrop s r else lateFrame s r f.src.toNat)
  else
    let s := ringHeard s r f.src.toNat
    if s.isRoot then
      if s.flag Fld.KEY_CTL_MTAG_REQ then { s with tree := { s.tree with heldMeasures := s.tree.heldMeasures ++ [f] } }
      else rootMeasure s r f.src.toNat f.payload
    else ringGot (hubQueue s r f) r f.src.toNat

/-- RETX_REQ to every missing node of a ring that has had fewer than RETX_MAX (R217): one round. A further round follows when
the ring falls idle again with frames still missing (log entry 157). -/
def retxRound (s : State) (r : Nat) : State :=
  let ask (s : State) (n want : Nat) : State :=
    let x := s.ring r
    if (x.retx.filter (· == (n, want))).length < s.fld Fld.LINK_CTL_RETX_MAX then
      let s := setRing s r { x with retx := (n, want) :: x.retx }
      headSend s r (s.newFrame tyRetx (nodeDst n) (leBytes 2 (s.regN Reg.SWEEP_NUM) ++ leBytes 1 want ++ [0]))
    else s
  let x := s.ring r
  let s := s.forEach (x.expected.filter fun n => !x.got.contains n) fun s n => ask s n 2
  s.forEach x.awaits.eraseDups fun s n => ask s n 4

/-! ### Members: direction, trains, insertion (R223, R225, R246, R247) -/

/-- The half the node is in: 0 none, 1 A, 2 B. -/
def State.half (s : State) : Nat := s.fld Fld.MEMB_HALF

/-- The port a member inserts on: the one that transmits. -/
def State.insertPort (s : State) : Nat := if s.dir 1 = 1 then 1 else 0

/-- A member inserts a frame now; one that is passed over inserts nothing (R255). -/
def insertFrame (s : State) (f : Frame) : State :=
  if s.flag Fld.MEMB_EXCLUDED then s else
  let own := f.src.toNat == s.nodeNum
  let (f, s) := if own then numbered s 0 f else
    let key := 16384 * f.src.toNat + f.dst.toNat % 16384
    let n := sparseGet s.link.hubCounts 0 key
    ({ f with seq := BitVec.ofNat 11 n }, { s with link := { s.link with hubCounts := sparseSet s.link.hubCounts 0 key ((n + 1) % 2048) } })
  let s := if !own then { s with link := { s.link with hubKept := s.link.hubKept ++ [f] } }
    else if f.type = tyResponse then { s with link := { s.link with response := some f } } else s
  transmit s 0 s.insertPort f

/-- The direction of a member's pass: half B runs reversed outbound, and the inbound pass reverses it again. The end of a half
reverses its receive port alone (R247): that of half A sends IDLE characters on A0, and that of half B listens on A1, which
faces the break (R252). -/
def memberDirection (s : State) : State :=
  if s.flag Fld.MEMB_END && s.half == 1 then setDir (setDir s 0 1) 1 (if s.ms.inbound then 1 else 2)
  else if s.flag Fld.MEMB_END && s.half == 2 then setDir (setDir s 0 (if s.ms.inbound then 1 else 2)) 1 2
  else ringDirection s 0 (xor (s.half == 2) s.ms.inbound)

/-- The MTAG response that follows a MEASURE frame (R437). -/
def State.mtag (s : State) (m : Frame) : List Frame :=
  if s.flag Fld.KEY_CTL_MTAG then
    match s.keys.session with
    | some k =>
      let tag := makeTag k (tagString m.type m.payload.length m.src.toNat m.dst.toNat
        (s.keys.pairs.headD (0, 0)).1 (s.keys.pairs.headD (0, 0)).2 1 s.keys.kgen m.payload)
      [{ s.newFrame tyResponse (nodeDst 0) ([0x48, 0, 0, 0] ++ tag) with flags := 2 }]
    | none => []
  else []

/-- The modes in which a member inserts MEASURE and RESPONSE frames (R225). -/
def modeInserts : Mode → Bool
  | .boot | .off | .ship | .watch => false
  | _ => true

/-- The frames of a member's train: MEASURE once a sweep, ring management frames, up to four RESPONSE frames, and a
hub's Lane frames (R222, R225, R226). A further opening of the sweep takes only retransmissions and held RESPONSE frames
(R247). -/
def trainFrames (s : State) : List Frame × State :=
  let first := !s.link.measureSent
  let retx := s.link.retx
  let s := { s with link := { s.link with retx := [] } }
  let ctl := s.link.controls
  if !s.numbered || !modeInserts s.mode then (ctl ++ retx, { s with link := { s.link with controls := [] } })
  else
    let resp := s.link.responses.take 4
    let s := { s with link := { s.link with responses := s.link.responses.drop 4, respLeft := 4 - resp.length } }
    if !first then (retx ++ resp, s)
    else
      let m := s.newFrame tyMeasure (nodeDst 0) s.measurePayload
      let s := { s with link := { s.link with
        measureSent := true, measure := some (s.regN Reg.SWEEP_NUM, m), controls := [] } }
      (m :: s.mtag m ++ ctl ++ retx ++ resp, s)

/-- The first frame of a train is inserted behind the opening; the others wait for the buffer (R223). -/
def startInsertion (s : State) : State :=
  let again := s.link.measureSent
  let old := s.link.insertion
  let (l, s) := trainFrames s
  -- frames of the first opening that found no place: in a further one only RESPONSE frames still go
  let s := { s with link := { s.link with again := again, controls := (old.filter fun (f : Frame) => f.type == tyCtl) ++ s.link.controls } }
  match (old.filter fun (f : Frame) => f.type != tyCtl) ++ l with
  | [] => { s with link := { s.link with insertion := [] } }
  | f :: rest => insertFrame { s with link := { s.link with insertion := rest } } f

/-- The insertion buffer is empty at a frame boundary: a further frame goes in, a hub's Lane frames behind its own, in the order
in which it accepted them, also those that came after the opening (R223, R226). A node that is passed over inserts nothing
(R255). -/
def bufferDrain (s : State) : State :=
  if s.flag Fld.MEMB_EXCLUDED then s else
  match s.link.insertion with
  | f :: rest => insertFrame { s with link := { s.link with insertion := rest } } f
  | [] =>
    match s.link.hubQueue with
    | f :: rest =>
      if s.link.measureSent && !s.link.again && (s.half == 0 || s.ms.inbound) then
        insertFrame { s with link := { s.link with hubQueue := rest } } f
      else s
    | [] => s

/-- A frame goes on as it came (R204). -/
def passOn (s : State) (p : Nat) (f : Frame) : State :=
  if s.portOn p && s.linkOn then s.send p (sealFrame f (s.epoch 0)) else s

/-- A TRAIN_OPEN reaches a member (R223, R247): it is forwarded, and frames go in behind it. In a half the outbound
opening turns the ports, the end sends it back, and frames go in on the inbound pass. -/
def trainOpen (s : State) (f : Frame) : State :=
  if s.flag Fld.MEMB_EXCLUDED then s
  else if s.half = 0 ∨ s.ms.inbound then startInsertion (passOn s s.insertPort f)
  else
    let s := if s.flag Fld.MEMB_END then s else passOn s s.insertPort f
    let s := (memberDirection { s with ms := { s.ms with inbound := true } }).startTimer .halfInbound
    if s.flag Fld.MEMB_END then startInsertion (passOn s s.insertPort f) else s

/-- W_IN has elapsed: outbound again. -/
def inboundEnd (s : State) : State :=
  if s.half = 0 then s
  else (memberDirection { s with ms := { s.ms with inbound := false } }).stopTimer .halfInbound

/-- RING_CTL is accepted from the head of the member's ring only; a node without a number knows no head yet (R236). -/
def State.fromHead (s : State) (f : Frame) : Bool := !s.numbered || f.src.toNat == s.fld Fld.MEMB_HEAD_HEAD

def queueControl (s : State) (payload : List Byte) : State :=
  let f := s.newFrame tyCtl (s.reg Reg.MEMB_HEAD &&& 0x1FFF) payload
  { s with link := { s.link with controls := s.link.controls ++ [f] } }

/-- The node's factory number as a number. -/
def factory : Nat := Config.factoryNumber.toNat

/-- ENUM_REPLY's payload (R236). -/
def State.enumReply (s : State) : List Byte :=
  [0x02] ++ leBytes 8 factory ++ leBytes 8 s.ms.upFactory ++ leBytes 2 (if s.numbered then s.nodeNum else s.nodeNum + 32768)
  ++ leBytes 2 (s.regN Reg.MS_HOP) ++ leBytes 1 s.cells
  ++ leBytes 1 ((if s.flag Fld.NODE_ROLE_LANE1_WIRED then 1 else 0) + (if s.flag Fld.NODE_ROLE_LANE2_WIRED then 2 else 0)
      + (if s.isHub && !s.flag Fld.NODE_ROLE_TAKEOVER then 4 else 0))
  ++ leBytes 2 (s.regN Reg.TKO_CTL)

/-- An echo request or its answer leaves on a port (R237). -/
def sendEcho (s : State) (p : Nat) : State :=
  let (f, s) := numbered s (portRing p) (s.newFrame tyEcho bcastDst (leBytes 8 factory))
  transmit s (portRing p) p f

/-- A port turns to receive an echo request, for the 40 µs in which the head sends nothing (R195, R237). -/
def echoListen (s : State) (p : Nat) : State :=
  if s.dir p = 1 then setDir { s with link := { s.link with echo := (p, s.now + 3200) :: s.link.echo } } p 2 else s

/-- ECHO_RUN at a node of the ring: its request leaves upstream on the port that receives, A0 in half B, and the port that
transmits turns to receive the request from downstream; the end of a half has none (R195, R237). -/
def echoRun (s : State) (r : Nat) : State :=
  let member := !s.heads r
  let upB := member && s.half == 2
  let s := sendEcho s (if upB then txPort r else rxPort r)
  if member && s.half != 0 && s.flag Fld.MEMB_END then s else echoListen s (if upB then rxPort r else txPort r)

/-- The head orders ECHO_RUN and sends nothing else on the ring for 40 µs (R237). Of a ring in halves both its ports send
outward, so both turn to receive, and the head has no node upstream. -/
def headEcho (s : State) (r : Nat) : State :=
  let s := headSend s r (s.newFrame tyCtl bcastDst [0x03, 0, 0, 0])
  let s := if s.inHalves r then echoListen (echoListen s (txPort r)) (rxPort r) else echoRun s r
  setRing s r { s.ring r with quietTo := some (s.now + 3200) }

/-- A port that was turned for an echo request transmits again: after its answer, or once the echoes are over. -/
def echoOver (s : State) (past : Nat × Nat → Bool) : State :=
  match s.link.echo with
  | [] => s
  | l =>
    let s := { s with link := { s.link with echo := l.filter fun x => !past x } }
    s.forEach (l.filter past) fun s x => if s.dir x.1 = 2 then setDir s x.1 1 else s

/-- ASSIGN names this node (R239). -/
def takeAssign (s : State) (f : Frame) : State :=
  let p := f.payload
  if leAt p 1 8 ≠ factory then s
  else
    let s := s.setFld Fld.NODE_NUM_NODE (leAt p 9 2)
    let s := s.setFlag Fld.NODE_NUM_NUMBERED true
    let s := s.setFld Fld.MEMB_POS (leAt p 11 1)
    let s := s.setFld Fld.MEMB_HEAD_HEAD f.src.toNat
    setEpoch s 0 (leAt p 12 1)

/-- The hop time in 0.01 µs at a port's rate (R31, R202). -/
def State.hopTime (s : State) (p : Nat) : Nat := if s.fld (Fld.LP_CTL_RATE p) = 1 then 91 else 48

/-- ROUNDABOUT (R246, R248, R251): half, end, the position passed over, the window and the epoch; LAT_VALID is cleared. A member
takes its own position term off W_IN, the hops from the head: in half A its position, and in half B a number that no frame tells
it, a free one (log entry 156). A node passed over drops what it was to insert (R255). -/
def takeRoundabout (s : State) (f : Frame) : State :=
  let p := f.payload
  let pos := s.fld Fld.MEMB_POS
  let half := leAt p 2 1
  let s := s.setFld Fld.MEMB_HALF half
  let s := s.setFlag Fld.MEMB_END (decide (leAt p 3 1 = pos))
  let s := s.setFlag Fld.MEMB_EXCLUDED (decide (leAt p 4 1 = pos) && decide (pos ≠ 0))
  let s := latInvalid s
  let (hops, s) : Nat × State := if half = 1 then (pos, s) else
    let (k, s) := s.drawBelow 63
    (k + 1, s)
  let s := { s with ms := { s.ms with inbound := false, window := 100 * leAt p 5 2 - s.hopTime 0 * hops } }
  let s := s.when (s.flag Fld.MEMB_EXCLUDED) fun s => { s with link := { s.link with insertion := [], retx := [] } }
  setEpoch (memberDirection s) 0 (leAt p 1 1)

/-- REFORM is due at this boundary: the normal direction returns, and with it another delay from the head (R163, R253). -/
def restoreDirection (s : State) (sweep : Nat) : State :=
  match s.ms.restoreAt with
  | some a =>
    if a = sweep then
      let s := { s with ms := { s.ms with restoreAt := none, inbound := false } }
      let s := s.setFld Fld.MEMB_HALF 0
      let s := s.setFlag Fld.MEMB_END false
      let s := s.setFlag Fld.MEMB_EXCLUDED false
      setEpoch (ringDirection (latInvalid s) 0 false) 0 s.ms.restoreEpoch
    else s
  | none => s

/-! ### Enumeration (R239, R240) -/

/-- The epoch after this one, skipping 0. -/
def epochAfter (e : Nat) : Nat := if (e + 1) % 256 = 0 then 1 else (e + 1) % 256

/-- A head starts to enumerate a ring: ENUM under the old epoch. -/
def ringEnumerate (s : State) (r : Nat) : State :=
  let e := epochAfter (s.epoch r)
  let keep := s.rngState r == rngHalved || s.rngState r == rngReform
  let s := setRing s r { s.ring r with enumStep := 1, newEpoch := e, replies := [], found := [], upFactory := none }
  let s := if keep then s else s.setFld (Fld.RNG_STATUS_STATE r) rngEnum
  ringControl s r ([0x01] ++ leBytes 1 e ++ leBytes 2 0)

/-- A reply as a member. -/
def memberReply (p : List Byte) : Member :=
  let n := leAt p 17 2
  { factory := leAt p 1 8, upFactory := leAt p 9 8, node := if n < 32768 then some (n % 8192) else none
    msHop := leAt p 19 2, cells := leAt p 21 1, caps := leAt p 22 1, tko := leAt p 23 2 }

def takeReply (s : State) (r : Nat) (p : List Byte) : State :=
  let x := s.ring r
  let m := memberReply p
  if x.enumStep = 0 ∨ 4 ≤ x.enumStep then s
  else setRing s r { x with replies := m :: x.replies.filter (·.factory != m.factory) }

/-- The members in ring order from a head's neighbour on (R239). -/
def orderFrom (replies : List Member) : Nat → Nat → List Member → List Member
  | 0, _, acc => acc
  | k + 1, prev, acc =>
    match replies.find? fun m => m.upFactory == prev && !acc.any (·.factory == m.factory) with
    | some m => orderFrom replies k m.factory (acc ++ [m])
    | none => acc

/-- The lowest number from 1 upward without a VALID entry. -/
def State.freeNumber (s : State) : Option Nat := ((List.range 8192).filter (1 ≤ ·)).find? fun n => !eValid (s.entry n)

/-- The number the root gives a member of a ring with a head (R240): its own, that of an absent node bound to the position, or
the lowest free. -/
def State.numberFor (s : State) (head r : Nat) (m : Member) (pos : Nat) (found : List Nat) : Option Nat :=
  match s.tree.binding.find? fun p => eValid p.2 && eFactory p.2 == m.factory with
  | some p => some p.1
  | none =>
    let byPos := s.tree.binding.find? fun p => eValid p.2 && eHead p.2 == head && eRing p.2 == r && ePos p.2 == pos &&
      !found.contains (eFactory p.2) && p.1 != 0
    match s.flag Fld.TREE_CTL_BIND_MODE, byPos with
    | true, some p => some p.1
    | _, _ => if s.flag Fld.TREE_CTL_JOIN_EN then s.freeNumber else none

/-- The hub's Lanes are held by takeover (R257, R258). -/
def State.lanesTaken (s : State) (n : Nat) : Bool := s.tree.binding.any fun p => eValid p.2 && eWord p.2 6 == n && eHub p.2

/-- The node holds a hub's Lanes by takeover: it stands by for one and is a hub. -/
def holdsLanes (e : List Half) : Bool := eValid e && eHub e && !(eWord e 6).testBit 15

/-- What the root knows of an enumeration when it numbers a ring's members: the ring's head and place, its new epoch, the
factory numbers found, whether its members were known before, and whether a re-forming led to it (R254). -/
structure Numbering where
  head : Nat
  ring : Nat
  epoch : Nat
  found : List Nat
  hot : Bool
  reforming : Bool

/-- One member is numbered at the root, its entry written: HUB from its CAPS, but neither for a hub whose Lanes are held by
takeover nor against the leaf that holds them (R258). A known member found in a re-forming keeps its position in the binding,
and a new factory number is a hot join where the ring was up before (R254). -/
def numberMember (s : State) (w : Numbering) (m : Member) (pos : Nat) : State × Member :=
  match s.numberFor w.head w.ring m pos w.found with
  | none => (s, { m with node := none, pos := pos })
  | some n =>
    let known := s.tree.binding.any fun p => eValid p.2 && eFactory p.2 == m.factory
    let old := s.entry n
    let keeps := known && w.reforming && eHead old == w.head && eRing old == w.ring
    let hub := known && holdsLanes old || m.caps.testBit 2 && !s.lanesTaken n
    let flags := 3 + (if hub then 4 else 0) + (if m.tko.testBit 15 then 8 else 0)
    let s := setEntry s n (makeEntry m.factory w.head w.ring (if keeps then ePos old else pos) flags
      (if m.tko.testBit 15 then m.tko % 8192 else 32768) 0)
    let s := if known then s else
      let s := if w.hot then { s with tree := { s.tree with joining := n :: s.tree.joining } } else s
      logRingEvent s w.head w.ring 3 pos w.epoch n
    (s, { m with node := some n, pos := pos })

/-- The members of a ring in ring order get their numbers; a VALID entry of the ring that was not found keeps its number without
PRESENT (R254). Positions count from the head's transmit port, so the order of a Lane held by takeover, found from its other
end, runs backward. -/
def numberRing (s : State) (w : Numbering) (members : List Member) : State × List Member :=
  let back := holdsLanes (s.entry w.head) && w.head != 0
  let place (i : Nat) : Nat := if back then members.length - i else i + 1
  let (s, l) := members.zipIdx.foldl (fun (a : State × List Member) (p : Member × Nat) =>
    let (s, m) := numberMember a.1 w p.1 (place p.2)
    (s, a.2 ++ [m])) (s, [])
  let gone := (s.tree.binding.filter fun p => eValid p.2 && eHead p.2 == w.head && eRing p.2 == w.ring && p.1 != 0 &&
    !w.found.contains (eFactory p.2)).map (·.1)
  (s.forEach gone fun s n => setEntry s n (eSetFlag (s.entry n) 1 false), l)

/-- A member that gets no number stays unnumbered; the head sets UNNUM and counts one it does not know (R240): at a hub, one
that holds no number. -/
def countUnnumbered (s : State) (r : Nat) (m : Member) : State :=
  let known := if s.isRoot then s.tree.binding.any fun p => eValid p.2 && eFactory p.2 == m.factory else m.node.isSome
  let s := s.setFlag (Fld.RNG_STATUS_UNNUM r) true
  if known then s else s.incSat (Reg.RNG_NEW r)

/-- A hub reports to the root: OP, RESULT, the Lane, what the report says, and its data (R239; DESIGN CHOICE, log entry 35).
0: the Lane's epoch changed in a sweep. 1: a member in ring order, as its ENUM_REPLY says. 2: the list is complete, with the
factory number the hub's own echo brought, the new epoch, and whether the Lane is being re-formed. 3: MS_LAT of members by
node. -/
def laneReport (s : State) (r what : Nat) (data : List Byte) : State :=
  respond s 0 (leBytes 1 opLane ++ [resAck] ++ leBytes 1 r ++ leBytes 1 what ++ data) false

/-- The ring's epoch has changed in the sweep that is open, or, once that is closed, in the one LAST_STAT speaks of; a hub tells
the root (R250). -/
def noteReformed (s : State) (r : Nat) : State :=
  let s := setRing s r { s.ring r with reformed := true }
  let s := s.when (!s.isRoot) fun s => laneReport s r 0 (leBytes 2 (s.regN Reg.SWEEP_NUM))
  if s.isRoot && !s.tree.sweepOpen then s.setBits Reg.LAST_STAT 2 else s

/-! ### The root's own REMOTE writes (R163, R233, R239) -/

/-- Writes to make take the place of earlier ones to the same word. -/
def addWrites (s : State) (l : List RemoteWrite) : State :=
  let keep := s.tree.writes.filter fun w => !l.any fun v => v.node == w.node && v.addr == w.addr
  { s with tree := { s.tree with writes := keep ++ l } }

/-- A write is due: never sent, or unanswered for REM_TO sweeps. -/
def State.writeDue (s : State) (w : RemoteWrite) : Bool :=
  match w.sent with
  | none => true
  | some n => decide (s.fld Fld.TREE_CTL_REM_TO ≤ (s.regN Reg.SWEEP_NUM + 65536 - n) % 65536)

/-- The writes that are due go out; one waits for its node's session, since REMOTE writes are tagged (log entry 33). -/
def sendWrites (s : State) : State :=
  s.forEach s.tree.writes fun s w =>
    if (s.session w.node).inForce && s.writeDue w then
      let f := s.tagCommand (s.newFrame tyCommand (nodeDst w.node) ([0x11, 1] ++ leBytes 2 w.addr ++ leBytes 2 w.value))
      let sent := some (s.regN Reg.SWEEP_NUM)
      let s := { s with tree := { s.tree with writes := s.tree.writes.map fun v => if v = w then { w with sent := sent } else v } }
      (sendToNode s w.node f).2
    else s

/-- A node has answered a write. -/
def writeAnswered (s : State) (n addr : Nat) : State :=
  { s with tree := { s.tree with writes := s.tree.writes.filter fun w => !(w.node == n && w.addr == addr && w.sent.isSome) } }

/-- MS_LAT of nodes in the order in which the head's frames pass them: the running sum of their hops, from `start` on, the hop
of a node without a number included (R163). -/
def runLatencies (start : Nat) (l : List (Option Nat × Nat)) : List RemoteWrite :=
  (l.foldl (fun (a : Nat × List RemoteWrite) p =>
    let t := (a.1 + p.2) % 65536
    (t, a.2 ++ p.1.toList.map fun n => { node := n, addr := Reg.MS_LAT, value := t })) (start, [])).2

/-- The latencies of a whole ring's members in order. -/
def ringLatencies (l : List Member) : List RemoteWrite := runLatencies 0 (l.map fun m => (m.node, m.msHop))

/-- Pairs in rising order. -/
def insertPair (l : List (Nat × Nat)) (p : Nat × Nat) : List (Nat × Nat) :=
  if l.contains p then l else
    let below := fun (q : Nat × Nat) => decide (q.1 < p.1) || q.1 == p.1 && decide (q.2 < p.2)
    l.filter below ++ [p] ++ l.filter (!below ·)

/-- The Lanes of a hub are to be enumerated (R239): its wired ones, and none while a takeover holds them (R258). -/
def wantLanes (s : State) (n caps : Nat) : State :=
  if s.lanesTaken n then s else
    s.forEach ([1, 2].filter fun r => caps.testBit (r - 1)) fun s r =>
      { s with tree := { s.tree with laneOrders := insertPair s.tree.laneOrders (n, r) } }

/-- The next hub's Lane is ordered, in ascending node number, once the list of the one before has come or its hub is lost: by
REMOTE write of ENUM to its RNG_CMD, as its host would (R239; DEDUCED, log entry 35). -/
def orderLane (s : State) : State :=
  if s.tree.laneAsk.any fun p => ePresent (s.entry p.1) then s
  else match s.tree.laneOrders.filter fun p => ePresent (s.entry p.1) && !s.lanesTaken p.1 with
    | [] => { s with tree := { s.tree with laneAsk := none, laneOrders := [] } }
    | (n, r) :: rest =>
      addWrites { s with tree := { s.tree with laneAsk := some (n, r), laneOrders := rest } }
        [{ node := n, addr := Reg.RNG_CMD r, value := 1 }]

/-- What is to be enumerated next: the Avenue, then the root's own Lanes, then the Lanes of the hubs (R239). -/
def orderNext (s : State) : State :=
  if !s.isRoot || s.rings.any (fun x => x.enumStep != 0) then s
  else match s.tree.ringOrders with
    | r :: rest => ringEnumerate { s with tree := { s.tree with ringOrders := rest } } r
    | [] => orderLane s

/-- SLOT by the parity of the ring position, which the preset SWEEP program writes into the nodes numbered (R102, R267). -/
def wantSlots (s : State) (l : List Member) : State :=
  if !s.presetSweep then s else
    let keep := s.tree.slots.filter fun w => !l.any fun m => m.node == some w.node
    { s with tree := { s.tree with slots := keep ++ l.filterMap fun m => m.node.map fun n => { node := n, slot := m.pos % 2 } } }

/-- IMP_CTL of the nodes whose SLOT is to be written is read, and read again after REM_TO sweeps without an answer (R233). -/
def askSlots (s : State) : State :=
  s.forEach s.tree.slots fun s w =>
    if w.sent.any s.stillAsked then s
    else
      let sent := some (s.regN Reg.SWEEP_NUM)
      let s := { s with tree := { s.tree with slots := s.tree.slots.map fun v => if v = w then { w with sent := sent } else v } }
      (sendToNode s w.node (s.newFrame tyCommand (nodeDst w.node) ([0x10, 1] ++ leBytes 2 Reg.IMP_CTL))).2

/-- IMP_CTL of a node has come: SLOT is written where it differs. -/
def slotRead (s : State) (n v : Nat) : State :=
  match s.tree.slots.find? (·.node == n) with
  | none => s
  | some w =>
    let s := { s with tree := { s.tree with slots := s.tree.slots.filter (·.node != n) } }
    let v' := ((bitField 0 11).write (BitVec.ofNat 16 v) w.slot).toNat
    if v' = v then s else sendWrites (addWrites s [{ node := n, addr := Reg.IMP_CTL, value := v' }])

/-- Step 3 of R239: the members in ring order, up to 63; LONG and UNNUM. The head's own echo names the last member, but for a
Lane held by takeover, of which the head has no node upstream. -/
def enumOrder (s : State) (r : Nat) : List Member × State :=
  let x := s.ring r
  let ordered := orderFrom x.replies 64 factory []
  let last := (ordered.getLast?.map (·.factory)).getD factory
  let s := s.setFlag (Fld.RNG_STATUS_LONG r) (decide (63 < ordered.length))
  let bad := decide (ordered.length < x.replies.length) || (!x.taken && x.upFactory != some last) || decide (63 < ordered.length)
  let s := s.setFlag (Fld.RNG_STATUS_UNNUM r) bad
  let l := ordered.take 63
  (l, s.forEach (x.replies.filter fun m => !l.any (·.factory == m.factory)) fun s m => countUnnumbered s r m)

/-- W_IN of a half of m members (R248): T plus 20 µs, at the ring's rate (R202), rounded to µs as the part does (log entry
22). -/
def halfWindow (s : State) (r members frames : Nat) : Nat × State :=
  let rate := if s.fld (Fld.LP_CTL_RATE (txPort r)) = 1 then 2 else 1
  let hops := members * s.hopTime (txPort r)
  let t := rate * 388 + hops + 100 + rate * 388 + rate * 2180 * frames + hops + 2000
  let (w, s) := s.divFree t 100
  (w.toNat % 65536, s)

/-- ROUNDABOUT to one half, sealed under the epoch its members still hold. Before the members of a Lane taken over are known the
window is that of 63 (log entry 175). -/
def sendRoundabout (s : State) (r epoch : Nat) (halfB : Bool) (excl : Nat) : State :=
  let x := s.ring r
  let inHalf (m : Member) : Bool := if halfB then decide (x.endB ≤ m.pos) else decide (m.pos ≤ x.endA)
  let mem := x.members.filter inHalf
  let unknown := x.taken && x.members.isEmpty
  let frames := if s.isRoot then
      (s.tree.binding.filter fun p => match s.pathOf 64 p.1 with
        | some (r', l) => r' == r && mem.any (fun m => m.node == some (l.getLastD 0))
        | none => false).length
    else mem.length
  let (w, s) := if unknown then halfWindow s r 63 63 else halfWindow s r mem.length frames
  let (f, s) := numbered s r (s.newFrame tyCtl bcastDst
    ([0x06] ++ leBytes 1 epoch ++ leBytes 1 (if halfB then 2 else 1) ++ leBytes 1 (if halfB then x.endB else x.endA)
      ++ leBytes 1 excl ++ leBytes 2 w ++ [0]))
  transmit s r (if halfB then rxPort r else txPort r) f

/-- Steps 4 to 6 of R239 at the head: ASSIGN to each member with a number, the new epoch, and the ring in RUN; a Lane held by
takeover stays one half (R257). -/
def ringNumbered (s : State) (r : Nat) (members : List Member) : State :=
  let x := s.ring r
  let given := members.filter (·.node.isSome)
  let s := s.forEach given fun s m =>
    headSend s r (s.newFrame tyCtl bcastDst
      ([0x04] ++ leBytes 8 m.factory ++ leBytes 2 (m.node.getD 0) ++ leBytes 1 m.pos ++ leBytes 1 x.newEpoch))
  let s := noteReformed (setEpoch s r x.newEpoch) r
  let s := setRing s r { s.ring r with
    enumStep := 0, members := if x.taken then members.reverse else members, replies := [], found := [], reforming := false
    endA := 0, endB := x.taken.toNat, excluded := [], isolated := [], reformAt := none }
  let s := s.setFld (Fld.RNG_STATUS_STATE r) (if x.taken then rngHalved else rngRun)
  let s := s.setFld (Fld.RNG_NODES_NODES r) given.length
  let s := s.setFld (Fld.RNG_NODES_HALF_A r) 0
  let s := s.setFlag (Fld.RNG_STATUS_ISOLATED r) false
  let s := s.setFlag (Fld.RNG_STATUS_PLANNED r) false
  let s := s.setFld (Fld.RNG_STATUS_BREAK_POS r) 0
  if x.taken then sendRoundabout s r (s.epoch r) true 0 else s

/-- What the root does with members it has numbered: MS_LAT from the hops of the whole ring, SLOT, and the Lanes of the hubs
among them (R163, R239, R267). -/
def followNumbers (s : State) (members : List Member) : State :=
  let s := wantSlots (addWrites s (ringLatencies members)) members
  bindingChanged (s.forEach members fun s m =>
    match m.node with
    | some n => if m.caps.testBit 2 then wantLanes s n m.caps else s
    | none => s)

/-- Steps 3 to 6 of R239 on a ring of the root. The answer also names the nodes numbered. -/
def finishEnumeration (s : State) (r : Nat) : State × List Nat :=
  let x := s.ring r
  let (ordered, s) := enumOrder s r
  let w : Numbering := { head := 0, ring := r, epoch := x.newEpoch, found := x.replies.map (·.factory)
                         hot := !x.members.isEmpty, reforming := x.reforming }
  let unknown := ordered.filter fun m => !s.tree.binding.any fun p => eValid p.2 && eFactory p.2 == m.factory
  let (s, members) := numberRing s w ordered
  let s := s.forEach (members.filter (·.node.isNone)) fun s m =>
    let s := s.setFlag (Fld.RNG_STATUS_UNNUM r) true
    if unknown.any (·.factory == m.factory) then s.incSat (Reg.RNG_NEW r) else s
  let s := followNumbers (ringNumbered s r members) members
  let s := s.setFlag Fld.NODE_ROLE_ALONE (s.rings.all fun x => !(x.members.any (·.node.isSome)))
  (orderNext s, members.filterMap (·.node))

/-! ### Lanes of a hub (R239) -/

/-- The fields of an ENUM_REPLY. -/
def Member.fields (m : Member) : List Byte :=
  leBytes 8 m.factory ++ leBytes 8 m.upFactory ++ leBytes 2 (m.node.getD 32768) ++ leBytes 2 m.msHop ++ leBytes 1 m.cells
  ++ leBytes 1 m.caps ++ leBytes 2 m.tko

/-- A hub passes its ordered list to the root and waits for the numbers. -/
def passList (s : State) (r : Nat) : State :=
  let x := s.ring r
  let (l, s) := enumOrder s r
  let s := s.forEach l fun s m => laneReport s r 1 m.fields
  let s := laneReport s r 2 (leBytes 8 (x.upFactory.getD 0) ++ leBytes 1 x.newEpoch ++ leBytes 1 x.reforming.toNat)
  setRing s r { s.ring r with enumStep := 4, replies := [], found := l.map fun m => { m with pos := 0 } }

/-- The numbers have come: the hub sends the ASSIGN frames. A member without one stays unnumbered (R240). -/
def laneAssign (s : State) (r : Nat) : State :=
  let l := (s.ring r).found
  let back := (s.ring r).taken
  let s := s.forEach (l.filter (·.pos == 0)) fun s m => countUnnumbered s r m
  ringNumbered s r (l.zipIdx.map fun p =>
    if p.1.pos = 0 then { p.1 with node := none, pos := if back then l.length - p.2 else p.2 + 1 } else p.1)

/-- What the root returns reaches the hub: OP, the Lane, 1 and a reserved byte before FACTORY, NODE and POS of a member, or 2 at
the end (R239; DESIGN CHOICE, log entry 35). -/
def laneNumbers (s : State) (f : Frame) : State :=
  let p := f.payload
  let r := leAt p 1 1
  let x := s.ring r
  if !s.isHub || !(r == 1 || r == 2) || x.enumStep != 4 then s
  else if leAt p 2 1 = 1 then
    setRing s r { x with found := x.found.map fun m =>
      if m.factory = leAt p 4 8 then { m with node := some (leAt p 12 2 % 8192), pos := leAt p 14 1 % 64 } else m }
  else
    let s := setRing s r { x with enumStep := 5 }
    if x.speaks then laneAssign s r else s

/-- The list of a Lane is complete at the root: its members get their numbers, and the hub learns them. -/
def numberLane (s : State) (h r up epoch : Nat) (reforming : Bool) : State × List Nat :=
  let l := (s.tree.laneLists.filter (·.1 == (h, r))).map (·.2)
  let s := { s with tree := { s.tree with
    laneLists := s.tree.laneLists.filter (·.1 != (h, r))
    laneAsk := if s.tree.laneAsk == some (h, r) then none else s.tree.laneAsk } }
  let hubFactory := eFactory (s.entry h)
  let ordered := orderFrom l 63 hubFactory []
  let hot := s.tree.binding.any fun p => eValid p.2 && eHead p.2 == h && eRing p.2 == r
  let w : Numbering := { head := h, ring := r, epoch := epoch, found := l.map (·.factory), hot := hot, reforming := reforming }
  let (s, members) := numberRing s w ordered
  let tell (s : State) (data : List Byte) : State :=
    (sendToNode s h (s.newFrame tyCommand (nodeDst h) (leBytes 1 opLane ++ leBytes 1 r ++ data))).2
  let s := s.forEach (members.filter (·.node.isSome)) fun s m =>
    tell s ([1, 0] ++ leBytes 8 m.factory ++ leBytes 2 (m.node.getD 0) ++ leBytes 1 m.pos)
  let s := tell s ([2, 0] ++ leBytes 8 up)
  (orderNext (followNumbers s members), members.filterMap (·.node))

/-- A hub's report reaches the root. The answer names nodes numbered. REFORMED is set for the sweep in which a Lane on the
path of an expected node changed its epoch, while LAST_STAT speaks of it or it is open (R250). -/
def laneResponse (s : State) (h : Nat) (p : List Byte) : State × List Nat :=
  let r := leAt p 2 1
  match leAt p 3 1 with
  | 0 =>
    let sweep := leAt p 4 2
    let onPath := s.tree.binding.any fun q => eValid q.2 && s.expects q.1 && (match s.pathOf 64 q.1 with
      | some (_, l) => l.any fun n => eHead (s.entry n) == h && eRing (s.entry n) == r
      | none => false)
    if !onPath then (s, [])
    else if s.tree.sweepOpen && sweep == s.regN Reg.SWEEP_NUM then
      (match s.route h with
        | some k => setRing s k { s.ring k with reformed := true }
        | none => s, [])
    else (if sweep = s.regN Reg.LAST_SWEEP then s.setBits Reg.LAST_STAT 2 else s, [])
  | 1 =>
    let m := memberReply (p.drop 3)
    let l := s.tree.laneLists.filter fun q => !(q.1 == (h, r) && q.2.factory == m.factory)
    ({ s with tree := { s.tree with laneLists := l ++ [((h, r), m)] } }, [])
  | 2 => numberLane s h r (leAt p 4 8) (leAt p 12 1) (leAt p 13 1 == 1)
  | 3 =>
    let w := (List.range ((p.length - 4) / 4)).map fun i =>
      ({ node := leAt p (4 + 4 * i) 2 % 8192, addr := Reg.MS_LAT, value := leAt p (6 + 4 * i) 2 } : RemoteWrite)
    (sendWrites (addWrites s w), [])
  | _ => (s, [])

/-- The latencies a head has formed are written: at the root by REMOTE access, and those of a hub's Lane by the root, which
has the members' sessions (R163, R251; log entry 35). -/
def writeLatencies (s : State) (r : Nat) (l : List RemoteWrite) : State :=
  if s.isRoot then sendWrites (addWrites s l)
  else if l.isEmpty then s
  else laneReport s r 3 ((l.take 58).flatMap fun w => leBytes 2 w.node ++ leBytes 2 w.value)
    |> fun s => if l.length ≤ 58 then s else laneReport s r 3 ((l.drop 58).flatMap fun w => leBytes 2 w.node ++ leBytes 2 w.value)

/-- The members a halved ring serves, by half, in the order in which frames from the head pass them. -/
def State.halfMembers (s : State) (r : Nat) : List Member × List Member :=
  let x := s.ring r
  let l := x.members.filter fun m => s.posServed r m.pos
  (l.filter fun m => decide (m.pos ≤ x.endA), (l.filter fun m => decide (x.endB ≤ m.pos)).reverse)

/-- MS_LAT of the nodes of both halves from the hops of the whole ring, in which each member measured the hop to the one before
it, and the head that to the last (R163, R251). -/
def State.foldedLatencies (s : State) (r : Nat) : List RemoteWrite :=
  let (a, b) := s.halfMembers r
  ringLatencies a ++ runLatencies 0 ((b.map (·.node)).zip ((s.ring r).headHop :: b.map (·.msHop)))

/-- The head asks members for MS_HOP (R163). -/
def askHops (s : State) (r : Nat) (nodes : List Nat) : State :=
  let s := setRing s r { s.ring r with hops := nodes, hopsAt := s.regN Reg.SWEEP_NUM }
  s.forEach nodes fun s n => ringCommand s r (s.newFrame tyCommand (nodeDst n) ([0x10, 1] ++ leBytes 2 Reg.MS_HOP))

/-- In command time after a Roundabout the head runs ECHO_RUN in each half; it forms the new latencies from the hops it holds,
and reads every MS_HOP measured anew (R163, R251). -/
def halfEcho (s : State) (r : Nat) : State :=
  let s := headEcho (setRing s r { s.ring r with echoDue := false }) r
  let (a, b) := s.halfMembers r
  askHops (writeLatencies s r (s.foldedLatencies r)) r ((a ++ b).filterMap (·.node))

/-- Members that have not answered are asked for MS_HOP again after REM_TO sweeps (R233). -/
def repeatHops (s : State) (r : Nat) : State :=
  let x := s.ring r
  if x.hops ≠ [] ∧ s.fld Fld.TREE_CTL_REM_TO ≤ (s.regN Reg.SWEEP_NUM + 65536 - x.hopsAt) % 65536 then askHops s r x.hops else s

/-- A member's MS_HOP is read; after the last one the latencies of both halves are written. -/
def hopRead (s : State) (r n hop : Nat) : State :=
  let x := s.ring r
  let x := { x with
    hops := x.hops.filter (· != n), members := x.members.map fun m => if m.node == some n then { m with msHop := hop } else m }
  let s := setRing s r x
  if !x.hops.isEmpty then s
  else writeLatencies s r (ringLatencies (s.halfMembers r).1 ++ ringLatencies (s.halfMembers r).2)

/-- A ring in halves is opened once more in the sweep (R247). -/
def openAgain (s : State) (r : Nat) : State :=
  let s := halfTurn (headSend s r (s.newFrame tyOpen bcastDst [])) r 2
  setRing s r { s.ring r with train := true, command := false }

/-- A round of requests for what is missing; after requests in a ring in halves it is opened once more (R217, R247). -/
def retxOpen (s : State) (r : Nat) : State :=
  let n := (s.ring r).retx.length
  let s := retxRound s r
  if s.inHalves r && decide (n < (s.ring r).retx.length) then openAgain s r else s

/-- The next step of an enumeration in command time (R239). The answer names nodes numbered. -/
def enumerateOn (s : State) (r : Nat) : State × List Nat :=
  match (s.ring r).enumStep with
  | 1 =>
    let s := headEcho s r
    (setRing s r { s.ring r with enumStep := 2 }, [])
  | 2 =>
    let s := headSend s r (s.newFrame tyCtl bcastDst ([0x01] ++ leBytes 1 (s.ring r).newEpoch ++ leBytes 2 0))
    (setRing s r { s.ring r with enumStep := 3, replies := [] }, [])
  | 3 => if s.isRoot then finishEnumeration s r else (passList s r, [])
  | 5 => (laneAssign s r, [])
  | _ => (s, [])

/-- What the head does in command time once no echoes run: the frames that waited, the next step of an enumeration, and the
requests for what is missing, last, since in a ring in halves an opening follows them. The answer names nodes numbered. -/
def commandWork (s : State) (r : Nat) : State × List Nat :=
  let waiting := (s.ring r).waiting
  let s := setRing s r { s.ring r with waiting := [] }
  let s := s.forEach waiting fun s f => ringCommand s r f
  let s := if s.isHub then
      let mine := s.link.laneQueue.filter (·.1 == r)
      let s := { s with link := { s.link with laneQueue := s.link.laneQueue.filter (·.1 != r) } }
      s.forEach mine fun s p => s.forEach (s.headPorts r p.2) fun s port => transmit (noteAsked s r p.2) r port p.2
    else s
  let (s, nodes) := enumerateOn (repeatHops s r) r
  (if (s.ring r).speaks && (s.ring r).isOpen then retxOpen s r else s, nodes)

/-- A ring's train ends and its command time begins. After a Roundabout ECHO_RUN comes first, and the rest waits until its
echoes are over (R237, R251). -/
def ringCommandTime (s : State) (r : Nat) : State × List Nat :=
  let x := s.ring r
  let s := setRing s r { x with train := false, command := true, trainTime := (s.now - x.openedAt) / 80 }
  let s := if x.isOpen then s else s.setRegN (Reg.RNG_TIME r) (min 65535 ((s.now - x.openedAt) / 80))
  let s := halfTurn s r 1
  if (s.ring r).echoDue && s.rngState r == rngHalved then (halfEcho s r, []) else commandWork s r

/-- The echoes of ECHO_RUN are over: command time goes on (R237). -/
def echoesDone (s : State) (r : Nat) : State × List Nat :=
  let x := s.ring r
  if x.quietTo.any (· ≤ s.now) then
    let s := setRing s r { x with quietTo := none }
    if x.command then commandWork s r else (s, [])
  else (s, [])

/-! ### The Roundabout (R245 to R251, R255) -/

/-- Nodes that are reached no longer leave the expected set of the open sweep too (R228, R249). -/
def dropUnreached (s : State) (r : Nat) : State :=
  let x := s.ring r
  let reached (n : Nat) : Bool := (s.ringPos r n).all (s.posServed r)
  let awaits := x.awaits.filter reached
  let x := { x with expected := x.expected.filter fun n => x.got.contains n || reached n
                    awaits := awaits, awaited := x.awaited - (x.awaits.length - awaits.length) }
  let s := setRing s r x
  if Ring.complete x then closeRing s r else s

/-- The two halves are formed under a new epoch (R246, R255): half A ends at `a`, half B at `b`. -/
def halve (s : State) (r a b excl : Nat) (planned : Bool) : State :=
  let x := s.ring r
  let s := setRing s r { x with endA := a, endB := b, excluded := if excl = 0 then [] else [excl], isolated := []
                                reformAt := none, reforming := false, enumStep := 0
                                echoDue := true, hops := [] }
  let s := dropUnreached (noteReformed s r) r
  let s := s.setFld (Fld.RNG_STATUS_STATE r) rngHalved
  let s := s.setFld (Fld.RNG_STATUS_BREAK_POS r) a
  let s := s.setFlag (Fld.RNG_STATUS_PLANNED r) planned
  let s := s.setFld (Fld.RNG_NODES_HALF_A r) (x.members.filter fun m => decide (m.pos ≤ a)).length
  -- a planned halving removes the member at its position from the ring (R255; log entry 179)
  let s := if planned then (if excl = 0 then s else logRingEvent s s.nodeNum r 4 excl (s.epoch r)
      (((x.members.find? (·.pos == excl)).bind (·.node)).getD 0))
    else logRingEvent (s.incSat (Reg.RNG_BREAKS r)) s.nodeNum r 1 a (s.epoch r) 0
  let e := epochAfter (s.epoch r)
  let s := (setDir s (txPort r) 1).setFld (Fld.LP_STATUS_DIR (rxPort r)) 1
  let s := if x.members.any (fun m => decide (m.pos ≤ a)) then sendRoundabout s r e false excl else s
  let s := if x.members.any (fun m => decide (b ≤ m.pos)) then sendRoundabout s r e true excl else s
  let s := setEpoch s r e
  -- the requests and the further opening of R247 follow in the same sweep; once the ring is closed the echoes do (R251)
  if (s.ring r).isOpen then openAgain (retxRound s r) r
  else if (s.ring r).speaks && x.members.any (·.node.isSome) then halfEcho s r else s

/-- The head learns that the ring is broken after a position (R246); in a half the positions beyond are cut off
(R249). -/
def ringBroken (s : State) (r i : Nat) : State :=
  let x := s.ring r
  let st := s.rngState r
  -- a ring that is enumerated for the first time has no positions yet
  if s.inHalves r || st == rngDown || (st == rngEnum && x.members.isEmpty) then s
  else
    let n := x.members.length
    halve s r (min i n) (min i n + 1) 0 false

/-- A BREAK frame's sender locates the break: upstream of it. In a half the sender is the last member reached. -/
def breakFrom (s : State) (r pos : Nat) : State :=
  let x := s.ring r
  if s.inHalves r then
    let cut := if pos ≤ x.endA then (List.range (x.endA + 1)).filter (pos < ·) else (List.range pos).filter (x.endB ≤ ·)
    let halfB := decide (x.endA < pos)
    let s := setRing s r { x with isolated := x.isolated ++ cut
                                  endA := if halfB then x.endA else pos, endB := if halfB then pos else x.endB }
    let s := s.setFlag (Fld.RNG_STATUS_ISOLATED r) true
    dropUnreached (sendRoundabout s r (s.epoch r) halfB 0) r
  else ringBroken s r (pos - 1)

/-- No inbound opening came back: the end moves one position toward the head (R249). -/
def turnTimeout (s : State) (r : Nat) (halfB : Bool) : State :=
  let x := s.ring r
  let n := x.members.length
  if !s.inHalves r then s
  else if halfB then
    if n < x.endB then s
    else
      let s := setRing s r { x with excluded := x.endB :: x.excluded, endB := x.endB + 1 }
      dropUnreached (if x.endB + 1 ≤ n then sendRoundabout s r (s.epoch r) true x.endB else s) r
  else if x.endA = 0 then s
  else
    let s := setRing s r { x with excluded := x.endA :: x.excluded, endA := x.endA - 1 }
    let s := s.setFld (Fld.RNG_NODES_HALF_A r) ((s.ring r).members.filter fun m => decide (m.pos ≤ x.endA - 1)).length
    dropUnreached (if 0 < x.endA - 1 then sendRoundabout s r (s.epoch r) false x.endA else s) r

/-- A halved ring is re-formed (R253): REFORM on both halves, to act at the next boundary. -/
def ringReform (s : State) (r : Nat) : State :=
  if s.rngState r ≠ rngHalved ∨ (s.ring r).taken then s
  else
    let e := epochAfter (s.epoch r)
    let act := (s.regN Reg.SWEEP_NUM + 1) % 65536
    let s := ringControl s r ([0x08] ++ leBytes 1 e ++ leBytes 2 act)
    let s := setRing s r { s.ring r with reformAt := some act, newEpoch := e }
    s.setFld (Fld.RNG_STATUS_STATE r) rngReform

/-- At the boundary of ACT the head's ring is whole again and is enumerated (R253). -/
def reformDue (s : State) (r sweep : Nat) : State :=
  let x := s.ring r
  if x.reformAt = some sweep then
    let s := ringDirection s r false
    let s := setEpoch s r x.newEpoch
    let s := setRing s r { x with reformAt := none, reforming := true, excluded := [], isolated := [], reformed := true }
    let s := s.when (!s.isRoot) fun s => laneReport s r 0 (leBytes 2 sweep)
    let s := s.incSat (Reg.RNG_REFORMS r)
    let s := logRingEvent s s.nodeNum r 2 0 (s.epoch r) 0
    ringEnumerate s r
  else s

/-- TO has elapsed (R227): the ring closes; a train that never ended is a break (R245), and one of a ring just
re-formed halves it again (R253). The break lies after the position of the last frame accepted, or after the last
position where none was (DEDUCED, log entry 36). -/
def ringTimeout (s : State) (r : Nat) : State :=
  let x := s.ring r
  if !x.isOpen then s
  else
    let unfinished := x.train
    let lastPos := x.lastPos.getD x.members.length
    let s := setRing s r { x with
      timedOut := true, train := false, command := true, isOpen := false, trainTime := (s.now - x.openedAt) / 80 }
    let s := if unfinished && !x.members.isEmpty then
        (if x.reforming then halve s r (s.fld (Fld.RNG_STATUS_BREAK_POS r)) (s.fld (Fld.RNG_STATUS_BREAK_POS r) + 1) 0 false
         else ringBroken s r lastPos)
      else s
    closeRing (setRing s r { s.ring r with isOpen := true }) r

/-! ### Hub roles (R257, R258) -/

/-- A takeover or hand-back takes effect at the boundary. -/
def roleBoundary (s : State) : State :=
  match s.ms.roleChange with
  | none => s
  | some (h, true) =>
    let s := { s with ms := { s.ms with roleChange := none, holds := some h } }
    let s := s.setFld Fld.NODE_ROLE_ROLE 1
    let s := s.setFlag Fld.NODE_ROLE_TAKEOVER true
    s.forEach [1, 2] fun s r =>
      if s.laneWired r then
        -- the Lane is one half, served through the port that faced its last member; its end is position 1
        let s := setRing s r { endA := 0, endB := 1, taken := true }
        let s := (setDir s (txPort r) 0).setFld (Fld.LP_STATUS_DIR (rxPort r)) 1
        let s := setEpoch s r (epochAfter (s.epoch r))
        let s := s.setFld (Fld.RNG_STATUS_STATE r) rngHalved
        ringEnumerate (sendRoundabout s r (s.epoch r) true 0) r
      else s
  | some (_, false) =>
    let s := { s with ms := { s.ms with roleChange := none, holds := none } }
    let s := s.setFld Fld.NODE_ROLE_ROLE 0
    let s := s.setFlag Fld.NODE_ROLE_TAKEOVER false
    -- cut-through between its Lane ports returns (R256)
    s.forEach [1, 2] fun s r =>
      let s := (setRing s r {}).setReg (Reg.RNG_STATUS r) 0
      let s := if s.portOn (txPort r) then setDir s (txPort r) 1 else s
      if s.portOn (rxPort r) then setDir s (rxPort r) 2 else s

/-! ### The node's boundary on the links -/

/-- A Lane frame that a hub holds is discarded, counted at its Lane (R226). -/
def laneDrop (s : State) (f : Frame) : State := countDrop s (if (s.memberOf 2 f.src.toNat).isSome then 2 else 1)

/-- A new sweep at a member: kept frames are those of the sweep before (R218), the member's own that found no place go with
the next train, Lane frames of the closed sweep are discarded (R226), retransmissions that waited for an inbound pass too
(R218), and the REFORM due takes effect. -/
def linkBoundary (s : State) (sweep : Nat) : State :=
  let l := s.link
  let s := s.forEach l.hubQueue laneDrop
  let stale (f : Frame) : Bool := f.payload.headD 0 == 0x48
  let s := { s with link := { s.link with
    measureSent := false, again := false, measure := none, hubKept := [], hubQueue := [], insertion := [], retx := []
    responses := (l.insertion.filter fun (f : Frame) => f.type == tyResponse && !stale f) ++ l.responses
    controls := (l.insertion.filter fun (f : Frame) => f.type == tyCtl) ++ l.controls } }
  roleBoundary (restoreDirection s sweep)

/-- A ring's sweep starts: SWEEP_START and TRAIN_OPEN (R224), and the frames expected. A ring that is re-formed at this boundary
takes SWEEP_START still in its halves, and the opening as a whole (R253). -/
def ringSweepStart (s : State) (r sweep : Nat) (hubs : Bool) (tree : Nat) : State :=
  let s := sendMilestone (halfTurn s r 1) r 2 sweep hubs tree
  let s := setRing s r { s.ring r with command := false, reformed := false, quietTo := none }
  let s := reformDue s r sweep
  let s := halfTurn (headSend s r (s.newFrame tyOpen bcastDst [])) r 2
  let x := s.ring r
  let (awaits, later) := splitAwaits (x.asked.filter (s.answers r) ++ s.expectActive r sweep)
  setRing s r { x with
    train := true, isOpen := true, openedAt := s.now, expected := s.expectedOn r, got := []
    timedOut := false, retx := [], awaits := awaits, awaited := awaits.length, asked := later
    unanswered := x.unanswered.filter fun p => s.stillAsked p.2, lastPos := none }

/-- A head starts its rings' trains. -/
def startTrains (s : State) (sweep : Nat) (hubs : Bool) (tree : Nat) : State :=
  (s.forEach s.headed fun s r => ringSweepStart s r sweep hubs tree).startTimer .heartbeat

end Sys2Proof.Machine
end

