-- ==== Sys2Proof/Machine/EngOps.lean ====
section
/-!
DEFINITION. The Hetric engines as machines (R260 to R295): fields of an instruction word, flags and conditions, general
registers, data memory, the running page, restarts and stops, and the frame every instruction runs in.
-/
namespace Sys2Proof.Machine

def engines : List Engine := [.sweep, .node, .rail]

/-! ### Fields (R285) -/

def wOp (w : Word) : Nat := w.toNat / 2 ^ 26
def wRd (w : Word) : Nat := w.toNat / 2 ^ 22 % 16
def wRa (w : Word) : Nat := w.toNat / 2 ^ 18 % 16
def wRb (w : Word) : Nat := w.toNat / 2 ^ 14 % 16
def wRt (w : Word) : Nat := w.toNat / 2 ^ 10 % 16
def wSh (w : Word) : Nat := w.toNat % 32
def wImm (w : Word) : BitVec 18 := w.setWidth 18
def wImm16 (w : Word) : Half := w.setWidth 16
def wTarget (w : Word) : Nat := w.toNat % 8192
def wFn (w : Word) : Nat := w.toNat % 2 ^ 14

/-- Reserved fields are 0 (R286): R bits 13 to 5, M bits 21 to 16, B bits 17 to 13, W bits 9 to 0. -/
def okR (w : Word) : Bool := w.toNat / 32 % 512 == 0
def okM (w : Word) : Bool := w.toNat / 2 ^ 16 % 64 == 0
def okB (w : Word) : Bool := w.toNat / 2 ^ 13 % 32 == 0
def okW (w : Word) : Bool := w.toNat % 1024 == 0

/-- The reserved opcodes of R286. -/
def opReserved (op : Nat) : Bool :=
  op == 0 || op == 0x16 || op == 0x17 || (decide (0x25 ≤ op) && decide (op ≤ 0x27)) || (decide (0x2D ≤ op) && decide (op ≤ 0x2F)) ||
  (decide (0x35 ≤ op) && decide (op ≤ 0x37))

/-! ### Fault codes of ENG*e*_STATUS -/

def efIllegal : Nat := 1
def efBounds : Nat := 2
def efAlign : Nat := 3
def efProtect : Nat := 4
def efDivzero : Nat := 5
def efWatchdog : Nat := 6
def efParity : Nat := 7
def efCall : Nat := 8

/-! ### Registers and flags -/

/-- G0 reads 0 (R261). -/
def Eng.get (x : Eng) (i : Nat) : Word := if i = 0 then 0 else sparseGet x.g 0 i

/-- A write to G0 is discarded. -/
def Eng.set (x : Eng) (i : Nat) (v : Word) : Eng := if i = 0 then x else { x with g := sparseSet x.g 0 i v }

/-- Z and N of a result. -/
def Eng.zn (x : Eng) (v : Word) : Eng := { x with z := v == 0, n := v.msb }

/-- COND of R295; 0xF is reserved. -/
def Eng.cond (x : Eng) (c : Nat) : Bool :=
  match c with
  | 0 => true | 1 => x.z | 2 => !x.z | 3 => x.c | 4 => !x.c | 5 => x.n | 6 => !x.n | 7 => x.v | 8 => !x.v
  | 9 => x.c && !x.z | 10 => !x.c || x.z | 11 => x.n == x.v | 12 => x.n != x.v | 13 => !x.z && x.n == x.v
  | 14 => x.z || x.n != x.v | _ => false

/-! ### Data memory (R263, R290, R299) -/

def State.dbyte (s : State) (a : Nat) : Byte := sparseGet s.dmem 0 a
def State.dbytes (s : State) (a n : Nat) : List Byte := (List.range n).map fun i => s.dbyte (a + i)

/-- A byte is written with fresh parity. -/
def setDbyte (s : State) (a : Nat) (b : Byte) : State :=
  { s with dmem := sparseSet s.dmem 0 a b, badData := s.badData.filter (· != a) }

def setDbytes (s : State) (a : Nat) (bs : List Byte) : State :=
  s.forEach bs.zipIdx fun s (p : Byte × Nat) => setDbyte s (a + p.2) p.1

/-- A byte of the span fails its parity. -/
def State.dataBad (s : State) (a n : Nat) : Bool := s.badData.any fun b => decide (a ≤ b) && decide (b < a + n)

/-- The banks an engine may access: its own and bank 7. -/
def bankAllowed (e : Engine) (a : Nat) : Bool :=
  let b := a / 32768
  decide (a < 0x40000) &&
  (b == 7 || match e with
    | .sweep => decide (b ≤ 3)
    | .node => b == 4 || b == 5
    | .rail => b == 6)

/-- Every byte of a span lies in the engine's banks. -/
def spanAllowed (e : Engine) (a n : Nat) : Bool :=
  n == 0 || (bankAllowed e a && bankAllowed e (a + n - 1) && decide (a + n ≤ 0x40000))

/-- RA + sext(IMM), modulo 2^32 (R299, R310). -/
def Eng.addr (x : Eng) (w : Word) : Nat := (x.get (wRa w) + (wImm w).signExtend 32).toNat

/-! ### The running page (R262, R287) -/

def Eng.word (x : Eng) (i : Nat) : Word := sparseGet x.prog 0 (8192 * x.page + i % 8192)
def Eng.wordBad (x : Eng) (i : Nat) : Bool := x.badProg.contains (8192 * x.page + i % 8192)

/-- A page's words become those of a program; the rest of the page reads 0. -/
def Eng.fill (x : Eng) (page : Nat) (ws : List Word) : Eng :=
  let keep := x.prog.filter fun p => p.1 / 8192 != page
  let add := (ws.take 8192).zipIdx.foldl (fun (m : Sparse Word) (p : Word × Nat) => sparseSet m 0 (8192 * page + p.2) p.1) []
  { x with prog := (if page = 0 then add ++ keep else keep ++ add), badProg := x.badProg.filter fun i => i / 8192 != page }

/-! ### Running, stopping, restarting (R265, R275, R277, R278, R280) -/

def State.engRun (s : State) (e : Engine) : Bool := s.flag (Fld.ENG_CTL_RUN e.idx)

/-- The engine starts at index 0 (R275): registers, latch and wait cleared; STOPPED while a self-test of what it uses
runs, or a failed one keeps it so (R280, R412). -/
def engStart (s : State) (e : Engine) : State :=
  let x := s.eng e
  let s := s.setFlag (Fld.ENG_CTL_RUN e.idx) true
  let held := s.st.engFail || (s.st.cur.any fun t => decide (t ≤ 7) || t == 11)
  let st : EngState := if held then .stopped else .running
  let s := s.setEng e { x with
    st := st, pc := 0, g := [], latch := 0, wait := none, haltReq := false, stepping := false, haltHeld := false, passBp := false }
  s.startTimer (.watchdog e)

/-- RUN = 0 takes effect, or the part stops the engine: a wait in progress is cancelled and writes nothing. -/
def engStop (s : State) (e : Engine) : State :=
  let x := s.eng e
  s.setEng e { x with st := .stopped, wait := none, haltReq := false, stepping := false, haltHeld := false }

/-- RESTART clears FAULT and RESTARTS (R278). -/
def engRestart (s : State) (e : Engine) : State :=
  let s := engStart s e
  let x := s.eng e
  s.setEng e { x with fault := 0, restarts := [] }

/-- The restarts of an engine after faults within the last 60 s (R278). -/
def State.recentFaultRestarts (s : State) (e : Engine) : List Nat :=
  (s.eng e).restarts.filter fun t => decide (s.now < t + 60 * 80000000)

/-- A fault (R278): recorded, the flag raised, and FAULT_ACT. The answer: the node enters SAFE. -/
def engFaultCore (s : State) (e : Engine) (code : Nat) : Bool × State :=
  let x := s.eng e
  let s := s.setEng e { x with
    st := .faulted, fault := code, fpc := x.pc, fpcPage := x.page, wait := none, haltReq := false, stepping := false
    haltHeld := false }
  let s := s.raiseFlt fltEngine
  match s.fld (Fld.ENG_CTL_FAULT_ACT e.idx) with
  | 1 =>
    let recent := s.recentFaultRestarts e
    if recent.length < 3 then
      let s := engStart s e
      (false, s.setEng e { s.eng e with restarts := s.now :: recent })
    else (false, s)
  | 2 => (true, s)
  | _ => (false, s)

/-- The part stops the engines: in OFF, SHIP and WATCH they are unpowered (R265). -/
def enginesOff (s : State) : State := s.forEach engines engStop

/-- A rail step is in progress, and the engine is RAIL: it does not halt (R282). -/
def State.haltWaits (s : State) (e : Engine) : Bool := e == .rail && s.rail.seq.issued

/-- An instruction boundary: RUN = 0 stops the engine, HALT or a step's end halts it; RAIL halts only while no rail step
is in progress, else at that step's end (R282). -/
def engBoundary (s : State) (e : Engine) : State :=
  let x := s.eng e
  if x.st != .running then s
  else if !s.engRun e then engStop s e
  else if x.haltReq || x.stepping then
    if s.haltWaits e then s.setEng e { x with haltReq := false, stepping := false, haltHeld := true }
    else s.setEng e { x with st := .halted, haltReq := false, stepping := false }
  else s

/-! ### The frame of an instruction -/

/-- What an instruction comes to. -/
inductive EngOut where
  /-- It completes; PC goes on, or to an index. -/
  | next (s : State) | jump (s : State) (pc : Nat)
  /-- A wait begins, or the engine has stopped itself. -/
  | waits (s : State)
  | fault (code : Nat)

/-- The instruction completes: PC, the count, and the boundary. -/
def engComplete (s : State) (e : Engine) (pc : Nat) : State :=
  let x := s.eng e
  engBoundary (s.setEng e { x with pc := pc % 8192, instrs := (x.instrs + 1) % 2 ^ 32, passBp := false }) e

/-- A HALT that waited for an instruction boundary meets the wait the instruction began: the engine halts at once (R282). -/
def waitHalts (s : State) (e : Engine) : State :=
  let x := s.eng e
  if x.st = .waiting ∧ x.haltReq = true then
    s.setEng e (if s.haltWaits e then { x with haltReq := false, haltHeld := true } else { x with st := .halted, haltReq := false })
  else s

/-- The breakpoint registers of an engine. -/
def State.breakpoints (s : State) (e : Engine) : List Half :=
  [Reg.ENG_BP0, Reg.ENG_BP1, Reg.ENG_BP2, Reg.ENG_BP3].map fun r => s.reg (r e.idx)

/-- An enabled breakpoint stands at PC and was not just passed (R283). -/
def State.atBreakpoint (s : State) (e : Engine) : Bool :=
  let x := s.eng e
  !x.passBp && (s.breakpoints e).any fun b => b.getLsbD 15 && b.toNat % 8192 == x.pc

/-- A data access of `n` bytes meets an enabled watchpoint: the engine halts after it (R283). KIND bit 0 read, bit 1
write. -/
def watch (s : State) (e : Engine) (a n : Nat) (write : Bool) : State :=
  let hit (lo hi : Nat) : Bool :=
    let h := s.reg hi
    let at' := s.regN lo + 65536 * (h.toNat % 4)
    h.getLsbD 15 && h.getLsbD (if write then 14 else 13) && decide (a ≤ at') && decide (at' < a + n)
  if hit (Reg.ENG_WP0_LO e.idx) (Reg.ENG_WP0_HI e.idx) || hit (Reg.ENG_WP1_LO e.idx) (Reg.ENG_WP1_HI e.idx) then
    s.setEng e { s.eng e with haltReq := true }
  else s

/-- The engine runs the instruction at PC if its opcode is `op` (and `pick` holds): fetch parity, breakpoint, and the
outcome. The answer names a fault. An engine that does not run, or whose next instruction is another, is left as it is
(log entry 37); a reserved opcode faults whatever instruction was named. -/
def engInstr (s : State) (e : Engine) (op : Nat) (pick : Word → Bool) (body : Word → Eng → EngOut) : Option Nat × State :=
  let x := s.eng e
  if x.st != .running then (none, s)
  else if s.atBreakpoint e then
    (none, s.setEng e (if s.haltWaits e then { x with haltReq := false, stepping := false, haltHeld := true }
      else { x with st := .halted, haltReq := false, stepping := false, passBp := true }))
  else if x.wordBad x.pc then (some efParity, s)
  else
    let w := x.word x.pc
    if opReserved (wOp w) then (some efIllegal, s)
    else if wOp w != op || !pick w then (none, s)
    else match body w x with
      | .next s => (none, engComplete s e (x.pc + 1))
      | .jump s pc => (none, engComplete s e pc)
      | .waits s => (none, waitHalts s e)
      | .fault c => (some c, s)

/-- The engine's own record changes and the instruction completes. -/
def engNext (s : State) (e : Engine) (x : Eng) : EngOut := .next (s.setEng e x)

/-! ### Waits (R273, R274, R303 to R305) -/

/-- The condition of a wait holds in this tick. -/
def State.waitMet (s : State) (x : Eng) (w : Wait) : Bool :=
  match w.kind with
  | .event => x.latch &&& w.mask != 0
  | _ => w.latched || s.crossed w

/-- A wait ends: its result, the flags, and the instruction's completion. -/
def waitEnd (s : State) (e : Engine) (w : Wait) (r : Word) (timeout : Bool) : State :=
  let x := s.eng e
  let x := { (x.set w.rd r).zn r with
    n := false, c := timeout, v := w.kind == .timebase && w.late && !timeout, wait := none, st := .running
    latch := if w.kind = .event ∧ !timeout then x.latch &&& ~~~w.mask else x.latch }
  engComplete (s.setEng e x) e (x.pc + 1)

/-- The wait's condition is met: it completes (R274). -/
def waitComplete (s : State) (e : Engine) : State :=
  let x := s.eng e
  match x.wait with
  | some w =>
    if x.st == .waiting && s.waitMet x w then
      waitEnd s e w (if w.kind = .event then x.latch &&& w.mask else 1) false
    else s
  | none => s

/-- The timeout expires; in one tick with the condition, the condition wins (R305). -/
def waitTimeout (s : State) (e : Engine) : State :=
  let x := s.eng e
  match x.wait with
  | some w =>
    if x.st != .waiting || w.limit = 0 then s
    else if s.waitMet x w then waitComplete s e
    else waitEnd s e w 0 true
  | none => s

/-- What the end of a tick does to an engine's wait: a crossing met while halted is latched, by a step of the timebase too,
and the issue tick is over (R173, R274, R305). -/
def waitTick (s : State) (e : Engine) : State :=
  let x := s.eng e
  match x.wait with
  | some w =>
    let hit := x.st == .halted && w.kind != .event && s.waitMet x w
    s.setEng e { x with wait := some { w with latched := w.latched || hit, done := false } }
  | none => s

/-! ### Debug (R281, R282) -/

/-- RESUME continues from PC; a wait in progress goes on. -/
def engResume (s : State) (e : Engine) : State :=
  let x := s.eng e
  if x.st != .halted then s
  else s.setEng e { x with st := if x.wait.isSome then .waiting else .running, haltReq := false, stepping := false, haltHeld := false }

def engHalt (s : State) (e : Engine) : State :=
  let x := s.eng e
  match x.st with
  | .waiting => s.setEng e (if s.haltWaits e then { x with haltHeld := true } else { x with st := .halted })
  | .running => s.setEng e { x with haltReq := true }
  | _ => s

def engStep (s : State) (e : Engine) : State :=
  let x := s.eng e
  if x.st != .halted then s
  else s.setEng e { x with st := if x.wait.isSome then .waiting else .running, haltReq := false, stepping := true, passBp := true }

/-- A switch, a rollback or the closing of the debug fields clears breakpoints and watchpoints (R281, R283). -/
def clearBreaks (s : State) (e : Engine) : State :=
  s.forEach [Reg.ENG_BP0, Reg.ENG_BP1, Reg.ENG_BP2, Reg.ENG_BP3, Reg.ENG_WP0_LO, Reg.ENG_WP0_HI, Reg.ENG_WP1_LO, Reg.ENG_WP1_HI]
    fun s r => s.setReg (r e.idx) 0

/-- The debug fields close (R281). -/
def dbgClose (s : State) : State :=
  if !s.dbgOpen then { s with dbgKeyArmed := false }
  else
    let s := { s with dbgOpen := false, dbgPin := false, dbgKeyArmed := false }
    s.forEach engines fun s e => engResume (clearBreaks s e) e

/-- A write to ENG_DBG_KEY (R281): 0xD0B6 then 0x4E11 within 100 µs, in SERVICE or UPDATE, opens; any other value
closes. -/
def dbgKey (s : State) (v : Half) (pin : Bool) : State :=
  let mode := s.mode == .service || s.mode == .update
  let within : Bool := match s.timers.find? fun p => p.1 == .dbgKey with
    | some (_, t) => decide (s.now ≤ t + 8000)
    | none => false
  if v == 0xD0B6 then ({ s with dbgKeyArmed := true }).startTimer .dbgKey
  else if v == 0x4E11 then
    if s.dbgKeyArmed && within && mode then { s with dbgOpen := true, dbgPin := pin, dbgKeyArmed := false }
    else { s with dbgKeyArmed := false }
  else dbgClose s

/-! ### Pages at a profile switch (R276) -/

/-- The staging page becomes the running page and the old page the shadow. -/
def engSwap (s : State) (e : Engine) : State :=
  let x := s.eng e
  let s := s.setEng e { x with
    page := 1 - x.page, len := x.stagedLen, own := x.stagedOwn, shadowLen := x.len, shadowOwn := x.own
    shadow := true, staged := false }
  clearBreaks (if s.engRun e && x.st != .stopped then engStart s e
    else s.setEng e { s.eng e with pc := 0, g := [], wait := none, latch := 0 }) e

/-- ROLLBACK swaps the pages back. -/
def engSwapBack (s : State) (e : Engine) : State :=
  let x := s.eng e
  if !x.shadow then s
  else
    let s := s.setEng e { x with page := 1 - x.page, len := x.shadowLen, own := x.shadowOwn, shadow := false }
    clearBreaks (if s.engRun e && x.st != .stopped then engStart s e
      else s.setEng e { s.eng e with pc := 0, g := [], wait := none, latch := 0 }) e

def engDropShadow (s : State) (e : Engine) : State := s.setEng e { s.eng e with shadow := false }

end Sys2Proof.Machine
end

