-- ==== Sys2Proof/Machine/StOps.lean ====
section
/-!
DEFINITION. Self-test (spec/16), without the mode changes: the unlock, the catalogue, taking blocks out of service and
back, verdicts and their consequences, and the background rotation.
-/
namespace Sys2Proof.Machine

/-! ### The unlock (R404, R405) -/

/-- Key writes are taken in STANDBY outside a lockout. -/
def State.stKeysTaken (s : State) : Bool := s.mode == .standby && !s.flag Fld.ST_STATUS_LOCKOUT

/-- An unlock failure; the third in a row locks out for 60 s. -/
def stKeyFailure (s : State) : State :=
  let n := s.st.failures + 1
  let s := { s with st := { s.st with keyAt := none, failures := if n < 3 then n else 0 } }
  if n < 3 then s else (s.setFlag Fld.ST_STATUS_LOCKOUT true).startTimer .stLockout

def stKeyA (s : State) (v : Half) : State :=
  if !s.stKeysTaken then s
  else if v = 0x5E1F then { s with st := { s.st with keyAt := some s.now } }
  else stKeyFailure s

def stKeyB (s : State) (v : Half) : State :=
  if !s.stKeysTaken then s
  else
    let inTime : Bool := match s.st.keyAt with
      | some t => decide (s.now ≤ t + 8000)
      | none => false
    if v == 0xA1E0 && inTime then
      let s := { s with st := { s.st with keyAt := none, failures := 0 } }
      (s.setFlag Fld.ST_STATUS_UNLOCKED true).startTimer .stUnlock
    else stKeyFailure s

/-- The unlock closes. -/
def stLock (s : State) : State := (s.setFlag Fld.ST_STATUS_UNLOCKED false).stopTimer .stUnlock

/-- The lockout ends. -/
def stLockoutEnd (s : State) : State :=
  ({ s with st := { s.st with failures := 0 } }.setFlag Fld.ST_STATUS_LOCKOUT false).stopTimer .stLockout

/-! ### The catalogue (R401, R402, R408) -/

/-- Patterns of a full run; LOOP's for `ports` ports. -/
def stPatterns (t ports : Nat) : Nat :=
  match t with
  | 0 | 1 => 16384
  | 2 => 688128
  | 3 | 4 => 917504
  | 5 => 3670016
  | 6 => 112
  | 7 => 128
  | 8 => 82
  | 9 => 16
  | 10 => 4096 * ports
  | _ => 17

/-- The ports LOOP tests: selected in ST_PORTS, with EN = 1. -/
def State.stLoopPorts (s : State) : List Nat := (List.range 6).filter fun p => (s.reg Reg.ST_PORTS).getLsbD p && s.portOn p

/-- The test applies to the node (R402). -/
def State.stApplies (s : State) (t : Nat) : Bool :=
  match t with
  | 5 => s.isRoot
  | 10 => !s.stLoopPorts.isEmpty
  | 11 => s.storeOn
  | _ => decide (t < 12)

def State.stSelected (s : State) : List Nat := (List.range 12).filter fun t => (s.reg Reg.ST_SEL).getLsbD t

def vNotRun : Nat := 0
def vPass : Nat := 1
def vFail : Nat := 2
def vIncomplete : Nat := 3
def vSkipped : Nat := 4
def vRunning : Nat := 5

def setVerdict (s : State) (t v : Nat) : State := s.setReg (Reg.ST_RES0 t) (BitVec.ofNat 16 (s.regN Reg.ST_RUN % 256 * 256 + v))

/-- COUNT, SIG and EXP of a result. -/
def setResult (s : State) (t count : Nat) (sig exp : Word) : State :=
  let s := s.setPair (Reg.ST_RES1 t) (Reg.ST_RES2 t) count
  let s := s.setPair (Reg.ST_RES3 t) (Reg.ST_RES4 t) sig.toNat
  s.setPair (Reg.ST_RES5 t) (Reg.ST_RES6 t) exp.toNat

/-! ### Blocks under test (R407, R411) -/

/-- The engines stand still while they, their memories, or a subsystem they call are under test: the measurements, the frame
buffers, the mirror, the store (R280, R411). The background items stop none (log entry 64). -/
def stStopsEngines (t : Nat) : Bool := decide (t ≤ 7) || t == 11

/-- The segments, groups, converters and monitors a test takes one after another (R401): the one under test so many ticks after
its beginning, in equal shares of the typical duration (log entry 64). -/
def stPart (t ticks : Nat) : Nat :=
  match t with
  | 5 => min 63 (ticks / 58125)
  | 6 => if ticks < 192000 then 0 else if ticks < 411429 then 1 else if ticks < 603429 then 2 else 3
  | 7 => if ticks < 328000 then 0 else 1
  | 8 => min 40 (ticks / 4000)
  | _ => 0

/-- The main-path endpoints of a part of LBIST_ACQ or INJ_MAIN. -/
def stEndpoints (t part : Nat) : List Nat := (List.range 32).filter fun e => t == 1 || calGroup e == part

/-- A part of a test's blocks leaves service. -/
def stTakePart (s : State) (t part : Nat) : State :=
  let s := { s with st := { s.st with part := part } }
  match t with
  | 1 | 6 =>
    -- what the main path was converting is abandoned (R60)
    let eps := stEndpoints t part
    let s := { s with acq := { s.acq with test := eps } }
    s.forEach eps fun s e =>
      (s.setChan e { s.chan e with sum := 0, windows := 0, fresh := false, forReq := false }).setSecChan e
        { s.secChan e with forReq := false, sinceLatch := false }
  | 7 => if part = 0 then { s with acq := { s.acq with sarATest := true } } else { s with acq := { s.acq with sarBTest := true } }
  | 8 => { s with mon := { s.mon with test := [part] } }
  | _ => s

/-- A part of a test's blocks returns to service (R411). -/
def stReturnPart (s : State) (t part : Nat) : State :=
  match t with
  | 1 | 6 =>
    let eps := stEndpoints t part
    let s := { s with acq := { s.acq with test := [], after := eps ++ s.acq.after.filter (!eps.contains ·) } }
    let s := s.forEach eps fun s e => restartChan s e false
    if t = 1 ∨ part = 2 then restartAux s else s
  | 7 => { s with acq := { s.acq with sarATest := false, sarBTest := false } }
  | 8 => s.forEach s.mon.test fun s m => ({ s with mon := { s.mon with test := s.mon.test.filter (· != m) } }).monUnsettle m
  | _ => s

/-- The test in progress comes to its next part (R401). -/
def stAdvance (s : State) : State :=
  match s.st.cur with
  | some t =>
    let p := stPart t (s.now - s.st.since)
    if p = s.st.part then s else stTakePart (stReturnPart s t s.st.part) t p
  | none => s

/-- LOOP takes the next port (R407): a member's A0 or A1 waits for the half that ends at the node through its other
port; a port of a ring the node heads begins at once, the ring served as one half through the other port, and so does a Lane
port of a node that does not head the Lane, which is a member's port of no ring. -/
def State.loopReady (s : State) (p : Nat) : Bool :=
  portRing p != 0 || s.heads 0 || (s.flag Fld.MEMB_END && s.half == (if p = 0 then 1 else 2))

def loopPortStart (s : State) (p : Nat) : State :=
  let r := portRing p
  let s := { s with st := { s.st with tested := s.st.tested ++ [p], dirs := keyPut s.st.dirs p (s.dir p) } }
  let s := (s.setFlag Fld.ST_STATUS_LOOP_WAIT false).setFlag (Fld.LP_STATUS_LOOP p) true
  let n := (s.ring r).members.length
  let s := if s.heads r && n != 0 then (if p = txPort r then halve s r 0 1 0 true else halve s r n (n + 1) 0 true) else s
  setDir s p 0

/-- No port is in loopback (LP*p*_STATUS). -/
def loopOver (s : State) : State := s.forEach (List.range 6) fun s p => s.setFlag (Fld.LP_STATUS_LOOP p) false

/-- The ports still to test: the next one starts or waits; none is left: LOOP can end. -/
def loopNext (s : State) : State :=
  match s.st.ports with
  | [] => loopOver { s with st := { s.st with port := none } }
  | p :: rest =>
    let s := loopOver { s with st := { s.st with ports := rest, port := some p } }
    if s.loopReady p then loopPortStart s p
    else s.setFlag Fld.ST_STATUS_LOOP_WAIT true

/-- MEMB changed: a port that waits for its half starts. -/
def loopCheck (s : State) : State :=
  match s.st.port with
  | some p => if s.flag Fld.ST_STATUS_LOOP_WAIT && s.loopReady p then loopPortStart s p else s
  | none => s

/-- LOOP ends: the directions are restored, and the rings the node heads are re-formed. -/
def loopRestore (s : State) : State :=
  let s := loopOver (s.setFlag Fld.ST_STATUS_LOOP_WAIT false)
  let ports := s.st.tested
  let s := s.forEach [0, 1, 2] fun s r =>
    if ports.any fun p => portRing p == r then
      if s.heads r then
        -- both ports face the ring's two halves until it is re-formed
        if s.inHalves r then ringReform ((setDir s (txPort r) 1).setFld (Fld.LP_STATUS_DIR (rxPort r)) 1) r
        else ringDirection s r false
      else if r = 0 then memberDirection s
      else s.forEach (ports.filter (portRing · == r)) fun s p => setDir s p (sparseGet s.st.dirs 0 p)
    else s
  { s with st := { s.st with ports := [], port := none, dirs := [] } }

/-- A test takes its blocks out of service. -/
def stTake (s : State) (t : Nat) : State :=
  let s := if stStopsEngines t then enginesOff s else s
  let s := { s with st := { s.st with since := s.now } }
  match t with
  | 1 | 6 =>
    -- the main path is powered for the test (R515)
    stTakePart (showQuiet { s with acq := { s.acq with powered := true } }) t 0
  | 9 => { s with th := { s.th with sensorTest := true } }
  | 10 => loopNext { s with st := { s.st with ports := s.stLoopPorts, port := none, skipped := [], tested := [] } }
  | _ => stTakePart s t 0

/-- A test's blocks return to service (R411); engines that it stopped start again (R280). -/
def stReturn (s : State) (t : Nat) : State :=
  let s := { s with st := { s.st with cur := none } }
  let s := if stStopsEngines t then s.forEach engines fun s e => if s.engRun e then engStart s e else s else s
  match t with
  | 1 | 6 => acqPowerCheck (stReturnPart s t s.st.part)
  | 9 => transferPermissions (thermalInit { s with th := { s.th with sensorTest := false } })
  | 10 => loopRestore s
  | _ => stReturnPart s t s.st.part

/-! ### Verdicts and their consequences (R409, R412) -/

/-- ST_FAULT shows the endpoints that failed either main-path test. -/
def showStFault (s : State) : State := s.setPair Reg.ST_FAULT_LO Reg.ST_FAULT_HI (s.st.epFail1 ||| s.st.epFail6).toNat

/-- A list of numbers as a 32-bit map. -/
def mapOf (l : List Nat) : BitVec 32 := l.foldl (fun m i => if i < 32 then m ||| (1#32 <<< i) else m) 0

/-- The consequence of a FAIL, or with `fail` false the end of all of the test's earlier ones on a PASS. `failing`:
endpoints, converters (0 SAR A, 1 SAR B) or monitors that failed. -/
def stConsequence (s : State) (t : Nat) (fail : Bool) (failing : List Nat) : State :=
  match t with
  | 0 => { s with st := { s.st with engFail := fail } }
  | 1 => showStFault { s with st := { s.st with epFail1 := if fail then s.st.epFail1 ||| mapOf failing else 0 } }
  | 2 | 3 | 4 | 5 => if fail then { s with st := { s.st with marchFail := true } } else s
  | 6 => showStFault { s with st := { s.st with epFail6 := if fail then s.st.epFail6 ||| mapOf failing else 0 } }
  | 7 => { s with acq := { s.acq with
    sarAFail := fail && (s.acq.sarAFail || failing.contains 0), sarBFail := fail && (s.acq.sarBFail || failing.contains 1) } }
  | 8 =>
    let now := s.mon.failed ++ failing.filter fun m => decide (m < 4) && !s.mon.failed.contains m
    { s with mon := { s.mon with failed := if fail then now else [] } }
  | 9 =>
    -- whatever set SENSOR_FAIL, a PASS clears it (R382)
    let s := if fail then s else { s with th := { s.th with outside := 0 } }
    if s.flag Fld.TH_STATUS_SENSOR_FAIL = fail then s else thermalEvent (s.setFlag Fld.TH_STATUS_SENSOR_FAIL fail)
  | _ => s

/-- A FAIL of test `t`: captured for the first-fault log, and its flag raised (R412, R492). -/
def stFail (s : State) (t : Nat) : State := (captureFault s 10 (0x40 + t) 255).raiseFlt fltSelftest

/-- The signature register after its last step, which feeds in the count of patterns (R408): a multiple-input register takes an
input by exclusive-or (log entry 182). -/
def foldCount (response : Word) (count : Nat) : Word := response ^^^ BitVec.ofNat 32 count

/-- EXP: the signature of a full run with every check passed, from what profile F holds for it. -/
def testExp (t : Nat) (ports : List Nat) : Word :=
  foldCount (Config.testResponse t (ports.foldl (fun m p => m + 2 ^ p) 0)) (stPatterns t ports.length)

/-- SIG of a test cut short cannot equal EXP (R409). -/
def cutSig (sig exp : Word) : Word := if sig = exp then sig + 1 else sig

/-- The verdict of the test in progress (R409), and its blocks' return. `response`: the signature register before its last
step. -/
def stVerdict (s : State) (t count : Nat) (response : Word) (failing : List Nat) : State :=
  let ports := if t = 10 then s.st.tested else []
  let full := stPatterns t ports.length
  let n := min count full
  let exp := testExp t ports
  let sig := foldCount response n
  if t = 10 ∧ ports = [] then stReturn (setVerdict s t vSkipped) t
  else if n < full then stReturn (setVerdict (setResult s t n (cutSig sig exp) exp) t vIncomplete) t
  else
    let s := setResult s t n sig exp
    if sig = exp then stReturn (stConsequence (setVerdict s t vPass) t false []) t
    else
      let s := (setVerdict s t vFail).setFlag Fld.ST_STATUS_FAILED true
      stReturn (stConsequence (stFail s t) t true failing) t

/-- The test in progress is cut at the end of its pattern: its count is free below a full run's, and its signature any but EXP
(R409, R410). -/
def stCutTest (s : State) (t : Nat) : State :=
  let ports := if t = 10 then s.stLoopPorts else []
  let (n, s) := s.drawBelow (stPatterns t (max 1 (s.st.tested.length + s.st.ports.length)))
  let (x, s) := s.draw
  let exp := testExp t ports
  stReturn (setVerdict (setResult s t n (cutSig (x.setWidth 32) exp) exp) t vIncomplete) t

/-! ### The sequence, without its modes (R406, R410) -/

/-- The sequence takes the next test that applies; those that do not are SKIPPED. -/
def stNextFrom (s : State) : List Nat → State
  | [] => { s with st := { s.st with left := [], cur := none } }
  | t :: rest =>
    if s.stApplies t then
      let s := { s with st := { s.st with left := rest, cur := some t } }
      let s := (setVerdict s t vRunning).setFld Fld.ST_STATUS_CUR t
      stTake s t
    else stNextFrom (setVerdict s t vSkipped) rest

def stNext (s : State) : State := stNextFrom s s.st.left

/-- The cause that refuses a START (R406); 0 for none. -/
def State.stRefusal (s : State) : Nat :=
  let gap := s.fld Fld.ST_LIMIT_MIN_GAP * second
  let hour := s.st.starts.filter fun t => decide (s.now < t + 3600 * second)
  let close : Bool := match s.st.starts with
    | t :: _ => decide (s.now < t + gap)
    | [] => false
  if !s.flag Fld.ST_STATUS_UNLOCKED then 1
  else if s.mode != .standby then 2
  else if close || decide (s.fld Fld.ST_LIMIT_MAX_HOUR ≤ hour.length) then 3
  else if s.stSelected.all fun t => !s.stApplies t then 4
  else 0

/-- An accepted START up to its mode change: the run is counted and the results reset. -/
def stBegin (s : State) : State :=
  let s := s.incWrap Reg.ST_RUN
  let sel := s.stSelected
  let s := s.forEach (List.range 12) fun s t =>
    setVerdict (s.setPair (Reg.ST_RES1 t) (Reg.ST_RES2 t) 0) t (if sel.contains t then vNotRun else vSkipped)
  let s := s.setFlag Fld.ST_STATUS_READY false
  let s := s.setFlag Fld.ST_STATUS_FAILED false
  let s := s.setFld Fld.ST_STATUS_REFUSE 0
  let s := s.setFld Fld.ST_STATUS_STATE 1
  { s with st := { s.st with left := sel, cur := none, abort := false, marchFail := false
                             starts := s.now :: s.st.starts.filter fun t => decide (s.now < t + 3600 * second) } }

/-- The sequence is cut short (R410), its mode aside. -/
def stCut (s : State) : State :=
  if s.fld Fld.ST_STATUS_STATE = 0 then s
  else
    let s := match s.st.cur with
      | some t => stCutTest s t
      | none => s
    let s := { s with st := { s.st with left := [], cur := none, held := false } }
    let s := s.setFlag Fld.ST_STATUS_ABORTED true
    s.setFld Fld.ST_STATUS_STATE 0

/-! ### Background rotation (R413) -/

def stBackgroundModes : Mode → Bool
  | .active | .balance | .service | .standby | .safe => true
  | _ => false

/-- The item waits: any for a pin test that runs (R77), the calibration converter and a monitor for a calibration slot, which
uses the converter and, in group 3, the monitors (R386, R413). -/
def State.bgWaits (s : State) (item : Nat) : Bool :=
  s.wd.phase != .idle ||
  match item with
  | 2 => !s.acq.calGroups.isEmpty
  | 3 => s.acq.calGroups.contains 3
  | _ => false

/-- The rotation's timer is over: the next item starts, or waits until its block is free (R413). -/
def bgStart (s : State) : State :=
  let item := s.st.bgNext
  if !s.flag Fld.ST_CTL_BG_EN || !stBackgroundModes s.mode || s.st.bg.isSome then s
  else if s.bgWaits item then { s with st := { s.st with bgDue := true } }
  else
    let s := { s with st := { s.st with bg := some item, bgNext := (item + 1) % 4, bgDue := false } }
    let s := (s.setFld Fld.ST_BG_LAST item).startTimer .stBackground
    match item with
    | 0 => { s with acq := { s.acq with sarATest := true } }
    | 1 => { s with acq := { s.acq with sarBTest := true } }
    | 2 => s
    | _ =>
      let m := s.st.bgMon
      let s := { s with mon := { s.mon with test := [m] }, st := { s.st with bgMon := if m = 40 then 4 else m + 1 } }
      s.setFld Fld.ST_BG_MON m

/-- The block of an item returns to service, its verdict given. -/
def bgEnd (s : State) (pass : Bool) : State :=
  match s.st.bg with
  | none => s
  | some item =>
    let s := { s with st := { s.st with bg := none } }
    let s := match item with
      | 0 => { s with acq := { s.acq with sarATest := false, sarAFail := !pass } }
      | 1 => { s with acq := { s.acq with sarBTest := false, sarBFail := !pass } }
      | 2 => s
      | _ => s.forEach s.mon.test fun s m => ({ s with mon := { s.mon with test := [] } }).monUnsettle m
    if pass then s
    else
      let s := s.setFlag Fld.ST_BG_BG_FAIL true
      if item = 2 then
        -- the calibration converter is no test of the catalogue, so the spec gives its capture no code
        let (code, s) := s.drawBelow 256
        (captureFault s 10 code 255).raiseFlt fltSelftest
      else stFail s (if item < 2 then 7 else 8)

/-- An item that waited starts once its block is free. -/
def bgResume (s : State) : State := if s.st.bgDue then bgStart s else s

/-- An item cut short by a mode that runs none: its block returns without a verdict. -/
def bgStop (s : State) : State :=
  let s := { s with st := { s.st with bgDue := false } }
  match s.st.bg with
  | none => s
  | some item =>
    let s := { s with st := { s.st with bg := none } }
    match item with
    | 0 => { s with acq := { s.acq with sarATest := false } }
    | 1 => { s with acq := { s.acq with sarBTest := false } }
    | 2 => s
    | _ => s.forEach s.mon.test fun s m => ({ s with mon := { s.mon with test := [] } }).monUnsettle m

end Sys2Proof.Machine
end

