-- ==== Sys2Proof/Machine/ModeOps.lean ====
section
/-!
DEFINITION. The modes (spec/19): what a change of mode does to every subsystem, entry to SAFE, requests, the shutdown
order, and the ends that lead back (R454 to R460).
-/
namespace Sys2Proof.Machine

/-- A transfer into a profile ends with an error (R476): its operations not yet started are dropped. -/
def updFail (s : State) (err : Nat) : State :=
  let st := s.fld Fld.UPD_STATUS_STATE
  if st = 1 ∨ st = 2 ∨ st = 3 then
    let keep := s.fla.queue.filter fun r => match r with | .update _ => false | _ => true
    let mine : Bool := match s.fla.cur with | some (.update _) => true | _ => false
    let s := { s with
      fla := { s.fla with
        queue := keep
        cur := if mine && !s.fla.busy then none else s.fla.cur
        ops := if mine then s.fla.ops.take s.fla.busy.toNat else s.fla.ops }
      upd := { s.upd with committing := false } }
    (s.setFld Fld.UPD_STATUS_STATE 5).setFld Fld.UPD_STATUS_ERR err
  else s

/-- What leaving the present mode for `m` ends: the unlocks of STANDBY, SERVICE and UPDATE, the debug fields, a
transfer, a running calibration, and the plans (R106, R138, R281, R321, R395, R404, R476). -/
def leaveMode (s : State) (m : Mode) : State :=
  let toCal := m == .calibrate && s.mc.calEnter
  let s := if toCal then s else calAbort s (s.mode == .calibrate)
  let s := if s.bal.running.isSome && m != .balance && m != .calibrate then (if modeAsleep m then balEndPlan s else balStop s)
    else if m == .balance then s else balGatesOff s
  let s := { s with bal := { s.bal with leaving := false } }
  -- a plan prepared after DONE outlasts the return to ACTIVE (R105)
  let s := if (s.mode == .spectrum && !s.imp.ended) || !(m == .active || m == .balance || m == .spectrum) then impAbort s else s
  let s := { s with imp := { s.imp with leaving := false, ended := false } }
  match s.mode with
  | .standby => stLock (if m == .selftest || !s.st.held then s else stCut s)
  | .service =>
    dbgClose ({ s with hs := { s.hs with keyAt := none } }.setFlag Fld.HS_STATUS_KEY_OPEN false)
  | .update => dbgClose (updFail { s with upd := { s.upd with keyAt := none, unlocked := false } } 7)
  | _ => s

/-- What OFF, SHIP and WATCH switch off (R265, R352, R460): engines, rails, link transmitters and the session keys. -/
def fallAsleep (s : State) : State :=
  let s := alyAsleep (railsAsleep (enginesOff (wdDrop s)))
  dropKeys (s.forEach (List.range 6) fun s p => setDir s p 0)

/-- The node's mode changes: the interrupt source, line 15 of the engines, and every rule that depends on the mode. -/
def setMode (s : State) (m : Mode) : State :=
  if s.mode = m then s
  else
    let cal := s.mode == .calibrate || m == .calibrate
    let s := leaveMode s m
    let s := { s with mode := m }
    let s := if stBackgroundModes m then s else bgStop s
    let s := (s.raiseIrq irqMode).fireAll lineMode
    let s := acqPowerCheck (monModeChange s)
    let s := if modeAsleep m then fallAsleep s else s
    (showDacs (showDrive (showCalMode s))).when cal transferPermissions

/-! ### SAFE (R458, R459) -/

/-- An entry to CALIBRATE that has not come is given up: the run goes on without FULL, in whatever mode allows it. -/
def calStay (s : State) : State :=
  if s.mc.calEnter then { s with cal := { s.cal with full := false }, mc := { s.mc with calEnter := false } } else s

/-- A cause of SAFE. In BOOT it waits for step MODE, and in WATCH BOOT runs first (R457; log entry 128); during the shutdown
order, and in OFF and SHIP, no mode changes. -/
def enterSafe (s : State) (bit : Nat) : State :=
  if s.mode = .off ∨ s.mode = .ship then s
  else
    let s := s.setBits Reg.SAFE_CAUSE (bit16 bit)
    if s.mode = .watch then (hardReset s (s.regN Reg.RESET_CAUSE)).setBits Reg.SAFE_CAUSE (bit16 bit)
    else if s.mode = .boot ∨ s.mode = .safe ∨ s.mc.shutdown.isSome then s
    else
      let s := captureFault s 1 bit 255
      let s := calStay { s with mc := { s.mc with pend := none } }
      let s := if s.mode = .selftest then stCut s else s
      railsSafe (setMode s .safe)

/-- An engine's fault (R278), with the SAFE entry its FAULT_ACT names. -/
def engineFault (s : State) (e : Engine) (code : Nat) : State :=
  let (safe, s) := engFaultCore s e code
  if safe then enterSafe s 2 else s

/-- A write of 1 to SAFE_CAUSE: a bit whose cause persists stays (R459). -/
def safeCauseClear (s : State) (v : Half) : State :=
  let keep (c : Bool) (i : Nat) : Half := if c then bit16 i else 0
  let stay := keep (s.flag Fld.TH_STATUS_SHUT) 1
    ||| keep (engines.any fun e => s.fld (Fld.ENG_CTL_FAULT_ACT e.idx) == 2 && (s.eng e).st == .faulted) 2
    ||| keep ((List.range 12).any fun n => s.fld (Fld.RAIL_CFG_ACT n) == 3 && s.railSt n == rsLocked) 3
  s.clearBits Reg.SAFE_CAUSE (v &&& 0x00FF &&& ~~~stay)

/-! ### The shutdown order (R460) -/

/-- The writes of the order have ended: no page buffer filling, full or being programmed, and no permitted write of
the internal flash waiting. -/
def State.shutdownWritten (s : State) : Bool :=
  s.hs.full.isEmpty && s.hs.filling.all (·.isNone) && s.hs.op.isNone &&
  (!s.flashPermitted || (s.fla.queue.isEmpty && s.fla.pending.isEmpty && s.fla.cur.isNone))

/-- Steps 3 and 4 begin once the power-down table has ended. -/
def shutdownAdvance (s : State) : State :=
  if s.mc.shutdown.isSome && !s.mc.writing && s.seqKind == 0 then
    (storeFlush { s with mc := { s.mc with writing := true } }).startTimer .shutdownLimit
  else s

/-- Steps 1 and 2. -/
def shutdownStart (s : State) (m : Mode) : State :=
  if s.mc.shutdown.isSome then { s with mc := { s.mc with shutdown := some m } }
  else
    let s := calStay { s with mc := { s.mc with shutdown := some m, pend := none } }
    let s := calAbort (impAbort (balEndPlan s)) true
    shutdownAdvance (seqDown (wdStop s))

/-- Step 5: the node is in the mode the order leads to. -/
def shutdownEnd (s : State) : State :=
  match s.mc.shutdown with
  | some m =>
    if s.mc.writing && s.shutdownWritten then
      let s := { s with mc := { s.mc with shutdown := none, writing := false } }
      setMode (s.stopTimer .shutdownLimit) m
    else s
  | none => s

/-- What was not written within 1 s is lost. -/
def shutdownAbandon (s : State) : State :=
  if s.mc.shutdown.isSome && s.mc.writing then
    let s := { s with
      hs := { s.hs with full := [], filling := [none, none, none], op := none, ckptLeft := 0, ckptDue := false }
      fla := { s.fla with queue := [], pending := [], cur := none, ops := [], busy := false, clearWaits := false } }
    showFfl (showStore (s.setFlag Fld.IF_STATUS_BUSY false))
  else s

/-! ### Requests (R454 to R456) -/

/-- The modes R455 accepts a request in. -/
def requestFrom (target m : Mode) : Bool :=
  match target with
  | .off | .ship | .watch =>
    match m with
    | .standby | .active | .balance | .spectrum | .calibrate | .service | .update | .safe => true
    | _ => false
  | .standby =>
    match m with
    | .active | .balance | .spectrum | .calibrate | .service | .update | .safe => true
    | _ => false
  | .active =>
    match m with
    | .standby | .balance | .spectrum | .calibrate | .service | .safe => true
    | _ => false
  | .service =>
    match m with
    | .standby | .active | .balance | .spectrum => true
    | _ => false
  | .update =>
    match m with
    | .standby | .service => true
    | _ => false
  | .safe => m != .off && m != .ship
  | _ => false

/-- The codes a request may name; the others are refused with CODE. -/
def requestable : Nat → Bool
  | 1 | 2 | 3 | 4 | 5 | 10 | 11 | 12 => true
  | _ => false

def refuseRequest (s : State) (err : Nat) : State := s.setFld Fld.MODE_STATUS_REQ_ERR err

/-- An accepted request takes effect: leaving BALANCE, SPECTRUM and CALIBRATE is in `setMode`. -/
def applyRequest (s : State) (m : Mode) : State :=
  setMode (calStay { s with mc := { s.mc with pend := none } }) m

/-- A mode code written to REQ. -/
def modeRequest (s : State) (code : Nat) : State :=
  match Mode.ofCode code with
  | none => refuseRequest s 1
  | some m =>
    if !requestable code then refuseRequest s 1
    else if s.mode = .boot then { s with mc := { s.mc with held := some code } }
    else if !requestFrom m s.mode then refuseRequest s 2
    else if s.mode = .safe ∧ (m = .standby ∨ m = .active) ∧ s.reg Reg.SAFE_CAUSE ≠ 0 then refuseRequest s 3
    else if m = .safe then enterSafe s 0
    else
      match m with
      | .off | .ship | .watch => shutdownStart s m
      | _ =>
        -- a new request replaces one that has not taken effect, the shutdown order included
        let s := if s.mc.shutdown.isSome then endHold s else s
        let s := { s with mc := { s.mc with shutdown := none, writing := false } }
        if s.sweepsRun then { s with mc := { s.mc with pend := some m } } else applyRequest s m

/-! ### CALIBRATE (R392, R457) -/

/-- FULL: at the next boundary, or at once where no sweeps run, the node enters CALIBRATE. -/
def calEnter (s : State) : State :=
  if !s.mc.calEnter then s
  else if !s.cal.full then { s with mc := { s.mc with calEnter := false } }
  else
    match s.mode with
    | .active | .balance | .service | .standby =>
      let s := { s with mc := { s.mc with calFrom := s.mode } }
      let s := setMode s .calibrate
      { s with mc := { s.mc with calEnter := false } }
    | _ => { s with mc := { s.mc with calEnter := false } }

/-- The node leaves CALIBRATE at the boundary after the run has ended. -/
def calReturn (s : State) : State :=
  if s.mode = .calibrate ∧ !s.cal.running ∧ !s.cal.due then
    setMode s (if s.mc.calFrom = .balance ∧ s.bal.running.isNone then .active else s.mc.calFrom)
  else s

/-- FULL in CAL_CMD (R392, R395): a run due or in progress goes on in CALIBRATE. -/
def calFull (s : State) : State :=
  match s.mode with
  | .active | .balance | .service | .standby =>
    let s := calTrigger s 3
    let s := { s with cal := { s.cal with full := true }, mc := { s.mc with calEnter := true } }
    if s.sweepsRun then s else calEnter s
  | _ => s

/-- The modes that end at a boundary: BALANCE after its plan, SPECTRUM after its rounds or ABORT, CALIBRATE after its
run (R105, R106, R138, R457). -/
def endedModes (s : State) : State :=
  let s := if s.mode = .balance ∧ s.bal.leaving then setMode s .active else s
  let s := if s.mode = .spectrum ∧ s.imp.leaving then setMode s .active else s
  calReturn s

/-! ### Self-test's sequence (R406, R410) -/

/-- The sequence is over: back to STANDBY, or to SAFE after a failed march (R406, R412). -/
def stSequenceOver (s : State) : State :=
  let s := s.setFld Fld.ST_STATUS_STATE 0
  let s := if s.mode = .selftest then setMode s .standby else s
  if s.st.marchFail then enterSafe s 5 else s

/-- START (R406); while a pin test runs the sequence waits for its step 5 (R77). -/
def stStart (s : State) : State :=
  let e := s.stRefusal
  let s := stLock s
  if e ≠ 0 then s.setFld Fld.ST_STATUS_REFUSE e
  else if s.wd.phase != .idle then
    let s := stBegin s
    { s with st := { s.st with held := true } }
  else stNext (setMode (stBegin (bgStop s)) .selftest)

/-- The pin test a sequence waited for is over (R77). -/
def stResume (s : State) : State :=
  if s.st.held && s.wd.phase == .idle then stNext (setMode (bgStop { s with st := { s.st with held := false } }) .selftest) else s

/-- A test ends, the next one begins; after the last one READY sets. -/
def stTestEnd (s : State) (count : Nat) (sig : Word) (failing : List Nat) : State :=
  match s.st.cur with
  | none => s
  | some t =>
    if t = 10 ∧ s.flag Fld.ST_STATUS_LOOP_WAIT then s
    else if t = 10 ∧ s.st.ports ≠ [] then loopNext s
    else
      let s := stNext (stVerdict s t count sig failing)
      if s.st.cur.isSome then s
      else stSequenceOver ((s.setFlag Fld.ST_STATUS_READY true).raiseIrq irqSelftest)

/-- The wait for the half is over after 1 s: the port's part is SKIPPED (R407). -/
def loopWaitTimeout (s : State) : State :=
  match s.st.port with
  | some p =>
    if !s.flag Fld.ST_STATUS_LOOP_WAIT then s
    else
      let s := { s with st := { s.st with skipped := s.st.skipped ++ [p], port := none } }
      let s := s.setFlag Fld.ST_STATUS_LOOP_WAIT false
      if s.st.ports ≠ [] then loopNext s
      else if s.st.tested = [] then stTestEnd s 0 0 []
      else s
  | none => s

/-- ABORT (R410). -/
def stAbort (s : State) : State :=
  if s.fld Fld.ST_STATUS_STATE = 0 then stLock s else stSequenceOver (stCut (stLock s))

/-! ### Thermal shutdown (R377) -/

/-- Thermal shutdown was entered: the fault is captured, a sector erase aborts, and the node enters SAFE (R338, R377). -/
def thermalShutdown (s : State) (was : Bool) : State :=
  if s.flag Fld.TH_STATUS_SHUT && !was then enterSafe (flashShutdown (captureFault s 9 1 255)) 1 else s

end Sys2Proof.Machine
end

