-- ==== Sys2Proof/Machine/SuperviseOps.lean ====
section
/-!
DEFINITION. The rail sequencer, second part (spec/13): supervision and rail faults, the step tables in progress, and
group rail changes.
-/
namespace Sys2Proof.Machine

/-! ### Sequences in progress (R363, R364) -/

/-- The RAIL engine is neither halted nor faulted, so the sequence moves (R366). -/
def State.seqMoves (s : State) : Bool := s.engRail.st != .halted && s.engRail.st != .faulted

/-- The step in progress. -/
def State.seqWord (s : State) : Word := s.stepWord (s.fld Fld.SEQ_STEP_STEP)

/-- A power-down table has ended: every rail still active goes off, and a mode entry that waits goes on (R364, R460). -/
def seqDownOver (s : State) : State := shutdownAdvance (railsAllOff (seqStop s))

/-- The next step is the one to issue; DOWN waiting ends a power-up at its step's completion. -/
def seqNext (s : State) : State :=
  if s.rail.seq.thenDown then
    let s := shutdownAdvance (seqDownStart (seqStop s))
    s
  else
    let s := { s with rail := { s.rail with seq := { s.rail.seq with issued := false } } }
    s.setFld Fld.SEQ_STEP_STEP (s.fld Fld.SEQ_STEP_STEP + 1)

/-- The step in progress fails (R364). -/
def seqStepFails (s : State) : State :=
  match s.seqKind with
  | 1 =>
    let down := s.rail.seq.thenDown || s.flag Fld.RAIL_CTL_DOWN_ON_FAIL
    let s := (seqStop s).setFlag Fld.SEQ_STATUS_FAILED true
    if down then shutdownAdvance (seqDownStart s) else s
  | 2 =>
    let s := { s with rail := { s.rail with seq := { s.rail.seq with issued := false, failed := true } } }
    s.setFld Fld.SEQ_STEP_STEP (s.fld Fld.SEQ_STEP_STEP + 1)
  | _ => s

/-- The condition that completes a step that was issued; DELAY and END have their own commands. -/
def State.stepDone (s : State) (w : Word) : Bool :=
  let n := stepRail w
  match stepOp w with
  | 1 => s.ren n
  | 2 => !s.ren n && (stepArg w == 0 || s.railMon n == .below)
  | 3 => s.railSt n == rsGood
  | 5 =>
    match s.railDac n with
    | some d => s.flag (Fld.MRG_CODE_DRIVEN d) && s.fld (Fld.MRG_CODE_CODE d) == s.dacTarget d
    | none => false
  | _ => false

/-- A step completes in the tick in which its condition is met. -/
def seqAdvance (s : State) : State :=
  if s.seqKind ≠ 0 ∧ s.rail.seq.issued ∧ s.seqMoves ∧ s.stepDone s.seqWord then seqNext s else s

/-! ### Rail faults (R357, R358, R365, R371) -/

/-- The snapshot of a rail fault: one for all rail faults of a tick (R358). -/
def railSnapshot (s : State) : List Byte × State :=
  let fresh (s : State) : List Byte × State :=
    let (x, s) := fflSnapshot s s.stepNow
    (x, { s with rail := { s.rail with snap := some (s.now, x) } })
  match s.rail.snap with
  | some (t, x) => if t = s.now then (x, s) else fresh s
  | none => fresh s

/-- A fault is recorded: RAIL_FLAGS, the fault summary, the interrupt source, the first-fault log (R358, R491). -/
def recordRailFault (s : State) (n code : Nat) : State :=
  let (snap, s) := railSnapshot s
  let s := s.setFld (Fld.RAIL_STAT_FAULT n) code
  let s := (s.setBits Reg.RAIL_FLAGS (bit16 n)).raiseFlt fltRail
  captureWith (s.raiseIrq irqRail) 8 code n snap

/-- RST_WIN in ticks; 0 is taken as 1 minute. -/
def State.restartSpan (s : State) (n : Nat) : Nat := max 1 (s.fld (Fld.RAIL_RST_RST_WIN n)) * 60 * second

/-- Restarts of a LOAD within the last RST_WIN minutes. -/
def State.recentRestarts (s : State) (n : Nat) : List Nat :=
  (s.railOf n).restarts.filter fun t => decide (s.now < t + s.restartSpan n)

/-- ACT OFF (R358, R365). -/
def railActOff (s : State) (n : Nat) : State :=
  if s.railLoad n ∧ s.fld (Fld.RAIL_RST_RST_MAX n) ≠ 0 then
    if s.fld (Fld.RAIL_RST_RST_MAX n) ≤ (s.recentRestarts n).length then
      recordRailFault (railInactive s n rsLocked) n 6
    else railInactive s n rsRetry
  else railInactive s n rsLocked

/-- The fault action of codes 0x01 to 0x04. -/
def railAct (s : State) (n : Nat) : State :=
  match s.fld (Fld.RAIL_CFG_ACT n) with
  | 0 => if s.railSt n = rsGood then setRailSt s n rsOut else s
  | 1 => railActOff s n
  | 2 =>
    let s := railInactive s n rsLocked
    if s.seqKind = 0 then shutdownAdvance (seqDownStart s) else seqDown s
  | _ => enterSafe (railInactive s n rsLocked) 3

/-- The rail's on or off as a request would have it: WAIT, RAMPING, GOOD, OUT and RETRY are on, but for a rail whose switch-off
waits for the phase. -/
def State.railIsOn (s : State) (n : Nat) : Bool :=
  let st := s.railSt n
  (st == rsWait || st == rsRamping || st == rsGood || st == rsOut || st == rsRetry) && !(s.railOf n).offReady

/-- The group change settles. -/
def groupSettled (s : State) : State :=
  let s := { s with rail := { s.rail with group := { s.rail.group with settling := false, revert := [], switched := [] } } }
  (s.setFld Fld.RGRP_STATUS_STAGE 0).setFlag Fld.RGRP_STATUS_SETTLED true

/-- States are requested for rails: OFF in descending order, then ON in ascending order (R370). -/
def groupRequest (s : State) (wanted : List (Nat × Bool)) : State :=
  let s := (wanted.reverse.filter fun p => !p.2).foldl (fun s p => (railRequestOff s p.1 .group).1) s
  (wanted.filter (·.2)).foldl (fun s p => (railRequestOn s p.1 .group).1) s

/-- A fault of a rail of an unsettled change (R371): with GRP_ROLL = 1 one of any rail of the change reverts it; else one of a
rail it switched settles it. -/
def groupFault (s : State) (n : Nat) : State :=
  let g := s.rail.group
  if g.settling && g.mask.testBit n && s.flag Fld.RAIL_CTL_GRP_ROLL then
    let s := { s with rail := { s.rail with group := { g with settling := false } } }
    let away := g.revert.filter fun p => s.railIsOn p.1 != p.2
    let s := (groupRequest s g.revert).setFlag Fld.RGRP_STATUS_REVERTED true
    let moved := away.filter fun p => s.railIsOn p.1 == p.2
    groupSettled (moved.foldl (fun s p => recordRailFault s p.1 7) s)
  else if g.settling && g.switched.contains n then groupSettled s
  else s

/-- What follows a recorded fault of codes 0x01 to 0x05: the fault action, the failure of its step, the group change. -/
def railFaultActs (s : State) (n code : Nat) : State :=
  let w := s.seqWord
  let ofStep := s.seqKind != 0 && s.rail.seq.issued && stepRail w == n &&
    (stepOp w == 1 || stepOp w == 2 || stepOp w == 3 || stepOp w == 5)
  let s := if code ≤ 4 then railAct s n else s
  let s := if ofStep && s.seqKind != 0 && s.rail.seq.issued then seqStepFails s else s
  groupFault s n

/-- A fault of codes 0x01 to 0x05 on a rail. -/
def railFault (s : State) (n code : Nat) : State := railFaultActs (recordRailFault s n code) n code

/-! ### Supervision (R357) -/

/-- The monitor of the rail is consulted: it is sensed, has a type, its monitor runs, has been evaluated and is under
no test, and the rail did not go off at its MAXON. -/
def State.railJudged (s : State) (n : Nat) : Bool :=
  s.railType n != 0 && s.railWatched n && s.monSettled (n + 4) && !s.mon.test.contains (n + 4)

/-- The condition of a fault code holds as a level. -/
def State.railCond (s : State) (n code : Nat) : Bool :=
  let st := s.railSt n
  match code with
  | 1 => s.railMon n == .below && (st == rsGood || st == rsHoldOn)
  | 2 => s.railMon n == .above && (st == rsRamping || st == rsGood || st == rsHoldOn)
  | _ => s.railMon n != .below && st == rsOff && !(s.railOf n).maxed

/-- The raised condition has ended: UV and OV with their condition, STUCK_ON once the monitor reports BELOW. -/
def State.railCondOver (s : State) (n code : Nat) : Bool :=
  if code = 4 then s.railMon n == .below else !s.railCond n code

/-- The states a rail takes by its monitor alone (R355, R356, R358): a discharge ends, a rail outside its window returns, and a
ramping one is power-good at one report of INSIDE where PG_DEB is 0. A discharging rail that is not watched is OFF. -/
def railFollow (s : State) (n : Nat) : State :=
  let st := s.railSt n
  let mon := s.railMon n
  if st = rsDischarge ∧ !s.railWatched n then setRailSt s n rsOff
  else if !s.railJudged n then s
  else if st = rsDischarge ∧ mon = .below then setRailSt s n rsOff
  else if st = rsOut ∧ mon = .inside then setRailSt s n rsGood
  else if st = rsRamping then
    let r := s.railOf n
    let since := if mon = .inside then some (r.insideAt.getD s.now) else none
    let s := if r.insideAt = since then s else s.setRail n { r with insideAt := since }
    if mon = .inside ∧ s.fld (Fld.RAIL_INRUSH_PG_DEB n) = 0 then setRailSt s n rsGood else s
  else s

/-- The codes a rail raises in this tick: a condition that holds and was not raised before (R357). -/
def State.railDue (s : State) (n : Nat) : List Nat :=
  if s.railJudged n then [1, 2, 4].filter fun c => s.railCond n c && !(s.railOf n).raised.contains c else []

/-- The codes raised, and those whose condition has ended. -/
def railMark (s : State) (n : Nat) : State :=
  if !s.railJudged n then s
  else
    let r := s.railOf n
    let raised := s.railDue n ++ r.raised.filter fun c => !s.railCondOver n c
    if raised = r.raised then s else s.setRail n { r with raised := raised }

/-- The change settles once every rail it switched is GOOD, or OFF (R371). -/
def groupJudge (s : State) : State :=
  let g := s.rail.group
  if g.settling && g.switched.all fun n => s.railSt n == (if g.want.testBit n then rsGood else rsOff) then
    groupSettled s
  else s

/-- A halt of RAIL that waited for the rail step takes effect at the step's end (R282). -/
def railHalts (s : State) : State :=
  let x := s.engRail
  if x.haltHeld = true ∧ !s.rail.seq.issued then
    s.setEng .rail (if x.st = .waiting ∨ x.st = .running then
        { x with st := .halted, haltHeld := false, haltReq := false, stepping := false, passBp := s.atBreakpoint .rail }
      else { x with haltHeld := false })
  else s

/-- What the rails do in every tick, in ascending order: the faults of the tick are all recorded before the first of them acts
(R358); then the group change and the step in progress. -/
def railsJudge (s : State) : State :=
  let s := s.forEach (List.range 12) railFollow
  let due := (List.range 12).flatMap fun n => (s.railDue n).map fun c => (n, c)
  let s := s.forEach (List.range 12) railMark
  let s := s.forEach due fun s p => recordRailFault s p.1 p.2
  let s := s.forEach due fun s p => railFaultActs s p.1 p.2
  railHalts (seqAdvance (groupJudge s))

/-- The answer of a command that touches rails or their monitors. -/
def doneRails (s : State) : Host.Outcome State Fault Refusal := done (railsJudge s)

/-! ### Timed conditions (R356, R357, R365) -/

/-- The monitor has reported INSIDE for PG_DEB, in 0.1 ms, since the rail began to ramp (R356). -/
def State.pgReached (s : State) (n : Nat) : Bool :=
  s.railSt n == rsRamping && s.railWatched n && s.railMon n == .inside &&
  match (s.railOf n).insideAt with
  | some t => decide (t + 8000 * s.fld (Fld.RAIL_INRUSH_PG_DEB n) ≤ s.now)
  | none => false

def railPowerGood (s : State) (n : Nat) : State := if s.pgReached n then setRailSt s n rsGood else s

/-- PG_TO has elapsed: a rail whose PG_DEB span ends in the same tick is GOOD (R356, R357). -/
def railPgTimeout (s : State) (n : Nat) : State :=
  if s.railSt n ≠ rsRamping then s else if s.pgReached n then railPowerGood s n else railFault s n 3

/-- STUCK_ON at the end of OFFTO, of a rail that consults its monitor (R357). -/
def railOffTimeout (s : State) (n : Nat) : State :=
  if s.railSt n = rsDischarge ∧ s.railWatched n ∧ s.railMon n ≠ .below then
    let r := s.railOf n
    if r.raised.contains 4 then s else railFault (s.setRail n { r with raised := 4 :: r.raised }) n 4
  else s

/-- The TIME of the ON step in progress has run out before the grant: the fault is recorded, the request is cancelled, and the
step fails. TIME 0 bounds nothing (R357, R363). -/
def railWaitFault (s : State) (n : Nat) : State :=
  let w := s.seqWord
  if s.railSt n = rsWait ∧ !(s.railOf n).granted ∧ s.seqKind ≠ 0 ∧ s.rail.seq.issued ∧ stepOp w = 1 ∧ stepRail w = n ∧
      stepTime w ≠ 0 then
    groupFault (seqStepFails (railInactive (recordRailFault s n 5) n rsOff)) n
  else s

/-- RST_DLY has passed: the rail requests ON again, and the restart counts (R365). -/
def railRestart (s : State) (n : Nat) : State :=
  if s.railSt n = rsRetry then
    let recent := s.recentRestarts n
    let s := s.setRail n { s.railOf n with restarts := s.now :: recent }
    let s := s.setFld (Fld.RAIL_STAT_RESTARTS n) (min 15 (recent.length + 1))
    (railRequestOn s n .restart).1
  else s

/-! ### Steps (R363) -/

/-- The step at SEQ_STEP is to be issued and has the operation `op`. -/
def State.stepReady (s : State) (op : Nat) : Bool :=
  s.seqKind != 0 && !s.rail.seq.issued && s.seqMoves && stepOp s.seqWord == op

def stepIssued (s : State) : State := { s with rail := { s.rail with seq := { s.rail.seq with issued := true } } }

/-- A step is issued; a request that is refused fails it. -/
def stepIssue (s : State) : State :=
  let w := s.seqWord
  let n := stepRail w
  let src : RailSource := if s.seqKind = 2 then .downStep else .upStep
  let s := stepIssued s
  match stepOp w with
  | 1 => let (s, ok) := railRequestOn s n src; if ok then s else seqStepFails s
  | 2 => let (s, ok) := railRequestOff s n src; if ok then s else seqStepFails s
  | 4 => s.startTimer .seqDelay
  | 5 =>
    match s.railDac n with
    | some d => let (s, ok) := setMargin s d (stepArgSigned w); if ok then s else seqStepFails s
    | none => seqStepFails s
  | _ => s

/-- END (R364). -/
def stepEnd (s : State) : State :=
  let down := s.seqKind == 2
  let s := (s.setFlag Fld.SEQ_STATUS_DONE true).raiseIrq irqRail
  if down then seqDownOver s
  else if s.rail.seq.thenDown then shutdownAdvance (seqDownStart (seqStop s))
  else seqStop s

/-- A DELAY's time is over. -/
def seqDelayEnd (s : State) : State :=
  if s.seqKind ≠ 0 ∧ s.rail.seq.issued ∧ s.seqMoves ∧ stepOp s.seqWord = 4 then seqNext (s.stopTimer .seqDelay) else s

/-- A step's TIME bound has run out (R363): 0 bounds neither an ON nor a WAIT_PG, and stands for OFFTO in an OFF. -/
def seqStepTimeout (s : State) : State :=
  if s.seqKind = 0 ∨ !s.rail.seq.issued then s
  else
    let w := s.seqWord
    let n := stepRail w
    match stepOp w with
    | 1 => railWaitFault s n
    | 2 =>
      if stepArg w = 0 ∨ s.ren n then s
      else
        let r := s.railOf n
        railFault (s.setRail n { r with raised := 4 :: r.raised.filter (· != 4) }) n 4
    | 3 => if stepTime w = 0 then s else seqStepFails s
    | _ => s

/-- UP (R364). -/
def seqUp (s : State) : State :=
  if s.seqKind ≠ 0 ∨ s.fld Fld.RGRP_STATUS_STAGE = 1 ∨ s.fld Fld.RGRP_STATUS_STAGE = 2 then
    s.setFld Fld.SEQ_STATUS_CMD_ERR 2
  else seqUpStart s

/-- ABORT, with the mode entry that may wait for the table. -/
def seqAbortCmd (s : State) : State := shutdownAdvance (seqAbort s)

/-! ### Group changes (R369, R370) -/

def State.groupMask (s : State) : Nat := s.fld Fld.RGRP_MASK_BITS
def State.groupWant (s : State) : Nat := s.fld Fld.RGRP_STATE_BITS

/-- The first cause of R369 that refuses PREPARE; 0 for none. -/
def State.groupError (s : State) : Nat :=
  let m := s.groupMask
  let w := s.groupWant
  let rails := (List.range 12).filter m.testBit
  if rails.any fun n => s.railType n == 0 || s.overBudget n then 1
  else if s.mode == .calibrate || s.mode == .selftest || s.mode == .update || s.mode == .safe then 2
  else if rails.any fun n => s.railSt n == rsLocked || s.railSt n == rsRetry then 3
  else if s.seqKind != 0 || s.rail.group.settling then 4
  else if rails.all fun n => s.railIsOn n == w.testBit n then 6
  else 0

def rgrpPrepare (s : State) : State :=
  let e := s.groupError
  let s := s.setFld Fld.RGRP_STATUS_RGRP_ERR e
  if e = 0 then
    let s := { s with rail := { s.rail with group := { mask := s.groupMask, want := s.groupWant } } }
    s.setFld Fld.RGRP_STATUS_STAGE 1
  else s

/-- COMMIT written to RGRP_CMD: the next boundary activates the stage. A chain transaction that had prepared it holds it no
more (R369). -/
def rgrpCommit (s : State) : State :=
  if s.fld Fld.RGRP_STATUS_STAGE = 1 then
    let s := if s.chainHoldsStage 3 then { s with txn := sparseSet s.txn none 3 none } else s
    s.setFld Fld.RGRP_STATUS_STAGE 2
  else s

/-- CANCEL discards a stage not yet active. -/
def rgrpCancel (s : State) : State :=
  if s.fld Fld.RGRP_STATUS_STAGE = 1 ∨ s.fld Fld.RGRP_STATUS_STAGE = 2 then
    ({ s with rail := { s.rail with group := {} }, txn := sparseSet s.txn none 3 none }).setFld Fld.RGRP_STATUS_STAGE 0
  else s

/-- The activation boundary (R370). -/
def rgrpActivate (s : State) : State :=
  let g := s.rail.group
  let rails := (List.range 12).filter g.mask.testBit
  let before := rails.map fun n => (n, s.railIsOn n)
  let s := { s with rail := { s.rail with group := { g with shadow := before, revert := before, settling := true } } }
  let s := (s.setFld Fld.RGRP_STATUS_STAGE 3).incWrap Reg.RGRP_SEQ
  let s := groupRequest s (rails.map fun n => (n, g.want.testBit n))
  let switched := (before.filter fun p => p.2 != g.want.testBit p.1 && s.railIsOn p.1 == g.want.testBit p.1).map (·.1)
  { s with rail := { s.rail with group := { s.rail.group with switched := switched } } }

/-- ROLLBACK at a boundary: the shadow states are requested in the same manner (R370). -/
def rgrpRollback (s : State) : State :=
  let back := s.rail.group.shadow
  let s := groupRequest s back
  let s := { s with rail := { s.rail with group := {} } }
  (s.setFld Fld.RGRP_STATUS_STAGE 0).setFlag Fld.RGRP_STATUS_ROLLED_BACK true

/-! ### RAIL_CMD and SEQ_CMD as written -/

/-- RAIL_CMD: OP 1 ON, 2 OFF, 3 CLEAR. -/
def railCommand (s : State) (v : Half) : State :=
  let n := v.toNat % 16
  match v.toNat / 256 % 4 with
  | 1 => (railRequestOn s n .command).1
  | 2 => (railRequestOff s n .command).1
  | 3 => railClear s n
  | _ => s

/-- SEQ_CMD: ABORT takes precedence; written together, DOWN follows UP. -/
def seqCommand (s : State) (v : Half) : State :=
  if v.getLsbD 2 then seqAbortCmd s
  else
    let s := if v.getLsbD 0 then seqUp s else s
    if v.getLsbD 1 then seqDown s else s

/-- RGRP_CMD: CANCEL takes precedence; PREPARE runs before COMMIT. -/
def rgrpCommand (s : State) (v : Half) : State :=
  if v.getLsbD 2 then rgrpCancel s
  else
    let s := if v.getLsbD 0 then rgrpPrepare s else s
    if v.getLsbD 1 then rgrpCommit s else s

/-- MRG*d*_TGT as written (R368). -/
def marginWrite (s : State) (d : Nat) (v : Half) : State := (setMargin s d (signedByte (v.toNat % 256))).1

end Sys2Proof.Machine
end

