-- ==== Sys2Proof/Machine/ProfileOps.lean ====
section
/-!
DEFINITION. Profiles as flash holds them (R468 to R472): their fields and validity, profile F, the staging of a switch,
and the writing of a profile (R474 to R476).
-/
namespace Sys2Proof.Machine

/-! ### A profile in flash (R344, R468) -/

def profileSize : Nat := 49152

def State.profBytes (s : State) (p off n : Nat) : List Byte := s.flashBytes (profileSize * p + off) n

/-- The 64 bytes of the header. -/
def State.profHeader (s : State) (p : Nat) : List Byte := s.profBytes p 0 64

def hRole (h : List Byte) : Nat := leAt h 3 1
def hCells (h : List Byte) : Nat := leAt h 4 1
def hStart (h : List Byte) : Nat := leAt h 5 1
def hFlags (h : List Byte) : Nat := leAt h 6 1
def hBlockless (h : List Byte) : Bool := (hFlags h).testBit 3
def hImg (h : List Byte) : Nat := leAt h 8 2
/-- Instructions of engine `e`'s program, its check value and whether it is the integrator's own. -/
def hLen (h : List Byte) (e : Nat) : Nat := leAt h (10 + 2 * e) 2
def hCrc (h : List Byte) (e : Nat) : Nat := leAt h (16 + 4 * e) 4
def hOwn (h : List Byte) (e : Nat) : Bool := (hFlags h).testBit e

/-- Where the program of an engine begins. -/
def hProg (h : List Byte) (e : Nat) : Nat :=
  64 + 4 * hImg h + 4 * ((List.range e).map (hLen h)).foldl (· + ·) 0

def crcOf (bs : List Byte) : Nat := (crc32 0 bs).toNat

/-- The register image: word address and value, in order. -/
def State.profImage (s : State) (p : Nat) : List (Nat × Half) :=
  let n := hImg (s.profHeader p)
  (List.range n).map fun i =>
    let e := s.profBytes p (64 + 4 * i) 4
    (leAt e 0 2, BitVec.ofNat 16 (leAt e 2 2))

/-- A register has a WO field. -/
def hasWo (a : Nat) : Bool := mapRows.any fun r => r.acc == .wo && inSeries r.base r.count r.stride a

/-- An image may name the register (R469). -/
def imageAddr (a : Nat) : Bool :=
  !(hasWo a || (decide (0x0F00 ≤ a) && decide (a ≤ 0x0FFF)) || (decide (0x1800 ≤ a) && decide (a ≤ 0x1894))
    || (decide (0x189C ≤ a) && decide (a ≤ 0x18FF)) || decide (0x2000 ≤ a))

/-- R16 and R17 for the cells of a role. -/
def cellsOk (role cells : Nat) (blockless : Bool) : Bool :=
  if blockless then role == 2 && cells == 0 else decide (8 ≤ cells) && decide (cells ≤ 24)

/-- The header's fields and check values are right, and its parts fit (R469). -/
def headerOk (h : List Byte) : Bool :=
  leAt h 0 2 == 0x50F1 && leAt h 2 1 == 1 && leAt h 60 4 == commitWord && leAt h 56 4 == crcOf (h.take 56) &&
  decide (hRole h ≤ 2) && cellsOk (hRole h) (hCells h) (hBlockless h) &&
  (hStart h == 4 || hStart h == 5 || hStart h == 10 || hStart h == 12) &&
  (List.range 3).all (fun e => decide (hLen h e ≤ 8192)) && decide (hProg h 3 ≤ profileSize)

/-- A profile is valid (R469); profile F always is. -/
def State.profValid (s : State) (p : Nat) : Bool :=
  if p = 15 then true
  else if 7 < p then false
  else
    let h := s.profHeader p
    headerOk h && hCrc h 3 == crcOf (s.profBytes p 64 (4 * hImg h)) && (s.profImage p).all fun x => imageAddr x.1

/-! ### The ledger's newest END, and profile F (R467, R471) -/

/-- The payloads of the ledger's valid entries, oldest first. -/
def State.ledger (s : State) : List (List Byte) := (s.areaEntries .ledger).filter entryValid

def ledgerKind (e : List Byte) : Nat := leAt e 0 1
def ledgerStep (e : List Byte) : Nat := leAt e 1 1
def ledgerStart (e : List Byte) : Nat := leAt e 2 2

/-- Role, cells and BLOCKLESS of the newest END; a leaf with 24 cells where none exists. -/
def State.lastEnd (s : State) : Nat × Nat × Bool :=
  match (s.ledger.filter fun e => ledgerKind e == 3).getLast? with
  | some e => (leAt e 5 1, leAt e 6 1, (leAt e 7 1).testBit 0)
  | none => (0, 24, false)

/-- ROLE, CELLS, BLOCKLESS, START_MODE and VERSION of a profile. -/
def State.profRole (s : State) (p : Nat) : Nat := if p = 15 then s.lastEnd.1 else hRole (s.profHeader p)
def State.profCells (s : State) (p : Nat) : Nat := if p = 15 then s.lastEnd.2.1 else hCells (s.profHeader p)
def State.profBlockless (s : State) (p : Nat) : Bool := if p = 15 then s.lastEnd.2.2 else hBlockless (s.profHeader p)
def State.profStart (s : State) (p : Nat) : Nat := if p = 15 then 4 else hStart (s.profHeader p)
def State.profVersion (s : State) (p : Nat) : Nat := if p = 15 then 0 else leAt (s.profHeader p) 32 4

/-- The program a profile gives an engine and whether it is its own; one that fails its check is replaced by the preset
(R275). -/
def State.profProgram (s : State) (p e : Nat) : List Word × Bool :=
  let h := s.profHeader p
  let preset := (Config.presetProgram e, false)
  if p = 15 ∨ !hOwn h e then preset
  else
    let bs := s.profBytes p (hProg h e) (4 * hLen h e)
    if crcOf bs = hCrc h e then ((List.range (hLen h e)).map fun i => BitVec.ofNat 32 (leAt bs (4 * i) 4), true) else preset

/-- An own program of the profile fails its check. -/
def State.profProgramBad (s : State) (p e : Nat) : Bool :=
  let h := s.profHeader p
  p != 15 && hOwn h e && crcOf (s.profBytes p (hProg h e) (4 * hLen h e)) != hCrc h e

/-- SHA-256 of the active profile as flash stores it (R426). For profile F, whose contents are the factory's, the
bytes are those the flash holds at its place. -/
def digestNow (s : State) : State :=
  let p := s.fld Fld.PROF_STATUS_ACTIVE
  { s with keys := { s.keys with digest := Config.sha256 (s.profBytes (min p 8) 0 profileSize) } }

/-! ### A switch is requested (R472, R276) -/

/-- The first cause that refuses a switch; 0 for none. -/
def State.profError (s : State) (p : Nat) : Nat :=
  if !s.profValid p then 1
  else if s.fld Fld.PROF_STATUS_ACTIVE = p then 2
  else if s.mode = .calibrate ∨ s.mode = .selftest ∨ s.mode = .update then 3
  else if (s.profRole p ≠ s.role ∨ s.profCells p ≠ s.cells) ∧ s.mode ≠ .service then 4
  else if s.sw.isSome then 5
  else 0

/-- A switch is staged: the image is held, and the engines' staging pages are to be loaded. A shadow still kept is
dropped. -/
def profStage (s : State) (p : Nat) : State :=
  let s := s.forEach engines fun s e => s.setEng e { s.eng e with staged := false, shadow := false }
  let bytes := if p = 15 then [] else s.profBytes p 0 (64 + 4 * hImg (s.profHeader p))
  ({ s with sw := some { profile := p, bytes := bytes }, swShadow := none }).setFld Fld.PROF_STATUS_STAGE 1

/-- SELECT (R472). -/
def profSelect (s : State) (p : Nat) : State :=
  let e := s.profError p
  let s := s.setFld Fld.PROF_STATUS_PROF_ERR e
  if e = 0 then profStage s p else s

/-- The stage is discarded. -/
def profUnstage (s : State) : State :=
  let s := s.forEach engines fun s e => s.setEng e { s.eng e with staged := false }
  ({ s with sw := none }).setFld Fld.PROF_STATUS_STAGE 0

/-- Every staging page is loaded. -/
def State.profStaged (s : State) : Bool := s.sw.isSome && engines.all fun e => (s.eng e).staged

/-- An engine's staging page is loaded and checked (R276). -/
def stageLoaded (s : State) (e : Engine) : State :=
  match s.sw with
  | none => s
  | some w =>
    if (s.eng e).staged then s
    else
      let (ws, own) := s.profProgram w.profile e.idx
      let x := (s.eng e).fill (1 - (s.eng e).page) ws
      let s := s.setEng e { x with staged := true, stagedLen := ws.length, stagedOwn := own }
      if s.profStaged then s.setFld Fld.PROF_STATUS_STAGE 2 else s

/-! ### Writing a profile (R474 to R476) -/

def updIdle : Nat := 0
def updErasing : Nat := 1
def updOpen : Nat := 2
def updClosing : Nat := 3
def updDone : Nat := 4
def updFailed : Nat := 5

def State.updState (s : State) : Nat := s.fld Fld.UPD_STATUS_STATE

def isUpdate : FlashReq → Bool
  | .update _ => true
  | _ => false

/-- Words that wait to be programmed into the profile, each 8 bytes of the buffer (R475). -/
def State.updWaiting (s : State) : List (Nat × Dword) :=
  (s.fla.queue ++ s.fla.cur.toList).flatMap fun r =>
    match r with
    | .update ops => ops.filterMap fun o => match o with | .program w v => some (w, v) | .erase _ => none
    | _ => []

/-- The flash still carries out operations of the update. -/
def State.updFlashBusy (s : State) : Bool := s.fla.queue.any isUpdate || s.fla.cur.any isUpdate

/-- OPEN (R475). A transfer that is open ends. -/
def updStart (s : State) (p xfer : Nat) : State :=
  if s.mode ≠ .update then s
  else
    let s := s.setFld Fld.UPD_STATUS_XFER xfer
    if 7 < p ∨ s.fld Fld.PROF_STATUS_ACTIVE = p then
      (s.setFld Fld.UPD_STATUS_STATE updFailed).setFld Fld.UPD_STATUS_ERR 1
    else
      let keep := s.fla.queue.filter fun r => !isUpdate r
      let s := { s with
        fla := { s.fla with queue := keep }
        upd := { s.upd with target := p, header := List.replicate 64 0xFF, arrived := [], committing := false } }
      let s := flashQueue s (.update ((List.range 12).map fun i => .erase (12 * p + i)))
      (s.setFld Fld.UPD_STATUS_STATE updErasing).setFld Fld.UPD_STATUS_ERR 0

/-- One word arrives (R475). -/
def updWord (s : State) (i : Nat) (bs : List Byte) : State :=
  if s.updState ≠ updErasing ∧ s.updState ≠ updOpen then s
  else if 6143 < i then updFail s 3
  else if i < 8 then
    { s with upd := { s.upd with header := putAt s.upd.header (8 * i) bs, arrived := i :: s.upd.arrived.filter (· != i) } }
  else
    let w := 6144 * s.upd.target + i
    let v : Dword := BitVec.ofNat 64 (fromLe bs)
    let held := match s.updWaiting.find? (·.1 == w) with
      | some (_, x) => some x
      | none => if s.upd.arrived.contains i then some (s.flashWord w) else none
    match held with
    | some x => if x = v then s else updFail s 2
    | none =>
      let s := { s with upd := { s.upd with arrived := i :: s.upd.arrived } }
      flashQueue s (.update [.program w v])

/-- Room in the 1 KiB buffer for a number of words. -/
def State.updRoom (s : State) (n : Nat) : Bool := decide (s.updWaiting.length + n ≤ 128)

/-- Data of a frame: dropped and counted if it does not fit (R475). -/
def updData (s : State) (off : Nat) (bs : List Byte) : State :=
  if s.updState ≠ updErasing ∧ s.updState ≠ updOpen then s
  else if off % 8 ≠ 0 ∨ bs.length % 8 ≠ 0 ∨ profileSize < off + bs.length then updFail s 3
  else if !s.updRoom (bs.length / 8) then s.incSat Reg.UPD_DROP
  else s.forEach (List.range (bs.length / 8)) fun s i => updWord s (off / 8 + i) ((bs.drop (8 * i)).take 8)

/-- CLOSE (R476). -/
def updClose (s : State) : State :=
  if s.updState ≠ updErasing ∧ s.updState ≠ updOpen then s
  else if s.upd.arrived.length < 6144 then updFail s 4
  else s.setFld Fld.UPD_STATUS_STATE updClosing

/-- ABORT: the profile stays invalid. -/
def updAbort (s : State) : State :=
  if s.updState = updErasing ∨ s.updState = updOpen ∨ s.updState = updClosing then
    (updFail s 0).setFld Fld.UPD_STATUS_STATE updIdle
  else s

/-- The flash has carried out an operation of the update: the erase over, the body read back and the header
programmed, COMMIT last, or the header over. -/
def updAdvance (s : State) : State :=
  if s.updFlashBusy then s
  else if s.updState = updErasing then s.setFld Fld.UPD_STATUS_STATE updOpen
  else if s.updState = updClosing then
    if s.upd.committing then
      ({ s with upd := { s.upd with committing := false } }).setFld Fld.UPD_STATUS_STATE updDone
    else
      let p := s.upd.target
      let h := s.upd.header
      let img := (s.profBytes p 64 (4 * hImg h))
      let addrs := (List.range (hImg h)).all fun i => imageAddr (leAt img (4 * i) 2)
      if headerOk h && hCrc h 3 == crcOf img && addrs then
        let s := { s with upd := { s.upd with committing := true } }
        flashQueue s (.update ((List.range 8).map fun i => .program (6144 * p + i) (BitVec.ofNat 64 (leAt h (8 * i) 8))))
      else updFail s 5
  else s

/-- A word of the update that read back wrong. -/
def updWordBad (s : State) : State := updFail s 6

end Sys2Proof.Machine
end

