-- ==== Sys2Proof/Machine/TxnOps.lean ====
section
/-!
DEFINITION. Two-phase transactions over the chain (R140 to R150): a node's part, and the root that runs them.
-/
namespace Sys2Proof.Machine

/-! ### A node's stage (R141 to R148) -/

def State.txnStage (s : State) (sub : Nat) : Option TxnStage := sparseGet s.txn none sub

def setTxn (s : State) (sub : Nat) (t : Option TxnStage) : State := { s with txn := sparseSet s.txn none sub t }

/-- Number *a* lies after number *b* (R149). -/
def sweepAfter (a b : Nat) : Bool :=
  let d := (a + 65536 - b % 65536) % 65536
  decide (1 ≤ d) && decide (d ≤ 32767)

/-- The sweep number a node holds. -/
def State.sweepNum (s : State) : Nat := s.regN Reg.SWEEP_NUM

/-- STAGE of a response, the node's own stage: 0 none, 1 prepared, 2 committed, 3 active with its shadow (R150). A SPECTRUM plan
that a COMMIT has made to run, and a profile switch that a COMMIT has named a sweep for, are committed. -/
def State.stageCode (s : State) (sub : Nat) : Nat :=
  let t := s.txnStage sub
  let active := match t with | some t => t.active | none => false
  let named := match t with | some t => t.act.isSome | none => false
  if active then 3
  else match sub with
    | 1 => s.balStage
    | 2 => s.impState
    | 3 => min 2 (s.fld Fld.RGRP_STATUS_STAGE)
    | _ => if named then 2 else s.profStaged.toNat

/-- SEQ of a response. A profile switch has no sequence, so its field is free. -/
def State.txnSeq (s : State) (sub : Nat) : Nat × State :=
  match sub with
  | 1 => (s.regN Reg.BAL_PLAN_SEQ, s)
  | 2 => (s.regN Reg.IMP_PLAN_SEQ, s)
  | 3 => (s.regN Reg.RGRP_SEQ, s)
  | _ => s.drawBelow 65536

/-- The stage of a subsystem is discarded, the subsystem's own discard included. -/
def txnDiscard (s : State) (sub : Nat) : State :=
  let s := match sub with
    | 1 => balClearStage s
    | 2 => impAbort s
    | 3 => rgrpCancel s
    | _ => profUnstage s
  setTxn s sub none

/-- The shadow a subsystem keeps is dropped (R145). -/
def txnDropShadow (s : State) (sub : Nat) : State :=
  match sub with
  | 1 => balDropShadow s
  | 3 => { s with rail := { s.rail with group := { s.rail.group with shadow := [] } } }
  | 4 => ({ s with swShadow := none }).forEach engines engDropShadow
  | _ => s

/-- PREPARE of a subsystem that holds no stage of this transaction. The answer: `none` while a profile switch is not yet
staged in all three engines (R276). -/
def txnPrepareNew (s : State) (sub id expiry : Nat) : Option Byte × State :=
  let take (ok : Bool) (s : State) : Option Byte × State :=
    if ok then (some resAck, setTxn s sub (some { id := id, expiry := expiry })) else (some resRefused, s)
  match sub with
  | 1 =>
    let s := balPrepare s true
    let ok := s.fld Fld.BAL_STATUS_PLAN_ERR == 0
    take ok (s.when ok fun s => s.setRegN Reg.BAL_TXN id)
  | 2 => let s := impPrepare s; take (s.fld Fld.IMP_STATUS_PREP_ERR == 0) s
  | 3 => let s := rgrpPrepare s; take (s.fld Fld.RGRP_STATUS_RGRP_ERR == 0) s
  | 4 =>
    let s := profSelect s (s.regN Reg.PROF_CMD % 16)
    if s.fld Fld.PROF_STATUS_PROF_ERR = 0 then (none, setTxn s sub (some { id := id, expiry := expiry }))
    else (some resRefused, s)
  | _ => (some resRefused, s)

/-- PREPARE (R141): a repeat is answered again; one of another transaction drops the shadow and replaces the stage (R145), which
a refusal leaves with the transaction that holds it (R137, R146). -/
def txnPrepare (s : State) (sub id expiry : Nat) : Option Byte × State :=
  match s.txnStage sub with
  | some t =>
    if t.id = id ∧ !t.active then (if sub = 4 ∧ !s.profStaged then none else some resAck, s)
    else
      let (r, s) := txnPrepareNew (setTxn (txnDropShadow s sub) sub none) sub id expiry
      (r, s.when (r == some resRefused && !t.active) fun s => setTxn s sub (some t))
  | none => txnPrepareNew (txnDropShadow s sub) sub id expiry

/-- COMMIT for activation sweep `a` (R143, R146). A SPECTRUM plan activates on receipt, and START plays the part of sweep A
(R104, R148): one that comes after START is LATE, and as R143 has it for sweep A its stage is discarded, where R104 alone would
leave the node PREPARED (DESIGN CHOICE, log entry 168). -/
def txnCommit (s : State) (sub id a : Nat) : Byte × State :=
  match s.txnStage sub with
  | none => (resNoTxn, s)
  | some t =>
    if t.id ≠ id ∨ t.active then (resNoTxn, s)
    else if t.act.isSome then (resAck, s)
    else if sub ≠ 2 ∧ !sweepAfter a s.sweepNum then
      let s := match sub with
        | 1 => s.setFld Fld.BAL_STATUS_PLAN_ERR 5
        | 3 => s.setFld Fld.RGRP_STATUS_RGRP_ERR 5
        | 4 => s.setFld Fld.PROF_STATUS_PROF_ERR 6
        | _ => s
      (resLate, txnDiscard s sub)
    else
      let done (s : State) := setTxn s sub (some { t with act := some a })
      match sub with
      | 1 => (resAck, done ((s.setFld Fld.BAL_STATUS_STAGE stageCommitted).setRegN Reg.BAL_ACT a))
      | 2 =>
        let s := impCommit s
        if s.impState = impRunning then (resAck, done s) else (resLate, txnDiscard s sub)
      | 3 => (resAck, done (rgrpCommit s))
      | _ => (resAck, done s)

/-- CANCEL: the stage is discarded. -/
def txnCancel (s : State) (sub id : Nat) : Byte × State :=
  match s.txnStage sub with
  | none => (resNoTxn, s)
  | some t =>
    if t.id ≠ id ∨ t.active then (resNoTxn, s)
    else
      let s := if sub = 1 then s.setFlag Fld.BAL_STATUS_CANCELLED true else s
      (resAck, txnDiscard s sub)

/-- ROLLBACK: the shadow returns at the next boundary; a SPECTRUM plan aborts (R144, R148). -/
def txnRollback (s : State) (sub id : Nat) : Byte × State :=
  match s.txnStage sub with
  | none => (resNoTxn, s)
  | some t =>
    if t.id ≠ id then (resNoTxn, s)
    else if sub = 2 then (resAck, setTxn (impAbort s) sub none)
    else if t.active then (resAck, setTxn s sub (some { t with rollback := true }))
    else (resNoTxn, s)

/-- CLOSE: the shadow is dropped (R145). -/
def txnClose (s : State) (sub id : Nat) : Byte × State :=
  match s.txnStage sub with
  | none => (resNoTxn, s)
  | some t => if t.id ≠ id then (resNoTxn, s) else (resAck, setTxn (txnDropShadow s sub) sub none)

/-- STATUS: the stage of the transaction. -/
def State.txnStatus (s : State) (sub id : Nat) : Byte :=
  match s.txnStage sub with
  | some t => if t.id = id then resAck else resNoTxn
  | none => resNoTxn

/-- A node's answer (R150). -/
def txnRespond (s : State) (dst op sub id : Nat) (res : Byte) (tag : Bool) : State :=
  let (seq, s) := s.txnSeq sub
  respond s dst (leBytes 1 op ++ leBytes 1 sub ++ leBytes 2 id ++ [res] ++ leBytes 1 (s.stageCode sub) ++ leBytes 2 seq) tag

/-- A transaction command a node received: the tag is checked, the operation done, the answer queued (R147, R434). -/
def txnReceive (s : State) (f : Frame) (op : Nat) : State :=
  let p := f.payload
  let sub := leAt p 1 1
  let id := leAt p 2 2
  let act := leAt p 4 2
  let src := f.src.toNat
  if p.length < 8 ∨ leAt p 0 1 ≠ op ∨ sub = 0 ∨ 4 < sub then s
  else if op = 6 then txnRespond s src op sub id (s.txnStatus sub id) false
  else
    let (c, s) := checkTag s f
    match c with
    | .repeated => s
    | .bad => txnRespond s src op sub id resAuth true
    | .good =>
      match op with
      | 1 =>
        let (r, s) := txnPrepare s sub id act
        match r with
        | some r => txnRespond s src op sub id r true
        | none => s
      | 2 => let (r, s) := txnCommit s sub id act; txnRespond s src op sub id r true
      | 3 => let (r, s) := txnCancel s sub id; txnRespond s src op sub id r true
      | 4 => let (r, s) := txnRollback s sub id; txnRespond s src op sub id r true
      | _ => let (r, s) := txnClose s sub id; txnRespond s src op sub id r true

/-- The root of this tree answers its own part internally; elsewhere the root is the head of the path, node 0. -/
def rootNode : Nat := 0

/-- The staging pages of a transaction's switch are loaded: PREPARE is answered with ACK (R276). -/
def txnStageLoaded (s : State) : State :=
  match s.txnStage 4 with
  | some t => if s.profStaged && t.act.isNone && !t.active && !s.isRoot then txnRespond s rootNode 1 4 t.id resAck true else s
  | none => s

/-- A stage that received neither COMMIT nor CANCEL by the end of its expiry sweep is discarded (R146). -/
def txnExpire (s : State) (sub : Nat) (past : Nat → Bool) : State :=
  match s.txnStage sub with
  | some t =>
    if t.act.isNone && !t.active && past t.expiry then
      let s := if sub = 1 then s.setFlag Fld.BAL_STATUS_EXPIRED true else s
      txnDiscard s sub
    else s
  | none => s

/-- The end of the present sweep, or of an earlier one, ends stages. -/
def txnExpireAll (s : State) : State :=
  s.forEach [1, 2, 3, 4] fun s sub => txnExpire s sub fun e => !sweepAfter e s.sweepNum

/-- At the boundary of sweep `n`: stages whose expiry sweep has ended. -/
def txnBoundaryExpire (s : State) (n : Nat) : State :=
  s.forEach [1, 2, 3, 4] fun s sub => txnExpire s sub fun e => sweepAfter n e

/-! ### The root (R140 to R145) -/

def phIdle : Nat := 0
def phPreparing : Nat := 1
def phCommitting : Nat := 2
def phActivating : Nat := 3
def phClosing : Nat := 4

def outNone : Nat := 0
def outComplete : Nat := 1
def outPrepFailed : Nat := 2
def outCancelled : Nat := 3
def outPartial : Nat := 4
def outRolledBack : Nat := 5
def outUnknown : Nat := 6

def State.txnPhase (s : State) : Nat := s.fld Fld.TXN_STATUS_PHASE
/-- SUBSYS and SEM of the transaction that runs or ran last: what START found in TXN_CTL (DESIGN CHOICE, log entry 170). -/
def State.txnSub (s : State) : Nat := s.rootTxn.sub
def State.txnBest (s : State) : Bool := s.rootTxn.best
def State.txnAct (s : State) : Nat := s.regN Reg.TXN_ACT

/-- PHASE changes: the root's engines see it on line 24 (R273). -/
def setPhase (s : State) (ph : Nat) : State :=
  if s.txnPhase = ph then s else (s.setFld Fld.TXN_STATUS_PHASE ph).fireAll lineTxn

/-- The counts of the four maps. -/
def showTxn (s : State) : State :=
  let s := s.setRegN Reg.TXN_N_TARGET s.rootTxn.target.length
  let s := s.setRegN Reg.TXN_N_PREP s.rootTxn.prepAck.length
  let s := s.setRegN Reg.TXN_N_COMMIT s.rootTxn.commitAck.length
  s.setRegN Reg.TXN_N_ACTIVE s.rootTxn.activeMap.length

/-- A number enters a rising list. -/
def insertNum (l : List Nat) (n : Nat) : List Nat :=
  if l.contains n then l else l.filter (· < n) ++ [n] ++ l.filter (n < ·)

/-- The targets the host named (R140). -/
def State.txnScope (s : State) : List Nat :=
  match s.fld Fld.TXN_CTL_SCOPE with
  | 0 => (List.range 8192).filter fun n => decide (s.fld Fld.TXN_FIRST_NODE ≤ n) && decide (n ≤ s.fld Fld.TXN_LAST_NODE)
  | 1 => s.txnTargets
  | 2 => 0 :: (s.tree.binding.filter fun p => eValid p.2 && p.1 != 0).map (·.1)
  | _ => []

/-- The payload of a transaction command. -/
def State.txnPayload (s : State) (op act : Nat) : List Byte :=
  leBytes 1 op ++ leBytes 1 s.txnSub ++ leBytes 2 (s.regN Reg.TXN_ID) ++ leBytes 2 act ++ leBytes 1 s.txnBest.toNat ++ [0]

/-- An answer comes in: from a node's response, or from the root's own part. -/
def txnAnswer (s : State) (n op : Nat) (res : Byte) (stage : Nat) : State :=
  let x := s.rootTxn
  let x := match op with
    | 1 => { x with answered := insertNum x.answered n, prepAck := if res = resAck then insertNum x.prepAck n else x.prepAck }
    | 2 => if res = resAck then { x with commitAck := insertNum x.commitAck n } else x
    | 6 =>
      { x with answered := insertNum x.answered n
               activeMap := if res = resAck ∧ stage = 3 then insertNum x.activeMap n else x.activeMap }
    | 7 => { x with answered := insertNum x.answered n, activeMap := insertNum x.activeMap n }
    | _ => x
  showTxn { s with rootTxn := x }

/-- The root's own part of an operation on a subsystem. Its answer counts for the transaction that the root itself runs. -/
def txnOwn (s : State) (sub id op act : Nat) : State :=
  let own := sub == s.txnSub && id == s.regN Reg.TXN_ID
  let answer (s : State) (r : Byte) (stage : Nat) : State := if own then txnAnswer s 0 op r stage else s
  match op with
  | 1 =>
    let (r, s) := txnPrepare s sub id act
    match r with
    | some r => answer s r 0
    | none => s
  | 2 => let (r, s) := txnCommit s sub id act; answer s r 0
  | 3 => (txnCancel s sub id).2
  | 4 => (txnRollback s sub id).2
  | 5 => (txnClose s sub id).2
  | _ => answer s (s.txnStatus sub id) (s.stageCode sub)

/-- A command to each of a list of nodes; STATUS bears no tag (R147). -/
def txnSend (s : State) (nodes : List Nat) (op act : Nat) : State :=
  s.forEach nodes fun s n =>
    if n = 0 then txnOwn s s.txnSub (s.regN Reg.TXN_ID) op act
    else
      let f := s.newFrame tyCommand (nodeDst n) (s.txnPayload op act)
      (sendToNode s n (if op = 6 then f else s.tagCommand f)).2

/-- The expiry sweep E of a transaction whose first PREPARE goes out now (R146). -/
def State.txnExpiry (s : State) : Nat :=
  (s.sweepNum + s.rootTxn.pto + s.rootTxn.lead) % 65536

/-- The transaction ends (R145). -/
def txnFinish (s : State) : State :=
  let out := s.rootTxn.outcome
  let s := s.setFld Fld.TXN_STATUS_OUTCOME out
  let s := s.noteEvent 0x13 0 (leBytes 4 s.treeTime ++ leBytes 2 (s.regN Reg.TXN_ID) ++ leBytes 1 s.txnSub ++ leBytes 1 out
    ++ leBytes 2 (s.regN Reg.TXN_ACT) ++ leBytes 2 (s.regN Reg.TXN_N_TARGET) ++ leBytes 2 (s.regN Reg.TXN_N_PREP)
    ++ leBytes 2 (s.regN Reg.TXN_N_ACTIVE) ++ leBytes 2 0)
  setPhase ((s.setFlag Fld.TXN_STATUS_DONE true).raiseIrq irqTxn) phIdle

/-- The outcome is settled: CLOSE to every node that activated. Nodes that were sent ROLLBACK restore their shadows at
the next boundary, so their CLOSE follows in the next sweep. -/
def txnSettle (s : State) (outcome : Nat) : State :=
  let s := { s with rootTxn := { s.rootTxn with outcome := outcome } }
  if s.rootTxn.rollbackSent then setPhase s phClosing
  else txnFinish (txnSend s s.rootTxn.activeMap 5 0)

/-- START (R140): the transaction takes its settings from TXN_CTL; later writes concern the next (DESIGN CHOICE, log entry
170). -/
def txnStart (s : State) : State :=
  let sub := s.fld Fld.TXN_CTL_SUBSYS
  if !s.isRoot ∨ s.txnPhase ≠ phIdle ∨ sub = 0 ∨ 4 < sub then s
  else
    let t := s.txnScope
    let s := s.incWrap Reg.TXN_ID
    let s := { s with rootTxn := {
      target := t, first := s.sweepNum, sub := sub, best := s.flag Fld.TXN_CTL_SEM, pto := s.fld Fld.TXN_CTL_PTO
      lead := s.fld Fld.TXN_CTL_LEAD } }
    let s := { s with rootTxn := { s.rootTxn with expiry := s.txnExpiry } }
    let s := setPhase s phPreparing
    showTxn (txnSend s t 1 s.rootTxn.expiry)

/-- ABANDON, before any COMMIT. -/
def txnAbandon (s : State) : State :=
  if s.txnPhase = phPreparing ∧ !s.rootTxn.committed then txnSettle (txnSend s s.rootTxn.prepAck 3 0) outCancelled
  else s

/-- The end of the prepare phase (R142). -/
def txnDecide (s : State) : State :=
  let x := s.rootTxn
  let all := x.target.all x.prepAck.contains && !x.target.isEmpty
  if !all && !s.txnBest then txnSettle (txnSend s x.prepAck 3 0) outPrepFailed
  else if x.prepAck.isEmpty then txnSettle s outNone
  else
    let a := (s.sweepNum + x.lead) % 65536
    let s := s.setRegN Reg.TXN_ACT a
    let s := { s with rootTxn := { x with committed := true, answered := [] } }
    txnSend (setPhase s phCommitting) x.prepAck 2 a

/-- ROLLBACK to nodes that were not sent it yet, so that each receives it once (R144). -/
def txnRollbackTo (s : State) (nodes : List Nat) : State :=
  let l := nodes.filter fun n => !s.rootTxn.rolled.contains n
  if l.isEmpty then s
  else
    let s := txnSend s l 4 0
    { s with rootTxn := { s.rootTxn with rollbackSent := true, rolled := s.rootTxn.rolled ++ l } }

/-- The nodes that activated without being expected, having missed a CANCEL (R144). -/
def State.txnStrays (s : State) : List Nat := s.rootTxn.activeMap.filter fun n => !s.rootTxn.expected.contains n

/-- The activation's answers are judged (R144). Where nobody was expected, ALL ends as CANCELLED and BEST as NONE; BEST ends as
PARTIAL wherever an expected node did not activate, be it every one (log entry 74), and a node that is rolled back counts for
none of the targets. -/
def txnJudge (s : State) : State :=
  let s := txnRollbackTo s s.txnStrays
  let x := s.rootTxn
  let open' := x.expected.filter fun n => !x.activeMap.contains n && !x.answered.contains n
  let failed := x.expected.any fun n => !x.activeMap.contains n && x.answered.contains n
  if !open'.isEmpty && decide (x.queries < 3) then
    if s.sweepNum = s.txnAct then s
    else
      let s := txnSend s open' 6 0
      { s with rootTxn := { s.rootTxn with queries := x.queries + 1 } }
  else if x.expected.isEmpty then txnSettle s (if s.txnBest then outNone else outCancelled)
  else if s.txnBest then
    txnSettle s (if x.target.all fun n => x.activeMap.contains n && x.expected.contains n then outComplete else outPartial)
  else if open'.isEmpty && !failed then txnSettle s outComplete
  else
    let s := txnRollbackTo s x.activeMap
    txnSettle { s with rootTxn := { s.rootTxn with rollbackSent := true } } (if failed then outRolledBack else outUnknown)

/-- The closing (R144, R145): a node whose activation is heard of only now gets its ROLLBACK first where it is due one, and
CLOSE goes out in the next sweep. -/
def txnClosing (s : State) : State :=
  let x := s.rootTxn
  let undone := x.outcome == outRolledBack || x.outcome == outUnknown
  let late := (if undone then x.activeMap else s.txnStrays).filter fun n => !x.rolled.contains n
  if late.isEmpty then txnFinish (txnSend s x.activeMap 5 0) else txnRollbackTo s late

/-- The trains of the present sweep have ended: what the root does in its command time. -/
def txnTrainsOver (s : State) : State :=
  let x := s.rootTxn
  let n := s.sweepNum
  match s.txnPhase with
  | 1 =>
    if x.target.all x.answered.contains then txnDecide s
    else if n = (x.first + x.pto) % 65536 then txnDecide s
    else if n = x.first then s
    else txnSend s (x.target.filter fun m => !x.answered.contains m) 1 x.expiry
  | 2 =>
    let a := s.txnAct
    if (n + 1) % 65536 = a then
      let missing := x.prepAck.filter fun m => !x.commitAck.contains m
      let s := setPhase s phActivating
      if missing.isEmpty then { s with rootTxn := { x with expected := x.prepAck, answered := [] } }
      else if s.txnBest then
        let s := txnSend s missing 3 0
        { s with rootTxn := { s.rootTxn with expected := x.commitAck, answered := [] } }
      else
        let s := txnSend s x.prepAck 3 0
        { s with rootTxn := { s.rootTxn with expected := [], answered := [] } }
    else txnSend s (x.prepAck.filter fun m => !x.commitAck.contains m) 2 a
  | 3 => if (n + 1) % 65536 = s.txnAct then s else txnJudge s
  | 4 => txnClosing s
  | _ => s

/-- A node's transaction response reaches the root (R150). -/
def txnResponse (s : State) (n : Nat) (p : List Byte) : State :=
  if s.txnPhase = phIdle ∨ leAt p 1 1 ≠ s.txnSub ∨ leAt p 2 2 ≠ s.regN Reg.TXN_ID ∨ !s.rootTxn.target.contains n then s
  else txnAnswer s n (leAt p 0 1) (BitVec.ofNat 8 (leAt p 4 1)) (leAt p 5 1)

end Sys2Proof.Machine
end

