-- ==== Sys2Proof/Machine/ExchangeOps.lean ====
section
/-!
DEFINITION. Keys and identity (spec/17): the host check-value units, the random number generator, attestation, and the
set-up of sessions at the node and at the root (R415 to R431, R436, R437).
-/
namespace Sys2Proof.Machine

/-! ### Host check-value units (R415 to R420) -/

/-- WIDTH in bits. -/
def State.cvuWidth (s : State) (u : Nat) : Nat :=
  match s.fld (Fld.CVU_CTL_WIDTH u) with
  | 0 => 8
  | 1 => 16
  | _ => 32

/-- The low `w` bits in reverse order. -/
def reflect (w x : Nat) : Nat := (List.range w).foldl (fun a i => if x.testBit i then a + 2 ^ (w - 1 - i) else a) 0

/-- One bit of a feed (R416). -/
def cvuBit (w poly : Nat) (refin : Bool) (val : Nat) (bit : Bool) : Nat :=
  if refin then
    let odd := val.testBit 0 != bit
    if odd then (val / 2) ^^^ reflect w poly else val / 2
  else
    let odd := val.testBit (w - 1) != bit
    let v := val * 2 % 2 ^ w
    if odd then v ^^^ poly % 2 ^ w else v

/-- One byte of a feed. -/
def cvuByte (w poly : Nat) (refin : Bool) (val : Nat) (b : Byte) : Nat :=
  (List.range 8).foldl (fun v i => cvuBit w poly refin v (if refin then b.getLsbD i else b.getMsbD i)) val

def State.cvuPair (s : State) (u lo hi : Nat) : Nat := s.pair lo hi % 2 ^ s.cvuWidth u

def State.cvuVal (s : State) (u : Nat) : Nat := s.cvuPair u (Reg.CVU_VAL_LO u) (Reg.CVU_VAL_HI u)

/-- The value VAL takes after a feed of bytes. -/
def State.cvuFed (s : State) (u : Nat) (bs : List Byte) : Nat :=
  bs.foldl (cvuByte (s.cvuWidth u) (s.pair (Reg.CVU_POLY_LO u) (Reg.CVU_POLY_HI u)) (s.flag (Fld.CVU_CTL_REFIN u))) (s.cvuVal u)

/-- START (R417). -/
def cvuStart (s : State) (u : Nat) : State :=
  let init := s.cvuPair u (Reg.CVU_INIT_LO u) (Reg.CVU_INIT_HI u)
  let seed := if s.fld (Fld.CVU_CTL_SEEDMODE u) = 0 then 0 else s.cvuPair u (Reg.CVU_SEED_LO u) (Reg.CVU_SEED_HI u)
  let s := s.setPair (Reg.CVU_VAL_LO u) (Reg.CVU_VAL_HI u) (init ^^^ seed)
  let s := s.setPair (Reg.CVU_COUNT_LO u) (Reg.CVU_COUNT_HI u) 0
  s.setFlag (Fld.CVU_STATUS_CHECKED u) false

/-- CHECK (R420). -/
def cvuCheck (s : State) (u : Nat) : State :=
  let w := s.cvuWidth u
  let val := s.cvuVal u
  let turned := if s.flag (Fld.CVU_CTL_REFIN u) = s.flag (Fld.CVU_CTL_REFOUT u) then val else reflect w val
  let res := (turned ^^^ s.pair (Reg.CVU_XOR_LO u) (Reg.CVU_XOR_HI u)) % 2 ^ w
  let ok := res == s.cvuPair u (Reg.CVU_EXP_LO u) (Reg.CVU_EXP_HI u)
  let s := s.setPair (Reg.CVU_RES_LO u) (Reg.CVU_RES_HI u) res
  let s := s.setFlag (Fld.CVU_STATUS_CHECKED u) true
  let s := s.setFlag (Fld.CVU_STATUS_MATCH u) ok
  let s := if ok then s else
    let s := s.setFlag (Fld.CVU_STATUS_MISMATCH u) true
    s.when (s.flag (Fld.CVU_CTL_IRQ u)) fun s => s.raiseIrq irqCvu
  if s.fld (Fld.CVU_CTL_SEEDMODE u) = 2 then
    s.setPair (Reg.CVU_SEED_LO u) (Reg.CVU_SEED_HI u) ((s.pair (Reg.CVU_SEED_LO u) (Reg.CVU_SEED_HI u) + 1) % 2 ^ 32)
  else s

def State.cvu (s : State) (u : Nat) : Cvu := s.cvus.getD u {}
def setCvu (s : State) (u : Nat) (x : Cvu) : State := { s with cvus := listPut s.cvus {} u x }

/-- A feed begins (R418). -/
def cvuFeed (s : State) (u : Nat) (bs : List Byte) : State :=
  (setCvu s u { s.cvu u with feed := some bs }).setFlag (Fld.CVU_STATUS_BUSY u) true

/-- A feed's last tick: VAL changes whole, and COUNT with it. -/
def cvuFinish (s : State) (u : Nat) (bs : List Byte) : State :=
  let s := s.setPair (Reg.CVU_VAL_LO u) (Reg.CVU_VAL_HI u) (s.cvuFed u bs)
  let n := s.pair (Reg.CVU_COUNT_LO u) (Reg.CVU_COUNT_HI u)
  let s := s.setPair (Reg.CVU_COUNT_LO u) (Reg.CVU_COUNT_HI u) ((n + bs.length) % 2 ^ 32)
  (setCvu s u { s.cvu u with feed := none }).setFlag (Fld.CVU_STATUS_BUSY u) false

/-- A write to one of the unit's registers, 0 to 0x16 from its first, takes effect. Fields of CVU*u*_CTL that are not
reserved follow R4; 0b11 leaves WIDTH and SEEDMODE. -/
def cvuApply (s : State) (u k : Nat) (v : Half) : State :=
  match k with
  | 0 =>
    let s := if v.toNat / 4096 % 4 = 3 then s else s.setFld (Fld.CVU_CTL_WIDTH u) (v.toNat / 4096 % 4)
    let s := if v.toNat / 64 % 4 = 3 then s else s.setFld (Fld.CVU_CTL_SEEDMODE u) (v.toNat / 64 % 4)
    let s := s.setFlag (Fld.CVU_CTL_REFIN u) (v.getLsbD 9)
    let s := s.setFlag (Fld.CVU_CTL_REFOUT u) (v.getLsbD 8)
    s.setFlag (Fld.CVU_CTL_IRQ u) (v.getLsbD 1)
  | 1 | 2 | 3 | 4 | 5 | 6 | 7 | 8 | 11 | 12 => s.setReg (Reg.CVU_CTL u + k) v
  | 9 => { s with held := keyPut s.held (Reg.CVU_VAL_LO u) v }
  | 10 =>
    let lo := sparseGet s.held 0 (Reg.CVU_VAL_LO u)
    s.setPair (Reg.CVU_VAL_LO u) (Reg.CVU_VAL_HI u) ((lo.toNat + 65536 * v.toNat) % 2 ^ s.cvuWidth u)
  | 15 => cvuFeed s u (leBytes 1 v.toNat)
  | 16 => cvuFeed s u (leBytes 2 v.toNat)
  | 17 => { s with held := keyPut s.held (Reg.CVU_DIN_W_LO u) v }
  | 18 => cvuFeed s u (leBytes 2 (sparseGet s.held 0 (Reg.CVU_DIN_W_LO u)).toNat ++ leBytes 2 v.toNat)
  | 19 =>
    let s := if v.getLsbD 1 then cvuCheck s u else s
    if v.getLsbD 0 then cvuStart s u else s
  | 20 => if v.getLsbD 2 then s.setFlag (Fld.CVU_STATUS_MISMATCH u) false else s
  | _ => s

/-- A write to a unit: behind a feed in progress it waits (R418). -/
def cvuWrite (s : State) (u k : Nat) (v : Half) : State :=
  let x := s.cvu u
  if x.feed.isSome then setCvu s u { x with waiting := x.waiting ++ [(k, v)] } else cvuApply s u k v

/-- The writes that waited, in order, up to the next feed. -/
def cvuDrain (s : State) (u : Nat) : List (Nat × Half) → State
  | [] => setCvu s u { s.cvu u with waiting := [] }
  | (k, v) :: rest =>
    let s := cvuApply s u k v
    if (s.cvu u).feed.isSome then setCvu s u { s.cvu u with waiting := rest } else cvuDrain s u rest

/-- The feed in progress completes. -/
def cvuFeedDone (s : State) (u : Nat) : State :=
  match (s.cvu u).feed with
  | some bs => let s := cvuFinish s u bs; cvuDrain s u (s.cvu u).waiting
  | none => s

/-! ### Random numbers and attestation (R425 to R427) -/

/-- Key operations are served: the key store is good and no health test has failed (R423, R425). -/
def State.keysServe (s : State) : Bool := s.flag Fld.KEY_STATUS_KEYS_OK && !s.flag Fld.KEY_STATUS_TRNG_FAIL

/-- `n` fresh random bytes (log entry 3). -/
def drawBytes (s : State) (n : Nat) : List Byte × State :=
  (List.range n).foldl (fun (a : List Byte × State) _ =>
    let (x, s) := a.2.draw
    (a.1 ++ [x.setWidth 8], s)) ([], s)

def trngGen (s : State) : State :=
  if s.flag Fld.KEY_STATUS_TRNG_FAIL then s
  else
    let s := s.forEach (List.range 8) fun s i =>
      let (x, s) := s.draw
      s.setReg (Reg.TRNG_D i) (x.setWidth 16)
    s.incWrap Reg.TRNG_SEQ

def trngFail (s : State) : State :=
  if s.flag Fld.KEY_STATUS_TRNG_FAIL then s
  else captureFault (s.setFlag Fld.KEY_STATUS_TRNG_FAIL true) 11 2 255

/-- Bytes 0 to 63 of a statement (R426). -/
def State.statement (s : State) (nonce : List Byte) : List Byte :=
  [1] ++ leBytes 1 (s.fld Fld.PROF_STATUS_ACTIVE) ++ leBytes 2 (s.regN Reg.NODE_NUM) ++ leBytes 8 Config.factoryNumber.toNat
  ++ leBytes 2 (s.regN Reg.DEV_REV) ++ leBytes 2 0 ++ nonce ++ beBytes 32 s.keys.digest.toNat

/-- The message as its signature covers it, signed with the node's key and a fresh nonce. -/
def signWith (s : State) (msg : List Byte) : List Byte × State :=
  let (k, s) := drawBytes s 32
  (Config.ecdsaSign Config.privateKey (BitVec.ofNat 256 (fromLe k)) msg, s)

def signedStatement (s : State) (nonce : List Byte) : List Byte × State :=
  let body := s.statement nonce
  let (sig, s) := signWith s body
  (body ++ sig, s)

/-- GEN with SEL = 0: signing begins. -/
def attStatement (s : State) : State :=
  if !s.keysServe || s.keys.signing then s
  else
    let nonce := (List.range 8).flatMap fun i => leBytes 2 (s.regN (Reg.ATT_NONCE i))
    let (st, s) := signedStatement s nonce
    let s := { s with keys := { s.keys with signing := true, stmt := st } }
    (s.setFlag Fld.ATT_STATUS_BUSY true).setFlag Fld.ATT_STATUS_READY false

/-- The window shows bytes; words beyond them read 0. -/
def attShow (s : State) (bs : List Byte) : State :=
  let s := { s with keys := { s.keys with window := bs } }
  let s := s.forEach (List.range 72) fun s i => s.setRegN (Reg.ATT_RD i) (leAt bs (2 * i) 2)
  s.setFlag Fld.ATT_STATUS_READY true

/-- GEN with SEL = 1. -/
def attCert (s : State) : State := if s.keysServe then attShow s Config.nodeCert else s

/-- Signing for ATT_CMD ends. -/
def attSigned (s : State) : State :=
  if s.keys.signing then
    let s := { s with keys := { s.keys with signing := false } }
    attShow (s.setFlag Fld.ATT_STATUS_BUSY false) s.keys.stmt
  else s

/-! ### Certificates and the exchange's strings (R424, R428, R429) -/

def certFactory (c : List Byte) : Nat := leAt c 4 8
def certPub (c : List Byte) : List Byte := slice c 16 64

/-- A certificate is genuine: its form, and the vendor's signature. -/
def certGood (c : List Byte) : Bool :=
  leAt c 0 1 == 1 && decide (leAt c 1 1 < 4) && leAt c 2 2 == 0x2448 &&
  Config.ecdsaVerify (Config.vendorKey (leAt c 1 1)) (c.take 80) (slice c 80 64)

/-- T of R428 with its first byte. -/
def exchangeT (first : Byte) (node kgen : Nat) (nonceR ephR : List Byte) (fact : Nat) (nonceN ephN : List Byte) : List Byte :=
  [first] ++ leBytes 2 node ++ leBytes 1 kgen ++ nonceR ++ ephR ++ leBytes 8 fact ++ nonceN ++ ephN

/-- The session key of R429. -/
def sessionKey (priv : BitVec 256) (peer nonceR nonceN : List Byte) (node kgen fact : Nat) : BitVec 128 :=
  Config.hkdf (Config.ecdh priv peer) (nonceR ++ nonceN) (leBytes 2 node ++ leBytes 1 kgen ++ leBytes 8 fact)

/-- The pins that are not zero (R431). -/
def State.keyPins (s : State) : List Nat :=
  ((List.range 4).map fun p =>
    (List.range 4).foldl (fun a w => a + (sparseGet s.keys.pins 0 (4 * p + w)).toNat * 65536 ^ w) 0).filter (· != 0)

/-! ### The exchange at the node (R428 to R430) -/

def opRootCert : Nat := 0x40
def opHello : Nat := 0x41
def opAuth : Nat := 0x43
def opConfirm : Nat := 0x44
def opCert : Nat := 0x45
def opAttest : Nat := 0x46
def opTreeKey : Nat := 0x47
def opMtag : Nat := 0x48

/-- An answer of the exchange: OP, RESULT and two reserved bytes, then its fields. -/
def keyRespond (s : State) (op : Nat) (res : Byte) (fields : List Byte) (tag : Bool) : State :=
  respond s 0 (leBytes 1 op ++ [res, 0, 0] ++ fields) tag

/-- A failed check: the set-up ends. -/
def keyRefuse (s : State) (op : Nat) : State :=
  keyRespond { s with keys := { s.keys with setup := {}, busy := false, ready := none, awaited := false } } op resRefused [] false

/-- ROOT_CERT: kept if it is genuine and the pins allow it; a broadcast is not answered. -/
def rootCertReceive (s : State) (f : Frame) : State :=
  let c := slice f.payload 4 144
  let pins := s.keyPins
  let ok := s.keysServe && certGood c && (pins.isEmpty || pins.contains (certFactory c))
  { s with keys := { s.keys with rootCert := if ok then some c else none } }

/-- A computation that an OP began answers a repeat of it, finished or not (R430); `none`: the OP is new. -/
def keyRepeat (s : State) (op : Nat) : Option State :=
  if s.keys.op ≠ op then none
  else if s.keys.busy then some { s with keys := { s.keys with awaited := true } }
  else
    match s.keys.ready with
    | some p =>
      let s := { s with keys := { s.keys with ready := none, op := 0 } }
      let s := respond s 0 p false
      some (if op = opHello ∧ p.length > 4 then keyRespond s opCert resAck Config.nodeCert false else s)
    | none => none

/-- A computation begins. -/
def keyBegin (s : State) (op : Nat) : State :=
  { s with keys := { s.keys with op := op, busy := true, ready := none, awaited := true } }

/-- KEY_HELLO: the ephemeral key and SIG_N are computed. -/
def keyHello (s : State) (f : Frame) : State :=
  let p := f.payload
  let ephR := slice p 20 64
  match keyRepeat s opHello with
  | some s => s
  | none =>
    if !s.keysServe || s.keys.rootCert.isNone || !Config.onCurve ephR then keyRefuse s opHello
    else
      let (nonceN, s) := drawBytes s 16
      let (priv, s) := drawBytes s 32
      let d : BitVec 256 := BitVec.ofNat 256 (fromLe priv)
      let ephN := Config.publicKey d
      let kgen := leAt p 1 1
      let nonceR := slice p 4 16
      let (sig, s) := signWith s (exchangeT 0x4E s.nodeNum kgen nonceR ephR factory nonceN ephN)
      let s := { s with keys := { s.keys with setup :=
        { kgen := kgen, nonceR := nonceR, ephR := ephR, nonceN := nonceN, ephPriv := d, ephN := ephN, sigN := sig } } }
      keyBegin s opHello

/-- GET_CERT. -/
def getCert (s : State) : State :=
  if s.keysServe then keyRespond s opCert resAck Config.nodeCert false else keyRespond s opCert resRefused [] false

/-- KEY_AUTH: SIG_R is checked and the session key derived. -/
def keyAuth (s : State) (f : Frame) : State :=
  let x := s.keys.setup
  match keyRepeat s opAuth with
  | some s => s
  | none =>
    match s.keys.rootCert with
    | none => keyRefuse s opAuth
    | some c =>
      let t := exchangeT 0x52 s.nodeNum x.kgen x.nonceR x.ephR factory x.nonceN x.ephN
      let ok := s.keysServe && !x.ephN.isEmpty && Config.ecdsaVerify (certPub c) t (slice f.payload 4 64)
      let k := sessionKey x.ephPriv x.ephR x.nonceR x.nonceN s.nodeNum x.kgen factory
      let s := { s with keys := { s.keys with setup := { x with key := if ok then some k else none } } }
      keyBegin s opAuth

/-- ATTEST (R427). -/
def attest (s : State) (f : Frame) : State :=
  match keyRepeat s opAttest with
  | some s => s
  | none =>
    if !s.keysServe then keyRefuse s opAttest
    else
      let (st, s) := signedStatement s (slice f.payload 4 16)
      keyBegin { s with keys := { s.keys with attested := st } } opAttest

/-- A key computation ends: its answer is queued, or kept for the repeat of a command that was answered BUSY (R430). -/
def keyComputeDone (s : State) : State :=
  if !s.keys.busy then s
  else
    let x := s.keys.setup
    let op := s.keys.op
    let answer (res : Byte) (fields : List Byte) : List Byte := leBytes 1 op ++ [res, 0, 0] ++ fields
    let p :=
      if op = opHello then answer resAck (x.nonceN ++ x.ephN ++ x.sigN)
      else if op = opAuth then (if x.key.isSome then answer resAck [] else answer resRefused [])
      else answer resAck s.keys.attested
    let s := if op = opAuth ∧ x.key.isNone then { s with keys := { s.keys with setup := {} } } else s
    let s := { s with keys := { s.keys with busy := false } }
    if s.keys.awaited then
      let s := respond { s with keys := { s.keys with awaited := false, op := 0 } } 0 p false
      if op = opHello then keyRespond s opCert resAck Config.nodeCert false else s
    else { s with keys := { s.keys with ready := some p } }

/-- A train passes while a computation runs: BUSY (R430). -/
def keyBusyAnswer (s : State) : State :=
  if s.keys.busy && s.keys.awaited then
    keyRespond { s with keys := { s.keys with awaited := false } } s.keys.op resBusy [] false
  else s

/-- The tag of KEY_CONFIRM is the new session's. -/
def keyConfirm (s : State) (f : Frame) : State :=
  if !s.keysServe then keyRefuse s opConfirm
  else match s.keys.setup.key with
  | none => (keyRespond (s.incSat Reg.AUTH_FAIL) opConfirm resAuth [] false)
  | some k =>
    let old := (s.keys.session, s.keys.kgen)
    let (c, s) := checkTag { s with keys := { s.keys with session := some k, kgen := s.keys.setup.kgen } } f
    let restore (s : State) : State := { s with keys := { s.keys with session := old.1, kgen := old.2 } }
    match c with
    | .repeated => restore s
    | .bad => keyRespond (restore s) opConfirm resAuth [] false
    | .good =>
      match Config.keyUnwrap k (slice f.payload 4 24) with
      | none => keyRefuse (restore s) opConfirm
      | some t =>
        let s := { s with keys := { s.keys with treeKey := some t, treePrev := none, tkgen := leAt f.payload 1 1 } }
        keyRespond (showKeys s) opConfirm resAck [] true

/-- TREE_KEY installs a new tree key (R436). -/
def treeKeyReceive (s : State) (f : Frame) : State :=
  let (c, s) := checkTag s f
  if !s.keysServe then keyRespond s opTreeKey resRefused [] false
  else match c with
  | .repeated => s
  | .bad => keyRespond s opTreeKey resAuth [] false
  | .good =>
    match s.keys.session with
    | none => keyRespond s opTreeKey resAuth [] false
    | some k =>
      match Config.keyUnwrap k (slice f.payload 4 24) with
      | none => keyRespond s opTreeKey resRefused [] true
      | some t =>
        let s := { s with keys := { s.keys with treeKey := some t, treePrev := s.keys.treeKey, tkgen := leAt f.payload 1 1 } }
        keyRespond (showKeys s) opTreeKey resAck [] true

/-! ### The exchange at the root -/

/-- A command of the exchange to a node. -/
def keyCommand (s : State) (n : Nat) (payload : List Byte) : State :=
  (sendToNode s n (s.newFrame tyCommand (nodeDst n) payload)).2

/-- A refused set-up is counted (R428). -/
def keyFailed (s : State) (n : Nat) : State :=
  setSession (s.incSat Reg.KEY_FAILS) n { s.session n with step := 0 }

/-- The tree key the root hands out: a renewal's if one is under way. -/
def State.treeKeyOut (s : State) : Option (BitVec 128 × Nat) :=
  match s.keys.nextTree with
  | some k => some (k, (s.keys.tkgen + 1) % 256)
  | none => s.keys.treeKey.map fun k => (k, s.keys.tkgen)

/-- KEY_HELLO to a node. -/
def sendHello (s : State) (n : Nat) : State :=
  let x := s.session n
  let kgen := (x.kgen + 1) % 256
  let (nonce, s) := drawBytes s 16
  let (priv, s) := drawBytes s 32
  let d : BitVec 256 := BitVec.ofNat 256 (fromLe priv)
  let setup : Setup := { kgen := kgen, nonceR := nonce, ephR := Config.publicKey d, ephPriv := d }
  let s := setSession s n { x with setup := setup, step := 1, sigN := [], askedAt := s.regN Reg.SWEEP_NUM }
  keyCommand s n (leBytes 1 opHello ++ leBytes 1 kgen ++ [0, 0] ++ nonce ++ setup.ephR)

/-- The KEY_HELLO of the set-up under way once more (R233, R430). -/
def repeatHello (s : State) (n : Nat) : State :=
  let x := (s.session n).setup
  keyCommand s n (leBytes 1 opHello ++ leBytes 1 x.kgen ++ [0, 0] ++ x.nonceR ++ x.ephR)

/-- The root has a tree key. -/
def rootTreeKey (s : State) : State :=
  if s.keys.treeKey.isSome then s
  else
    let (k, s) := drawBytes s 16
    showKeys { s with keys := { s.keys with treeKey := some (BitVec.ofNat 128 (fromLe k)) } }

/-- The root's certificate goes round a ring, and a set-up starts with each node named (R428). -/
def startSessions (s : State) (r : Nat) (nodes : List Nat) : State :=
  if !s.isRoot || !s.keysServe || nodes.isEmpty then s
  else
    let s := rootTreeKey s
    let s := ringCommand s r (s.newFrame tyCommand bcastDst ([0x40, 0, 0, 0] ++ Config.nodeCert))
    s.forEach nodes sendHello

/-- KEY_AUTH, KEY_CONFIRM or KEY_HELLO as last sent is sent again after BUSY (R430). -/
def sendAuth (s : State) (n : Nat) : State :=
  let x := (s.session n).setup
  let t := exchangeT 0x52 n x.kgen x.nonceR x.ephR (eFactory (s.entry n)) x.nonceN x.ephN
  let (sig, s) := signWith s t
  let s := setSession s n { s.session n with step := 2, askedAt := s.regN Reg.SWEEP_NUM }
  keyCommand s n ([0x43, 0, 0, 0] ++ sig)

def sendConfirm (s : State) (n op : Nat) : State :=
  let x := s.session n
  match (if op = opConfirm then x.setup.key else x.key), s.treeKeyOut with
  | some k, some (t, gen) =>
    let f := s.newFrame tyCommand (nodeDst n) (leBytes 1 op ++ leBytes 1 gen ++ [0, 0] ++ Config.keyWrap k t)
    let g := if op = opConfirm then x.setup.kgen else x.kgen
    (sendToNode s n (s.withTag f k 1 g)).2
  | _, _ => s

/-- Key commands that are unanswered for REM_TO sweeps go out again (R233): KEY_HELLO, GET_CERT where only the certificate is
missing, KEY_AUTH or KEY_CONFIRM. -/
def repeatKeys (s : State) : State :=
  s.forEach (s.keys.sessions.filter fun p => p.2.step != 0 &&
      decide (s.fld Fld.TREE_CTL_REM_TO ≤ (s.regN Reg.SWEEP_NUM + 65536 - p.2.askedAt) % 65536)) fun s p =>
    let s := setSession s p.1 { s.session p.1 with askedAt := s.regN Reg.SWEEP_NUM }
    match p.2.step with
    | 1 => if p.2.sigN = [] then repeatHello s p.1 else keyCommand s p.1 [0x45, 0, 0, 0]
    | 2 => sendAuth s p.1
    | _ => sendConfirm s p.1 opConfirm

/-- A node's answer of the exchange reaches the root (R428, R430). -/
def keyResponse (s : State) (f : Frame) : State :=
  let p := f.payload
  let n := f.src.toNat
  let op := leAt p 0 1
  let res := BitVec.ofNat 8 (leAt p 1 1)
  let x := s.session n
  if op = opHello ∧ x.step = 1 then
    if res = resBusy then repeatHello s n
    else if res ≠ resAck then keyFailed s n
    else setSession s n { x with setup := { x.setup with nonceN := slice p 4 16, ephN := slice p 20 64 }, sigN := slice p 84 64 }
  else if op = opCert ∧ x.step = 1 ∧ x.sigN ≠ [] then
    let c := slice p 4 144
    let t := exchangeT 0x4E n x.setup.kgen x.setup.nonceR x.setup.ephR (eFactory (s.entry n)) x.setup.nonceN x.setup.ephN
    if res = resAck ∧ certGood c ∧ certFactory c = eFactory (s.entry n) ∧ Config.onCurve x.setup.ephN ∧
        Config.ecdsaVerify (certPub c) t x.sigN then sendAuth s n
    else keyFailed s n
  else if op = opAuth ∧ x.step = 2 then
    if res = resBusy then sendAuth s n
    else if res ≠ resAck then keyFailed s n
    else
      let k := sessionKey x.setup.ephPriv x.setup.ephN x.setup.nonceR x.setup.nonceN n x.setup.kgen (eFactory (s.entry n))
      let s := setSession s n { x with setup := { x.setup with key := some k }, step := 3, askedAt := s.regN Reg.SWEEP_NUM }
      sendConfirm s n opConfirm
  else if op = opConfirm ∧ x.step = 3 then
    if res = resBusy then sendConfirm s n opConfirm
    else if res ≠ resAck then keyFailed s n
    else
      let good := match x.setup.key with
        | some k => s.keys.pairs.any fun q => tagFor f k 1 x.setup.kgen q == tagOf f
        | none => false
      if !f.tagged || !good then s.incSat Reg.AUTH_FAIL
      else
        let s := setSession s n { x with key := x.setup.key, kgen := x.setup.kgen, inForce := true, step := 0 }
        let s := { s with keys := { s.keys with treeAcks := s.keys.treeAcks.filter (· != n) } }
        sendWrites s
  else if op = opTreeKey then
    if res = resBusy then sendConfirm s n opTreeKey
    else if res = resAck ∧ f.tagged ∧ s.responseTagGood f then
      { s with keys := { s.keys with treeAcks := s.keys.treeAcks.filter (· != n) } }
    else s
  else s

/-- MTAG's answer at the root: the MEASURE frame it covers is accepted (R437). -/
def mtagReceive (s : State) (r : Nat) (f : Frame) : State :=
  match s.tree.heldMeasures.find? fun m => m.src == f.src with
  | none => s
  | some m =>
    let n := f.src.toNat
    let x := s.session n
    let good := match x.key with
      | some k => s.keys.pairs.any fun q =>
          makeTag k (tagString m.type m.payload.length n m.dst.toNat q.1 q.2 1 x.kgen m.payload) == f.payload.drop 4
      | none => false
    let s := { s with tree := { s.tree with heldMeasures := s.tree.heldMeasures.filter (· != m) } }
    if !good then s.incSat Reg.AUTH_FAIL
    else if (s.ring r).isOpen then rootMeasure s r n m.payload
    else countDrop s r

/-- Every session and the tree key are renewed (R436). -/
def keyRenew (s : State) : State :=
  if !s.isRoot || !s.keysServe then s
  else
    let nodes := (s.tree.binding.filter fun p => eValid p.2 && ePresent p.2 && p.1 != 0).map (·.1)
    let (k, s) := drawBytes s 16
    let s := { s with keys := { s.keys with nextTree := some (BitVec.ofNat 128 (fromLe k)), treeAcks := nodes, treeSweeps := 0 } }
    let s := { s with tree := { s.tree with renewSweeps := 0 } }
    let s := s.forEach (nodes.filter fun n => (s.session n).inForce) fun s n => sendConfirm s n opTreeKey
    s.forEach nodes sendHello

/-- The root moves to the new tree key once every PRESENT node has acknowledged it, or after REM_TO sweeps; and every
2^16 sweeps it renews the keys. Told at each of its sweep boundaries (R436). -/
def keyBoundary (s : State) : State :=
  if !s.isRoot then s
  else
    let s := match s.keys.nextTree with
      | none => s
      | some k =>
        let waits := s.keys.treeAcks.filter fun n => ePresent (s.entry n)
        if waits.isEmpty || decide (s.fld Fld.TREE_CTL_REM_TO ≤ s.keys.treeSweeps) then
          showKeys { s with keys := { s.keys with
            treeKey := some k, treePrev := s.keys.treeKey, tkgen := (s.keys.tkgen + 1) % 256
            nextTree := none, treeAcks := [], treeSweeps := 0 } }
        else { s with keys := { s.keys with treeSweeps := s.keys.treeSweeps + 1 } }
    let n := s.tree.renewSweeps + 1
    let s := { s with tree := { s.tree with renewSweeps := n } }
    if 65536 ≤ n then keyRenew s else s

/-- A key store that fails its check at BOOT (R423). -/
def keyStoreCheck (s : State) (good : Bool) : State :=
  let s := s.setFlag Fld.KEY_STATUS_KEYS_OK good
  if good then s else captureFault s 11 1 255

end Sys2Proof.Machine
end

