-- ==== Sys2Proof/Machine/PackOps.lean ====
section
/-!
DEFINITION. The root's poll of the tree (spec/14, "Neighbour check" and "Charge inhibit"): the polls of a sweep, the
judgement of a node against its ring neighbours, and PACK_INH.
-/
namespace Sys2Proof.Machine

def State.neighbour (s : State) (n : Nat) : Neighbour := sparseGet s.th.nodes {} n

def setNeighbour (s : State) (n : Nat) (x : Neighbour) : State :=
  { s with th := { s.th with nodes := sparseSet s.th.nodes {} n x } }

/-- VALID entries of the binding table. -/
def State.validNodes (s : State) : List Nat := (s.tree.binding.filter fun p => eValid p.2).map (·.1)

/-- The nodes a cycle polls: the root itself and the entries VALID and PRESENT (R381). -/
def State.pollNodes (s : State) : List Nat :=
  0 :: (s.tree.binding.filter fun p => eValid p.2 && ePresent p.2 && p.1 != 0).map (·.1)

/-- The latest readings of ring positions ±1 and ±2 that the root holds from the last two cycles. -/
def State.ringReadings (s : State) (n : Nat) : List Int :=
  let e := s.entry n
  (s.tree.binding.filter fun p =>
      p.1 != n && eValid p.2 && eHead p.2 == eHead e && eRing p.2 == eRing e &&
      decide (ePos p.2 ≤ ePos e + 2) && decide (ePos e ≤ ePos p.2 + 2)).filterMap fun p =>
    let x := s.neighbour p.1
    if s.th.pollCycle ≤ x.cycle + 1 then x.tj else none

/-- Twice the median: of an even count, the sum of the two middle values (R381). -/
def twiceMedian (l : List Int) : Int :=
  let sorted := l.foldl (fun acc x => insertAsc x acc) []
  sorted.getD ((l.length - 1) / 2) 0 + sorted.getD (l.length / 2) 0

def showNbCount (s : State) : State :=
  s.setRegN Reg.TH_NB_N (s.th.nodes.filter fun p => p.2.suspect).length

/-- The root writes TH_NB of a node by a tagged REMOTE WRITE, repeated while it is unanswered (R233), its own at once;
DIFF in °C, rounded as the part does (log entry 22). -/
def writeNb (s : State) (n : Nat) (suspect : Bool) (twiceDiff : Int) : State :=
  let (d, s) := s.divFree twiceDiff 20
  let w := 32768 * suspect.toNat + (clamp (-128) 127 d % 256).toNat
  let s := showNbCount (setNeighbour s n { s.neighbour n with suspect := suspect, bad := 0, good := 0 })
  if n = 0 then showNb (s.setRegN Reg.TH_NB w)
  else
    sendWrites (addWrites s [{ node := n, addr := Reg.TH_NB, value := w }])

/-- The judgement of a node, the root too, with the neighbours of its ring position: the third in a row writes TH_NB, and the
count begins again (R381). -/
def judgeNode (s : State) (n : Nat) (tj : Int) : State :=
  let l := s.ringReadings n
  if l.length < 2 then s
  else
    let d := 2 * tj - twiceMedian l
    let x := s.neighbour n
    if 20 * s.fld Fld.TH_XCHK_NB_TOL < d.natAbs then
      if 3 ≤ x.bad + 1 then writeNb s n true d else setNeighbour s n { x with bad := x.bad + 1, good := 0 }
    else if 3 ≤ x.good + 1 then writeNb s n false d
    else setNeighbour s n { x with bad := 0, good := x.good + 1 }

/-- A node's answer to a poll: TH_TJ and TH_STATUS. -/
def pollAnswer (s : State) (n : Nat) (tj status : Half) : State :=
  let x := s.neighbour n
  let s := setNeighbour s n { x with
    tj := some tj.toInt, cycle := s.th.pollCycle, chgInh := status.getLsbD 15, silent := false, asked := false }
  judgeNode s n tj.toInt

/-- One poll of a sweep: of the root's own registers at once, of another node by REMOTE READ. -/
def pollNode (s : State) (n : Nat) : State :=
  if n = 0 then pollAnswer s 0 (s.reg Reg.TH_TJ) (s.reg Reg.TH_STATUS)
  else
    let (ok, s) := sendToNode s n (s.newFrame tyCommand (nodeDst n) ([0x10, 2] ++ leBytes 2 Reg.TH_TJ))
    if ok then setNeighbour s n { s.neighbour n with asked := true } else s

/-- Up to RATE polls per sweep, cycling through the nodes; no node twice in one sweep (R381). -/
def pollSweep (s : State) : State :=
  if !s.isRoot || !s.flag Fld.TH_CTL_NB_EN then s
  else
    let l := s.pollNodes
    (s.forEach (l.take (s.fld Fld.TH_POLL_RATE)) fun s _ =>
      let l := s.pollNodes
      let k := if l.length ≤ s.th.pollNext then 0 else s.th.pollNext
      let s := if k = 0 then { s with th := { s.th with pollCycle := s.th.pollCycle + 1 } } else s
      let s := { s with th := { s.th with pollNext := k + 1 } }
      pollNode s (l.getD k 0))

/-! ### Calibration runs of the nodes (R400) -/

/-- The preset SWEEP program reads CAL_STATUS to CAL_REJECTS of one node a sweep, in turn, since the spec gives no other way in
which the root learns of a node's run (DESIGN CHOICE, log entry 181). -/
def calPollSweep (s : State) : State :=
  if !s.presetRecords then s
  else
    let l := s.pollNodes.drop 1
    let k := if l.length ≤ s.cal.pollNext then 0 else s.cal.pollNext
    match l[k]? with
    | none => s
    | some n =>
      let s := { s with cal := { s.cal with pollNext := k + 1 } }
      let (ok, s) := sendToNode s n (s.newFrame tyCommand (nodeDst n) ([0x10, 10] ++ leBytes 2 Reg.CAL_STATUS))
      if ok then { s with cal := { s.cal with asked := n :: s.cal.asked.filter (· != n) } } else s

/-- A node's answer: the run that it shows and that the root has not seen is logged. What the registers do not show, the bank
of an accepted run and Tj at a rejected one, is free. -/
def calPollAnswer (s : State) (n : Nat) (data : List Byte) : State :=
  let word (i : Nat) : Nat := leAt data (2 * i) 2
  let now := (leAt data 2 4, word 9)
  let before := sparseGet s.cal.seen none n
  let s := { s with cal := { s.cal with seen := sparseSet s.cal.seen none n (some now), asked := s.cal.asked.filter (· != n) } }
  match before with
  | none => s
  | some old =>
    let record (s : State) (tree tj result slots bank : Nat) : State :=
      logPreset s 2 (recordHead 24 0x14 n ++ leBytes 4 tree ++ leBytes 4 now.1 ++ leBytes 2 tj ++ leBytes 1 result
        ++ leBytes 1 slots ++ leBytes 1 bank ++ leBytes 5 0)
    let s := s.when (old.2 != now.2) fun s =>
      let (tj, s) := s.drawBelow 65536
      record s s.treeTime tj (word 0 / 4096) (2 ^ (word 0 / 16 % 4 + 1) - 1) 255
    s.when (old.1 != now.1) fun s =>
      let (bank, s) := s.drawBelow 2
      record s (leAt data 12 4) (word 8) 0 15 bank

/-- The nodes behind PACK_INH (R384). -/
def State.packNodes (s : State) : Nat :=
  (if s.flag Fld.TH_STATUS_CHG_INH then 1 else 0) +
  ((s.tree.binding.filter fun p => p.1 != 0 && eValid p.2 &&
    (!ePresent p.2 || (s.neighbour p.1).chgInh || (s.neighbour p.1).silent)).length)

/-- PACK_INH is evaluated again; a change raises the thermal interrupt source. -/
def packCheck (s : State) : State :=
  if !s.isRoot then s
  else
    let n := s.packNodes
    let s := s.setRegN Reg.TH_PACK_N n
    if s.flag Fld.TH_PACK_PACK_INH = decide (0 < n) then s
    else (s.setFlag Fld.TH_PACK_PACK_INH (decide (0 < n))).raiseIrq irqThermal

/-- A VALID node has given no poll answer for INH_AGE seconds. -/
def pollSilent (s : State) (n : Nat) : State :=
  if s.isRoot && eValid (s.entry n) then packCheck (setNeighbour s n { s.neighbour n with silent := true }) else s

/-- The answer of a command that may change what PACK_INH rests on. -/
def doneTree (s : State) : Host.Outcome State Fault Refusal := done (packCheck s)

end Sys2Proof.Machine
end

