-- ==== Sys2Proof/Machine/Views.lean ====
section
/-!
DEFINITION. What a read of a host register returns: registers that show state kept elsewhere, write-only fields, and
registers a node does not have. Engines read this live value; the host's paths read SNAP registers through captures.
-/
namespace Sys2Proof.Machine

/-- Bytes 2m and 2m + 1 of a list as a word, the lower-addressed byte in bits 7 to 0. -/
def byteWord (bs : List Byte) (m : Nat) : Half := BitVec.ofNat 16 (leAt bs (2 * m) 2)

/-- 16 bits of a number, the `k`th from below. -/
def wordOf (n k : Nat) : Half := BitVec.ofNat 16 (n / 65536 ^ k)

/-- A bitmap window: bit b of word w stands for node PAGE × 2048 + 16 w + b. -/
def mapWord (l : List Nat) (page w : Nat) : Half :=
  l.foldl (fun m n => if n / 16 = 128 * page + w then m ||| bit16 (n % 16) else m) 0

/-- The map TXN_BM shows. -/
def State.txnMap (s : State) : List Nat :=
  match s.fld Fld.TXN_BM_SEL_MAP with
  | 0 => s.txnTargets
  | 1 => s.rootTxn.prepAck
  | 2 => s.rootTxn.commitAck
  | _ => s.rootTxn.activeMap

/-- The map MAP_BM shows: nodes missing in the last closed sweep, or VALID entries without PRESENT. -/
def State.treeMap (s : State) : List Nat :=
  if s.flag Fld.MAP_SEL_MAP then (s.tree.binding.filter fun p => eValid p.2 && !ePresent p.2).map (·.1) else s.tree.missing

/-- One word of ENG*e* that shows the engine's state, by its offset. -/
def Eng.word16 (x : Eng) (restarts gsel off : Nat) : Option Half :=
  match off with
  | 1 => some (BitVec.ofNat 16 (256 * x.fault + 16 * restarts + x.st.code))
  | 2 => some (BitVec.ofNat 16 (32768 * x.page + x.pc))
  | 3 => some (BitVec.ofNat 16 (32768 * x.fpcPage + x.fpc))
  | 4 => some (match x.wait with | some w => if w.kind = .event then wordOf w.mask.toNat 0 else 0 | none => 0)
  | 5 => some (match x.wait with | some w => if w.kind = .event then wordOf w.mask.toNat 1 else 0 | none => 0)
  | 6 => some (wordOf x.latch.toNat 0)
  | 7 => some (wordOf x.latch.toNat 1)
  | 8 => some (wordOf x.instrs 0)
  | 9 => some (wordOf x.instrs 1)
  | 10 => some (BitVec.ofNat 16 (32768 * x.own.toNat + 16384 * x.staged.toNat + 8192 * x.shadow.toNat + (x.len - 1)))
  | 21 => some (wordOf (x.get gsel).toNat 0)
  | 22 => some (wordOf (x.get gsel).toNat 1)
  | _ => none

def engineOf (i : Nat) : Engine := if i = 0 then .sweep else if i = 1 then .node else .rail

/-- One word of the entry ALY_SEL selects. -/
def State.alyEntryWord (s : State) (k : Nat) : Half :=
  if k = 7 then s.reg Reg.ALY_GEN
  else match s.alyTag (s.fld Fld.ALY_SEL_INDEX) with
    | none => if k = 4 ∨ k = 5 then 0x8000 else 0
    | some t =>
      if k < 4 then t.id.extractLsb' (16 * k) 16
      else if k = 4 then t.val0.getD 0x8000
      else if k = 5 then t.val1.getD 0x8000
      else BitVec.ofNat 16 (32768 + 16384 * t.fresh.toNat + 256 * t.misses + alyFamily t.id)

/-- Seconds since the last SWEEP_START or HEARTBEAT, as HB_STATUS counts them (R244). -/
def State.orphanSeconds (s : State) : Nat :=
  match s.timers.find? (·.1 == .orphan) with
  | some (_, t) => min 255 ((s.now - t) / second)
  | none => 0

/-- A trim of the path or monitor selected. -/
def State.shownTrim (s : State) (t : Nat) : Half := BitVec.ofInt 16 (s.trim t)

/-- The profiles a switch may choose (PROF_VALID); profile F is always valid. -/
def State.validProfiles (s : State) : Nat :=
  256 + ((List.range 8).filter s.profValid).foldl (fun m p => m + 2 ^ p) 0

/-- MRG*d*_CODE: a driven DAC stands one step higher while the generator routed to it is high (R181). -/
def State.dacShown (s : State) (d : Nat) : Half :=
  let w := s.reg (Reg.MRG_CODE d)
  if s.flag (Fld.MRG_CODE_DRIVEN d) && s.routeLevel (3 + d) then
    (Fld.MRG_CODE_CODE d).write w (min 4095 (s.fld (Fld.MRG_CODE_CODE d) + 1))
  else w

/-- A word of VAL or RES of a check-value unit: the bits above WIDTH read 0 (R416). -/
def State.cvuShown (s : State) (a : Nat) : Half :=
  let k := a % 32
  let low := a - (if k = 9 ∨ k = 13 then 0 else 1)
  wordOf (s.pair low (low + 1) % 2 ^ s.cvuWidth ((a - 0x1800) / 32)) (if k = 9 ∨ k = 13 then 0 else 1)

/-- The word of a register that shows state kept outside the register file; `none` for every other register. -/
def State.view (s : State) (a : Nat) : Option Half :=
  if a = Reg.MODE_STATUS then
    some (⟨a, 3, 0⟩ |> fun f : BitField => f.write ((⟨a, 7, 4⟩ : BitField).write (s.reg a) ((s.mc.pend.map Mode.code).getD 0)) s.mode.code)
  else if a = Reg.WD_STATUS then some (Fld.WD_STATUS_DEFERRED.write (s.reg a) s.wdDeferred.toNat)
  else if a = Reg.SEC_STATUS then
    some (Fld.SEC_STATUS_SARB_TEST.write (Fld.SEC_STATUS_SARA_TEST.write (s.reg a) s.acq.sarATest.toNat) s.acq.sarBTest.toNat)
  else if a = Reg.PROF_CMD then some 0
  else if a = Reg.PROF_VALID then some (BitVec.ofNat 16 s.validProfiles)
  else if a = Reg.PROF_VER_LO then some (wordOf (s.profVersion (s.fld Fld.PROF_STATUS_ACTIVE)) 0)
  else if a = Reg.PROF_VER_HI then some (wordOf (s.profVersion (s.fld Fld.PROF_STATUS_ACTIVE)) 1)
  else if 0x0208 ≤ a ∧ a ≤ 0x020A then some (wordOf s.tb.value (a - 0x0208))
  else if a = Reg.TB_PER_LO then some (wordOf s.tb.period 0)
  else if a = Reg.TB_PER_HI then some (wordOf s.tb.period 1)
  else if 0x0912 ≤ a ∧ a ≤ 0x0919 then
    some (byteWord (s.impRecord (s.fld Fld.IMP_RD_SEL_CELL) (s.fld Fld.IMP_RD_SEL_POINT)) (a - 0x0912))
  else if 0x0B00 ≤ a ∧ a ≤ 0x0B7F then some (mapWord s.txnMap (s.fld Fld.TXN_BM_SEL_PAGE) (a - 0x0B00))
  else if 0x0E21 ≤ a ∧ a ≤ 0x0E23 then
    let p := calPath (s.fld Fld.CAL_SEL_PATH)
    some (if 32 < s.fld Fld.CAL_SEL_PATH then 0
      else if a = 0x0E21 then s.shownTrim (trimOfs p)
      else if a = 0x0E22 then s.shownTrim (trimGain p)
      else BitVec.ofNat 16 ((s.trim (trimDly p)).toNat % 32
        + 256 * ((if s.cal.applying then sparseGet s.cal.target (s.trim (trimDly p)) (trimDly p) else s.trim (trimDly p)).toNat % 32)))
  else if a = Reg.CAL_MTRIM then
    let m := s.fld Fld.CAL_MSEL_MON
    some (if 40 < m then 0
      else BitVec.ofNat 16 (256 * (s.trim (trimHi m) % 256).toNat + (s.trim (trimLo m) % 256).toNat))
  else if a = Reg.HB_STATUS then
    some (BitVec.ofNat 16 (256 * s.orphanSeconds + 4 * s.scheduled.toNat + 2 * s.sweepsRun.toNat
      + (s.flag Fld.HB_STATUS_ORPHAN).toNat))
  else if 0x1211 ≤ a ∧ a ≤ 0x1218 then some ((s.entry (s.regN Reg.BIND_SEL % 8192)).getD (a - 0x1211) 0)
  else if 0x1300 ≤ a ∧ a ≤ 0x137F then some (mapWord s.treeMap (s.fld Fld.MAP_SEL_PAGE) (a - 0x1300))
  else if 0x1400 ≤ a ∧ a ≤ 0x145F then
    let e := engineOf ((a - 0x1400) / 32)
    (s.eng e).word16 (s.recentFaultRestarts e).length (s.fld (Fld.ENG_GSEL_REG e.idx)) ((a - 0x1400) % 32)
  else if a = Reg.ENG_DBG_STAT then some (BitVec.ofNat 16 (2 * s.dbgPin.toNat + s.dbgOpen.toNat))
  else if a = Reg.STEP_LO then some (wordOf (s.stepWord (s.regN Reg.STEP_SEL % 128)).toNat 0)
  else if a = Reg.STEP_HI then some (wordOf (s.stepWord (s.regN Reg.STEP_SEL % 128)).toNat 1)
  else if a = Reg.MRG_CODE 0 ∨ a = Reg.MRG_CODE 1 then some (s.dacShown (a - Reg.MRG_CODE 0))
  else if 0x1800 ≤ a ∧ a ≤ 0x187F ∧ [9, 10, 13, 14].contains (a % 32) then some (s.cvuShown a)
  else if 0x1790 ≤ a ∧ a ≤ 0x17AF then some (byteWord s.fflSelected (a - 0x1790))
  else if 0x1898 ≤ a ∧ a ≤ 0x189B then
    some (sparseGet s.keys.pins 0 (4 * s.fld Fld.KEY_PIN_SEL_PIN + (a - 0x1898)))
  else if 0x1911 ≤ a ∧ a ≤ 0x1918 then some (s.alyEntryWord (a - 0x1911))
  else none

/-- The registers of a ring the node heads (R220). -/
def ringRegister (a : Nat) : Option Nat := if 0x1100 ≤ a ∧ a ≤ 0x112F then some ((a - 0x1100) / 16) else none

/-- Registers only the root has, rings not headed, the store's registers without a store, and the remote window. -/
def State.absent (s : State) (a : Nat) : Bool :=
  (!s.isRoot && (decide (0x0B00 ≤ a ∧ a ≤ 0x0B8B) || decide (0x0D40 ≤ a ∧ a ≤ 0x0D43) ||
    decide (0x1200 ≤ a ∧ a ≤ 0x13FF) || decide (0x3D00 ≤ a ∧ a ≤ 0x3D7F))) ||
  (ringRegister a).any fun r => !s.mayHead r

/-- Fields that read 0 though a write of them is kept: the write-only fields (R5). -/
def woMask (a : Nat) : Half :=
  mapRows.foldl (fun m r =>
    if r.acc == .wo && inSeries r.base r.count r.stride a then m ||| ((⟨a, r.hi, r.lo⟩ : BitField).mask <<< r.lo) else m) 0

/-- Without a store the store's registers read 0 (R318), HS_STATUS apart: its PROBE tells why there is none (R320). -/
def State.storeHidden (s : State) (a : Nat) : Bool :=
  !s.storeOn && decide (0x1700 ≤ a) && decide (a ≤ 0x174F) && a != Reg.HS_STATUS

/-- What a register reads now (R5, R10). -/
def State.live (s : State) (a : Nat) : Half :=
  if s.absent a || s.storeHidden a then 0
  else match s.view a with
    | some w => w
    | none => s.reg a &&& ~~~(woMask a)

/-! ### Pins -/

/-- HIRQ is asserted (R490). -/
def State.hirq (s : State) : Bool := s.reg Reg.IRQ_PEND &&& s.reg Reg.IRQ_EN != 0

/-- FAULT_N is held low: by the fault summary, by a window monitor with FAULT = 1, in SAFE, or by a generator routed to it
while its output is high (R23, R181, R192, R493). -/
def State.faultLow (s : State) : Bool :=
  s.reg Reg.FLT_SUM &&& s.reg Reg.FLT_PIN != 0 || s.monFaultLow || s.mode == .safe || s.routeLevel 2

/-- What REN*n* does to its pin (R352): in OFF, SHIP and WATCH the pull-down holds it low; else the level of POL, or with OD a
low level alone. -/
def State.renPin (s : State) (n : Nat) : PinDrive :=
  if modeAsleep s.mode then .low
  else
    match s.ren n != s.flag (Fld.RAIL_CFG_POL n), s.flag (Fld.RAIL_CFG_OD n) with
    | false, _ => .low
    | true, false => .high
    | true, true => .released

/-- What a leaf does to NCK, NCS, NDQS and ND0 to ND7: it drives them low (R318). At a root or hub they serve the port. -/
def State.nandPin (s : State) : Option PinDrive := if s.role = 0 then some .low else none

/-- SYNC_OUT: low while no generator is routed to it (R181). -/
def State.syncOut (s : State) : Bool := s.routeLevel 1

end Sys2Proof.Machine
end

