-- ==== Sys2Proof/Machine/HostWrite.lean ====
section
/-!
DEFINITION. A write of a host register (R4 to R11): the fields of the register map take what their access code and
range allow, the rules that judge a write across fields and registers apply, and command bits act. Every path of a
write ends here: the QSPI port, REMOTE access, the DBG pins, the engines and the profile image.
-/
namespace Sys2Proof.Machine

/-- Where a write comes from. -/
inductive WriteSrc where
  | qspi | remote | dbg | engine | image
  deriving DecidableEq, Repr

/-- Two keys in turn within 100 µs (R281, R321, R474): 8000 ticks. -/
def keyWindow : Nat := 8000

/-- One field's write: RW within its range, W1C, and RL while the owner's unlock is open. -/
def fieldTakes (r : MapRow) (unlocked : Bool) (a : Nat) (v w : Half) : Half :=
  let f : BitField := ⟨a, r.hi, r.lo⟩
  let x := f.read v
  let put : Half := if r.least ≤ x ∧ x ≤ r.most then f.write w x else w
  match r.acc with
  | .rw => put
  | .rl => if unlocked then put else w
  | .w1c => w &&& ~~~(v &&& (f.mask <<< f.lo))
  | _ => w

/-- What a register holds after a write of `v` over `old`, rules across fields aside. -/
def fieldsWritten (unlocked : Bool) (a : Nat) (v old : Half) : Half :=
  mapRows.foldl (fun w r => if inSeries r.base r.count r.stride a then fieldTakes r unlocked a v w else w) old

/-- The register takes the write, field by field. -/
def plainWrite (s : State) (unlocked : Bool) (a : Nat) (v : Half) : State :=
  s.setReg a (fieldsWritten unlocked a v (s.reg a))

/-- A low half is held until its high half is written. -/
def holdLow (s : State) (a : Nat) (v : Half) : State := { s with held := keyPut s.held a v }

/-- The held low half, or the register's present value; it is held no longer. -/
def takeLow (s : State) (a : Nat) : Half × State :=
  (sparseGet s.held (s.live a) a, { s with held := s.held.filter (·.1 != a) })

/-! ### 0x0010 to 0x00FF: modes, profiles, ledger, update (spec/19) -/

/-- A ledger entry is queued (R467). -/
def ledgerWrite (s : State) (kind step info : Nat) : State :=
  let p := leBytes 1 kind ++ leBytes 1 step ++ leBytes 2 (s.regN Reg.LED_START) ++ leBytes 4 info
  flashQueue s (.entry .ledger false (sealEntry p))

/-- CLR_PATHS: ALT and SKIP are cleared and FLAGS is written (R465). -/
def clearPaths (s : State) : State :=
  ledgerWrite ((s.setReg Reg.LED_ALT 0).setReg Reg.LED_SKIP 0) 5 255 0

/-- CLR_FALLBACK (R466). -/
def clearFallback (s : State) : State :=
  { s with bt := { s.bt with fallback := false } }.setFlag Fld.PROF_STATUS_FALLBACK false

/-- UPD_KEY (R474). -/
def updKey (s : State) (v : Half) : State :=
  if s.mode != .update then s
  else if v == 0x7D21 then { s with upd := { s.upd with keyAt := some s.now } }
  else
    let inTime : Bool := match s.upd.keyAt with
      | some t => decide (s.now ≤ t + keyWindow)
      | none => false
    { s with upd := { s.upd with keyAt := none, unlocked := s.upd.unlocked || (v == 0x82DE && inTime) } }

/-- OPEN by the host path: a transfer whose number the spec does not name for this path (log entry 3). -/
def updOpenHost (s : State) : State :=
  let (x, s) := s.drawBelow 256
  updStart s (s.fld Fld.UPD_CMD_TARGET) x

/-- UPD_CMD (RL): ABORT first; of the others CLOSE before OPEN. -/
def updCommand (s : State) (v : Half) : State :=
  if !s.upd.unlocked then s
  else
    let s := s.setFld Fld.UPD_CMD_TARGET (Fld.UPD_CMD_TARGET.read v)
    if v.getLsbD 2 then updAbort s
    else if v.getLsbD 1 then updAdvance (updClose s)
    else if v.getLsbD 0 then updOpenHost s else s

/-- A write of UPD_D3 submits the word at OFS and increments OFS (R475). -/
def updSubmit (s : State) (d3 : Half) : State :=
  if !s.upd.unlocked then s
  else
    let d := listPut s.upd.data 0 3 d3
    let s := { s with upd := { s.upd with data := d } }
    let ofs := s.fld Fld.UPD_OFS_WORD
    let s := s.setFld Fld.UPD_OFS_WORD (ofs + 1)
    if s.updRoom 1 || decide (ofs < 8) then updWord s ofs (d.flatMap fun x => leBytes 2 x.toNat) else s.incSat Reg.UPD_DROP

def writeModes (s : State) (a : Nat) (v : Half) : State :=
  if a = Reg.MODE_CTL then modeRequest (s.setFld Fld.MODE_CTL_REQ (v.toNat % 16)) (v.toNat % 16)
  else if a = Reg.SAFE_CAUSE then safeCauseClear s v
  else if a = Reg.SYS_CMD then (if v = 0x5A3C then hardReset s causeSys else s)
  else if a = Reg.PROF_CMD then
    let s := s.setFld Fld.PROF_CMD_SEL (v.toNat % 16)
    s.when (v.getLsbD 8) fun s => profSelect s (v.toNat % 16)
  else if a = Reg.LED_CMD then (s.when (v.getLsbD 1) clearFallback).when (v.getLsbD 0) clearPaths
  else if a = Reg.UPD_KEY then updKey s v
  else if a = Reg.UPD_CMD then updCommand s v
  else if a = Reg.UPD_OFS then plainWrite s s.upd.unlocked a v
  else if Reg.UPD_D 0 ≤ a ∧ a ≤ Reg.UPD_D 2 then
    { s with upd := { s.upd with data := listPut s.upd.data 0 (a - Reg.UPD_D 0) v } }
  else if a = Reg.UPD_D 3 then updSubmit s v
  else plainWrite s false a v

/-! ### 0x0200 to 0x03FF: the timebase (spec/06) -/

/-- A write of TREE_TIME_HI; moving the tree time backward renews the keys (R436). -/
def writeTreeTime (s : State) (hi : Half) : State :=
  let was := s.treeTime
  let s := writeTreeTimeHi s hi
  if s.isRoot ∧ s.treeTime < was then keyRenew s else s

def writeTimebase (src : WriteSrc) (s : State) (a : Nat) (v : Half) : State :=
  if a = Reg.TB_CTL then (plainWrite s false a v).when (!s.scheduled) tbApplySource
  else if a = Reg.TB_NOM_LO then holdLow s a v
  else if a = Reg.TB_NOM_HI then writeTbNomHi s v
  else if a = Reg.TREE_TIME_LO then (if s.isRoot then holdLow s a v else s)
  else if a = Reg.TREE_TIME_HI then writeTreeTime s v
  else if a = Reg.MS_LAT then
    (plainWrite s false a v).when (src == .remote) fun s => s.setFlag Fld.MS_STATUS_LAT_VALID true
  else if 0x0240 ≤ a ∧ a ≤ 0x025F then
    let u := (a - 0x0240) / 4
    let old := s.reg (Reg.CMP_CTL u)
    let s := plainWrite s false a v
    match (a - 0x0240) % 4 with
    | 0 => cmpCtlWritten s u old
    | 1 => cmpTargetWritten s u
    | 3 => cmpArm s u
    | _ => s
  else plainWrite s false a v

/-! ### 0x0400 to 0x09FF: acquisition, wire diagnostics, impedance (spec/02, 03, 04) -/

/-- WD_PULL: OPEN_THR below the HIGHR_THR that results leaves both at their previous values. -/
def writeWdPull (s : State) (v : Half) : State :=
  let old := s.reg Reg.WD_PULL
  let w := fieldsWritten false Reg.WD_PULL v old
  if Fld.WD_PULL_OPEN_THR.read w < Fld.WD_PULL_HIGHR_THR.read w then
    s.setReg Reg.WD_PULL (Fld.WD_PULL_PULL_T.write old (Fld.WD_PULL_PULL_T.read w))
  else s.setReg Reg.WD_PULL w

/-- IMP_CMD: ABORT first; PREPARE before COMMIT. -/
def impCommand (s : State) (v : Half) : State :=
  if v.getLsbD 2 then impAbort s else (s.when (v.getLsbD 0) impPrepare).when (v.getLsbD 1) impCommit

def writeMeasure (s : State) (a : Nat) (v : Half) : State :=
  if a = Reg.ACQ_REQ then
    s.when (v.getLsbD 0) fun s => if v.getLsbD 1 then reqSecondary s false else reqMain s false
  else if a = Reg.WD_PULL then writeWdPull s v
  else if a = Reg.WD_PERIOD then restartPeriod (plainWrite s false a v)
  else if a = Reg.WD_CMD then wdCommand s v
  else if a = Reg.IMP_CMD then impCommand s v
  else plainWrite s false a v

/-! ### 0x0A00 to 0x0BFF: the balancer and transactions (spec/05) -/

/-- EN = 0 acts as STOP and ABORT. -/
def balDisable (s : State) : State := impAbort (balStop s)

/-- BAL_CMD: STOP first, then CANCEL; PREPARE before COMMIT. -/
def balCommand (s : State) (v : Half) : State :=
  if v.getLsbD 3 then balStop s
  else if v.getLsbD 2 then balCancel s
  else (s.when (v.getLsbD 0) fun s => balPrepare s false).when (v.getLsbD 1) balCommit

/-- TXN_BM: the TARGET map while SCOPE names it and no transaction runs. -/
def writeTargets (s : State) (w : Nat) (v : Half) : State :=
  if s.fld Fld.TXN_BM_SEL_MAP = 0 ∧ s.fld Fld.TXN_CTL_SCOPE = 1 ∧ s.txnPhase = phIdle then
    let base := 2048 * s.fld Fld.TXN_BM_SEL_PAGE + 16 * w
    let keep := s.txnTargets.filter fun n => n / 16 != base / 16
    let add := ((List.range 16).filter fun b => v.getLsbD b).map (base + ·)
    { s with txnTargets := add.foldl insertNum keep }
  else s

/-- TXN_CMD. -/
def txnCommand (s : State) (v : Half) : State := (s.when (v.getLsbD 1) txnAbandon).when (v.getLsbD 0) txnStart

def writeBalance (s : State) (a : Nat) (v : Half) : State :=
  if a = Reg.BAL_CTL then
    let s := plainWrite s false a v
    s.when (!v.getLsbD 0) balDisable
  else if a = Reg.BAL_TEMP then (if balTempOk v then plainWrite s false a v else s)
  else if a = Reg.BAL_CMD then balCommand s v
  else if a = Reg.BAL_GRP_CLR then s.forEach ((List.range 4).filter fun n => v.getLsbD n) groupClear
  else if 0x0B00 ≤ a ∧ a ≤ 0x0B7F then writeTargets s (a - 0x0B00) v
  else if a = Reg.TXN_CMD then txnCommand s v
  else plainWrite s false a v

/-! ### 0x0C00 to 0x0CFF: the window monitors (spec/07) -/

/-- Bits of MON_CTL a monitor of a class has: SAMPLED for cells and block, BLANK for IS. -/
def monCtlMask (m : Nat) : Half :=
  match monClass m with
  | .cell | .block => 0x8FFF
  | .isense => 0x7FFF
  | .rail => 0x0FFF

/-- A write of HI, LO or HYST is kept only if the window stays wide enough (R183). -/
def writeMonitor (s : State) (a : Nat) (v : Half) : State :=
  let m := (a - 0x0C10) / 4
  let w := fieldsWritten false a v (s.reg a)
  match (a - 0x0C10) % 4 with
  | 0 =>
    let w := w &&& monCtlMask m
    let hyst := (Fld.MON_CTL_HYST m).read w
    let w := if monWindowOk m (s.fld (Fld.MON_HI_CODE m)) (s.fld (Fld.MON_LO_CODE m)) hyst then w
      else (Fld.MON_CTL_HYST m).write w (s.fld (Fld.MON_CTL_HYST m))
    -- a change of EN of an IS monitor puts it in or out of service (R20, R135, R188)
    (monModeChange (s.setReg a w)).when (decide (m < 4)) transferPermissions
  | 1 => if monWindowOk m (w.toNat % 1024) (s.fld (Fld.MON_LO_CODE m)) (s.fld (Fld.MON_CTL_HYST m)) then s.setReg a w else s
  | 2 => if monWindowOk m (s.fld (Fld.MON_HI_CODE m)) (w.toNat % 1024) (s.fld (Fld.MON_CTL_HYST m)) then s.setReg a w else s
  | _ => s

/-! ### 0x0D00 to 0x0FFF: thermal, calibration, self-test (spec/14, 15, 16) -/

/-- A threshold register keeps its value unless the order of all three holds (R376). -/
def writeThreshold (s : State) (a : Nat) (v : Half) : State :=
  let w (b : Nat) : Half := if b = a then v else s.reg b
  if thermalOrderOk (w Reg.TH_WARN) (w Reg.TH_THROT) (w Reg.TH_SHUT) then s.setReg a v else s

/-- TH_CMD. -/
def thCommand (s : State) (v : Half) : State := (s.when (v.getLsbD 1) clearSuspect).when (v.getLsbD 0) clearMax

/-- CAL_CMD: ABORT first, FULL before RUN. -/
def calCommand (s : State) (v : Half) : State :=
  if v.getLsbD 2 then calAbort s true
  else if v.getLsbD 1 then calFull s
  else if v.getLsbD 0 then calTrigger s 3 else s

/-- ST_CMD: ABORT first. A START without the unlock is refused with LOCKED (R406). -/
def stCommand (s : State) (v : Half) : State :=
  if v.getLsbD 1 then stAbort s
  else if v.getLsbD 0 then stStart s else s

def writeCare (s : State) (a : Nat) (v : Half) : State :=
  if a = Reg.TH_WARN ∨ a = Reg.TH_THROT ∨ a = Reg.TH_SHUT then writeThreshold s a v
  else if a = Reg.TH_NB then showNb (plainWrite s false a v)
  else if a = Reg.TH_CMD then thCommand s v
  else if a = Reg.CAL_CMD then calCommand s v
  else if a = Reg.ST_KEY_A then stKeyA s v
  else if a = Reg.ST_KEY_B then stKeyB s v
  else if a = Reg.ST_CMD then stCommand s v
  else if a = Reg.ST_CTL then (plainWrite s false a v).startTimer .stBackground
  else plainWrite s (s.flag Fld.ST_STATUS_UNLOCKED) a v

/-! ### 0x1000 to 0x13FF: links, rings, tree (spec/08, 09) -/

/-- A port is powered or switched off (R195): its direction follows from the ring. -/
def portSwitched (s : State) (p : Nat) : State :=
  if s.portOn p then
    (if s.dir p = 0 then setDir s p (if p % 2 = 0 then 1 else 2) else s)
  else (setDir s p 0).setFlag (Fld.LP_STATUS_ALIGNED p) false

/-- RNG*r*_CMD: ENUM first; HALVE only in SERVICE (R255), of a ring in RUN at a position it has. At a hub ENUM is the
root's order of R239 (log entry 38). -/
def ringCmd (s : State) (r : Nat) (v : Half) : State :=
  let pos := v.toNat / 256 % 64
  if v.getLsbD 0 then ringEnumerate s r
  else
    let s := s.when (v.getLsbD 1) fun s => ringReform s r
    let fits := s.rngState r == rngRun && decide (1 ≤ pos ∧ pos ≤ (s.ring r).members.length)
    s.when (v.getLsbD 2 && s.mode == .service && fits) fun s => halve s r (pos - 1) (pos + 1) pos true

/-- A write of SWEEP_PER_HI applies both halves if the period lies in its range. -/
def writeSweepPer (s : State) (hi : Half) : State :=
  let (lo, s) := takeLow s Reg.SWEEP_PER_LO
  let n := lo.toNat + 65536 * hi.toNat
  if 100 ≤ n ∧ n ≤ 60000000 then s.setPair Reg.SWEEP_PER_LO Reg.SWEEP_PER_HI n else s

/-- The sweeps of a root or a node used alone start or stop with SWEEP_EN (R24): a request that waits for a boundary
that will not come takes effect. -/
def sweepsChanged (s : State) : State :=
  let s := acqPowerCheck s
  match s.mc.pend with
  | some m => if s.sweepsRun then s else applyRequest s m
  | none => s

/-- A word of the binding entry shown, in SERVICE (R241). -/
def writeBinding (s : State) (m : Nat) (v : Half) : State :=
  if s.mode != .service then s
  else
    let n := s.regN Reg.BIND_SEL % 8192
    -- bits 7 to 4 of FLAGS are reserved
    bindingChanged (setEntry s n ((s.entry n).set m (if m = 5 then v &&& 0x0FFF else v)))

/-- FORGET: in SERVICE, the entry shown unless it is node 0's. -/
def bindForget (s : State) : State :=
  let n := s.regN Reg.BIND_SEL % 8192
  if s.mode = .service ∧ n ≠ 0 then bindingChanged (setEntry s n bindZero) else s

/-- BIND_CMD: the entry is cleared before the table is stored. -/
def bindCommand (s : State) (v : Half) : State := (s.when (v.getLsbD 0) bindForget).when (v.getLsbD 1) wantCheckpoint

def writeTree (s : State) (a : Nat) (v : Half) : State :=
  if 0x1000 ≤ a ∧ a ≤ 0x105F then
    let s := plainWrite s false a v
    if (a - 0x1000) % 16 = 0 then showDrive (portSwitched s ((a - 0x1000) / 16)) else s
  else if a = Reg.BIND_SEL then plainWrite s false a (v &&& 0x1FFF)
  else if a = Reg.LINK_CMD then s.when (v.getLsbD 0) clearCounters
  else if (ringRegister a).isSome ∧ (a - 0x1100) % 16 = 10 then ringCmd s ((a - 0x1100) / 16) v
  else if a = Reg.SWEEP_PER_LO then holdLow s a v
  else if a = Reg.SWEEP_PER_HI then writeSweepPer s v
  else if a = Reg.TREE_CTL then
    let was := s.flag Fld.TREE_CTL_SWEEP_EN
    let s := plainWrite s false a v
    let s := if s.flag Fld.TREE_CTL_SWEEP_EN && !was then s.startTimer .sweepPeriod else s
    sweepsChanged s
  else if 0x1211 ≤ a ∧ a ≤ 0x1218 then writeBinding s (a - 0x1211) v
  else if a = Reg.BIND_CMD then bindCommand s v
  else plainWrite s false a v

/-! ### 0x1400 to 0x15FF: engines and debug (spec/10) -/

/-- RUN and RESTART of ENG*e*_CTL. An engine is unpowered in OFF, SHIP and WATCH, and is loaded before BOOT starts it. -/
def engControl (s : State) (e : Engine) (v : Half) : State :=
  let was := s.engRun e
  let s := plainWrite s false (Reg.ENG_CTL e.idx) v
  let powered := !modeAsleep s.mode && s.mode != .boot
  let s := if s.fld (Fld.ENG_CTL_WDT e.idx) = 0 then s.stopTimer (.watchdog e) else s.startTimer (.watchdog e)
  if v.getLsbD 8 && powered then engRestart s e
  else if s.engRun e && !was && powered then engStart s e
  else if !s.engRun e && was then
    match (s.eng e).st with
    | .running | .waiting | .halted => engStop s e
    | _ => s
  else s

/-- ENG*e*_DBG: HALT first (R282). -/
def engDebug (s : State) (e : Engine) (v : Half) : State :=
  if !s.dbgOpen then s
  else if v.getLsbD 0 then engHalt s e
  else (s.when (v.getLsbD 2) fun s => engResume s e).when (v.getLsbD 1) fun s => engStep s e

/-- A write of G_HI applies both halves to the register selected, while the engine is halted (R282). -/
def engGWrite (s : State) (e : Engine) (hi : Half) : State :=
  let (lo, s) := takeLow s (Reg.ENG_G_LO e.idx)
  let x := s.eng e
  if s.dbgOpen && x.st == .halted then
    s.setEng e (x.set (s.fld (Fld.ENG_GSEL_REG e.idx)) (BitVec.ofNat 32 (lo.toNat + 65536 * hi.toNat)))
  else s

/-- ENG_SWEVT: bit 4e + j fires line 16 + j at engine e. -/
def hostEvents (s : State) (v : Half) : State :=
  s.forEach ((List.range 12).filter fun i => v.getLsbD i) fun s i => s.fireAt (engineOf (i / 4)) (16 + i % 4)

def writeEngines (src : WriteSrc) (s : State) (a : Nat) (v : Half) : State :=
  if a = Reg.ENG_SWEVT then hostEvents s v
  else if a = Reg.ENG_DBG_KEY then dbgKey s v (src == .dbg)
  else if 0x1400 ≤ a ∧ a ≤ 0x145F then
    let e := engineOf ((a - 0x1400) / 32)
    match (a - 0x1400) % 32 with
    | 0 => engControl s e v
    | 11 => engDebug s e v
    | 20 => plainWrite s false a v
    | 21 => if s.dbgOpen && (s.eng e).st == .halted then holdLow s a v else s
    | 22 => engGWrite s e v
    | _ => plainWrite s s.dbgOpen a v
  else plainWrite s false a v

/-! ### 0x1600 to 0x16FF: rails (spec/13) -/

/-- A write of STEP_HI stores both halves of the step shown; ignored while a sequence runs (R363). -/
def writeStep (s : State) (hi : Half) : State :=
  let (lo, s) := takeLow s Reg.STEP_LO
  if s.seqKind ≠ 0 then s
  else
    let k := s.regN Reg.STEP_SEL % 128
    { s with rail := { s.rail with tables := sparseSet s.rail.tables 0 k (BitVec.ofNat 32 (lo.toNat + 65536 * hi.toNat)) } }

/-- MRG*d*_CTL: a write naming the rail of the other enabled DAC leaves it unchanged. -/
def writeMargin (s : State) (d : Nat) (v : Half) : State :=
  let other := 1 - d
  if v.getLsbD 15 && s.flag (Fld.MRG_CTL_EN other) && v.toNat / 256 % 16 == s.fld (Fld.MRG_CTL_RAIL other) then s
  else showDacs (plainWrite s false (Reg.MRG_CTL d) v)

def writeRails (s : State) (a : Nat) (v : Half) : State :=
  if 0x1600 ≤ a ∧ a ≤ 0x165F then
    if (a - 0x1600) % 8 ≤ 4 ∧ s.railSt ((a - 0x1600) / 8) ≠ rsOff then s else plainWrite s false a v
  else if a = Reg.RAIL_CMD then railCommand s v
  else if a = Reg.SEQ_CMD then seqCommand s v
  else if a = Reg.STEP_LO then (if s.seqKind ≠ 0 then s else holdLow s a v)
  else if a = Reg.STEP_HI then writeStep s v
  else if a = Reg.MRG_CTL 0 then writeMargin s 0 v
  else if a = Reg.MRG_CTL 1 then writeMargin s 1 v
  else if a = Reg.MRG_NEUTRAL 0 ∨ a = Reg.MRG_NEUTRAL 1 then showDacs (plainWrite s false a v)
  else if a = Reg.MRG_GAIN 0 then dacGain (plainWrite s false a v) 0
  else if a = Reg.MRG_GAIN 1 then dacGain (plainWrite s false a v) 1
  else if a = Reg.MRG_TGT 0 then marginWrite s 0 v
  else if a = Reg.MRG_TGT 1 then marginWrite s 1 v
  else if a = Reg.RGRP_CMD then rgrpCommand s v
  else plainWrite s false a v

/-! ### 0x1700 to 0x17FF: the history store and the internal flash (spec/12) -/

/-- HS_KEY (R321). -/
def storeKey (s : State) (v : Half) : State :=
  if s.mode != .service then s
  else if v == 0x5F0A then { s with hs := { s.hs with keyAt := some s.now } }
  else
    let inTime : Bool := match s.hs.keyAt with
      | some t => decide (s.now ≤ t + keyWindow)
      | none => false
    let s := { s with hs := { s.hs with keyAt := none } }
    s.when (v == 0xA35C && inTime) fun s => s.setFlag Fld.HS_STATUS_KEY_OPEN true

/-- FORMAT, while the unlock is open; the unlock closes after it. -/
def storeFormatCmd (s : State) : State :=
  if s.flag Fld.HS_STATUS_KEY_OPEN && (s.storeOn || (s.fld Fld.HS_STATUS_PROBE == 5 && s.role != 0)) then
    formatAndUse (s.setFlag Fld.HS_STATUS_KEY_OPEN false) false
  else s

/-- CLR_CNT: the store's counters at 0x1740 to 0x1746, of which POOL counts nothing that happened but what is left, and
the tiers' REFUSED counts. -/
def storeClear (s : State) : State :=
  s.forEach ([Reg.HS_CORR, Reg.HS_UNCORR, Reg.HS_RETIRED, Reg.HS_PROG_FAIL, Reg.HS_ERASE_MAX, Reg.HS_TORN] ++ [0, 1, 2].map Reg.HS_T_REFUSED) fun s a => s.setReg a 0

/-- HS_CMD. -/
def storeCommand (s : State) (v : Half) : State :=
  ((s.when (v.getLsbD 0) storeFlush).when (v.getLsbD 1) storeFormatCmd).when (v.getLsbD 2) storeClear

def writeStore (s : State) (a : Nat) (v : Half) : State :=
  if a = Reg.HS_CMD then storeCommand s v
  else if a = Reg.HS_KEY then storeKey s v
  else if a = Reg.HS_RD_CMD then s.when (v.getLsbD 0) loadStart
  else if a = Reg.FFL_CMD then s.when (v.getLsbD 0) fflClear
  else plainWrite s false a v

/-! ### 0x1800 to 0x19FF: keys and check values, the Alley (spec/17, 18) -/

/-- A word of the KEY_PIN selected. -/
def writePin (s : State) (m : Nat) (v : Half) : State :=
  { s with keys := { s.keys with pins := sparseSet s.keys.pins 0 (4 * s.fld Fld.KEY_PIN_SEL_PIN + m) v } }

/-- ATT_CMD (R427). -/
def attCommand (s : State) (v : Half) : State :=
  if v.getLsbD 0 then (if v.getLsbD 1 then attCert s else attStatement s) else s

def writeKeys (s : State) (a : Nat) (v : Half) : State :=
  if 0x1800 ≤ a ∧ a ≤ 0x187F then
    (if (a - 0x1800) % 32 ≤ 0x16 then cvuWrite s ((a - 0x1800) / 32) ((a - 0x1800) % 32) v else s)
  else if a = Reg.KEY_CMD then s.when (v.getLsbD 0) keyRenew
  else if 0x1898 ≤ a ∧ a ≤ 0x189B then writePin s (a - 0x1898) v
  else if a = Reg.TRNG_CMD then s.when (v.getLsbD 0) trngGen
  else if a = Reg.ATT_CMD then attCommand s v
  else plainWrite s false a v

def writeAlley (s : State) (a : Nat) (v : Half) : State :=
  if a = Reg.ALY_CMD then alyCommand s v
  else if a = Reg.ALY_TIME then ((plainWrite s false a v).startTimer .alyPoll).startTimer .alyRescan
  else plainWrite s false a v

/-! ### Engine memory window (R496) -/

/-- SPACE and the byte address of a window word; none where the page lies outside the space. -/
def State.engineWindow (s : State) (w : Nat) : Option (Nat × Nat) :=
  let space := s.fld Fld.WIN_ENG_SPACE
  let page := s.fld Fld.WIN_ENG_PAGE
  if space = 0 ∨ page < 32 then some (space, 2048 * page + 2 * w) else none

/-- The whole 32-bit word is written with fresh parity; program SRAM only while the debug fields are open and the engine
is STOPPED or HALTED. -/
def writeEngineWord (s : State) (space addr : Nat) (w : Word) : State :=
  let b := addr / 4
  if space = 0 then
    let s := setDbytes s (4 * b) (leBytes 4 w.toNat)
    { s with badData := s.badData.filter fun x => x / 4 != b }
  else
    let e := engineOf (space - 1)
    let x := s.eng e
    if s.dbgOpen && (x.st == .stopped || x.st == .halted) then
      s.setEng e { x with prog := sparseSet x.prog 0 b w, badProg := x.badProg.filter (· != b) }
    else s

/-- A write of the window: the even half-word is held, the odd one writes the word. -/
def writeWindow (s : State) (a : Nat) (v : Half) : State :=
  match s.engineWindow (a - 0x3000) with
  | none => s
  | some (space, addr) =>
    if a % 2 = 0 then holdLow s a v
    else
      let lo := sparseGet s.held 0 (a - 1)
      let s := { s with held := s.held.filter (·.1 != a - 1) }
      writeEngineWord s space addr (BitVec.ofNat 32 (lo.toNat + 65536 * v.toNat))

/-! ### One write -/

/-- RMT_NODE, RMT_ADDR, RMT_LEN and RMT_D are ignored while an access is pending (R499). -/
def writeRemote (s : State) (a : Nat) (v : Half) : State :=
  if s.fld Fld.RMT_STATUS_STATE = 1 ∧ a ≠ Reg.RMT_STATUS then s
  else
    let s := plainWrite s false a v
    if a = Reg.RMT_STATUS ∧ v.getLsbD 4 ∧ s.fld Fld.RMT_STATUS_STATE = 2 then s.setFld Fld.RMT_STATUS_STATE 0 else s

/-- A register of the map is written; RMT_CMD, which needs the whole of this, is in HostOps. -/
def regWrite (src : WriteSrc) (s : State) (a : Nat) (v : Half) : State :=
  if s.absent a then s
  else if a < 0x0100 then writeModes s a v
  else if a < 0x0200 then plainWrite s false a v
  else if a < 0x0400 then writeTimebase src s a v
  else if a < 0x0A00 then writeMeasure s a v
  else if a < 0x0C00 then writeBalance s a v
  else if a < 0x0C10 then plainWrite s false a v
  else if a < 0x0CB4 then writeMonitor s a v
  else if a < 0x0D00 then s
  else if a < 0x1000 then writeCare s a v
  else if a < 0x1400 then writeTree s a v
  else if a < 0x1600 then writeEngines src s a v
  else if a < 0x1700 then writeRails s a v
  else if a < 0x1800 then writeStore s a v
  else if a < 0x1900 then writeKeys s a v
  else if a < 0x1A00 then writeAlley s a v
  else if 0x3000 ≤ a ∧ a < 0x3400 then writeWindow s a v
  else if 0x3D00 ≤ a ∧ a < 0x3D80 then (if a = Reg.RMT_CMD then s else writeRemote s a v)
  else if 0x3F00 ≤ a ∧ a < 0x3F03 then plainWrite s false a v
  else s

/-- An image entry is applied as a host write; the answer says whether it was left without effect (R470). -/
def imageWrite (s : State) (a : Nat) (v : Half) : Bool × State :=
  let t := regWrite .image s a v
  (decide (t = s) && s.live a != v, t)

end Sys2Proof.Machine
end

