-- ==== Sys2Proof/Machine/HostOps.lean ====
section
/-!
DEFINITION. The host port (spec/20): reads with their captures (R8, R65), the windows (R494 to R497), frames of the QSPI
port and the DBG pins (R477 to R489), and REMOTE access as the root makes it and a node serves it (R234, R235, R498 to
R500).
-/
namespace Sys2Proof.Machine

/-! ### Captures (R8, R64, R65) -/

/-- The SNAP group a low half-word captures: its first register and its length. -/
def snapGroup (a : Nat) : Option (Nat × Nat) :=
  if a = 0x0208 then some (a, 3)
  else if a = 0x020C ∨ a = 0x020E ∨ a = 0x0272 then some (a, 2)
  else if a = 0x0214 ∨ a = 0x1204 then some (a, 3)
  else if a = 0x0600 ∨ a = 0x0650 then some (a, 80)
  else if a = 0x0912 ∨ a = 0x0E05 ∨ a = 0x1911 then some (a, 8)
  else if a = 0x0A88 then some (a, 48)
  else if 0x0F10 ≤ a ∧ a < 0x0F70 ∧ a % 8 = 0 then some (a, 7)
  else if 0x1000 ≤ a ∧ a < 0x1060 ∧ (a % 16 = 8 ∨ a % 16 = 10) then some (a, 2)
  else if 0x1400 ≤ a ∧ a < 0x1460 ∧ (a % 32 = 8 ∨ a % 32 = 21) then some (a, 2)
  else if 0x1711 ≤ a ∧ a ≤ 0x1731 ∧ a % 16 = 1 then some (a, 6)
  else if a = 0x1790 then some (a, 32)
  else if 0x1800 ≤ a ∧ a < 0x1880 ∧ (a % 32 = 9 ∨ a % 32 = 13 ∨ a % 32 = 21) then some (a, 2)
  else if a = 0x18A1 then some (a, 9)
  else if a = 0x18B8 then some (a, 72)
  else if a = 0x1920 then some (a, 4)
  else if 0x3000 ≤ a ∧ a < 0x3400 ∧ a % 2 = 0 then some (a, 2)
  else none

/-- The first register of the group a higher half-word belongs to, if the address is one. -/
def snapHigh (a : Nat) : Option Nat :=
  ((List.range 80).filter (1 ≤ ·)).findSome? fun k =>
    if k ≤ a then (match snapGroup (a - k) with
      | some (b, n) => if k < n then some b else none
      | none => none)
    else none

/-- The captured values of a path. -/
def State.snaps (s : State) : Path → Sparse Half
  | .qspi => s.snapQspi
  | .remote => s.snapRemote
  | .dbg => s.snapDbg

def setSnaps (s : State) (p : Path) (m : Sparse Half) : State :=
  match p with
  | .qspi => { s with snapQspi := m }
  | .remote => { s with snapRemote := m }
  | .dbg => { s with snapDbg := m }

/-- A path keeps a captured half-word. -/
def setSnap (s : State) (p : Path) (a : Nat) (v : Half) : State :=
  setSnaps s p (sparseSet (s.snaps p) (resetValue a) a v)

def State.snap (s : State) (p : Path) (a : Nat) : Half := sparseGet (s.snaps p) (resetValue a) a

/-- The sequence a path captured last, of the main or the secondary set. -/
def State.lastSeq (s : State) (p : Path) (sec : Bool) : Option Nat :=
  match p, sec with
  | .qspi, false => s.acq.capMainQspi
  | .remote, false => s.acq.capMainRemote
  | .dbg, false => s.acq.capMainDbg
  | .qspi, true => s.acq.capSecQspi
  | .remote, true => s.acq.capSecRemote
  | .dbg, true => s.acq.capSecDbg

def setLastSeq (s : State) (p : Path) (sec : Bool) (n : Nat) : State :=
  let a := s.acq
  { s with acq := match p, sec with
    | .qspi, false => { a with capMainQspi := some n }
    | .remote, false => { a with capMainRemote := some n }
    | .dbg, false => { a with capMainDbg := some n }
    | .qspi, true => { a with capSecQspi := some n }
    | .remote, true => { a with capSecRemote := some n }
    | .dbg, true => { a with capSecDbg := some n } }

/-- Every half-word of a group is captured in this tick. -/
def captureGroup (s : State) (p : Path) (base n : Nat) : State :=
  s.forEach ((List.range n).map (base + ·)) fun s a => setSnap s p a (s.live a)

/-- A capture of a result set, with its STALE and REREAD marks (R61, R64, R65). -/
def captureResult (s : State) (p : Path) (sec : Bool) : State :=
  let base := if sec then 0x0650 else 0x0600
  let s := captureGroup s p base 80
  let st := s.live (base + 1)
  let stale := if sec then s.acq.reqSec || s.acq.sarATest || s.acq.sarBTest else s.acq.req != .idle
  let reread := st.getLsbD 0 && s.lastSeq p sec == some (s.regN base)
  let w := st ||| (if stale then 2 else 0) ||| (if reread then 4 else 0)
  setLastSeq (setSnap s p (base + 1) w) p sec (s.regN base)

/-- The low half-word of a group is read. -/
def capture (s : State) (p : Path) (base n : Nat) : State :=
  if base = 0x0600 then captureResult s p false
  else if base = 0x0650 then captureResult s p true
  else captureGroup s p base n

/-! ### Windows (R494 to R497) -/

/-- Half-word `k` of a 32-bit word. -/
def halfOf (w : BitVec 32) (k : Nat) : Half := w.extractLsb' (16 * k) 16

/-- A word of the mirror window. -/
def State.mirrorWindow (s : State) (w : Nat) : Half :=
  if s.isRoot then halfOf (s.mirrorAt (2048 * s.fld Fld.WIN_MIR_PAGE + w / 2)) (w % 2) else 0

/-- A word of the NAND page buffer window: data at 0x3400, metadata at 0x3C00. -/
def State.pageWindow (s : State) (a : Nat) : Half :=
  if !s.storeOn then 0
  else if a < 0x3C00 then byteWord s.hs.window (a - 0x3400) else byteWord s.hs.windowMeta (a - 0x3C00)

/-- A 32-bit word of an engine memory, and whether its parity is wrong. -/
def State.engineWord (s : State) (space addr : Nat) : Word × Bool :=
  let b := addr / 4
  if space = 0 then (BitVec.ofNat 32 (fromLe (s.dbytes (4 * b) 4)), s.dataBad (4 * b) 4)
  else
    let x := s.eng (engineOf (space - 1))
    (sparseGet x.prog 0 b, x.badProg.contains b)

/-- The even half of an engine-window word is read: the whole word is captured; a parity error sets PERR (R496). -/
def captureEngineWord (s : State) (p : Path) (a : Nat) : State :=
  match s.engineWindow (a - 0x3000) with
  | none => setSnap (setSnap s p a 0) p (a + 1) 0
  | some (space, addr) =>
    let (w, bad) := s.engineWord space addr
    let s := setSnap (setSnap s p a (halfOf w 0)) p (a + 1) (halfOf w 1)
    s.when bad fun s => s.setFlag Fld.WIN_STAT_PERR true

/-! ### One read -/

/-- What the DBG pins reach (R284). -/
def dbgReaches (a : Nat) : Bool :=
  decide (a ≤ 0x00FF) || (decide (0x1400 ≤ a) && decide (a ≤ 0x15FF)) || (decide (0x3000 ≤ a) && decide (a ≤ 0x33FF))

/-- A host path reads one register. -/
def hostRead (s : State) (p : Path) (a : Nat) : Half × State :=
  if p = .dbg ∧ !dbgReaches a then (0, s)
  else if 0x2000 ≤ a ∧ a < 0x3000 then (s.mirrorWindow (a - 0x2000), s)
  else if 0x3000 ≤ a ∧ a < 0x3400 then
    let s := if a % 2 = 0 then captureEngineWord s p a else s
    (s.snap p a, s)
  else if 0x3400 ≤ a ∧ a ≤ 0x3C0F then (s.pageWindow a, s)
  else if s.absent a || s.storeHidden a then (0, s)
  else match snapGroup a with
    | some (base, n) => let s := capture s p base n; (s.snap p a, s)
    | none => match snapHigh a with
      | some _ => (s.snap p a, s)
      | none => (s.live a, s)

/-- Consecutive registers in ascending order, one per tick. -/
def hostReads (s : State) (p : Path) (a : Nat) : Nat → List Half × State
  | 0 => ([], s)
  | n + 1 =>
    let (v, s) := hostRead s p a
    let (l, s) := hostReads s p (a + 1) n
    (v :: l, s)

/-! ### REMOTE access at the root (R498 to R500) -/

/-- The result codes of RMT_STATUS beside those of R150. -/
def rmtAddr : Nat := 0x06
def rmtTimeout : Nat := 0x80
def rmtRoute : Nat := 0x81
def rmtRange : Nat := 0x82

/-- The access completes (R499). -/
def remoteComplete (s : State) (result sweep : Nat) : State :=
  let s := { s with tree := { s.tree with remoteRings := [] } }
  let s := s.setFld Fld.RMT_STATUS_RESULT result
  let s := s.setFld Fld.RMT_STATUS_STATE 2
  ((s.setRegN Reg.RMT_SWEEP sweep).setFlag Fld.RMT_STATUS_DONE true).raiseIrq irqRemote

/-- An access that no answer ends: RMT_SWEEP, the sweep of the answer, has no stated value (log entry 92). -/
def remoteFail (s : State) (result : Nat) : State :=
  let (n, s) := s.drawBelow 65536
  remoteComplete s result n

/-- The node and the span the remote window names. -/
def State.rmtNode (s : State) : Nat := s.fld Fld.RMT_NODE_NODE
def State.rmtBcast (s : State) : Bool := s.flag Fld.RMT_NODE_BCAST
def State.rmtLen (s : State) : Nat := s.fld Fld.RMT_LEN_COUNT
def State.rmtFirst (s : State) : Nat := s.regN Reg.RMT_ADDR
def State.rmtData (s : State) : List Half := (List.range s.rmtLen).map fun i => s.reg (Reg.RMT_D i)

/-- The words of the remote window take a read's data. -/
def remoteFill (s : State) (l : List Half) : State :=
  s.forEach (l.take 112).zipIdx fun s (p : Half × Nat) => s.setReg (Reg.RMT_D p.2) p.1

/-- The COMMAND of a remote access (R234). -/
def State.remoteFrame (s : State) (write : Bool) (dst : BitVec 16) : Frame :=
  let head := [if write then 0x11 else 0x10] ++ leBytes 1 s.rmtLen ++ leBytes 2 s.rmtFirst
  if write then s.tagCommand (s.newFrame tyCommand dst (head ++ s.rmtData.flatMap fun w => leBytes 2 w.toNat))
  else s.newFrame tyCommand dst head

/-- Root rings that hold members. -/
def State.memberRings (s : State) : List Nat := s.headed.filter fun r => !(s.ring r).members.isEmpty

/-- A broadcast write has left on a ring; the last one completes the access (R500). -/
def remoteSent (s : State) (r : Nat) : State :=
  if s.tree.remoteRings.isEmpty then s
  else
    let left := s.tree.remoteRings.filter (· != r)
    let s := { s with tree := { s.tree with remoteRings := left } }
    if left.isEmpty then remoteComplete s 0 0 else s

/-- An access that goes out (R498, R500): pending until its answer, or until the broadcast has left everywhere. -/
def remoteSend (s : State) (write : Bool) : State :=
  let s := s.setFld Fld.RMT_STATUS_STATE 1
  let s := { s with tree := { s.tree with remoteSweeps := 0, remoteRings := [] } }
  if s.rmtBcast then
    let rings := s.memberRings
    let f := s.remoteFrame write bcastDst
    if rings.isEmpty then remoteComplete s 0 0
    else
      let s := { s with tree := { s.tree with remoteRings := rings } }
      s.forEach rings fun s r =>
        let now := (s.ring r).speaks
        let s := ringCommand s r f
        s.when now fun s => remoteSent s r
  else
    let n := s.rmtNode
    let e := s.entry n
    if !eValid e || !ePresent e then remoteFail s rmtRoute
    else
      let (ok, s) := sendToNode s n (s.remoteFrame write (nodeDst n))
      if ok then s else remoteFail s rmtRoute

/-- Words written in ascending order, one per tick, each tick setting again the flags whose cause lasts (R6, R482). -/
def writeWords (put : State → Nat → Half → State) (s : State) (a : Nat) : List Half → State
  | [] => s
  | [v] => put s a v
  | v :: rest => writeWords put (settle (put s a v)) (a + 1) rest

/-- A remote access starts. RANGE and ADDR are found before anything is sent (R499); the root serves node 0 and its own
part of a broadcast at once, through `put`. -/
def remoteStart (put : State → Nat → Half → State) (s : State) (write : Bool) : State :=
  if !s.isRoot || s.fld Fld.RMT_STATUS_STATE == 1 then s
  else
    let n := s.rmtLen
    if n = 0 ∨ 112 < n ∨ (!write ∧ s.rmtBcast) then remoteFail s rmtRange
    else if 0x4000 < s.rmtFirst + n then remoteFail s rmtAddr
    else if s.rmtBcast ∨ s.rmtNode = 0 then
      let data := s.rmtData
      let frame := s.rmtBcast
      if write then
        let sent := if frame then remoteSend s write else s
        let t := writeWords put sent s.rmtFirst data
        if frame then t else remoteComplete t 0 0
      else
        let (l, t) := hostReads s .remote s.rmtFirst n
        remoteComplete (remoteFill t l) 0 0
    else remoteSend s write

/-- A write of RMT_CMD: with both bits the write is made (R498). -/
def remoteCommand (put : State → Nat → Half → State) (s : State) (v : Half) : State :=
  if v.getLsbD 1 then remoteStart put s true
  else if v.getLsbD 0 then remoteStart put s false else s

/-- A write by any path. The words of a remote access to the root's own RMT_CMD start nothing, since one access runs at
a time. -/
def hostWrite (src : WriteSrc) (s : State) (a : Nat) (v : Half) : State :=
  if src = .dbg ∧ !dbgReaches a then s
  else if src = .engine ∧ Reg.TH_NTC_T 0 ≤ a ∧ a ≤ Reg.TH_NTC_T 5 then ntcWritten s (a - Reg.TH_NTC_T 0) v
  else if a = Reg.RMT_CMD ∧ s.isRoot ∧ src ≠ .remote then remoteCommand (regWrite .remote) s v
  else regWrite src s a v

/-- The oldest write of the register bus is applied (R270). -/
def busApply (s : State) : State :=
  match s.bus with
  | [] => s
  | b :: rest => hostWrite .engine { s with bus := rest } b.addr b.value

/-- The writes that have waited on the register bus are applied, one a tick: a write of the host comes after them (R270). -/
def busDrain (s : State) : State :=
  { s with bus := [] }.forEach s.bus fun s b => settle (hostWrite .engine s b.addr b.value)

/-- The words of a frame are written, behind what the register bus holds. -/
def hostWrites (src : WriteSrc) (s : State) (a : Nat) (l : List Half) : State :=
  writeWords (hostWrite src) (busDrain s) a l

/-- A node's RESPONSE to a remote access of the host (R234, R499). -/
def remoteResponse (s : State) (f : Frame) : State :=
  let op := leAt f.payload 0 1
  let res := leAt f.payload 1 1
  let waiting := s.isRoot && s.fld Fld.RMT_STATUS_STATE == 1 && !s.rmtBcast && s.rmtNode == f.src.toNat &&
    s.rmtFirst == leAt f.payload 2 2 && (op == 0x10 || op == 0x11)
  if !waiting then s
  else
    let words := (List.range s.rmtLen).map fun i => BitVec.ofNat 16 (leAt f.payload (4 + 2 * i) 2)
    let s := if op = 0x10 ∧ res = 0 then remoteFill s words else s
    remoteComplete s res (s.regN Reg.SWEEP_NUM)

/-- REM_TO sweeps have passed without an answer (R235, R499). -/
def remoteTimeout (s : State) : State :=
  if s.isRoot && s.fld Fld.RMT_STATUS_STATE == 1 && s.tree.remoteRings.isEmpty &&
    decide (s.fld Fld.TREE_CTL_REM_TO ≤ s.tree.remoteSweeps)
  then remoteFail s rmtTimeout else s

/-! ### REMOTE access at a node (R234, R235) -/

/-- A payload of R234 holds what its COUNT says. -/
def remoteShape (f : Frame) : Bool :=
  let n := leAt f.payload 1 1
  decide (1 ≤ n) && decide (n ≤ 112) &&
  (leAt f.payload 0 1 == 0x10 && f.payload.length == 4 || leAt f.payload 0 1 == 0x11 && f.payload.length == 12 + 2 * n)

/-- Some word of the span lies at 0x4000 or above. -/
def remoteOutside (f : Frame) : Bool := decide (0x4000 < leAt f.payload 2 2 + leAt f.payload 1 1)

/-- The answer to a remote access. -/
def remoteAnswer (s : State) (f : Frame) (res : Byte) (data : List Half) (tag : Bool) : State :=
  if f.bcast then s
  else respond s f.src.toNat ([f.payload.getD 0 0, res] ++ leBytes 2 (leAt f.payload 2 2) ++
    data.flatMap fun w => leBytes 2 w.toNat) tag

/-- A node serves a READ. -/
def serveRead (s : State) (f : Frame) : State :=
  if remoteOutside f then remoteAnswer s f resAddr [] false
  else
    let (l, s) := hostReads s .remote (leAt f.payload 2 2) (leAt f.payload 1 1)
    remoteAnswer s f resAck l false

/-- A node serves a WRITE: the tag first, then the addresses. -/
def serveWrite (s : State) (f : Frame) : State :=
  match checkTag s f with
  | (.bad, s) => remoteAnswer s f resAuth [] true
  | (.repeated, s) => s
  | (.good, s) =>
    if remoteOutside f then remoteAnswer s f resAddr [] true
    else
      let words := (List.range (leAt f.payload 1 1)).map fun i => BitVec.ofNat 16 (leAt f.payload (4 + 2 * i) 2)
      remoteAnswer (hostWrites .remote s (leAt f.payload 2 2) words) f resAck [] true

/-! ### Frames of the host port (R477 to R488) -/

/-- CRC8 of the command word (R480). -/
def cmdGood (c : BitVec 32) : Bool :=
  crc8Run 0xFF [c.extractLsb' 24 8, c.extractLsb' 16 8, c.extractLsb' 8 8] == c.extractLsb' 0 8

/-- Words as bytes in wire order (R478, R481). -/
def wireBytes (l : List Half) : List Byte := l.flatMap fun w => [w.extractLsb' 8 8, w.extractLsb' 0 8]

/-- CRC-16 of a frame (R481). -/
def frameCrc (l : List Half) : Half := crc16Run 0xFFFF (wireBytes l)

def resultOk : Nat := 0
def resultDataCrc : Nat := 2
def resultAddr : Nat := 3
def resultBusy : Nat := 4

/-- HSTAT (R485). -/
def State.hstat (s : State) (result : Nat) : Half :=
  BitVec.ofNat 16 (4096 * result + 2048 * s.hirq.toNat + s.regN Reg.HIF_FRAMES % 256)

/-- An error of a frame: its bit, and the count. -/
def hostError (s : State) (f : BitField) : State := (s.setFlag f true).incSat Reg.HIF_ERRS

/-- What a port drove. -/
def setAnswer (s : State) (p : Path) (l : List Half) : State :=
  if p = .dbg then { s with dbgAnswer := l } else { s with hostAnswer := l }

/-- The frame ends: HSTAT, and for a read the data words and the CRC-16 over both. HSTAT shows the flags as they stand after the
ticks of the frame's accesses, with those set again whose cause lasts (R6, R485). -/
def hostAnswerFrame (s : State) (f : HostFrame) (result : Nat) (data : List Half) : State :=
  if f.cut then s
  else
    let h := (settle s).hstat result
    setAnswer s f.path (if cmdRead f.cmd then h :: data ++ [frameCrc (h :: data)] else [h])

/-- The source a path's writes carry. -/
def writeSrcOf : Path → WriteSrc
  | .qspi => .qspi
  | .remote => .remote
  | .dbg => .dbg

/-- The frame's accesses are made and it is answered OK. -/
def serveFrame (s : State) (f : HostFrame) : State :=
  if cmdRead f.cmd then
    let (l, s) := hostReads s f.path (cmdAddr f.cmd) (cmdCount f.cmd)
    hostAnswerFrame s f resultOk l
  else hostAnswerFrame (hostWrites (writeSrcOf f.path) s (cmdAddr f.cmd) f.words) f resultOk []

/-- Words of a frame lie in a span. -/
def HostFrame.meets (f : HostFrame) (lo hi : Nat) : Bool :=
  decide (cmdAddr f.cmd ≤ hi) && decide (lo < cmdAddr f.cmd + cmdCount f.cmd)

/-- The frame waits (R484): for a march of the memory its window shows (R414), or for a load that fills the page buffer
(R497). A page of the mirror window lies in one segment. -/
def State.frameWaits (s : State) (f : HostFrame) : Bool :=
  let test (l : List Nat) : Bool := match s.st.cur with
    | some t => l.contains t
    | none => false
  f.meets 0x3000 0x33FF && test [2, 3] ||
  f.path != .dbg && (cmdRead f.cmd && f.meets 0x3400 0x3C0F && s.hs.load.isSome ||
    cmdRead f.cmd && f.meets 0x2000 0x2FFF && s.isRoot && test [5] && s.fld Fld.WIN_MIR_PAGE / 2 == s.st.part)

/-- Frames that waited and wait no longer are served, each port's in order. -/
def hostResume (s : State) : State :=
  let step (a : State × List HostFrame) (f : HostFrame) : State × List HostFrame :=
    if a.1.frameWaits f || a.2.any (fun g => g.path == f.path) then (a.1, a.2 ++ [f]) else (serveFrame a.1 f, a.2)
  let l := s.hostWait
  let (s, kept) := l.foldl step ({ s with hostWait := [] }, [])
  { s with hostWait := kept }

/-- A frame whose checks have passed: served now, or when what holds it ends. -/
def hostAccess (s : State) (f : HostFrame) : State := hostResume { s with hostWait := s.hostWait ++ [f] }

/-- A whole frame on a port (R482, R483, R486, R487). `crc` is the CRC-16 a write frame carries. -/
def hostFrame (s : State) (p : Path) (cmd : BitVec 32) (words : List Half) (crc : Half) : State :=
  let f : HostFrame := { path := p, cmd := cmd, words := words }
  if modeAsleep s.mode then s
  else if !cmdGood cmd then setAnswer (hostError s Fld.HIF_STATUS_CMD_CRC) p []
  else
    let s := s.incWrap Reg.HIF_FRAMES
    if 0x4000 < cmdAddr cmd + cmdCount cmd then
      hostAnswerFrame (hostError s Fld.HIF_STATUS_ADDR) f resultAddr (List.replicate (cmdCount cmd) 0)
    else if !cmdRead cmd && frameCrc words != crc then hostAnswerFrame (hostError s Fld.HIF_STATUS_DATA_CRC) f resultDataCrc []
    else hostAccess s f

/-- HWAIT elapses: the first frame that waits ends BUSY and makes none of its accesses (R484). -/
def hostWaitTimeout (s : State) : State :=
  match s.hostWait with
  | [] => s
  | f :: rest =>
    let s := hostError { s with hostWait := rest } Fld.HIF_STATUS_BUSY
    hostResume (hostAnswerFrame s f resultBusy (List.replicate (cmdCount f.cmd) 0))

/-- HCS ends a frame before its last nibble (R488): `cmd` the command word where it was complete, `words` and `crc` a
write's words and CRC-16 where they were. -/
def hostCut (s : State) (cmd : Option (BitVec 32)) (words : List Half) (crc : Option Half) : State :=
  let ended (s : State) : State := setAnswer (s.setFlag Fld.HIF_STATUS_CUT true) .qspi []
  if modeAsleep s.mode then s
  else match cmd with
    | none => (ended s).incSat Reg.HIF_ERRS
    | some c =>
      if !cmdGood c then setAnswer (hostError s Fld.HIF_STATUS_CMD_CRC) .qspi []
      else
        let s := (ended (s.incWrap Reg.HIF_FRAMES)).incSat Reg.HIF_ERRS
        let f : HostFrame := { path := .qspi, cmd := c, words := words, cut := true }
        if 0x4000 < cmdAddr c + cmdCount c then s.setFlag Fld.HIF_STATUS_ADDR true
        else if cmdRead c then hostAccess s f
        else match crc with
          | none => s
          | some x => if frameCrc words = x then hostAccess s f else s.setFlag Fld.HIF_STATUS_DATA_CRC true

end Sys2Proof.Machine
end

