-- ==== Sys2Proof/Machine/BootOps.lean ====
section
/-!
DEFINITION. BOOT, the start ledger and profiles in force (R463 to R473): the steps with their paths and failures, what a
profile sets, and the switch at a boundary; before them, the end of an operation of the internal flash.
-/
namespace Sys2Proof.Machine

/-! ### The internal flash: an operation ends (R345, R346) -/

/-- The request in progress is complete. -/
def flashFinish (s : State) : State :=
  match s.fla.cur with
  | none => s
  | some r =>
    let s := fflFinish { s with fla := { s.fla with cur := none, ops := [] } } r
    let s := if isCalStore r then s.setFlag Fld.CAL_STATUS_STORE_PEND (s.fla.queue.any isCalStore) else s
    updAdvance s

/-- The operation in progress ends; `good`: a programmed word reads back right. -/
def flashOpDone (s : State) (good : Bool) : State :=
  match s.fla.busy, s.fla.ops with
  | true, op :: rest =>
    let s := flashOpOver s
    let s := match op with
      | .program w v => programWord s w v good
      | .erase x => eraseSector s x
    let upd := s.fla.cur.any isUpdate
    let s := { s with fla := { s.fla with ops := rest } }
    let s := if upd && !good then updWordBad s else s
    if s.fla.ops.isEmpty then flashFinish s else s
  | _, _ => s

/-- Every write that waits is made now, one operation after another, as far as it is permitted. -/
def flashDrain : Nat → State → State
  | 0, s => s
  | k + 1, s =>
    let s := flashBegin s
    if s.fla.cur.isNone || !s.flashPermitted then s
    else if s.fla.ops.isEmpty then flashDrain k (flashFinish s)
    else flashDrain k (flashOpDone { s with fla := { s.fla with busy := true } } true)

/-! ### What a profile sets (R16 to R19, R470, R473) -/

/-- Role, cells and BLOCKLESS of a profile. -/
def takeRole (s : State) (role cells : Nat) (blockless : Bool) : State :=
  let s := s.setFld Fld.NODE_ROLE_ROLE role
  let s := s.setFlag Fld.NODE_ROLE_BLOCKLESS blockless
  let s := s.setFlag Fld.NODE_ROLE_TAKEOVER false
  let s := s.setFlag Fld.NODE_ROLE_ALONE (role == 2 && s.rings.all fun x => !(x.members.any (·.node.isSome)))
  monModeChange (wdReplan (s.setFld Fld.CELL_MAP_ACTIVE_CELLS cells) s.cells)

/-- The image, entry by entry; IMG_SKIP counts those left without effect. -/
def applyImage (s : State) (l : List (Nat × Half)) : State :=
  s.forEach l fun s p =>
    let (skipped, s) := imageWrite s p.1 p.2
    s.when skipped fun s => s.incSat Reg.IMG_SKIP

/-- What follows from registers set outside a write of their own. -/
def showApplied (s : State) : State := s.forEach [0, 1] dacGain |> fun s => showDacs (showDrive (monModeChange (tbApplyLocal (tbApplySource s))))

/-- The image's entries in a staged switch. -/
def switchImage (w : Switch) : List (Nat × Half) :=
  (List.range (hImg w.bytes)).map fun i => (leAt w.bytes (64 + 4 * i) 2, BitVec.ofNat 16 (leAt w.bytes (66 + 4 * i) 2))

/-- The staged profile takes effect (R276, R473). -/
def profSwitch (s : State) : State :=
  match s.sw with
  | none => s
  | some w =>
    let p := w.profile
    let image := switchImage w
    let old : Switch := {
      profile := s.fld Fld.PROF_STATUS_ACTIVE, undo := image.map fun x => (x.1, s.reg x.1), role := s.role
      cells := s.cells, blockless := s.flag Fld.NODE_ROLE_BLOCKLESS, takeover := s.flag Fld.NODE_ROLE_TAKEOVER
      tables := s.rail.tables }
    let s := calAbort (impAbort (balStop s)) false
    -- a sequence of self-tests is cut short (R410)
    let s := if s.fld Fld.ST_STATUS_STATE = 0 then s else stSequenceOver (stCut s)
    let (role, cells, bl) := (s.profRole p, s.profCells p, s.profBlockless p)
    let s := s.setFld Fld.PROF_STATUS_ACTIVE p
    let s := summarySwitched (takeRole s role cells bl)
    let s := applyImage s image
    let s := { s with sw := none, swShadow := some old, bt := { s.bt with fallback := false } }
    let s := s.setFld Fld.PROF_STATUS_STAGE 0
    let s := s.setFlag Fld.PROF_STATUS_FALLBACK false
    let s := s.setFlag Fld.PROF_STATUS_PROF_BAD false
    let s := (digestNow s).forEach engines engSwap
    if s.profStart p = 12 then enterSafe s 7 else s

/-- ROLLBACK of a switch: the profile before it and its programs return. -/
def profRollback (s : State) : State :=
  match s.swShadow with
  | none => s
  | some w =>
    let s := s.setFld Fld.PROF_STATUS_ACTIVE w.profile
    let s := summarySwitched (takeRole s w.role w.cells w.blockless)
    let s := s.setFlag Fld.NODE_ROLE_TAKEOVER w.takeover
    let s := s.forEach w.undo.reverse fun s p => s.setReg p.1 p.2
    let s := { s with swShadow := none, rail := { s.rail with tables := w.tables } }
    -- monitors and transfers are judged again under the settings that returned (R20, R135)
    transferPermissions (monModeChange ((digestNow (showApplied s)).forEach engines engSwapBack))

/-! ### Steps and their paths (R463, R465) -/

def stepLedger : Nat := 3
def stepKeys : Nat := 4
def stepPsel : Nat := 5
def stepProfile : Nat := 6
def stepCal : Nat := 7
def stepEngines : Nat := 8
def stepProbe : Nat := 9
def stepLink : Nat := 10
def stepNand : Nat := 11
def stepRails : Nat := 12
def stepCalrun : Nat := bootCalStep
def stepAlley : Nat := 14
def stepMode : Nat := 15

/-- The path of a step: 0 normal, 1 alternate, 2 skipped. -/
def State.stepPath (s : State) (k : Nat) : Nat :=
  if (s.reg Reg.LED_SKIP).getLsbD k then 2
  else if (s.reg Reg.LED_ALT).getLsbD k ∧ (k = stepLink ∨ k = stepNand ∨ k = stepRails) then 1
  else 0

/-- The mask bits of a failed step: SKIP where R463 gives it, else ALT. -/
def failedMask (m : Nat × Nat) (k : Nat) : Nat × Nat :=
  if k = stepCalrun ∨ k = stepAlley ∨ (k = stepNand ∧ m.1.testBit k) then (m.1, m.2 ||| 2 ^ k) else (m.1 ||| 2 ^ k, m.2)

/-- The work a step begins with. -/
def bootWork (s : State) (k path : Nat) : State :=
  if k = stepLink ∧ path = 1 then
    s.forEach ([0, 1, 2].filter s.mayHead) fun s r => (s.setFld (Fld.LP_CTL_RATE (txPort r)) 1).setFld (Fld.LP_CTL_RATE (rxPort r)) 1
  else if k = stepRails then
    if s.flag Fld.RAIL_CTL_AUTO_UP then seqUpStart (s.when (path == 1) fun s => s.setFlag Fld.RAIL_CTL_SLOW true) else s
  else if k = stepProbe then s.forEach ((List.range 6).filter s.portOn) fun s p => s.setFlag (Fld.LP_STATUS_LOOP p) true
  else if k = stepCalrun then s.when (s.flag Fld.CAL_CTL_BOOT_EN) fun s => calTrigger s 0
  else if k = stepAlley then alyScan s
  else s

/-- A step begins: its STEP entry, and its work; a skipped step takes no time. -/
def bootBegin : Nat → State → Nat → State
  | 0, s, _ => s
  | n + 1, s, k =>
    let path := s.stepPath k
    let s := { s with bt := { s.bt with step := k, path := path, losses := [0, 0, 0, 0, 0, 0] } }
    let s := s.when (decide (4 ≤ k) && s.bt.begun) fun s => ledgerWrite s 2 k path
    let s := s.startTimer .bootStep
    if path = 2 then
      let s := if k = stepNand then storeOff s 0 else s
      bootBegin n s (k + 1)
    else bootWork s k path

/-- The next step begins. -/
def bootNext (s : State) : State := bootBegin 16 s (s.bt.step + 1)

/-! ### Step LEDGER (R464 to R467) -/

/-- Entries after the last BEGIN, and that BEGIN. -/
def lastStart (l : List (List Byte)) : Option (List Byte × List (List Byte)) :=
  l.foldl (fun (a : Option (List Byte × List (List Byte))) e =>
    if ledgerKind e = 1 then some (e, []) else a.map fun p => (p.1, p.2 ++ [e])) none

/-- A start that ended so, with neither END nor FAIL, failed through the reset (R464, R465). -/
def causeFails (cause : Nat) : Bool := cause == causePor || cause == causeBor || cause == causeBoot

/-- The last start is judged, BEGIN is written, and FLAGS where a step failed. -/
def bootLedger (s : State) (psel : Nat) : State :=
  let l := s.ledger
  let cause := s.regN Reg.RESET_CAUSE % 16
  let flags := ((l.filter fun e => ledgerKind e == 5).getLast?).getD []
  let start := lastStart l
  let tail := (match start with
    | some (_, t) => t
    | none => []).filter fun e => ledgerKind e == 2 || ledgerKind e == 3 || ledgerKind e == 4
  let ended := tail.any fun e => ledgerKind e == 3
  let openEnd := match tail.getLast? with
    | some e => ledgerKind e == 2
    | none => start.isSome
  let cut := openEnd && causeFails cause
  let failed := (tail.filter fun e => ledgerKind e == 4).map ledgerStep ++
    (if cut then (tail.getLast?.map ledgerStep).toList else [])
  let before := match start with
    | some (b, _) => leAt b 6 1
    | none => 0
  let fails := if ended then 0 else if cut || !failed.isEmpty then min 255 (before + 1) else before
  let number := match start with
    | some (b, _) => (ledgerStart b + 1) % 65536
    | none => 1
  let (alt, skip) := failed.foldl failedMask (leAt flags 4 2, leAt flags 6 2)
  let s := s.setRegN Reg.LED_START number
  let s := s.setFld Fld.LED_FAILS_FAILS fails
  let s := (s.setRegN Reg.LED_ALT alt).setRegN Reg.LED_SKIP skip
  let s := match failed.getLast? with
    | some k => s.setRegN Reg.LED_LAST (32768 + k % 16)
    | none => s
  let fallback := s.bt.fallback || decide (3 ≤ fails)
  let s := { s with bt := { s.bt with begun := true, fallback := fallback } }
  let s := ledgerWrite s 1 255 ((if fallback then 15 else psel) + 256 * cause + 65536 * fails)
  if failed.isEmpty then s else ledgerWrite s 5 255 (alt + 65536 * skip)

/-! ### The other steps -/

/-- PSEL: the profile is chosen (R466, R470). -/
def bootPsel (s : State) (psel : Nat) : State :=
  let s := s.setFld Fld.PROF_STATUS_PSEL psel
  let s := s.setFlag Fld.PROF_STATUS_FALLBACK s.bt.fallback
  s.setFld Fld.PROF_STATUS_ACTIVE (if s.bt.fallback then 15 else psel)

/-- PROFILE: an invalid one is replaced by F (R469), then its role, cells and image are taken. A root holds node 0. -/
def bootProfile (s : State) : State :=
  let p := s.fld Fld.PROF_STATUS_ACTIVE
  let bad := !s.profValid p
  let p := if bad then 15 else p
  let s := s.setFlag Fld.PROF_STATUS_PROF_BAD bad
  let s := s.setFld Fld.PROF_STATUS_ACTIVE p
  let s := takeRole s (s.profRole p) (s.profCells p) (s.profBlockless p)
  let s := if s.isRoot then (s.setFld Fld.NODE_NUM_NODE 0).setFlag Fld.NODE_NUM_NUMBERED true else s
  digestNow (applyImage s (if p = 15 then [] else s.profImage p))

/-- ENGINES: the programs go into page 0 (R275); a replaced one is recorded, in a form the spec does not state. -/
def bootEngines (s : State) : State :=
  let p := s.fld Fld.PROF_STATUS_ACTIVE
  let s := s.forEach engines fun s e =>
    let (ws, own) := s.profProgram p e.idx
    s.setEng e { ((s.eng e).fill 0 ws) with page := 0, len := ws.length, own := own }
  if [0, 1, 2].any fun e => s.profProgramBad p e then
    let (x, s) := s.drawBelow (2 ^ 32)
    ledgerWrite s 2 stepEngines x
  else s

/-- PROBE: Lane ports found unwired lose EN (R196); PHY trims and LINK_CUT have been measured in loopback, LOOP set (R393). -/
def bootProbe (s : State) (lane1 lane2 : Bool) : State :=
  let s := s.setFlag Fld.NODE_ROLE_LANE1_WIRED lane1
  let s := s.setFlag Fld.NODE_ROLE_LANE2_WIRED lane2
  let s := s.forEach (List.range 6) fun s p =>
    if (p = 2 ∨ p = 3) ∧ !lane1 ∨ (p = 4 ∨ p = 5) ∧ !lane2 then s.setFlag (Fld.LP_CTL_EN p) false else s
  let (d, s) := (phyMeasure s).drawBelow 65536
  let s := s.forEach (List.range 6) fun s p => s.setFlag (Fld.LP_STATUS_LOOP p) false
  s.setRegN Reg.LINK_CUT d

/-- Ports of the node take their directions: A0 sends and A1 receives, and so on a Lane the node heads (R195). A hub that
was woken wakes its Lanes (R242). -/
def bootPorts (s : State) : State :=
  let s := showDrive (s.forEach (List.range 6) portSwitched)
  if s.isHub && (let c := s.fld Fld.RESET_CAUSE_CAUSE; c == causeWake || c == causeLink || c == causeMonitor) then
    wakeSend s ((if s.flag Fld.NODE_ROLE_LANE1_WIRED then [2, 3] else []) ++
      if s.flag Fld.NODE_ROLE_LANE2_WIRED then [4, 5] else [])
  else s

/-- NAND: the store is probed and restored; the root's own entry stands in the binding table (R241). -/
def bootNand (s : State) (x : NandProbe) : State :=
  let s := storeProbe s x (s.bt.path == 1)
  if s.isRoot then showNodes (setEntry s 0 (makeEntry factory 0 0 0 3 32768 0)) else s

/-- The preset SWEEP program of a root enumerates the tree after BOOT and sets SWEEP_EN (R239, R267). -/
def presetStart (s : State) : State :=
  if !s.presetSweep then s
  else
    let rings := [0, 1, 2].filter fun r => r == 0 || s.laneWired r
    let s := { s with tree := { s.tree with ringOrders := rings } }
    orderNext (sweepsChanged ((s.setFlag Fld.TREE_CTL_SWEEP_EN true).startTimer .sweepPeriod))

/-- MODE: START_MODE, or SAFE with any cause on record; END; the engines start; a request held takes effect. -/
def bootMode (s : State) : State :=
  let code := s.profStart (s.fld Fld.PROF_STATUS_ACTIVE)
  let s := s.when (s.flag Fld.TH_STATUS_SHUT) fun s => enterSafe s 1
  let s := s.when (code == 12) fun s => enterSafe s 6
  let causes := s.reg Reg.SAFE_CAUSE
  let safe := causes != 0
  let s := s.forEach ((List.range 8).filter fun i => causes.getLsbD i) fun s i => captureFault s 1 i 255
  let s := s.setFld Fld.MODE_CTL_REQ ((s.mc.held).getD code)
  let s := if safe then railsSafe (setMode s .safe) else setMode s ((Mode.ofCode code).getD .standby)
  let s := ledgerWrite s 3 255
    (s.mode.code + 256 * s.role + 65536 * s.cells + 16777216 * (s.flag Fld.NODE_ROLE_BLOCKLESS).toNat)
  let s := s.setFld Fld.LED_FAILS_FAILS 0
  let s := s.stopTimer .bootStep
  let s := s.forEach engines engStart
  let s := s.forEach [.alyPoll, .alyRescan, .stBackground, .orphan, .wdPeriod, .calSched] State.startTimer
  let s := presetStart (if s.sweepsRun then s.startTimer .sweepPeriod else s)
  match s.mc.held with
  | some c => modeRequest { s with mc := { s.mc with held := none } } c
  | none => s

/-! ### A step ends (R463, R464, R466) -/

/-- A step has failed: FAIL in the ledger once BEGIN is there, and under FALLBACK a cause of SAFE. -/
def stepFailed (s : State) (why : Nat) : State :=
  if s.bt.step < 3 then s
  else
    let s := s.when s.bt.begun fun s => ledgerWrite s 4 s.bt.step why
    s.when s.bt.fallback fun s => enterSafe s 6

/-- The work of the present step has come to its end. -/
def State.stepOver (s : State) : Bool :=
  let k := s.bt.step
  if k = 2 then !s.flag Fld.TH_STATUS_INIT
  else if k = stepRails then s.seqKind == 0
  else if k = stepCalrun then !s.flag Fld.CAL_CTL_BOOT_EN || (!s.cal.due && !s.cal.running)
  else if k = stepAlley then
    !s.flag Fld.ALY_CTL_EN || s.flag Fld.ALY_STATUS_STUCK || (!s.aly.reqScan && s.alyOp == 0)
  else true

/-- The present step failed on its own condition (R463). -/
def State.stepBad (s : State) (nand : NandProbe) : Bool :=
  let k := s.bt.step
  if k = stepLink then s.bt.losses.any fun n => decide (8 ≤ n)
  else if k = stepNand then decide (nand = .noPage) && s.role != 0 && s.flag Fld.HS_CTL_EN && s.bt.path == 0
  else if k = stepRails then s.flag Fld.SEQ_STATUS_FAILED
  else if k = stepAlley then s.flag Fld.ALY_STATUS_STUCK
  else false

/-- What a step leaves when it completes: `keys` the outcome of the key store's check, `psel` the levels of PSEL2 to
PSEL0, `lane1` and `lane2` the wiring found, `nand` the outcome of the probe. -/
def stepResult (s : State) (keys : Bool) (psel : Nat) (lane1 lane2 : Bool) (nand : NandProbe) : State :=
  let k := s.bt.step
  if k = stepLedger then bootLedger (s.addSat Reg.HCVU_FAIL (s.voidEntries .ledger)) psel
  else if k = stepKeys then keyStoreCheck s keys
  else if k = stepPsel then bootPsel s psel
  else if k = stepProfile then bootProfile s
  else if k = stepCal then
    monModeChange { calLoad (s.addSat Reg.HCVU_FAIL (s.voidEntries .calA + s.voidEntries .calB)) with trimsLoaded := true }
  else if k = stepEngines then bootEngines s
  else if k = stepProbe then bootPorts (bootProbe s lane1 lane2)
  else if k = stepNand then bootNand s nand
  else if k = stepRails then s.setFlag Fld.RAIL_CTL_SLOW false
  else s

/-- The present step completes, or fails on its own condition, and the next begins. -/
def bootStepComplete (s : State) (keys : Bool) (psel : Nat) (lane1 lane2 : Bool) (nand : NandProbe) : State :=
  if s.mode ≠ .boot ∨ !s.stepOver then s
  else
    let s := stepResult s keys psel lane1 lane2 nand
    let s := if s.stepBad nand then stepFailed s 2 else s
    if s.bt.step = stepMode then bootMode s else bootNext s

/-- What an abandoned step leaves undone ends. -/
def stepAbandon (s : State) : State :=
  let k := s.bt.step
  if k = stepRails then (seqAbort s).setFlag Fld.RAIL_CTL_SLOW false
  else if k = stepCalrun then calAbort s true
  else if k = stepAlley then alyEnd (setAly s { s.aly with reqScan := false })
  else s

/-- A step exceeds its limit (R464, R466): FAIL is written and the node resets; under FALLBACK the step is abandoned. -/
def bootTimeout (s : State) : State :=
  if s.mode ≠ .boot then s
  else
    let s := stepFailed s 1
    if s.bt.fallback then
      let s := stepAbandon s
      if s.bt.step = stepMode then bootMode s else bootNext s
    else hardReset (flashDrain 4096 s) causeBoot

end Sys2Proof.Machine
end

