-- ==== Sys2Proof/Machine/SweepOps.lean ====
section
/-!
DEFINITION. The sweep boundary (R24, R28, R29): what a node does in the tick of a sweep start, at a member, a hub, and a
root; and what follows when sweeps stay away (R244).
-/
namespace Sys2Proof.Machine

/-! ### The set of the sweep (R51) -/

/-- The node latches and reports its set, and the checks that rest on a latch run (R51, R55, R69, R72, R81, R332). -/
def sweepLatch (s : State) (n : Nat) : State :=
  let s := afterLatch (wdLatch (secCrossCheck (publishMain s false)))
  let s := { s with minute := summaryLatch s s.minute, hour := summaryLatch s s.hour }
  let s := refApply s
  let s := if s.isRoot then mirrorWrite s 0 (some s.measurePayload) n else s
  balLatch (chargeInhibit (transferPermissions (ntcConvert s)))

/-! ### Changes that wait for the boundary (R28) -/

/-- The transaction stage of a subsystem is due at the boundary of sweep `n`. -/
def State.txnDue (s : State) (sub n : Nat) : Bool :=
  match s.txnStage sub with
  | some t => !t.active && (match t.act with
    | some a => !sweepAfter a n
    | none => false)
  | none => false

/-- The stage is active and its node says so (R144): by a response, or to the root's own transaction. -/
def txnActivated (s : State) (sub : Nat) : State :=
  match s.txnStage sub with
  | some t =>
    let s := setTxn s sub (some { t with active := true })
    if s.isRoot then txnAnswer s 0 7 resAck 3 else txnRespond s rootNode 7 sub t.id resAck true
  | none => s

/-- ROLLBACK received since the last boundary: the shadow returns (R144). -/
def rollbackDue (s : State) (sub : Nat) : State :=
  match s.txnStage sub with
  | some t =>
    if !t.rollback then s
    else
      let s := match sub with
        | 1 =>
          let (s, runs) := balRollback s
          if runs && s.mode == .active then setMode s .balance else s
        | 3 => rgrpRollback s
        | 4 => profRollback s
        | _ => s
      setTxn s sub none
  | none => s

/-- The committed balance plan takes effect (R138): one of a transaction's COMMIT at the boundary of sweep A, and one of the
host's at the next boundary, also where a transaction had prepared it; that transaction then holds no stage. In a mode that
cannot enter BALANCE the stage is discarded. -/
def planDue (s : State) (n : Nat) : State :=
  let held := s.chainHolds
  let byChain := held && match s.txnStage 1 with
    | some t => t.act.isSome
    | none => false
  if s.balStage ≠ stageCommitted ∨ byChain && !s.txnDue 1 n then s
  else
    match s.bal.staged with
    | none => s
    | some p =>
      if s.mode = .active ∨ s.mode = .balance then
        let s := balActivate (setMode s .balance) p
        if byChain then txnActivated s 1 else s.when held fun s => setTxn s 1 none
      else setTxn (balCancel s) 1 none

/-- A SPECTRUM plan of a transaction runs since its COMMIT; its node answers ACTIVATED in the train of sweep A (R148). -/
def spectrumDue (s : State) (n : Nat) : State :=
  if !s.txnDue 2 n then s
  else if s.impState = impRunning ∨ s.mode = .spectrum then txnActivated s 2
  else setTxn s 2 none

/-- A group rail change (R370). -/
def railsDue (s : State) (n : Nat) : State :=
  let byChain := s.chainHoldsStage 3
  if s.fld Fld.RGRP_STATUS_STAGE ≠ 2 ∨ byChain && !s.txnDue 3 n then s
  else
    let s := rgrpActivate s
    if byChain then txnActivated s 3 else s

/-- A profile switch whose programs are staged in all three engines (R276, R473). -/
def profileDue (s : State) (n : Nat) : State :=
  let byChain := (s.txnStage 4).isSome
  if !s.profStaged ∨ byChain && !s.txnDue 4 n then s
  else
    let s := profSwitch s
    if byChain then txnActivated s 4 else s

/-- A mode request (R455), and FULL's entry to CALIBRATE (R392). -/
def modesDue (s : State) : State :=
  match s.mc.pend with
  | some m => applyRequest s m
  | none => calEnter s

/-- Acquisition settings and calibration trims in force from this boundary (R41, R396); where sweeps become scheduled,
the main path is powered and the rotations start, and a conversion on request in progress goes on with them (R54, R515; log
entry 104). In a mode without scheduled sweeps AUTO alone is resolved (R39). -/
def settingsDue (s : State) : State :=
  let s := { s with cal := { s.cal with ready := true } }
  if s.mode == .boot || modeAsleep s.mode then s
  else if !s.scheduled then resolveAuto s
  else
    let s := calApply s
    if s.acq.sched then applyAcqSettings s false
    else
      let req := if s.acq.req == .powering then .measuring else s.acq.req
      startRotations (applyAcqSettings { s with acq := { s.acq with powered := true, sched := true, req := req } } true)

/-- Before its first boundary no mode was resolved: AUTO is, for the set of this one (R39). -/
def firstMode (s : State) : State :=
  if s.acq.mode = 0 then { s with acq := { s.acq with mode := s.resolveMode s.acq.eff.ctl } } else s

/-- Nodes found in a re-forming are expected once their session is in force (R254). -/
def joinDue (s : State) : State :=
  { s with tree := { s.tree with joining := s.tree.joining.filter fun n => !(s.session n).inForce } }

/-- The boundary of sweep `n` with tree time `tree`; in BOOT only the numbers are taken. -/
def boundary (s : State) (n tree : Nat) (hubs : Bool) : State :=
  let s := s.setRegN Reg.SWEEP_NUM n
  let s := firstMode { s with acq := { s.acq with hubs := hubs } }
  let s := if s.mode = .boot then s else sweepLatch s n
  let s := pushPair s n tree
  let s := if s.isRoot then s else adoptTreeTime s tree
  let s := joinDue (linkBoundary s n)
  let s := keyBoundary (txnBoundaryExpire s n)
  let s := if s.mode = .boot then s else
    let s := modesDue s
    let s := s.forEach [1, 3, 4] rollbackDue
    let s := railsDue (spectrumDue (planDue s n) n) n
    settingsDue (tbApplyLocal (tbApplySource (endedModes (profileDue s n))))
  (if s.isRoot then logNotes s else s).fireAll lineBoundary

/-- What goes on with command time of a ring beside the ring's own work: nodes just numbered get their session, what is still to
be enumerated follows, and the root's own writes, reads and key commands go out, again where they are unanswered (R233, R239,
R428); a broadcast REMOTE write has left (R500). -/
def afterWork (a : State × List Nat) (r : Nat) : State :=
  let (s, nodes) := a
  let s := repeatKeys (askSlots (startSessions (sendWrites (orderNext s)) r nodes))
  if (s.ring r).quietTo.isNone then remoteSent s r else s

/-- A ring's train ends and its command time begins (R227, R230): what waited goes out, and at the root the transaction acts
once every train of the sweep has ended (R141). -/
def trainEnd (s : State) (r : Nat) : State :=
  let x := s.ring r
  -- the ring has fallen idle again: frames still missing are asked for once more (R217)
  if !x.train then (if x.speaks && x.isOpen then retxOpen s r else s)
  else
    let s := afterWork (ringCommandTime s r) r
    let s := if Ring.complete (s.ring r) then closeRing s r else s
    if s.isRoot && s.rings.all (fun x => !x.train) then txnTrainsOver s else s

/-- Echoes of ECHO_RUN that are over let command time go on (R237). -/
def echoesTick (s : State) : State :=
  if s.rings.all (·.quietTo.isNone) then s
  else s.forEach s.headed fun s r => if (s.ring r).quietTo.any (· ≤ s.now) then afterWork (echoesDone s r) r else s

/-- The trains of a sweep: one of a ring with no members, and none being sought, is over at once (log entry 39), and a
ring on which nothing is expected closes at once. -/
def sweepTrains (s : State) (n : Nat) (hubs : Bool) (tree : Nat) : State :=
  let s := startTrains s n hubs tree
  let s := s.forEach s.headed fun s r =>
    if (s.ring r).members.isEmpty && (s.ring r).enumStep == 0 then trainEnd s r else s
  s.forEach s.headed fun s r => if Ring.complete (s.ring r) then closeRing s r else s

/-- A sweep-start Milestone reaches a node other than the root: its mark serves the timebase as a SYNC's does (R151, R162),
and it opens the sweep (R28, R165, R244); a hub starts its Lanes' sweeps. -/
def memberBoundary (s : State) (n tree : Nat) (mark : SweepMark) : State :=
  if modeAsleep s.mode || s.isRoot then s
  else
    let s := milestoneUse s mark.frac mark.localFlag mark.carried.toNat
    let s := (s.startTimer .sweepLapse).startTimer .orphan
    let s := s.setFlag Fld.HB_STATUS_ORPHAN false
    let s := boundary s n tree mark.hubs
    if s.isHub && !s.headed.isEmpty then sweepTrains s n mark.hubs tree else s

/-- The root issues a sweep start, its own boundary (R28, R29, R224, R381). A sweep with no ring served is complete at
once. -/
def rootBoundary (s : State) : State :=
  if !(s.isRoot && modeSweepsTree s.mode && s.flag Fld.TREE_CTL_SWEEP_EN) || s.tree.sweepOpen then s
  else
    let n := (s.sweepNum + 1) % 65536
    let hubs := s.treeHubs
    let s := boundary s n s.treeTime hubs
    let s := { s with tree := { s.tree with sweepOpen := true } }
    closeSweep (calPollSweep (pollSweep ((sweepTrains s n hubs s.treeTime).startTimer .orphan)))
where
  /-- The modes in which a root's links work. -/
  modeSweepsTree (m : Mode) : Bool := m != .boot && !modeAsleep m

/-- The sweep period elapses (R29): a sweep still open is skipped and counted. -/
def periodElapsed (s : State) : State :=
  if !(s.isRoot && s.flag Fld.TREE_CTL_SWEEP_EN) then s
  else
    let s := s.startTimer .sweepPeriod
    if s.tree.sweepOpen then
      { (s.incSat Reg.OVERRUNS).raiseFlt fltOverrun with tree := { s.tree with skipped := true } }
    else s

/-- No sweep start for 1 s (R24). -/
def sweepLapse (s : State) : State :=
  if s.isRoot || !s.running .sweepLapse then s else sweepsChanged (s.stopTimer .sweepLapse)

/-- HB_TO has passed without a sweep start or a HEARTBEAT (R244). -/
def orphaned (s : State) : State :=
  if s.isRoot || modeAsleep s.mode || s.mode == .boot then s
  else
    let s := impAbort (balStop (s.setFlag Fld.HB_STATUS_ORPHAN true))
    if s.flag Fld.HB_NODE_HB_SAFE then enterSafe s 4 else s

/-- A HEARTBEAT on every ring headed (R243). -/
def heartbeatIssue (s : State) : State :=
  if !(s.isRoot || s.isHub) || !s.linkOn || s.mode == .boot then s
  else
    let s := s.forEach s.headed fun s r => ringControl s r ([0x09] ++ leBytes 4 s.treeTime)
    let s := s.startTimer .heartbeat
    if s.isRoot then s.startTimer .orphan else s

/-- The answer of a command that may touch registers of any kind: rails, group changes and PACK_INH are judged again. -/
def doneAll (s : State) : Host.Outcome State Fault Refusal := done (packCheck (railsJudge s))

end Sys2Proof.Machine
end

