-- ==== Sys2Proof/Machine/EngRunOps.lean ====
section
/-!
DEFINITION. What the instructions of an engine share (R285 to R300): how a meaning runs one, sums and shifts with their
flags, and addresses of data memory with their checks.
-/
namespace Sys2Proof.Machine

/-- An instruction at an engine's PC: its faults act by FAULT_ACT (R278), and may switch rails. -/
def engRun (s : State) (e : Engine) (op : Nat) (pick : Word → Bool) (body : Word → Eng → EngOut) :
    Host.Outcome State Fault Refusal :=
  match engInstr s e op pick body with
  | (some c, s) => doneRails (engineFault s e c)
  | (none, s) => done s

def anyWord (_ : Word) : Bool := true

/-- An instruction that changes only the engine's registers and flags: `ok` its unused fields are 0. -/
def engAlu (s : State) (e : Engine) (op : Nat) (ok : Word → Bool) (f : Word → Eng → Eng) :
    Host.Outcome State Fault Refusal :=
  engRun s e op anyWord fun w x => if ok w then engNext s e (f w x) else .fault efIllegal

/-- R format with RD, RA and RB; SH is not used. -/
def okRegs (w : Word) : Bool := okR w && wSh w == 0

/-- The operands of an R-format instruction, and of an I-format one with its immediate extended either way. -/
def opA (w : Word) (x : Eng) : Word := x.get (wRa w)
def opB (w : Word) (x : Eng) : Word := x.get (wRb w)
def immS (w : Word) : Word := (wImm w).signExtend 32
def immZ (w : Word) : Word := (wImm w).setWidth 32

/-- A result with all its flags; one for G0 still sets them (R288). -/
def Eng.put (x : Eng) (rd : Nat) (r : Word) (c v : Bool) : Eng := { (x.set rd r).zn r with c := c, v := v }

/-- A result that leaves C and clears V. -/
def Eng.putLogic (x : Eng) (rd : Nat) (r : Word) : Eng := x.put rd r x.c false

/-- a + b: carry out of bit 31 and signed overflow (R294). -/
def Eng.putAdd (x : Eng) (rd : Nat) (a b : Word) : Eng :=
  x.put rd (a + b) (decide (2 ^ 32 ≤ a.toNat + b.toNat)) (a.msb == b.msb && (a + b).msb != a.msb)

/-- a − b: C = 1 where there is no borrow (R294). -/
def Eng.putSub (x : Eng) (rd : Nat) (a b : Word) : Eng :=
  x.put rd (a - b) (decide (b.toNat ≤ a.toNat)) (a.msb != b.msb && (a - b).msb != a.msb)

/-- The amount of a shift (R296), and the flags: C is the last bit shifted out, and stays for amount 0. -/
def shiftAmount (w : Word) (x : Eng) : Nat := ((opB w x).toNat + wSh w) % 32

def Eng.putShift (x : Eng) (w : Word) (r : Word) (out : Bool) : Eng :=
  x.put (wRd w) r (if shiftAmount w x = 0 then x.c else out) false

/-- The signed quotient, truncated toward zero; V for the one quotient that does not fit (R298). -/
def divSigned (a b : Word) : Word := BitVec.ofInt 32 (Int.tdiv a.toInt b.toInt)
def divOver (a b : Word) : Bool := a == 0x80000000#32 && b == 0xFFFFFFFF#32

/-- Bits `sh` to 0 of a word, sign-extended. -/
def signFrom (a : Word) (sh : Nat) : Word := (a <<< (31 - sh)).sshiftRight (31 - sh)

/-! ### Data memory (R299, R300) -/

/-- The checks of a data address: bounds, then alignment. -/
def dataFault (e : Engine) (a size : Nat) : Option Nat :=
  if !bankAllowed e a then some efBounds else if a % size ≠ 0 then some efAlign else none

/-- A load of `n` bytes, zero-extended. -/
def engLoad (s : State) (e : Engine) (op n : Nat) : Host.Outcome State Fault Refusal :=
  engRun s e op anyWord fun w x =>
    let a := x.addr w
    match dataFault e a n with
    | some c => .fault c
    | none =>
      if s.dataBad a n then .fault efParity
      else .next (watch (s.setEng e (x.set (wRd w) (BitVec.ofNat 32 (fromLe (s.dbytes a n))))) e a n false)

/-- A store of the low `n` bytes of RD. -/
def engStore (s : State) (e : Engine) (op n : Nat) : Host.Outcome State Fault Refusal :=
  engRun s e op anyWord fun w x =>
    let a := x.addr w
    match dataFault e a n with
    | some c => .fault c
    | none => .next (watch (setDbytes s a (leBytes n (x.get (wRd w)).toNat)) e a n true)

/-- A program index in a register: above 8191 it is out of bounds (R299, R301). -/
def indexOk (v : Word) : Bool := decide (v.toNat ≤ 8191)

/-- A wait begins (R273, R303 to R305): its own tick is its issue tick. -/
def engWait (s : State) (e : Engine) (w : Word) (x : Eng) (kind : WaitKind) (target : Nat) (mask : Word) (late : Bool) :
    EngOut :=
  .waits (s.setEng e { x with
    st := .waiting
    wait := some { kind := kind, target := target, mask := mask, rd := wRd w, limit := (x.get (wRt w)).toNat, done := true,
                   late := late, latched := false } })

end Sys2Proof.Machine
end

