-- ==== Sys2Proof/Machine/NetOps.lean ====
section
/-!
DEFINITION. What becomes of a frame that a node takes in (R221, R226, R231, R232, R315), of retransmissions (R218, R219),
of the loss of a port's signal (R245, R246), and of the commands that change a hub's role (R257, R258).
-/
namespace Sys2Proof.Machine

/-! ### Frames for the engines (R315) -/

/-- A frame enters an engine's receive queue and fires line 10; a full queue keeps its older frames. -/
def engDeliver (s : State) (e : Engine) (f : Frame) : State :=
  let x := s.eng e
  if x.recvQ.length < 8 then (s.setEng e { x with recvQ := x.recvQ ++ [frameBody f] }).fireAt e lineFrame
  else s.setEng e { x with dropped := x.dropped + 1 }

/-- A frame whose tag fails counts as dropped. -/
def engDrop (s : State) (e : Engine) : State := s.setEng e { s.eng e with dropped := (s.eng e).dropped + 1 }

/-- The engine a COMMAND's OP addresses. -/
def opEngine (op : Nat) : Option Engine :=
  if op < 0x80 then none else if op < 0xC0 then some .sweep else if op < 0xE0 then some .node else some .rail

/-- A COMMAND for an engine of this node. -/
def engCommand (s : State) (f : Frame) : State :=
  match opEngine (leAt f.payload 0 1) with
  | none => s
  | some e =>
    if !f.tagged then engDeliver s e f
    else match checkTag s f with
      | (.good, s) => engDeliver s e f
      | (_, s) => engDrop s e

/-- A RESPONSE with an OP from 0x80 reaches the root's SWEEP. The preset program takes it from the queue at once: a part of a
node's summary (R266, R315). -/
def engResponse (s : State) (f : Frame) : State :=
  if f.tagged && !s.responseTagGood f then engDrop (s.incSat Reg.AUTH_FAIL) .sweep
  else if leAt f.payload 0 1 = 0x80 ∧ s.presetSweep then
    summaryPart (s.fireAt .sweep lineFrame) f.src.toNat f.payload
  else engDeliver s .sweep f

/-! ### A hub passes frames into its Lanes (R211, R231, R232) -/

/-- The Lane of this hub in which a node lies. -/
def State.laneOf (s : State) (n : Nat) : Option Nat :=
  if s.isHub then [1, 2].find? fun r => s.heads r && (s.memberOf r n).isSome else none

/-- A frame enters a Lane's queue; it goes out in the Lane's command time, its SRC and SEQ kept. -/
def lanePush (s : State) (r : Nat) (f : Frame) : State :=
  if (s.ring r).speaks then s.forEach (s.headPorts r f) fun s p => transmit (noteAsked s r f) r p f
  else if (s.link.laneQueue.filter (·.1 == r)).length < 64 then
    { s with link := { s.link with laneQueue := s.link.laneQueue ++ [(r, f)] } }
  else s

/-- What a hub copies into its Lanes: broadcast COMMAND and BULK frames, and frames for a Lane member. -/
def copyDown (s : State) (f : Frame) : State :=
  if !s.isHub || (f.type != tyCommand && f.type != tyBulk) then s
  else if f.bcast then s.forEach (s.headed.filter (1 ≤ ·)) fun s r => lanePush s r f
  else match s.laneOf f.dstNode with
    | some r => lanePush s r f
    | none => s

/-! ### Answers at the root -/

/-- Operations of which the root accepts only a tagged answer (R432, R435). -/
def opTagged (op : Nat) : Bool :=
  (decide (1 ≤ op) && decide (op ≤ 7) && op != 6) || op == 0x11 || op == 0x30 || op == 0x31

/-- RESULT of an answer, by the layouts of R150 and R234. -/
def answerResult (f : Frame) : Byte :=
  BitVec.ofNat 8 (leAt f.payload (if leAt f.payload 0 1 ≤ 7 then 4 else 1) 1)

/-- A node without the key can say AUTH only without a tag. -/
def State.answerGood (s : State) (f : Frame) : Bool :=
  if f.tagged then s.responseTagGood f else answerResult f == resAuth

/-- HEAD of an entry becomes another node; its ring stays. -/
def eSetHead (e : List Half) (n : Nat) : List Half := e.set 4 (BitVec.ofNat 16 (n % 8192 + 8192 * eRing e))

/-- The entries of the nodes headed by one node name another, and are PRESENT again. -/
def moveLanes (s : State) (old new : Nat) : State :=
  let l := (s.tree.binding.filter fun p => eValid p.2 && p.1 != 0 && eHead p.2 == old && eRing p.2 != 0).map (·.1)
  s.forEach l fun s n => setEntry s n (eSetFlag (eSetHead (s.entry n) new) 1 true)

/-- A leaf acknowledges a takeover or a hand-back: HUB and the Lanes' entries move (R257, R258). -/
def roleAnswer (s : State) (f : Frame) : State :=
  let t := f.src.toNat
  let h := leAt f.payload 2 2 % 8192
  if answerResult f ≠ resAck then s
  else
    let (old, new) := if leAt f.payload 0 1 = 0x30 then (h, t) else (t, h)
    let s := setEntry s new (eSetFlag (s.entry new) 2 true)
    let s := setEntry s old (eSetFlag (s.entry old) 2 false)
    let s := if leAt f.payload 0 1 = 0x30 then
        logRingEvent s (eHead (s.entry t)) (eRing (s.entry t)) 5 (ePos (s.entry t)) (s.epoch (eRing (s.entry t))) t
      else s
    let s := moveLanes s old new
    -- the hub that regains its Lanes is ordered to enumerate them
    let s := if new = h then
        let caps := ((s.rings.flatMap (·.members)).find? (·.node == some h)).map (·.caps)
        sendWrites (orderNext (wantLanes s h (caps.getD 3)))
      else s
    bindingChanged s

/-- A RESPONSE reaches the root. -/
def rootResponse (s : State) (r : Nat) (f : Frame) : State :=
  let p := f.payload
  let op := leAt p 0 1
  let n := f.src.toNat
  let s := nodeBack s n
  let s := s.when (op == 0x11) fun s => writeAnswered s n (leAt p 2 2)
  let s := s.when (op == 0x10 && leAt p 2 2 == Reg.IMP_CTL && p.length == 6) fun s => slotRead s n (leAt p 4 2)
  if 0x80 ≤ op then engResponse s f
  else if op = opLane then (let (s, nodes) := laneResponse s n p; startSessions (sendWrites s) r nodes)
  else if opTagged op && !s.answerGood f then s.incSat Reg.AUTH_FAIL
  else if 1 ≤ op ∧ op ≤ 7 then txnResponse s n p
  else if op = 0x10 ∧ leAt p 2 2 = Reg.MS_HOP ∧ (s.ring r).hops.contains n ∧ p.length = 6 then hopRead s r n (leAt p 4 2)
  else if op = 0x10 ∧ leAt p 2 2 = Reg.TH_TJ ∧ (s.neighbour n).asked ∧ p.length = 8 then
    pollAnswer s n (BitVec.ofNat 16 (leAt p 4 2)) (BitVec.ofNat 16 (leAt p 6 2))
  else if op = 0x10 ∧ leAt p 2 2 = Reg.CAL_STATUS ∧ s.cal.asked.contains n ∧ p.length = 24 then calPollAnswer s n (p.drop 4)
  else if op = 0x10 ∨ op = 0x11 then remoteResponse s f
  else if op = 0x30 ∨ op = 0x31 then roleAnswer s f
  else keyResponse s f

/-- A RESPONSE reaches a head: after the ring's close it is dropped (R227). MTAG's answers nothing, and what it does at the
root is said at its command; a hub's report of its Lane answers nothing either. A hub takes the MS_HOP it has read itself. -/
def headResponse (s : State) (r : Nat) (f : Frame) : State :=
  let n := f.src.toNat
  let op := leAt f.payload 0 1
  if !(s.ring r).isOpen then lateFrame s r n
  else
    let s := ringHeard s r n
    if op = opMtag then (if s.isRoot then s else hubQueue s r f)
    else if op = opLane then (if s.isRoot then rootResponse s r f else hubQueue s r f)
    else if !s.isRoot && f.dstNode == s.nodeNum then
      ringAnswered (if op = 0x10 ∧ leAt f.payload 2 2 = Reg.MS_HOP ∧ (s.ring r).hops.contains n ∧ f.payload.length = 6 then
        hopRead s r n (leAt f.payload 4 2) else s) r n
    else ringAnswered (if s.isRoot then rootResponse s r f else hubQueue s r f) r n

/-! ### FRAME_RECEIVE -/

/-- The node takes the frame in (R221, R222, R231): a head every frame; a member by DST as it came. -/
def State.takesIn (s : State) (r : Nat) (bs : List Byte) : Bool :=
  let f := parseFrame bs
  s.heads r || (r == 0 && (f.bcast || (s.numbered && f.dstNode == s.nodeNum) || (s.laneOf f.dstNode).isSome))

/-- The port listens: it receives, or it is a head's port of a ring in halves, which turns with each pass (R247). -/
def State.listens (s : State) (p : Nat) : Bool :=
  s.linkOn && s.portOn p && (s.dir p == 2 || (s.dir p == 1 && s.heads (portRing p) && s.inHalves (portRing p)))

/-- An accepted frame is handed to the Square. What the frames with a command of their own do is said there. -/
def squareTakes (s : State) (r : Nat) (f : Frame) : State :=
  if s.heads r then
    if f.type = tyMeasure then acceptMeasure s r f
    else if f.type = tyResponse then headResponse s r f
    else s
  else
    let s := copyDown s f
    if f.type = tyCommand ∧ (f.bcast ∨ s.numbered ∧ f.dstNode = s.nodeNum) then
      (if leAt f.payload 0 1 = opLane then laneNumbers s f else engCommand s f)
    else s

def frameReceive (s : State) (p : Nat) (bs : List Byte) (violations : Nat) (whole : Bool) : State :=
  let r := portRing p
  if !s.listens p || !s.takesIn r bs then s
  else
    let f := parseFrame bs
    let through := !s.heads r && !f.bcast && f.dstNode != s.nodeNum
    match receiveFrame s p bs violations whole through with
    | (.accepted f, s) => squareTakes s r f
    | (_, s) => s

/-! ### FRAME_FORWARD (R204, R246, R256) -/

/-- Ports that pass frames on to each other: A0 and A1, and of a leaf the two ports of a Lane it stands by; none
while the node sends wake IDLE characters there (R393), nor at the end of a half (R247, R252). -/
def State.passes (s : State) (p : Nat) : Bool :=
  !s.heads (portRing p) && (portRing p == 0 || !s.isHub) && s.linkOn && s.portOn p && s.dir p == 2 &&
  !(portRing p == 0 && (s.flag Fld.MEMB_EXCLUDED || (s.half != 0 && s.flag Fld.MEMB_END))) &&
  !(s.link.waking.any fun q => portRing q == portRing p)

/-- A BREAK passes a member: it lies in half B and reverses both ports (R246). -/
def breakPassed (s : State) (r : Nat) (bs : List Byte) : State :=
  if r = 0 ∧ s.half = 0 ∧ leAt bs 0 1 = 0x08 ∧ leAt bs 8 1 = 0x05 then ringDirection s 0 true else s

/-- A frame passes a node. One that is broken by loss of signal or alignment is dropped where its copy had not begun, and
otherwise ends there with ABORT (R223). A port that listens takes no copy (R252). -/
def frameForward (s : State) (p : Nat) (f : PassingFrame) : State :=
  let r := portRing p
  if !s.passes p then s
  else
    let (copy, bad) := forwardCopy 0 f.chars
    let cut := bad || !f.whole
    let s := countViolations s p (min (f.chars.filter (·.isNone)).length 4)
    let q := if p % 2 = 0 then p + 1 else p - 1
    let s := if s.portOn q && s.dir q == 1 && (f.whole || f.begun) then
        { s with sent := s.sent ++ [{ port := q, bytes := copy, cut := cut }] }
      else s
    if cut then s else breakPassed s r copy

/-! ### Signal on a port (R201, R203, R242, R245) -/

/-- A member sees its upstream port dead for 2 µs: it inserts a BREAK at its next frame boundary and, as the first member
of half B, reverses both ports (R245, R246). In a half the inbound pass shows it a break beyond (R249). -/
def sendBreak (s : State) (p : Nat) : State :=
  let whole := s.half == 0 && p == 1
  let inward := s.half != 0 && s.ms.inbound && !s.flag Fld.MEMB_END && decide (p < 2)
  if s.dir p = 2 ∧ (whole ∨ inward) then
    let f := s.newFrame tyCtl (s.reg Reg.MEMB_HEAD &&& 0x1FFF) ([0x05] ++ leBytes 1 p ++ [0, 0])
    let s := insertFrame s f
    if whole then ringDirection s 0 true else s
  else s

/-- Step LINK of BOOT counts the losses of alignment of each port (R463). -/
def linkStepLoss (s : State) (p : Nat) : State :=
  if s.mode = .boot ∧ s.bt.step = stepLink then
    { s with bt := { s.bt with losses := listPut s.bt.losses 0 p (s.bt.losses.getD p 0 + 1) } }
  else s

/-- LOS, or loss of alignment, for 2 µs: at a head's receive port the ring is broken after its last position. -/
def signalLost (s : State) (p : Nat) : State :=
  let r := portRing p
  if !s.linkOn || !s.portOn p then s
  else if s.heads r then (if p = rxPort r then ringBroken s r (s.ring r).members.length else s)
  else if r = 0 ∧ !s.flag Fld.MEMB_EXCLUDED then sendBreak s p
  else s

/-! ### Retransmission (R218, R219) -/

/-- A retransmission's frame. -/
def asRetx (f : Frame) : Frame := { f with flags := f.flags ||| 1 }

/-- The node inserts a frame now; in a half only an inbound pass takes it (R247), and a node that is passed over inserts none
(R255). -/
def insertSoon (s : State) (f : Frame) : State :=
  if s.flag Fld.MEMB_EXCLUDED then s
  else if s.half = 0 ∨ s.ms.inbound then insertFrame s f
  else { s with link := { s.link with retx := s.link.retx ++ [f] } }

/-- The kept frames a RETX_REQ asks this node for: MEASURE with what tags it, or the last RESPONSE. -/
def State.keptFrames (s : State) (sweep want : Nat) : List Frame :=
  match want with
  | 2 => (match s.link.measure with
    | some (w, m) => if w = sweep then m :: s.mtag m else []
    | none => [])
  | 4 => s.link.response.toList
  | _ => []

/-- A frame of a Lane node that the hub holds, passed already or still to pass. -/
def State.hubHolds (s : State) (n sweep want : Nat) : Option Frame :=
  (s.link.hubQueue.reverse ++ s.link.hubKept.reverse).find? fun f => f.src.toNat == n &&
    ((want == 2 && f.type == tyMeasure && sweep == s.sweepNum) || (want == 4 && f.type == tyResponse))

/-- A RETX_REQ reaches a member. -/
def retxAnswer (s : State) (f : Frame) : State :=
  let sweep := leAt f.payload 0 2
  let want := leAt f.payload 2 1
  if s.heads 0 || f.bcast then s
  else if s.numbered ∧ f.dstNode = s.nodeNum then
    (s.forEach (s.keptFrames sweep want) fun s k => insertSoon s (asRetx k))
  else match s.laneOf f.dstNode with
    | none => s
    | some r =>
      match s.hubHolds f.dstNode sweep want with
      | some k =>
        insertSoon { s with link := { s.link with
          hubKept := s.link.hubKept.filter (· != k), hubQueue := s.link.hubQueue.filter (· != k) } } (asRetx k)
      | none => lanePush s r f

/-! ### Hub takeover and hand-back (R257, R258) -/

/-- The answer to OP 0x30 and 0x31, for which the spec gives no layout: OP, RESULT, the hub's number in two bytes, and the tag
(DESIGN CHOICE, log entry 175). -/
def roleRespond (s : State) (f : Frame) (res : Byte) : State :=
  respond s f.src.toNat ([f.payload.getD 0 0, res] ++ leBytes 2 (leAt f.payload 1 2)) true

/-- A role command: the tag first, then the conditions; the change waits for the boundary. -/
def roleCommand (s : State) (f : Frame) (ok : Bool) (take : Bool) : State :=
  if s.isRoot || leAt f.payload 0 1 ≠ (if take then 0x30 else 0x31) || f.payload.length ≠ 11 then s
  else match checkTag s f with
    | (.bad, s) => roleRespond s f resAuth
    | (.repeated, s) => s
    | (.good, s) =>
      if ok then
        let s := { s with ms := { s.ms with roleChange := some (leAt f.payload 1 2 % 8192, take) } }
        roleRespond s f resAck
      else roleRespond s f resRefused

/-- T may take H's Lanes over: TKO_CTL names H, EN is 1, and BOOT found Lane ports wired. -/
def State.mayTake (s : State) (h : Nat) : Bool :=
  s.role == 0 && s.flag Fld.TKO_CTL_EN && s.fld Fld.TKO_CTL_FOR == h &&
  (s.flag Fld.NODE_ROLE_LANE1_WIRED || s.flag Fld.NODE_ROLE_LANE2_WIRED)

/-! ### BULK (R238, R474) -/

/-- A BULK frame without a right tag is answered AUTH; the spec gives that answer no layout beyond RESULT, so its other
bytes are free (log entry 3). -/
def bulkRefuse (s : State) (f : Frame) : State :=
  if f.bcast then s
  else
    let (x, s) := s.drawBelow 16777216
    respond s f.src.toNat ([BitVec.ofNat 8 x, resAuth] ++ leBytes 2 (x / 256)) true

def bulkReceive (s : State) (f : Frame) : State :=
  if s.heads 0 then s
  else match checkTag s f with
    | (.bad, s) => bulkRefuse s f
    | (.repeated, s) => s
    | (.good, s) =>
      let p := tagBody f
      let obj := leAt p 0 1
      let xfer := leAt p 1 1
      let off := leAt p 2 4
      let data := p.drop 6
      if p.length < 6 ∨ obj = 0 ∨ 8 < obj then s
      else if off = 0xFFFFFFFF then updStart s (obj - 1) xfer
      else if s.fld Fld.UPD_STATUS_XFER ≠ xfer ∨ s.upd.target ≠ obj - 1 then s
      else if off = 0xFFFFFFFE then updAdvance (updClose s)
      else updData s off data

end Sys2Proof.Machine
end

