-- ==== Sys2Proof/Machine/CallOps.lean ====
section
/-!
DEFINITION. The subsystem calls of the engines (R268 to R272, R308 to R317): results and refusals, owners of register
regions, frames an engine sends, and the check value over data memory.
-/
namespace Sys2Proof.Machine

/-! ### Results (R309) -/

def callBusy : Nat := 1
def callMode : Nat := 2
def callState : Nat := 3
def callRange : Nat := 4
def callRole : Nat := 5
def callEmpty : Nat := 6
def callFull : Nat := 7
def callNoStore : Nat := 8

/-- The result word of a refusal, with the subsystem's own reason. -/
def refusal (code reason : Nat) : Word := BitVec.ofNat 32 (2 ^ 31 + reason * 256 + code)

/-- The result word of an accepted call. -/
def accepted (v : Nat) : Word := BitVec.ofNat 32 (v % 2 ^ 31)

/-- The call returns its result in RD, with Z and N (R294). -/
def callReturn (s : State) (e : Engine) (w : Word) (r : Word) : EngOut :=
  let x := s.eng e
  .next (s.setEng e ((x.set (wRd w) r).zn r))

/-- Z from the result alone: regr and crc. -/
def Eng.putZ (x : Eng) (rd : Nat) (r : Word) : Eng := { x.set rd r with z := r == 0 }

/-- The checks of a call's buffer: in the engine's banks, then word-aligned. -/
def bufferFault (e : Engine) (a n : Nat) : Option Nat :=
  if !spanAllowed e a n || !bankAllowed e a then some efBounds else if a % 4 ≠ 0 then some efAlign else none

/-! ### Register calls (R269, R310) -/

/-- The engine that owns a register's region; none has no owner. -/
def regOwner (a : Nat) : Option Engine :=
  if a ≤ 0x0AFF then some .node
  else if a ≤ 0x0BFF then some .sweep
  else if a ≤ 0x0CFF then (if 0x0C20 ≤ a ∧ a ≤ 0x0C4F then some .rail else some .node)
  else if a ≤ 0x0EFF then some .node
  else if a ≤ 0x0FFF then none
  else if a ≤ 0x13FF then some .sweep
  else if a ≤ 0x15FF then none
  else if a ≤ 0x16FF then some .rail
  else if a ≤ 0x17FF then some .sweep
  else if a ≤ 0x18FF then none
  else if a ≤ 0x19FF then some .sweep
  else none

/-- A regr waits until the engine's own earlier writes have been applied (R310): the queue moves on to the last of
them, one write a tick, each tick setting again the flags whose cause lasts (R6). -/
def busSettle (s : State) (e : Engine) : Nat → State
  | 0 => s
  | n + 1 => if s.bus.any fun b => b.source == some e then busSettle (settle (busApply s)) e n else s

/-! ### Measurement calls (R311, R312) -/

/-- The entries of mrd, the sequence it returns, and the number of entries of the source. -/
def State.mrdSource (s : State) (src : Nat) : (Nat → Word) × Nat × Nat :=
  let entry (v : Int) (st seq : Nat) : Word := BitVec.ofNat 32 ((BitVec.ofInt 24 v).toNat + 2 ^ 24 * st + 2 ^ 28 * (seq % 16))
  match src with
  | 0 => (fun n => entry (s.mainValue n) (s.mainStatus n) (s.regN Reg.RES_SEQ), s.regN Reg.RES_SEQ, 32)
  | 1 => (fun n => entry (s.secValue n) (s.secStatus n) (s.regN Reg.SEC_SEQ), s.regN Reg.SEC_SEQ, 32)
  | _ => (fun n => s.mirrorAt n, s.regN Reg.LAST_SWEEP, 262144)

/-- mrd copies its entries into data memory. -/
def mrdCopy (s : State) (src first count buf : Nat) : State :=
  let (get, _, _) := s.mrdSource src
  s.forEach (List.range count) fun s i => setDbytes s (buf + 4 * i) (leBytes 4 (get (first + i)).toNat)

/-- mreq: as REQ in ACQ_REQ, or a refusal. -/
def mreqCall (s : State) (sec : Bool) : Word × State :=
  if !(s.mode == .standby || s.mode == .selftest || s.mode == .safe) || s.scheduled then (refusal callMode 0, s)
  else if s.reqBusy then (refusal callBusy 0, s)
  else (accepted 0, if sec then reqSecondary s true else reqMain s true)

/-! ### Transfer calls (R313) -/

/-- xfr by its code. -/
def xfrCall (s : State) (op : Nat) : Word × State :=
  match op with
  | 1 =>
    let s := balPrepare s false
    let c := s.fld Fld.BAL_STATUS_PLAN_ERR
    (if c = 0 then accepted 0 else refusal callState c, s)
  | 2 => if s.balStage = stagePrepared then (accepted 0, balCommit s) else (refusal callState 0, s)
  | 3 => (accepted 0, balCancel s)
  | 4 => (accepted 0, balStop s)
  | 5 =>
    let s := impPrepare s
    let c := s.fld Fld.IMP_STATUS_PREP_ERR
    (if c = 0 then accepted 0 else refusal callState c, s)
  | 6 =>
    if s.impState ≠ impPrepared then (refusal callState 0, s)
    else
      let s := impCommit s
      (if s.impState = impRunning then accepted 0 else refusal callState 5, s)
  | _ => (accepted 0, impAbort s)

/-- The codes of xfr that name no command. -/
def xfrReserved (w : Word) : Bool :=
  let c := wFn w % 16
  c == 0 || decide (8 ≤ c)

/-- An xfr instruction of one command; a word with a reserved code faults whichever command was named. -/
def engXfr (s : State) (e : Engine) (op : Nat) : Host.Outcome State Fault Refusal :=
  engRun s e 0x3C (fun w => wFn w % 16 == op || xfrReserved w) fun w _ =>
    if wRa w != 0 || wRb w != 0 || decide (16 ≤ wFn w) || xfrReserved w then .fault efIllegal
    else if e != .node then .fault efCall
    else
      let (r, s) := xfrCall s op
      callReturn s e w r

/-! ### Frames (R314, R315) -/

/-- The frame types an engine may queue. -/
def typeAllowed (e : Engine) (ty : Nat) : Bool :=
  ty == 4 || (e == .sweep && (ty == 3 || ty == 6 || ty == 9))

/-- The node heads a ring on the route to a destination: a root its three rings, a hub the Lanes whose enumeration was
ordered. -/
def State.headsToward (s : State) (dst : BitVec 16) : Bool :=
  s.isRoot || (s.isHub && (if dst.getLsbD 13 then !s.headed.isEmpty else (s.laneOf (dst.toNat % 8192)).isSome))

/-- The Square holds a route: at the root by the binding table; a member's frames go to the head of its ring. -/
def State.hasRoute (s : State) (ty : Nat) (dst : BitVec 16) : Bool :=
  if dst.getLsbD 13 then true
  else if s.isRoot then dst.toNat % 8192 == 0 || (s.route (dst.toNat % 8192)).isSome
  else ty == 4 || (s.laneOf (dst.toNat % 8192)).isSome

/-- fsnd refuses (R314); 0: the frame is taken. -/
def State.fsndRefuses (s : State) (e : Engine) (ty len : Nat) (dst : BitVec 16) (tag : Bool) : Nat :=
  if !lenAllowed (BitVec.ofNat 8 ty) len || (tag && decide (len < 8)) then callRange
  else if ty != 4 && !s.headsToward dst then callRole
  else if !s.hasRoute ty dst then callRange
  else if 16 ≤ (s.eng e).sendQ.length then callFull else 0

/-- fsnd's fault on its argument block, if any: the descriptor, and the payload it names. -/
def State.fsndFault (s : State) (e : Engine) (a : Nat) : Option Nat :=
  match bufferFault e a 8 with
  | some c => some c
  | none =>
    if s.dataBad a 8 then some efParity
    else if !typeAllowed e (s.dbyte a).toNat then some efCall
    else
      let len := (s.dbyte (a + 1)).toNat
      let n := if (s.dbyte (a + 4)).getLsbD 1 then len - 8 else len
      if !lenAllowed (s.dbyte a) len then none
      else if !spanAllowed e (a + 8) n then some efBounds
      else if s.dataBad (a + 8) n then some efParity else none

/-- The next place in the order in which the engines' frames were queued (R272). -/
def State.nextOrder (s : State) : Nat :=
  (engines.flatMap fun e => (s.eng e).sendQ).foldl (fun m q => max m (q.order + 1)) 0

/-- fsnd: the frame enters the engine's send queue, or is refused. -/
def fsndCall (s : State) (e : Engine) (a : Nat) : Word × State :=
  let ty := (s.dbyte a).toNat
  let len := (s.dbyte (a + 1)).toNat
  let dst : BitVec 16 := BitVec.ofNat 16 (fromLe (s.dbytes (a + 2) 2))
  let tag := (s.dbyte (a + 4)).getLsbD 1
  let c := s.fsndRefuses e ty len dst tag
  if c ≠ 0 then (refusal c 0, s)
  else
    let n := if tag then len - 8 else len
    let f : EngFrame := {
      type := ty, dst := dst.toNat, tag := tag, payload := s.dbytes (a + 8) n, order := s.nextOrder }
    (accepted 0, watch (s.setEng e { s.eng e with sendQ := (s.eng e).sendQ ++ [f] }) e (a + 8) n false)

/-- The tag of a frame an engine sends (R433): with no key for the way it goes, its bytes are free (log entry 3). -/
def engTag (s : State) (f : Frame) : Frame × State :=
  let key : Option (BitVec 128 × Nat × Nat) :=
    if f.bcast then s.keys.treeKey.map fun k => (k, 2, s.keys.tkgen)
    else if s.isRoot then (s.session f.dstNode).key.map fun k => (k, 1, (s.session f.dstNode).kgen)
    else if f.type = tyResponse then s.keys.session.map fun k => (k, 1, s.keys.kgen)
    else none
  match key with
  | some (k, key, gen) => (s.withTag f k key gen, s)
  | none =>
    let (t, s) := drawBytes s 8
    ({ f with flags := f.flags ||| 2, payload := f.payload ++ t }, s)

/-- The node's frame from an engine's queue entry. -/
def engFrame (s : State) (q : EngFrame) : Frame × State :=
  let f := s.newFrame (BitVec.ofNat 8 q.type) (BitVec.ofNat 16 q.dst) q.payload
  if q.tag then engTag s f else (f, s)

/-- A COMMAND of the root to node 0 is served by its own Square without wire time (R235, R314): REMOTE accesses, transaction
commands, and frames for its engines. A role command is refused by a root, and the exchange of R428 sets up no session with the
root itself, so both change nothing; and since no session exists for node 0, a frame is served whatever tag it bears. No access
of the remote window waits for the answers (DESIGN CHOICE, log entry 112). -/
def ownCommand (s : State) (f : Frame) : State :=
  let op := leAt f.payload 0 1
  let a := leAt f.payload 2 2
  let n := leAt f.payload 1 1
  if op = 0x10 ∨ op = 0x11 then
    if !remoteShape f || remoteOutside f then s
    else if op = 0x10 then (hostReads s .remote a n).2
    else hostWrites .remote s a ((List.range n).map fun i => BitVec.ofNat 16 (leAt f.payload (4 + 2 * i) 2))
  else if 1 ≤ op ∧ op ≤ 6 then
    if f.payload.length < 8 ∨ n = 0 ∨ 4 < n then s else txnOwn s n a op (leAt f.payload 4 2)
  else match opEngine op with
    | some e => engDeliver s e f
    | none => s

/-- The ports' rings a frame leaves on: all the node heads for a broadcast, the ring toward its node. -/
def State.engRings (s : State) (f : Frame) : List Nat :=
  if f.bcast then s.headed
  else if s.isRoot then (s.route f.dstNode).toList
  else (s.laneOf f.dstNode).toList

/-- No engine holds a RESPONSE that was queued before this frame (R272). -/
def State.oldestResponse (s : State) (q : EngFrame) : Bool :=
  engines.all fun e => (s.eng e).sendQ.all fun p => p.type != 4 || decide (q.order ≤ p.order)

/-- The oldest frame of an engine's queue leaves (R314): a RESPONSE in the present train, within its four and after those
queued before it (R225, R272); a root's own to itself at once; anything else in the command time of its rings, and one for a
ring whose ports are off is discarded. The answer: it left. -/
def frameLeaves (s : State) (q : EngFrame) : Bool × State :=
  let (f, t) := engFrame s q
  if s.isRoot && !f.bcast && f.dstNode == 0 then
    (true, if f.type = tyCommand then ownCommand t f else if f.type = tyResponse ∧ 0x80 ≤ leAt f.payload 0 1 then engDeliver t .sweep f
      else t)
  else if f.type = tyResponse ∧ !s.isRoot then
    if s.oldestResponse q ∧ 0 < s.link.respLeft ∧ s.numbered ∧ modeInserts s.mode ∧ (s.half = 0 ∨ s.ms.inbound) ∧
        !s.flag Fld.MEMB_EXCLUDED then
      (true, insertFrame { t with link := { t.link with respLeft := t.link.respLeft - 1 } } f)
    else (false, s)
  else
    let rings := s.engRings f
    let off (r : Nat) : Bool := !s.portOn (txPort r) && !s.portOn (rxPort r)
    if rings.all fun r => off r || (s.ring r).speaks && s.laneRoom r f then (true, t.forEach rings fun t r => headSend t r f)
    else (false, s)

/-- FRAME_SENT: the frame leaves its queue and line 11 fires. -/
def frameSent (s : State) (e : Engine) : State :=
  match (s.eng e).sendQ with
  | [] => s
  | q :: rest =>
    let (left, t) := frameLeaves s q
    if left then (t.setEng e { t.eng e with sendQ := rest }).fireAt e lineCallDone else s

/-! ### Records and check values (R316, R317) -/

/-- log's fault on its argument block, if any. -/
def State.logFault (s : State) (e : Engine) (a : Nat) : Option Nat :=
  match bufferFault e a 2 with
  | some c => some c
  | none =>
    if s.dataBad a 2 then some efParity
    else
      let len := fromLe (s.dbytes a 2)
      if len < 8 ∨ 512 < len then none
      else if !spanAllowed e a len then some efBounds
      else if s.dataBad a len then some efParity else none

/-- log: the record enters its tier's queue, which completes the call, or is refused. -/
def logCall (s : State) (e : Engine) (tier a : Nat) : Word × State :=
  let len := fromLe (s.dbytes a 2)
  if !s.storeOn then (refusal callNoStore 0, s)
  else if len < 8 ∨ 512 < len then (refusal callRange 0, s)
  else
    let (ok, s) := storeRecord s tier (s.dbytes a len)
    if ok then (accepted 0, s.fireAt e lineCallDone) else (refusal callFull 0, s)

/-- The check value of a kind over bytes, from a running value. -/
def engCheck (kind : Nat) (v : Word) (bs : List Byte) : Word :=
  match kind with
  | 0 => crc32Run v bs
  | 1 => (crc16Run (v.setWidth 16) bs).setWidth 32
  | _ => (crc8Run (v.setWidth 8) bs).setWidth 32

end Sys2Proof.Machine
end

