-- ==== Sys2Proof/Machine/AcqCmds.lean ====
section
/-!
DEFINITION. Acquisition (spec/02): values of the converters, conversions on request, captures, register writes.
-/
namespace Sys2Proof.Machine

/-- INSTANTS_WINDOW_CLOSE (R43, R44, R53): the window of every simultaneous channel closes. -/
def execInstantsWindowClose (values : List Int) (s : State) : Host.Outcome State Fault Refusal :=
  if values.length ≠ 26 then .fault .illFormed
  else if !(s.measuring && s.acq.mode == 1) then done s
  else done (s.forEach (simEps.zip values) fun s p => windowClose s p.1 p.2)

/-- FILTER_OUTPUT (R49). -/
def execFilterOutput (ep : Fin 32) (value : Int) (s : State) : Host.Outcome State Fault Refusal :=
  if s.measuring && s.acq.mode == 2 && !epIsAux ep then done (filterOutput s ep value) else done s

/-- AUX_SCAN_VALUE (R50). -/
def execAuxScanValue (value : Int) (s : State) : Host.Outcome State Fault Refusal :=
  if s.measuring then done (auxValue s value) else done s

/-- SEC_SLOT_COMPLETE (R54, R56, R59, R60, R61, R63, R70, R74): a slot put in for a main path under test or failed, a slot
of a conversion on request, or one of the rotation, which runs from the boundary on that starts it. Outside scheduled sweeps
a slot is put in only during a conversion on request. Such a conversion waits while a converter is under self-test, and a
converter that reads a pulled pin gives neither until it is free. -/
def execSecSlotComplete (sarB : Bool) (inserted : Option (Fin 32)) (value : Int) (s : State) :
    Host.Outcome State Fault Refusal :=
  if s.sarTest sarB || s.pullUses sarB then done s
  else match inserted with
    | some e =>
      if (s.acq.sched || s.acq.req != .idle) && s.secServed e.val && sarOf e == sarB then
        done (secTake s e value)
      else done s
    | none =>
      if s.acq.sched then
        let (t, published) := rotationSlot s sarB value
        let t := if published then secSumCheck t else t
        let u := reqSecFinish t
        done (if t.acq.reqSec && !u.acq.reqSec then secSumCheck u else u)
      else if s.reqSecRuns then
        let t := reqSecSlot s sarB value
        done (if t.acq.reqSec then t else secSumCheck t)
      else done s

/-- ACQ_REQ_MAIN (R59). -/
def execAcqReqMain (s : State) : Host.Outcome State Fault Refusal := done (reqMain s false)

/-- ACQ_REQ_SECONDARY (R59). -/
def execAcqReqSecondary (s : State) : Host.Outcome State Fault Refusal := done (reqSecondary s false)

/-- MODULATOR_POWERUP_DONE (R59, R515). -/
def execModulatorPowerupDone (s : State) : Host.Outcome State Fault Refusal := done (powerupDone s)

/-- ON_REQUEST_COMPLETE (R59): the board NTCs are converted from the set published (R379). -/
def execOnRequestComplete (s : State) : Host.Outcome State Fault Refusal :=
  done (if s.reqComplete then chargeInhibit (transferPermissions (ntcConvert (requestComplete s))) else s)

/-- RESULT_CAPTURE (R65). -/
def execResultCapture (path : Path) (sec : Bool) (s : State) : Host.Outcome State Fault Refusal :=
  done (captureResult s path sec)

/-- SNAP_CAPTURE (R8): a register that is no low half-word of a SNAP group captures nothing. -/
def execSnapCapture (path : Path) (addr : BitVec 15) (s : State) : Host.Outcome State Fault Refusal :=
  match snapGroup addr.toNat with
  | some (base, n) => done (capture s path base n)
  | none => done s

/-- REGISTER_WRITE (R4, R270): whatever the register's rules say, behind the writes that wait. -/
def execRegisterWrite (addr : BitVec 15) (v : BitVec 16) (s : State) : Host.Outcome State Fault Refusal :=
  doneAll (hostWrites .qspi s addr.toNat [v])

/-- REGISTER_BUS_APPLY (R270): the oldest write of the queue is applied. -/
def execRegisterBusApply (s : State) : Host.Outcome State Fault Refusal :=
  doneAll (busApply s)

end Sys2Proof.Machine
end

