-- ==== Sys2Proof/Machine/AlleyCmds.lean ====
section
/-!
DEFINITION. The Alley (spec/18): requests, and the parts of an exchange.
-/
namespace Sys2Proof.Machine

/-- ALY_SCAN (R449, R452): SCAN in ALY_CMD. -/
def execAlyScan (s : State) : Host.Outcome State Fault Refusal := done (alyScan s)

/-- ALY_POLL (R451, R452): POLL in ALY_CMD. -/
def execAlyPoll (s : State) : Host.Outcome State Fault Refusal := done (alyPoll s)

/-- ALY_PAGE (R452): PAGE in ALY_CMD. -/
def execAlyPage (tag : Fin 32) (page : Fin 8) (s : State) : Host.Outcome State Fault Refusal := done (alyPage s tag page)

/-- ALY_POLL_PERIOD (R452). -/
def execAlyPollPeriod (s : State) : Host.Outcome State Fault Refusal :=
  done (if modeAsleep s.mode then s else alyPeriod s .alyPoll Fld.ALY_TIME_POLL alyPoll)

/-- ALY_RESCAN_PERIOD (R452). -/
def execAlyRescanPeriod (s : State) : Host.Outcome State Fault Refusal :=
  done (if modeAsleep s.mode then s else alyPeriod s .alyRescan Fld.ALY_TIME_RESCAN alyScan)

/-- ALY_EXCHANGE_START (R452). -/
def execAlyExchangeStart (s : State) : Host.Outcome State Fault Refusal := done (alyStart s)

/-- HAIL (R441). -/
def execAlyHail (low high : Bool) (s : State) : Host.Outcome State Fault Refusal := done (alyHailed s low high)

/-- FIND (R448, R449). -/
def execAlyFind (slots : List Nat) (s : State) : Host.Outcome State Fault Refusal := done (alyFindPass s slots)

/-- NAME (R445). -/
def execAlyName (slots : List Nat) (s : State) : Host.Outcome State Fault Refusal := done (alyNameTag s slots)

/-- ALL (R445, R453). -/
def execAlyAll (slots : List Nat) (s : State) : Host.Outcome State Fault Refusal := done (alyAllTags s slots)

/-- IDENT (R453). -/
def execAlyIdent (slots : List Nat) (s : State) : Host.Outcome State Fault Refusal := done (alyIdentRead s slots)

/-- MEASURE (R445, R451). -/
def execAlyMeasure (slots : List Nat) (s : State) : Host.Outcome State Fault Refusal := done (alyMeasureTags s slots)

/-- ALY_CONVERSION_END (R445, R451). -/
def execAlyConversionEnd (s : State) : Host.Outcome State Fault Refusal := done (alyConverted s)

/-- FETCH (R446, R447, R451). -/
def execAlyFetch (slots : List Nat) (s : State) : Host.Outcome State Fault Refusal := done (alyFetchTag s slots)

/-- PAGE (R445). -/
def execAlyPageCmd (slots : List Nat) (s : State) : Host.Outcome State Fault Refusal := done (alyPageRead s slots)

end Sys2Proof.Machine
end

