-- ==== Sys2Proof/Machine/ArithCmds.lean ====
section
/-!
DEFINITION. Arithmetic, logic and shift instructions of the engines (R294, R296 to R298), and the memory instructions
(R299, R300).
-/
namespace Sys2Proof.Machine

/-- ADD (R297). -/
def execAdd (e : Engine) (s : State) : Host.Outcome State Fault Refusal :=
  engAlu s e 0x01 okRegs fun w x => x.putAdd (wRd w) (opA w x) (opB w x)

/-- ADDI (R297). -/
def execAddi (e : Engine) (s : State) : Host.Outcome State Fault Refusal :=
  engAlu s e 0x02 anyWord fun w x => x.putAdd (wRd w) (opA w x) (immS w)

/-- SUB (R297). -/
def execSub (e : Engine) (s : State) : Host.Outcome State Fault Refusal :=
  engAlu s e 0x03 okRegs fun w x => x.putSub (wRd w) (opA w x) (opB w x)

/-- CMP (R297): flags only. -/
def execCmp (e : Engine) (s : State) : Host.Outcome State Fault Refusal :=
  engAlu s e 0x04 (fun w => okRegs w && wRd w == 0) fun w x => x.putSub 0 (opA w x) (opB w x)

/-- CMPI (R297): flags only. -/
def execCmpi (e : Engine) (s : State) : Host.Outcome State Fault Refusal :=
  engAlu s e 0x05 (fun w => wRd w == 0) fun w x => x.putSub 0 (opA w x) (immS w)

/-- MUL (R297). -/
def execMul (e : Engine) (s : State) : Host.Outcome State Fault Refusal :=
  engAlu s e 0x06 okRegs fun w x => x.put (wRd w) (opA w x * opB w x) false false

/-- MULH (R297). -/
def execMulh (e : Engine) (s : State) : Host.Outcome State Fault Refusal :=
  engAlu s e 0x07 okRegs fun w x =>
    x.put (wRd w) (BitVec.ofInt 32 ((opA w x).toInt * (opB w x).toInt / 2 ^ 32)) false false

/-- DIV (R298). -/
def execDiv (e : Engine) (s : State) : Host.Outcome State Fault Refusal :=
  engRun s e 0x08 anyWord fun w x =>
    if !okRegs w then .fault efIllegal
    else if opB w x = 0 then .fault efDivzero
    else engNext s e (x.put (wRd w) (divSigned (opA w x) (opB w x)) false (divOver (opA w x) (opB w x)))

/-- DIVU (R298). -/
def execDivu (e : Engine) (s : State) : Host.Outcome State Fault Refusal :=
  engRun s e 0x09 anyWord fun w x =>
    if !okRegs w then .fault efIllegal
    else if opB w x = 0 then .fault efDivzero
    else engNext s e (x.put (wRd w) (opA w x / opB w x) false false)

/-- AND (R297). -/
def execAndE (e : Engine) (s : State) : Host.Outcome State Fault Refusal :=
  engAlu s e 0x0A okRegs fun w x => x.putLogic (wRd w) (opA w x &&& opB w x)

/-- OR (R297). -/
def execOrE (e : Engine) (s : State) : Host.Outcome State Fault Refusal :=
  engAlu s e 0x0B okRegs fun w x => x.putLogic (wRd w) (opA w x ||| opB w x)

/-- XOR (R297). -/
def execXor (e : Engine) (s : State) : Host.Outcome State Fault Refusal :=
  engAlu s e 0x0C okRegs fun w x => x.putLogic (wRd w) (opA w x ^^^ opB w x)

/-- ANDI (R297). -/
def execAndi (e : Engine) (s : State) : Host.Outcome State Fault Refusal :=
  engAlu s e 0x0D anyWord fun w x => x.putLogic (wRd w) (opA w x &&& immZ w)

/-- ORI (R297). -/
def execOri (e : Engine) (s : State) : Host.Outcome State Fault Refusal :=
  engAlu s e 0x0E anyWord fun w x => x.putLogic (wRd w) (opA w x ||| immZ w)

/-- XORI (R297). -/
def execXori (e : Engine) (s : State) : Host.Outcome State Fault Refusal :=
  engAlu s e 0x0F anyWord fun w x => x.putLogic (wRd w) (opA w x ^^^ immZ w)

/-- SHL (R296, R297). -/
def execShl (e : Engine) (s : State) : Host.Outcome State Fault Refusal :=
  engAlu s e 0x10 okR fun w x =>
    let n := shiftAmount w x
    x.putShift w (opA w x <<< n) ((opA w x).getLsbD (32 - n))

/-- SHR (R296, R297). -/
def execShr (e : Engine) (s : State) : Host.Outcome State Fault Refusal :=
  engAlu s e 0x11 okR fun w x =>
    let n := shiftAmount w x
    x.putShift w (opA w x >>> n) ((opA w x).getLsbD (n - 1))

/-- SAR (R296, R297). -/
def execSar (e : Engine) (s : State) : Host.Outcome State Fault Refusal :=
  engAlu s e 0x12 okR fun w x =>
    let n := shiftAmount w x
    x.putShift w ((opA w x).sshiftRight n) ((opA w x).getLsbD (n - 1))

/-- SEXT (R297). -/
def execSext (e : Engine) (s : State) : Host.Outcome State Fault Refusal :=
  engAlu s e 0x13 (fun w => okR w && wRb w == 0) fun w x => x.putLogic (wRd w) (signFrom (opA w x) (wSh w))

/-- MOVI (R297). -/
def execMovi (e : Engine) (s : State) : Host.Outcome State Fault Refusal :=
  engAlu s e 0x14 okM fun w x => x.set (wRd w) ((wImm16 w).setWidth 32)

/-- MOVT (R297). -/
def execMovt (e : Engine) (s : State) : Host.Outcome State Fault Refusal :=
  engAlu s e 0x15 okM fun w x =>
    x.set (wRd w) (((wImm16 w).setWidth 32 <<< 16) ||| (x.get (wRd w) &&& 0xFFFF#32))

/-- LDW (R300). -/
def execLdw (e : Engine) (s : State) : Host.Outcome State Fault Refusal := engLoad s e 0x18 4

/-- LDH (R300). -/
def execLdh (e : Engine) (s : State) : Host.Outcome State Fault Refusal := engLoad s e 0x19 2

/-- LDB (R300). -/
def execLdb (e : Engine) (s : State) : Host.Outcome State Fault Refusal := engLoad s e 0x1A 1

/-- STW (R300). -/
def execStw (e : Engine) (s : State) : Host.Outcome State Fault Refusal := engStore s e 0x1B 4

/-- STH (R300). -/
def execSth (e : Engine) (s : State) : Host.Outcome State Fault Refusal := engStore s e 0x1C 2

/-- STB (R300). -/
def execStb (e : Engine) (s : State) : Host.Outcome State Fault Refusal := engStore s e 0x1D 1

/-- SWAP (R264, R299, R300): a word of bank 7 and RD change places in one tick. -/
def execSwap (e : Engine) (s : State) : Host.Outcome State Fault Refusal :=
  engRun s e 0x1E anyWord fun w x =>
    let a := x.addr w
    if a < 0x38000 ∨ 0x3FFFF < a then .fault efBounds
    else if a % 4 ≠ 0 then .fault efAlign
    else if s.dataBad a 4 then .fault efParity
    else
      let t := BitVec.ofNat 32 (fromLe (s.dbytes a 4))
      let s := setDbytes s a (leBytes 4 (x.get (wRd w)).toNat)
      .next (watch (watch (s.setEng e (x.set (wRd w) t)) e a 4 false) e a 4 true)

/-- LDP (R299, R300): a word of the running page. -/
def execLdp (e : Engine) (s : State) : Host.Outcome State Fault Refusal :=
  engRun s e 0x1F anyWord fun w x =>
    let i := opA w x + immS w
    if !indexOk i then .fault efBounds
    else if x.wordBad i.toNat then .fault efParity
    else engNext s e (x.set (wRd w) (x.word i.toNat))

end Sys2Proof.Machine
end

