-- ==== Sys2Proof/Machine/BalCmds.lean ====
section
/-!
DEFINITION. The charge-transfer balancer (spec/05): PWM periods, trips, BAL_CMD and the plan's end (R121 to R139).
-/
namespace Sys2Proof.Machine

/-- PWM_PERIOD_START (R121, R139). -/
def execPwmPeriodStart (steps : List (Fin 24 × Int × Int)) (s : State) : Host.Outcome State Fault Refusal :=
  done (pwmPeriod s steps)

/-- The comparator of a group's IS input is ignored: within BLANK ticks after a rising edge of one of the group's outputs
(R188). -/
def State.isBlanked (s : State) (n : Nat) : Bool :=
  (List.range 6).any fun i => (s.balChan (6 * n + i)).pulses.any fun p =>
    decide (p.rise ≤ s.now) && decide (s.now < p.rise + s.fld (Fld.MON_CTL_BLANK n))

/-- What a trip of a group ends: its pulses and its excitation (R110, R127). A monitor out of service, or in a mode in which its
class is off, trips nothing (R188, R189). -/
def tripTaken (s : State) (n : Nat) : State :=
  if s.isInService n && s.monRuns n then impTrip (groupTrip s n) n else s

/-- IS_TRIP (R127, R184, R188): the comparator's state follows its input, and either crossing trips; one within the blanking
is not taken. -/
def execIsTrip (n : Fin 4) (above : Bool) (s : State) : Host.Outcome State Fault Refusal :=
  let s := s.when (s.monActive n && s.monSettled n && !s.monSampled n) fun s => s.setMonComp n (if above then .above else .below)
  done (if s.isBlanked n then s else tripTaken s n)

/-- IS_BLANK_END (R188): a crossing that persists trips at the blanking's end. -/
def execIsBlankEnd (n : Fin 4) (persists : Bool) (s : State) : Host.Outcome State Fault Refusal :=
  done (if persists then tripTaken s n else s)

/-- TRIP_HOLD_END (R127). -/
def execTripHoldEnd (n : Fin 4) (s : State) : Host.Outcome State Fault Refusal := done (tripHoldEnd s n)

/-- BAL_PREPARE (R137). -/
def execBalPrepare (s : State) : Host.Outcome State Fault Refusal := done (balPrepare s false)

/-- BAL_COMMIT (R138). -/
def execBalCommit (s : State) : Host.Outcome State Fault Refusal := done (balCommit s)

/-- BAL_CANCEL (R138). -/
def execBalCancel (s : State) : Host.Outcome State Fault Refusal := done (balCancel s)

/-- BAL_STOP (R138). -/
def execBalStop (s : State) : Host.Outcome State Fault Refusal := done (balStop s)

/-- BAL_EN_CLEAR (R138): EN = 0 in BAL_CTL acts as STOP and ABORT. -/
def execBalEnClear (s : State) : Host.Outcome State Fault Refusal :=
  done (balDisable (s.setFlag Fld.BAL_CTL_EN false))

/-- BAL_PLAN_TIMEOUT (R139): the plan ends, as for STOP. -/
def execBalPlanTimeout (s : State) : Host.Outcome State Fault Refusal :=
  done (if s.running .balPlan then (balStop s).stopTimer .balPlan else s)

/-- GROUP_CLEAR (R128). -/
def execGroupClear (n : Fin 4) (s : State) : Host.Outcome State Fault Refusal := done (groupClear s n)

end Sys2Proof.Machine
end

