-- ==== Sys2Proof/Machine/CallCmds.lean ====
section
/-!
DEFINITION. The call instructions of the engines (R308 to R317), and the leaving of a frame an engine queued.
-/
namespace Sys2Proof.Machine

/-- What regr does at an engine: the register read once the engine's own earlier writes have been applied. -/
def regrBody (e : Engine) (s : State) (w : Word) (x : Eng) : EngOut :=
  let a := x.addr w
  if 0x1FFF < a then .fault efCall
  else
    let s := busSettle s e s.bus.length
    engNext s e ((s.eng e).putZ (wRd w) ((s.live a).setWidth 32))

/-- REGR (R310): the writes it waits for may be of any register. -/
def execRegr (e : Engine) (s : State) : Host.Outcome State Fault Refusal :=
  match engInstr s e 0x38 anyWord (regrBody e s) with
  | (some c, s) => doneAll (engineFault s e c)
  | (none, s) => doneAll s

/-- REGW (R269, R310): the write takes its place on the register bus. -/
def execRegw (e : Engine) (s : State) : Host.Outcome State Fault Refusal :=
  engRun s e 0x39 anyWord fun w x =>
    let a := x.addr w
    if 0x1FFF < a then .fault efCall
    else if regOwner a != some e then .fault efProtect
    else .next { s with bus := s.bus ++ [{ source := some e, addr := a, value := (x.get (wRd w)).setWidth 16 }] }

/-- MRD (R311). -/
def execMrd (e : Engine) (s : State) : Host.Outcome State Fault Refusal :=
  engRun s e 0x3A anyWord fun w x =>
    let src := wFn w / 4096
    let count := wFn w % 64 + 1
    let first := (opA w x).toNat
    let buf := (opB w x).toNat
    if wFn w / 64 % 64 != 0 || src == 3 then .fault efIllegal
    else match bufferFault e buf (4 * count) with
      | some c => .fault c
      | none =>
        let (_, seq, size) := s.mrdSource src
        if src = 2 ∧ !s.isRoot then callReturn s e w (refusal callRole 0)
        else if size < first + count then callReturn s e w (refusal callRange 0)
        else callReturn (watch (mrdCopy s src first count buf) e buf (4 * count) true) e w (accepted seq)

/-- MREQ (R312). -/
def execMreq (e : Engine) (s : State) : Host.Outcome State Fault Refusal :=
  engRun s e 0x3B anyWord fun w _ =>
    if wRa w != 0 || wRb w != 0 || decide (2 ≤ wFn w) then .fault efIllegal
    else if e != .node then .fault efCall
    else
      let (r, s) := mreqCall s (wFn w == 1)
      callReturn s e w r

/-- XFR_BAL_PREPARE (R313). -/
def execXfrBalPrepare (e : Engine) (s : State) : Host.Outcome State Fault Refusal := engXfr s e 1

/-- XFR_BAL_COMMIT (R313). -/
def execXfrBalCommit (e : Engine) (s : State) : Host.Outcome State Fault Refusal := engXfr s e 2

/-- XFR_BAL_CANCEL (R313). -/
def execXfrBalCancel (e : Engine) (s : State) : Host.Outcome State Fault Refusal := engXfr s e 3

/-- XFR_BAL_STOP (R313). -/
def execXfrBalStop (e : Engine) (s : State) : Host.Outcome State Fault Refusal := engXfr s e 4

/-- XFR_IMP_PREPARE (R313). -/
def execXfrImpPrepare (e : Engine) (s : State) : Host.Outcome State Fault Refusal := engXfr s e 5

/-- XFR_IMP_COMMIT (R313). -/
def execXfrImpCommit (e : Engine) (s : State) : Host.Outcome State Fault Refusal := engXfr s e 6

/-- XFR_IMP_ABORT (R313). -/
def execXfrImpAbort (e : Engine) (s : State) : Host.Outcome State Fault Refusal := engXfr s e 7

/-- FSND (R314). -/
def execFsnd (e : Engine) (s : State) : Host.Outcome State Fault Refusal :=
  engRun s e 0x3D anyWord fun w x =>
    let a := (opA w x).toNat
    if wRb w != 0 || wFn w != 0 then .fault efIllegal
    else match s.fsndFault e a with
      | some c => .fault c
      | none =>
        let (r, s) := fsndCall (watch s e a 8 false) e a
        callReturn s e w r

/-- FRAME_SENT (R314). -/
def execFrameSent (e : Engine) (s : State) : Host.Outcome State Fault Refusal :=
  if s.linkOn then doneAll (frameSent s e) else done s

/-- FRCV (R315). -/
def execFrcv (e : Engine) (s : State) : Host.Outcome State Fault Refusal :=
  engRun s e 0x3E anyWord fun w x =>
    let a := (opA w x).toNat
    if wRb w != 0 || wFn w != 0 then .fault efIllegal
    else match bufferFault e a 256 with
      | some c => .fault c
      | none =>
        match x.recvQ with
        | [] => callReturn s e w (refusal callEmpty 0)
        | bs :: rest =>
          let s := setDbytes (s.setEng e { x with recvQ := rest, dropped := 0 }) a bs
          callReturn (watch s e a bs.length true) e w (accepted (bs.length % 512 + 65536 * min 255 x.dropped))

/-- LOG (R316). -/
def execLog (e : Engine) (s : State) : Host.Outcome State Fault Refusal :=
  engRun s e 0x3F anyWord fun w x =>
    let a := (opA w x).toNat
    if wRb w != 0 || decide (3 ≤ wFn w) then .fault efIllegal
    else match s.logFault e a with
      | some c => .fault c
      | none =>
        let len := fromLe (s.dbytes a 2)
        let (r, s) := logCall (watch s e a (if len < 8 ∨ 512 < len then 2 else len) false) e (wFn w) a
        callReturn s e w r

/-- CRC (R317). -/
def execCrc (e : Engine) (s : State) : Host.Outcome State Fault Refusal :=
  engRun s e 0x34 anyWord fun w x =>
    let a := (opA w x).toNat
    let n := (opB w x).toNat
    if decide (3 ≤ wFn w) then .fault efIllegal
    else if 8192 < n ∨ !spanAllowed e a n then .fault efBounds
    else if s.dataBad a n then .fault efParity
    else
      let s := watch s e a n false
      engNext s e ((s.eng e).putZ (wRd w) (engCheck (wFn w) (x.get (wRd w)) (s.dbytes a n)))

end Sys2Proof.Machine
end

