-- ==== Sys2Proof/Machine/CareCmds.lean ====
section
/-!
DEFINITION. The thermal supervisor (spec/14) and calibration (spec/15).
-/
namespace Sys2Proof.Machine

/-- THERMAL_SAMPLE (R373 to R378, R382): none is taken in OFF, SHIP and WATCH. Drive follows the levels, and permissions are
evaluated as throttle begins or ends (R135). -/
def execThermalSample (tj : Int) (s : State) : Host.Outcome State Fault Refusal :=
  if modeAsleep s.mode then done s
  else
    let was := s.flag Fld.TH_STATUS_SHUT
    let t := thermalShutdown (thermalSample s tj) was
    doneAll (showDrive (t.when (t.throttled != s.throttled) transferPermissions))

/-- THERMAL_MODEL_CHECK (R380): once per second while the sensor is sampled. -/
def execThermalModelCheck (s : State) : Host.Outcome State Fault Refusal :=
  done (if modeAsleep s.mode then s else modelCheck s)

/-- INH_AGE_EXPIRE (R384). -/
def execInhAgeExpire (node : BitVec 13) (s : State) : Host.Outcome State Fault Refusal := doneTree (pollSilent s node.toNat)

/-- TH_CLEAR_SUSPECT (TH_CMD). -/
def execThClearSuspect (s : State) : Host.Outcome State Fault Refusal := done (clearSuspect s)

/-- TH_CLEAR_MAX (TH_CMD, R382). -/
def execThClearMax (s : State) : Host.Outcome State Fault Refusal := done (clearMax s)

/-- CAL_TEMP_CHECK (R391). -/
def execCalTempCheck (s : State) : Host.Outcome State Fault Refusal :=
  done (if calTempDue s && !modeAsleep s.mode then calTrigger s 1 else s)

/-- CAL_SCHED_ELAPSED (R391). -/
def execCalSchedElapsed (s : State) : Host.Outcome State Fault Refusal :=
  done (if calSchedDue s && s.running .calSched then calTrigger s 2 else s)

/-- CAL_RETRY_ELAPSED (R391, R394). -/
def execCalRetryElapsed (s : State) : Host.Outcome State Fault Refusal :=
  done (if s.running .calRetry then calTrigger (s.stopTimer .calRetry) 4 else s)

/-- CAL_RUN (R391). -/
def execCalRun (s : State) : Host.Outcome State Fault Refusal := done (calTrigger s 3)

/-- CAL_FULL (R392, R395). -/
def execCalFull (s : State) : Host.Outcome State Fault Refusal := doneRails (calFull s)

/-- CAL_ABORT (R395). -/
def execCalAbort (s : State) : Host.Outcome State Fault Refusal := done (calAbort s true)

/-- CAL_SLOT_START (R388, R392). -/
def execCalSlotStart (s : State) : Host.Outcome State Fault Refusal := done (calSlotStart s)

/-- CAL_SLOT_PHASE_END (R388, R389): a pass gives one result per trim of the group. -/
def execCalSlotPhaseEnd (readings : List Int) (s : State) : Host.Outcome State Fault Refusal :=
  if (s.cal.step = 3 ∨ s.cal.step = 4) ∧ readings.length ≠ (groupTrims s.cal.group).length then .fault .illFormed
  else done (calPhaseEnd s readings)

/-- CAL_SLOT_END (R388, R394, R396): where no sweeps run, a node in CALIBRATE leaves it as its run ends. -/
def execCalSlotEnd (s : State) : Host.Outcome State Fault Refusal :=
  let s := calSlotEnd s
  doneRails (if s.sweepsRun then s else calReturn s)

/-- CAL_APPLY_TICK (R396): without scheduled sweeps, and not during an on-request conversion. -/
def execCalApplyTick (s : State) : Host.Outcome State Fault Refusal :=
  done (if s.scheduled || s.reqBusy then s else calApply s)

end Sys2Proof.Machine
end

