-- ==== Sys2Proof/Machine/EngineCmds.lean ====
section
/-!
DEFINITION. The engines from outside (R273 to R284): the watchdog, RUN and RESTART, staging pages, host events, debug.
-/
namespace Sys2Proof.Machine

/-- The watchdog counts: the period is not 0, and the engine neither stands still nor has faulted (R277). -/
def State.watchdogRuns (s : State) (e : Engine) : Bool :=
  s.fld (Fld.ENG_CTL_WDT e.idx) != 0 && ((s.eng e).st == .running || (s.eng e).st == .waiting)

/-- ENGINE_WATCHDOG_HALF (R277). -/
def execEngineWatchdogHalf (e : Engine) (s : State) : Host.Outcome State Fault Refusal :=
  done (if s.watchdogRuns e then s.fireAt e lineHalfWatchdog else s)

/-- ENGINE_WATCHDOG (R277, R291). -/
def execEngineWatchdog (e : Engine) (s : State) : Host.Outcome State Fault Refusal :=
  doneRails (if s.watchdogRuns e then engineFault s e efWatchdog else s)

/-- A write of ENG*e*_CTL that changes some of its bits. -/
def engCtlWrite (s : State) (e : Engine) (clear set : Half) : State :=
  engControl s e ((s.reg (Reg.ENG_CTL e.idx) &&& ~~~(clear ||| 0x0100)) ||| set)

/-- ENGINE_STOP (R275): RUN is written 0. -/
def execEngineStop (e : Engine) (s : State) : Host.Outcome State Fault Refusal := doneRails (engCtlWrite s e 0x0200 0)

/-- ENGINE_START (R275): RUN is written 1. -/
def execEngineStart (e : Engine) (s : State) : Host.Outcome State Fault Refusal := doneRails (engCtlWrite s e 0 0x0200)

/-- ENGINE_RESTART (R278): RESTART is written. -/
def execEngineRestart (e : Engine) (s : State) : Host.Outcome State Fault Refusal := doneRails (engCtlWrite s e 0 0x0100)

/-- ENGINE_WDT_WRITE (R277). -/
def execEngineWdtWrite (e : Engine) (wdt : BitVec 8) (s : State) : Host.Outcome State Fault Refusal :=
  doneRails (engCtlWrite s e 0x00FF (wdt.setWidth 16))

/-- STAGING_LOAD_DONE (R276). -/
def execStagingLoadDone (e : Engine) (s : State) : Host.Outcome State Fault Refusal :=
  let before := s.profStaged
  let s := stageLoaded s e
  done (if s.profStaged && !before then txnStageLoaded s else s)

/-- HOST_EVENT_RAISE (R273). -/
def execHostEventRaise (v : BitVec 16) (s : State) : Host.Outcome State Fault Refusal := done (hostEvents s v)

/-- DEBUG_KEY (R281): through the host port or the DBG pins. -/
def execDebugKey (v : BitVec 16) (pin : Bool) (s : State) : Host.Outcome State Fault Refusal := doneRails (dbgKey s v pin)

/-- DEBUG_HALT (R282): HALT of ENG*e*_DBG. -/
def execDebugHalt (e : Engine) (s : State) : Host.Outcome State Fault Refusal := doneRails (engDebug s e 0x0001)

/-- DEBUG_STEP (R282): STEP of ENG*e*_DBG. -/
def execDebugStep (e : Engine) (s : State) : Host.Outcome State Fault Refusal := doneRails (engDebug s e 0x0002)

/-- DEBUG_RESUME (R282): RESUME of ENG*e*_DBG. -/
def execDebugResume (e : Engine) (s : State) : Host.Outcome State Fault Refusal := doneRails (engDebug s e 0x0004)

/-- ENG_G_WRITE (R282). -/
def execEngGWrite (e : Engine) (hi : BitVec 16) (s : State) : Host.Outcome State Fault Refusal := done (engGWrite s e hi)

end Sys2Proof.Machine
end

