-- ==== Sys2Proof/Machine/FlowCmds.lean ====
section
/-!
DEFINITION. Branches, waits and engine control (R301 to R307).
-/
namespace Sys2Proof.Machine

/-- COND, in the place of RD. -/
def wCond (w : Word) : Nat := wRd w

/-- B (R301). -/
def execBranch (e : Engine) (s : State) : Host.Outcome State Fault Refusal :=
  engRun s e 0x20 anyWord fun w x =>
    if !okB w || wRa w != 0 || wCond w == 15 then .fault efIllegal
    else if x.cond (wCond w) then .jump s (wTarget w) else .next s

/-- BR (R301): the index is checked only where the branch is taken. -/
def execBr (e : Engine) (s : State) : Host.Outcome State Fault Refusal :=
  engRun s e 0x21 anyWord fun w x =>
    if !okB w || wTarget w != 0 || wCond w == 15 then .fault efIllegal
    else if !x.cond (wCond w) then .next s
    else if !indexOk (opA w x) then .fault efBounds
    else .jump s (opA w x).toNat

/-- The return index goes to G15. -/
def linkTo (s : State) (e : Engine) (x : Eng) : State := s.setEng e (x.set 15 (BitVec.ofNat 32 ((x.pc + 1) % 8192)))

/-- CALL (R301). -/
def execCall (e : Engine) (s : State) : Host.Outcome State Fault Refusal :=
  engRun s e 0x22 anyWord fun w x =>
    if !okB w || wCond w != 0 || wRa w != 0 then .fault efIllegal else .jump (linkTo s e x) (wTarget w)

/-- CALLR (R301): RA is read before G15 is written. -/
def execCallr (e : Engine) (s : State) : Host.Outcome State Fault Refusal :=
  engRun s e 0x23 anyWord fun w x =>
    if !okB w || wCond w != 0 || wTarget w != 0 then .fault efIllegal
    else if !indexOk (opA w x) then .fault efBounds
    else .jump (linkTo s e x) (opA w x).toNat

/-- DBNZ (R301). -/
def execDbnz (e : Engine) (s : State) : Host.Outcome State Fault Refusal :=
  engRun s e 0x24 anyWord fun w x =>
    if !okB w || wRa w != 0 || wRd w == 0 then .fault efIllegal
    else
      let r := x.get (wRd w) - 1
      let s := s.setEng e (x.set (wRd w) r)
      if r = 0 then .next s else .jump s (wTarget w)

/-- TBR (R302): the cycle count and the phase in one tick. -/
def execTbr (e : Engine) (s : State) : Host.Outcome State Fault Refusal :=
  engRun s e 0x28 anyWord fun w x =>
    if !okW w || wRb w != 0 || wRt w != 0 || (wRd w == wRa w && wRd w != 0) then .fault efIllegal
    else engNext s e ((x.set (wRd w) (BitVec.ofNat 32 (s.tb.value / 65536))).set (wRa w) (BitVec.ofNat 32 s.tb.phase))

/-- WPH (R303). -/
def execWph (e : Engine) (s : State) : Host.Outcome State Fault Refusal :=
  engRun s e 0x29 anyWord fun w x =>
    if !okW w || wRb w != 0 then .fault efIllegal
    else engWait s e w x .phase ((opA w x).toNat % 65536) 0 false

/-- WTB (R303): late where the target does not lie after the value of the issue tick. -/
def execWtb (e : Engine) (s : State) : Host.Outcome State Fault Refusal :=
  engRun s e 0x2A anyWord fun w x =>
    if !okW w then .fault efIllegal
    else
      let target := (opA w x).toNat * 65536 + (opB w x).toNat % 65536
      engWait s e w x .timebase target 0 (decide (target ≤ s.tb.value))

/-- WEV (R304): bits latched at issue complete it in the issue tick. -/
def execWev (e : Engine) (s : State) : Host.Outcome State Fault Refusal :=
  engRun s e 0x2B anyWord fun w x =>
    if !okW w || wRb w != 0 then .fault efIllegal
    else
      let hit := x.latch &&& opA w x
      if hit = 0 then engWait s e w x .event 0 (opA w x) false
      else
        let x := { (x.set (wRd w) hit).zn hit with n := false, c := false, v := false, latch := x.latch &&& ~~~(opA w x) }
        engNext s e x

/-- WAIT_COMPLETE (R274). -/
def execWaitComplete (e : Engine) (s : State) : Host.Outcome State Fault Refusal := done (waitComplete s e)

/-- WAIT_TIMEOUT (R305). -/
def execWaitTimeout (e : Engine) (s : State) : Host.Outcome State Fault Refusal := done (waitTimeout s e)

/-- POLL (R304). -/
def execPoll (e : Engine) (s : State) : Host.Outcome State Fault Refusal :=
  engAlu s e 0x2C (fun w => okW w && wRb w == 0 && wRt w == 0) fun w x =>
    let hit := x.latch &&& opA w x
    { (x.set (wRd w) hit).zn hit with n := false, c := false, v := false, latch := x.latch &&& ~~~hit }

/-- RD, RA and RB are not used. -/
def noRegs (w : Word) : Bool := wRd w == 0 && wRa w == 0 && wRb w == 0

/-- SIG (R307). -/
def execSig (e : Engine) (s : State) : Host.Outcome State Fault Refusal :=
  engRun s e 0x30 anyWord fun w _ =>
    let target := wFn w / 4
    if !noRegs w || decide (3 ≤ target) || target == e.idx then .fault efIllegal
    else .next (s.fireAt (engineOf target) (20 + wFn w % 4))

/-- HSIG (R307). -/
def execHsig (e : Engine) (s : State) : Host.Outcome State Fault Refusal :=
  engRun s e 0x31 anyWord fun w _ =>
    if !noRegs w || decide (16 ≤ wFn w) then .fault efIllegal
    else .next (s.setBits Reg.ENG_HOSTEVT (bit16 (wFn w)))

/-- KICK (R307): without effect while WDT is 0. -/
def execKick (e : Engine) (s : State) : Host.Outcome State Fault Refusal :=
  engRun s e 0x32 anyWord fun w _ =>
    if !noRegs w || wFn w != 0 then .fault efIllegal
    else .next (if s.fld (Fld.ENG_CTL_WDT e.idx) = 0 then s else s.startTimer (.watchdog e))

/-- END (R307): RUN is 0, and the engine stops at the boundary. -/
def execEndE (e : Engine) (s : State) : Host.Outcome State Fault Refusal :=
  engRun s e 0x33 anyWord fun w _ =>
    if !noRegs w || wFn w != 0 then .fault efIllegal else .next (s.setFlag (Fld.ENG_CTL_RUN e.idx) false)

end Sys2Proof.Machine
end

