-- ==== Sys2Proof/WellFormed.lean ====
section
/-!
DEFINITION. Well-formed commands: what a command brings has the shape of what it stands for. The lists of values have
one entry per channel, group or byte the command speaks of; a whole frame of the host port or the DBG pins has as many
data words as its command word says, and a cut one no more (R478 to R483, R488, R284). Operands of other types are well formed as
they stand.
-/
namespace Sys2Proof

/-- What was complete of a frame the host cut: no words and no CRC-16 without a command word or in a read; in a write no
more words than asked for, and a CRC-16 only after all of them (R488). -/
def cutFits (cmd : Option (BitVec 32)) (words : List (BitVec 16)) (crc : Option (BitVec 16)) : Bool :=
  match cmd with
  | none => words.isEmpty && crc.isNone
  | some c =>
    if cmdRead c then words.isEmpty && crc.isNone
    else decide (words.length ≤ cmdCount c) && (crc.isNone || words.length == cmdCount c)

/-- The shape of a command's operands. -/
def Instr.wf : Instr → Bool
  | .instantsWindowClose values => values.length == 26
  | .impSettleEnd v0 => v0.length == 4
  | .impSlot sums outputs unit => sums.length == 4 && decide (0 < outputs * unit)
  | .monitorSampleTick inputs => inputs.length == 41
  | .hsLoadDone raw => raw.length == 4352
  | .hostWriteFrame cmd words _ => !cmdRead cmd && words.length == cmdCount cmd
  | .hostReadFrame cmd => cmdRead cmd
  | .hostFrameCut cmd words sum => cutFits cmd words sum
  | .dbgFrame cmd words _ => words.length == (if cmdRead cmd then 0 else cmdCount cmd)
  | _ => true

end Sys2Proof
end

