-- ==== Sys2Proof/Machine/HostCmds.lean ====
section
/-!
DEFINITION. The host interface (spec/20): frames of the QSPI port and the DBG pins, the engine-memory window, and the
host's remote accesses.
-/
namespace Sys2Proof.Machine

/-- HOST_WRITE_FRAME (R482, R484, R487). -/
def execHostWriteFrame (cmd : BitVec 32) (words : List (BitVec 16)) (crc : BitVec 16) (s : State) :
    Host.Outcome State Fault Refusal :=
  if cmdRead cmd ∨ words.length ≠ cmdCount cmd then .fault .illFormed
  else doneAll (hostFrame s .qspi cmd words crc)

/-- HOST_READ_FRAME (R483, R484, R487). -/
def execHostReadFrame (cmd : BitVec 32) (s : State) : Host.Outcome State Fault Refusal :=
  if !cmdRead cmd then .fault .illFormed else doneAll (hostFrame s .qspi cmd [] 0)

/-- HOST_WAIT_TIMEOUT (R484). -/
def execHostWaitTimeout (s : State) : Host.Outcome State Fault Refusal := doneAll (hostWaitTimeout s)

/-- HOST_FRAME_CUT (R488): an incomplete frame has fewer words than its count, or its CRC-16 is missing. -/
def execHostFrameCut (cmd : Option (BitVec 32)) (words : List (BitVec 16)) (crc : Option (BitVec 16)) (s : State) :
    Host.Outcome State Fault Refusal :=
  if cutFits cmd words crc then doneAll (hostCut s cmd words crc) else .fault .illFormed

/-- DBG_FRAME (R284). -/
def execDbgFrame (cmd : BitVec 32) (words : List (BitVec 16)) (crc : BitVec 16) (s : State) :
    Host.Outcome State Fault Refusal :=
  if words.length ≠ (if cmdRead cmd then 0 else cmdCount cmd) then .fault .illFormed
  else doneAll (hostFrame s .dbg cmd words crc)

/-- WINDOW_ENGINE_WRITE (R496): while a march tests the memories it waits as a frame of its own (R414). -/
def execWindowEngineWrite (k : Fin 512) (hi : BitVec 16) (s : State) : Host.Outcome State Fault Refusal :=
  let a := 0x3001 + 2 * k.val
  let f : HostFrame := { path := .qspi, cmd := BitVec.ofNat 32 (65536 * a), words := [hi] }
  done (if s.frameWaits f then { s with hostWait := s.hostWait ++ [f] } else hostWrite .qspi s a hi)

/-- RMT_READ (R498, R499): READ in RMT_CMD. -/
def execRmtRead (s : State) : Host.Outcome State Fault Refusal := doneAll (hostWrite .qspi s Reg.RMT_CMD 1)

/-- RMT_WRITE (R498 to R500): WRITE in RMT_CMD. -/
def execRmtWrite (s : State) : Host.Outcome State Fault Refusal := doneAll (hostWrite .qspi s Reg.RMT_CMD 2)

/-- REMOTE_TIMEOUT (R235, R499). -/
def execRemoteTimeout (s : State) : Host.Outcome State Fault Refusal := done (remoteTimeout s)

end Sys2Proof.Machine
end

