-- ==== Sys2Proof/Machine/ImpCmds.lean ====
section
/-!
DEFINITION. Impedance spectroscopy (spec/04): IMP_CMD, and the steps of a plan (R95, R99, R101, R103 to R106).
-/
namespace Sys2Proof.Machine

/-- IMP_PREPARE (R103). -/
def execImpPrepare (s : State) : Host.Outcome State Fault Refusal := done (impPrepare s)

/-- IMP_COMMIT (R104). -/
def execImpCommit (s : State) : Host.Outcome State Fault Refusal := done (impCommit s)

/-- IMP_ABORT (R106). -/
def execImpAbort (s : State) : Host.Outcome State Fault Refusal := done (impAbort s)

/-- IMP_ROUND_START (R99): with round 0 the node enters SPECTRUM and any balance plan ends (R104). -/
def execImpRoundStart (s : State) : Host.Outcome State Fault Refusal :=
  match s.imp.plan with
  | some p =>
    if !s.roundDue p then done s
    else
      let s := if s.imp.next = 0 then setMode (balEndPlan s) .spectrum else s
      done (startRound s p)
  | none => done s

/-- IMP_SETTLE_END (R95). -/
def execImpSettleEnd (v0 : List Int) (s : State) : Host.Outcome State Fault Refusal :=
  if v0.length ≠ 4 then .fault .illFormed else done (settleEnd s v0)

/-- IMP_SLOT (R94): the voltage sample is the mean of the modulator outputs over the slot, in µV. -/
def execImpSlot (sums : List Int) (outputs unit : Nat) (s : State) : Host.Outcome State Fault Refusal :=
  if sums.length ≠ 4 ∨ outputs * unit = 0 then .fault .illFormed
  else
    let (volt, s) := s.slotVoltages sums (outputs * unit)
    done (impSlot s volt)

/-- IMP_POINT_END (R95). -/
def execImpPointEnd (s : State) : Host.Outcome State Fault Refusal := done (pointEnd s)

/-- IMP_ROUND_END (R101, R105). -/
def execImpRoundEnd (s : State) : Host.Outcome State Fault Refusal := done (roundEnd s)

end Sys2Proof.Machine
end

