-- ==== Sys2Proof/Machine/KeyCmds.lean ====
section
/-!
DEFINITION. Check values, keys and attestation (spec/17): the host check-value units, the random numbers, statements, and
the frames of the key exchange.
-/
namespace Sys2Proof.Machine

/-- CVU_START (R417): START in CVU*u*_CMD; a write to a unit waits for a feed in progress (R418). -/
def execCvuStart (u : Fin 4) (s : State) : Host.Outcome State Fault Refusal := done (cvuWrite s u 0x13 1)

/-- CVU_CHECK (R420). -/
def execCvuCheck (u : Fin 4) (s : State) : Host.Outcome State Fault Refusal := done (cvuWrite s u 0x13 2)

/-- CVU_FEED_BYTE (R418). -/
def execCvuFeedByte (u : Fin 4) (v : BitVec 16) (s : State) : Host.Outcome State Fault Refusal := done (cvuWrite s u 0x0F v)

/-- CVU_FEED_HALF (R418). -/
def execCvuFeedHalf (u : Fin 4) (v : BitVec 16) (s : State) : Host.Outcome State Fault Refusal := done (cvuWrite s u 0x10 v)

/-- CVU_FEED_WORD (R418). -/
def execCvuFeedWord (u : Fin 4) (hi : BitVec 16) (s : State) : Host.Outcome State Fault Refusal :=
  done (cvuWrite s u 0x12 hi)

/-- CVU_FEED_DONE (R418). -/
def execCvuFeedDone (u : Fin 4) (s : State) : Host.Outcome State Fault Refusal := done (cvuFeedDone s u)

/-- CVU_VAL_LOAD (R419). -/
def execCvuValLoad (u : Fin 4) (hi : BitVec 16) (s : State) : Host.Outcome State Fault Refusal :=
  done (cvuWrite s u 0x0A hi)

/-- TRNG_GEN (R425). -/
def execTrngGen (s : State) : Host.Outcome State Fault Refusal := done (trngGen s)

/-- TRNG_HEALTH_FAIL (R425). -/
def execTrngHealthFail (s : State) : Host.Outcome State Fault Refusal := done (trngFail s)

/-- ATT_GEN_STATEMENT (R427). -/
def execAttGenStatement (s : State) : Host.Outcome State Fault Refusal := done (attStatement s)

/-- ATT_GEN_CERT (R427). -/
def execAttGenCert (s : State) : Host.Outcome State Fault Refusal := done (attCert s)

/-- ATT_SIGN_DONE (R427). -/
def execAttSignDone (s : State) : Host.Outcome State Fault Refusal := done (attSigned s)

/-- KEY_RENEW (R436). -/
def execKeyRenew (s : State) : Host.Outcome State Fault Refusal := done (keyRenew s)

/-- A frame of the exchange is for this node: a COMMAND with the OP of the row. -/
def State.takesKey (s : State) (f : Frame) (op : Nat) : Bool :=
  s.linkOn && !s.isRoot && f.type == tyCommand && leAt f.payload 0 1 == op

/-- ROOT_CERT (R428, R431). -/
def execRootCert (f : Frame) (s : State) : Host.Outcome State Fault Refusal :=
  done (if s.takesKey f opRootCert then rootCertReceive s f else s)

/-- KEY_HELLO (R428). -/
def execKeyHello (f : Frame) (s : State) : Host.Outcome State Fault Refusal :=
  done (if s.takesKey f opHello then keyHello s f else s)

/-- GET_CERT (R428). -/
def execGetCert (f : Frame) (s : State) : Host.Outcome State Fault Refusal :=
  done (if s.takesKey f opCert then getCert s else s)

/-- KEY_AUTH (R428, R429). -/
def execKeyAuth (f : Frame) (s : State) : Host.Outcome State Fault Refusal :=
  done (if s.takesKey f opAuth then keyAuth s f else s)

/-- KEY_CONFIRM (R428, R433). -/
def execKeyConfirm (f : Frame) (s : State) : Host.Outcome State Fault Refusal :=
  done (if s.takesKey f opConfirm then keyConfirm s f else s)

/-- KEY_COMPUTE_DONE (R430). -/
def execKeyComputeDone (s : State) : Host.Outcome State Fault Refusal := done (keyComputeDone s)

/-- ATTEST (R427). -/
def execAttest (f : Frame) (s : State) : Host.Outcome State Fault Refusal :=
  done (if s.takesKey f opAttest then attest s f else s)

/-- TREE_KEY (R436). -/
def execTreeKey (f : Frame) (s : State) : Host.Outcome State Fault Refusal :=
  done (if s.takesKey f opTreeKey then treeKeyReceive s f else s)

/-- MTAG (R437): at the root. -/
def execMtag (ring : RingId) (f : Frame) (s : State) : Host.Outcome State Fault Refusal :=
  let r := ring.idx
  doneTree (if s.linkOn && s.isRoot && s.heads r && leAt f.payload 0 1 == opMtag then mtagReceive s r f else s)

end Sys2Proof.Machine
end

