-- ==== Sys2Proof/Machine/LinkCmds.lean ====
section
/-!
DEFINITION. The Krovdun link (spec/08): frames and signals at the ports, trains as a member and as a head see them.
-/
namespace Sys2Proof.Machine

/-- FRAME_RECEIVE (R207, R213, R214, R221). -/
def execFrameReceive (port : Fin 6) (bytes : List (BitVec 8)) (violations : Nat) (whole : Bool) (s : State) :
    Host.Outcome State Fault Refusal :=
  doneTree (frameReceive s port bytes violations whole)

/-- FRAME_FORWARD (R204, R223). -/
def execFrameForward (port : Fin 6) (frame : PassingFrame) (s : State) : Host.Outcome State Fault Refusal :=
  done (frameForward s port frame)

/-- LINK_LOS (R201, R245). -/
def execLinkLos (port : Fin 6) (s : State) : Host.Outcome State Fault Refusal :=
  if !s.linkOn then done s
  else
    let s := (s.setFlag (Fld.LP_STATUS_LOS port) true).setFlag (Fld.LP_STATUS_LOS_SEEN port) true
    done (signalLost s port)

/-- LINK_LOS_CLEAR (R201): an IDLE character has come in. -/
def execLinkLosClear (port : Fin 6) (s : State) : Host.Outcome State Fault Refusal :=
  if !s.linkOn then done s else done (wakeAnswered (s.setFlag (Fld.LP_STATUS_LOS port) false) port)

/-- LINK_ALIGN_LOSS (R199, R201, R245): the code violations no frame has counted, and step LINK counts the losses. -/
def execLinkAlignLoss (port : Fin 6) (loss : AlignLoss) (s : State) : Host.Outcome State Fault Refusal :=
  if !s.linkOn then done s
  else
    let s := (countViolations s port loss.violations).setFlag (Fld.LP_STATUS_ALIGNED port) false
    let s := linkStepLoss s port
    done (s.when loss.persists fun s => signalLost s port)

/-- LINK_ALIGN_REGAIN (R201). -/
def execLinkAlignRegain (port : Fin 6) (s : State) : Host.Outcome State Fault Refusal :=
  if !s.linkOn then done s else done (wakeAnswered (s.setFlag (Fld.LP_STATUS_ALIGNED port) true) port)

/-- LINK_WAKE (R203): in SHIP and WATCH the node enters BOOT. -/
def execLinkWake (port : Fin 2) (s : State) : Host.Outcome State Fault Refusal :=
  if s.mode = .ship ∨ s.mode = .watch then done { hardReset s causeLink with link := { wakePort := some port.val } }
  else done s

/-- WAKE_RELAY (R242): IDLE characters on the other port of the ring. -/
def execWakeRelay (port : Fin 2) (s : State) : Host.Outcome State Fault Refusal :=
  if s.mode = .boot ∧ s.link.wakePort = some port.val then
    done (wakeSend { s with link := { s.link with wakePort := none } } [1 - port.val])
  else done s

/-- LINK_CLEAR_COUNTERS (R213). -/
def execLinkClearCounters (s : State) : Host.Outcome State Fault Refusal := done (clearCounters s)

/-- RETX_REQ (R218, R219). -/
def execRetxReq (f : Frame) (s : State) : Host.Outcome State Fault Refusal :=
  done (if s.linkOn then retxAnswer s f else s)

/-- TRAIN_OPEN_RECEIVE (R223, R225, R247, R430). -/
def execTrainOpenReceive (f : Frame) (s : State) : Host.Outcome State Fault Refusal :=
  if s.heads 0 || !s.linkOn then done s else done (trainOpen (keyBusyAnswer s) f)

/-- INSERT_BUFFER_DRAIN (R223). -/
def execInsertBufferDrain (s : State) : Host.Outcome State Fault Refusal :=
  if s.heads 0 || !s.linkOn then done s else done (bufferDrain s)

/-- TRAIN_END (R227, R230): of a ring the node heads. -/
def execTrainEnd (ring : RingId) (s : State) : Host.Outcome State Fault Refusal :=
  if s.heads ring.idx then doneAll (trainEnd s ring.idx) else done s

/-- RING_TIMEOUT (R227, R245). -/
def execRingTimeout (ring : RingId) (s : State) : Host.Outcome State Fault Refusal :=
  if s.heads ring.idx then doneTree (ringTimeout s ring.idx) else done s

end Sys2Proof.Machine
end

