-- ==== Sys2Proof/Machine/ModeCmds.lean ====
section
/-!
DEFINITION. Modes, supplies and resets, BOOT, profiles and their update (spec/19).
-/
namespace Sys2Proof.Machine

/-! ### Requests (R454 to R456) -/

/-- A mode code is written to REQ in MODE_CTL. -/
def requestMode (s : State) (m : Mode) : State := modeRequest (s.setFld Fld.MODE_CTL_REQ m.code) m.code

/-- MODE_REQ_OFF (R455, R460). -/
def execModeReqOff (s : State) : Host.Outcome State Fault Refusal := doneAll (requestMode s .off)

/-- MODE_REQ_SHIP (R455, R460). -/
def execModeReqShip (s : State) : Host.Outcome State Fault Refusal := doneAll (requestMode s .ship)

/-- MODE_REQ_WATCH (R455, R460). -/
def execModeReqWatch (s : State) : Host.Outcome State Fault Refusal := doneAll (requestMode s .watch)

/-- MODE_REQ_STANDBY (R455, R459). -/
def execModeReqStandby (s : State) : Host.Outcome State Fault Refusal := doneAll (requestMode s .standby)

/-- MODE_REQ_ACTIVE (R455, R459). -/
def execModeReqActive (s : State) : Host.Outcome State Fault Refusal := doneAll (requestMode s .active)

/-- MODE_REQ_SERVICE (R455). -/
def execModeReqService (s : State) : Host.Outcome State Fault Refusal := doneAll (requestMode s .service)

/-- MODE_REQ_UPDATE (R455). -/
def execModeReqUpdate (s : State) : Host.Outcome State Fault Refusal := doneAll (requestMode s .update)

/-- MODE_REQ_SAFE (R455, R458). -/
def execModeReqSafe (s : State) : Host.Outcome State Fault Refusal := doneAll (requestMode s .safe)

/-- SAFE_CAUSE_CLEAR (R459). -/
def execSafeCauseClear (v : BitVec 16) (s : State) : Host.Outcome State Fault Refusal := done (safeCauseClear s v)

/-- SHUTDOWN_COMPLETE (R460). -/
def execShutdownComplete (s : State) : Host.Outcome State Fault Refusal := doneAll (shutdownEnd s)

/-- SHUTDOWN_WRITE_LIMIT (R460). -/
def execShutdownWriteLimit (s : State) : Host.Outcome State Fault Refusal := done (shutdownAbandon s)

/-! ### Resets and supplies (R339, R457, R461, R462, R464) -/

/-- POWER_ON (R457): VSTK rises above 8 V. -/
def execPowerOn (s : State) : Host.Outcome State Fault Refusal := done (hardReset s causePor)

/-- POWER_LOSS (R339): what SRAM held is lost, and nothing runs until VSTK rises again. -/
def execPowerLoss (s : State) : Host.Outcome State Fault Refusal :=
  done { hardReset s 0 with mode := .off, powered := false }

/-- RESET_PIN (R457). -/
def execResetPin (s : State) : Host.Outcome State Fault Refusal := done (if s.powered then hardReset s causePin else s)

/-- WAKE_PIN (R457, R461): from SHIP and WATCH; the node wakes its rings (R242). -/
def execWakePin (s : State) : Host.Outcome State Fault Refusal :=
  done (if s.mode = .ship ∨ s.mode = .watch then wakeSend (hardReset s causeWake) [0, 1] else s)

/-- SYS_RESET (R464). -/
def execSysReset (s : State) : Host.Outcome State Fault Refusal := done (if modeAsleep s.mode then s else hardReset s causeSys)

/-- The sag flag of a supply. -/
def sagFlag : Supply → BitField
  | .vreg => Fld.MODE_STATUS_VREG_SAG
  | .vddd => Fld.MODE_STATUS_VDDD_SAG
  | .vddio => Fld.MODE_STATUS_VDDIO_SAG

/-- SUPPLY_SAG (R336, R462): writes are refused at once, by the flag's supply. -/
def execSupplySag (which : Supply) (s : State) : Host.Outcome State Fault Refusal :=
  if modeAsleep s.mode then done s
  else
    let s := s.setFlag (sagFlag which) true
    let s := match which with
      | .vddio =>
        let s := { s with fla := { s.fla with supplyNand := false } }
        s.when s.storeOn fun s => s.setFlag Fld.HS_STATUS_REF_SUPPLY true
      | _ => ({ s with fla := { s.fla with supplyIf := false } }).setFlag Fld.IF_STATUS_REF_SUPPLY true
    done (transferPermissions s)

/-- SUPPLY_SAG_RELEASE (R462): writes are permitted again at the next evaluation of R336. -/
def execSupplySagRelease (which : Supply) (s : State) : Host.Outcome State Fault Refusal :=
  done (transferPermissions (s.setFlag (sagFlag which) false))

/-- BROWNOUT_RESET (R462). -/
def execBrownoutReset (s : State) : Host.Outcome State Fault Refusal :=
  done (if modeAsleep s.mode then s else hardReset s causeBor)

/-! ### BOOT and the ledger (R463 to R466) -/

/-- What the probe is said to find can be found: a geometry of R319, a checkpoint only where one was written. -/
def State.probeFits (s : State) (nand : NandProbe) : Bool :=
  let size (log2 : Nat) (marks : List Nat) : Bool :=
    decide (10 ≤ log2) && decide (log2 ≤ 14) && marks.all fun m => decide (m < 2 ^ log2)
  match nand with
  | .blank log2 marks | .foreign log2 marks => size log2 marks
  | .checkpoint => s.hs.ckpt.isSome
  | _ => true

/-- BOOT_STEP_COMPLETE (R463). -/
def execBootStepComplete (keys : Bool) (psel : Fin 8) (lane1 lane2 : Bool) (nand : NandProbe) (s : State) :
    Host.Outcome State Fault Refusal :=
  if s.mode = .boot ∧ s.bt.step = stepNand ∧ s.role ≠ 0 ∧ s.flag Fld.HS_CTL_EN ∧ !s.probeFits nand then .fault .illFormed
  else doneAll (bootStepComplete s keys psel lane1 lane2 nand)

/-- BOOT_STEP_TIMEOUT (R464, R466). -/
def execBootStepTimeout (s : State) : Host.Outcome State Fault Refusal := doneAll (bootTimeout s)

/-- LEDGER_CLR_PATHS (R465). -/
def execLedgerClrPaths (s : State) : Host.Outcome State Fault Refusal := done (clearPaths s)

/-- LEDGER_CLR_FALLBACK (R466). -/
def execLedgerClrFallback (s : State) : Host.Outcome State Fault Refusal := done (clearFallback s)

/-! ### Profiles (R472, R474 to R476) -/

/-- PROFILE_SELECT (R472): SELECT and SEL in PROF_CMD. -/
def execProfileSelect (sel : Fin 16) (s : State) : Host.Outcome State Fault Refusal :=
  done (profSelect (s.setFld Fld.PROF_CMD_SEL sel) sel)

/-- UPD_KEY_UNLOCK (R474). -/
def execUpdKeyUnlock (v : BitVec 16) (s : State) : Host.Outcome State Fault Refusal := done (updKey s v)

/-- UPD_OPEN (R475): OPEN in UPD_CMD, which is RL. -/
def execUpdOpen (target : Fin 8) (s : State) : Host.Outcome State Fault Refusal :=
  done (if s.upd.unlocked then updOpenHost (s.setFld Fld.UPD_CMD_TARGET target) else s)

/-- UPD_CLOSE (R476). -/
def execUpdClose (s : State) : Host.Outcome State Fault Refusal :=
  done (if s.upd.unlocked then updAdvance (updClose s) else s)

/-- UPD_ABORT (R476). -/
def execUpdAbort (s : State) : Host.Outcome State Fault Refusal := done (if s.upd.unlocked then updAbort s else s)

/-- UPD_WORD_SUBMIT (R475). -/
def execUpdWordSubmit (d3 : BitVec 16) (s : State) : Host.Outcome State Fault Refusal := done (updSubmit s d3)

end Sys2Proof.Machine
end

