-- ==== Sys2Proof/Machine/StoreCmds.lean ====
section
/-!
DEFINITION. The history store and the internal flash (spec/12): HS_CMD, the device's operations, reading back, summaries,
write permissions, the flash's operations, and the first-fault log's CLEAR.
-/
namespace Sys2Proof.Machine

/-- HS_KEY_UNLOCK (R321). -/
def execHsKeyUnlock (v : BitVec 16) (s : State) : Host.Outcome State Fault Refusal := done (storeKey s v)

/-- HS_FORMAT (R321). -/
def execHsFormat (s : State) : Host.Outcome State Fault Refusal := done (storeFormatCmd s)

/-- HS_FLUSH (R330). -/
def execHsFlush (s : State) : Host.Outcome State Fault Refusal := done (storeFlush s)

/-- HS_FLUSH_AGE (R330): an AGE of 0 flushes nothing. -/
def execHsFlushAge (t : Fin 3) (s : State) : Host.Outcome State Fault Refusal :=
  if s.regN (Reg.HS_T_FLUSH t) = 0 then done s else done (closeBuffer s t)

/-- HS_CLEAR_COUNTERS (R329): the counters at 0x1740 to 0x1746 that count, and the tiers' REFUSED. -/
def execHsClearCounters (s : State) : Host.Outcome State Fault Refusal := done (storeClear s)

/-- WRITE_PERMISSION_CHECK (R336, R337). -/
def execWritePermissionCheck (vreg vddd vddio pin : Nat) (s : State) : Host.Outcome State Fault Refusal :=
  done (permissionCheck s vreg vddd vddio pin s.storeOn)

/-- NAND_PROGRAM_START (R336). -/
def execNandProgramStart (s : State) : Host.Outcome State Fault Refusal := done (nandProgramStart s)

/-- NAND_PROGRAM_DONE (R328, R330). -/
def execNandProgramDone (good : Bool) (symbols : Nat) (s : State) : Host.Outcome State Fault Refusal :=
  done (nandProgramDone s good symbols)

/-- NAND_ERASE_START (R327, R336). -/
def execNandEraseStart (s : State) : Host.Outcome State Fault Refusal := done (nandEraseStart s)

/-- NAND_ERASE_DONE (R327, R328). -/
def execNandEraseDone (good : Bool) (s : State) : Host.Outcome State Fault Refusal := done (nandEraseDone s good)

/-- HS_LOAD (R334). -/
def execHsLoad (s : State) : Host.Outcome State Fault Refusal := done (loadStart s)

/-- HS_LOAD_DONE (R334, R335): frames that wait for the page buffer window are served. -/
def execHsLoadDone (raw : List (BitVec 8)) (s : State) : Host.Outcome State Fault Refusal :=
  if raw.length ≠ 4352 then .fault .illFormed
  else done (hostResume (loadDone s raw))

/-- SUMMARY_INTERVAL_END (R332). -/
def execSummaryIntervalEnd (hour : Bool) (s : State) : Host.Outcome State Fault Refusal := done (summaryEnd s hour)

/-- FLASH_WORD_PROGRAM_START (R336). -/
def execFlashWordProgramStart (s : State) : Host.Outcome State Fault Refusal := done (flashStart s false)

/-- FLASH_WORD_PROGRAM_DONE (R345): the operation in progress is a word program. -/
def execFlashWordProgramDone (good : Bool) (s : State) : Host.Outcome State Fault Refusal :=
  done (if s.fla.ops.head?.any (!isErase ·) then flashOpDone s good else s)

/-- FLASH_SECTOR_ERASE_START (R336). -/
def execFlashSectorEraseStart (s : State) : Host.Outcome State Fault Refusal := done (flashStart s true)

/-- FLASH_SECTOR_ERASE_DONE (R346): the operation in progress is an erase. -/
def execFlashSectorEraseDone (s : State) : Host.Outcome State Fault Refusal :=
  done (if s.fla.ops.head?.any isErase then flashOpDone s true else s)

/-- FFL_CLEAR (R349). -/
def execFflClear (s : State) : Host.Outcome State Fault Refusal := done (fflClear s)

end Sys2Proof.Machine
end

