-- ==== Sys2Proof/Machine/RailCmds.lean ====
section
/-!
DEFINITION. The rail sequencer (spec/13): requests, timed conditions, sequences and their steps, margining, group
changes and the rail scan (R356 to R372).
-/
namespace Sys2Proof.Machine

/-- RAIL_ON (R360). -/
def execRailOn (n : Fin 16) (s : State) : Host.Outcome State Fault Refusal := doneRails (railRequestOn s n .command).1

/-- RAIL_OFF (R360). -/
def execRailOff (n : Fin 16) (s : State) : Host.Outcome State Fault Refusal := doneRails (railRequestOff s n .command).1

/-- RAIL_CLEAR (R359). -/
def execRailClear (n : Fin 16) (s : State) : Host.Outcome State Fault Refusal := doneRails (railClear s n)

/-- RAIL_GRANT (R361). -/
def execRailGrant (s : State) : Host.Outcome State Fault Refusal := doneRails (railGrant s)

/-- RAIL_ALIGNED_CHANGE (R362): with ALIGN = 0 nothing waits for the phase. -/
def execRailAlignedChange (s : State) : Host.Outcome State Fault Refusal := doneRails (railAligned s)

/-- RAIL_POWER_GOOD (R356). -/
def execRailPowerGood (n : Fin 12) (s : State) : Host.Outcome State Fault Refusal := doneRails (railPowerGood s n)

/-- RAIL_PG_TIMEOUT (R357). -/
def execRailPgTimeout (n : Fin 12) (s : State) : Host.Outcome State Fault Refusal := doneRails (railPgTimeout s n)

/-- RAIL_OFF_TIMEOUT (R357). -/
def execRailOffTimeout (n : Fin 12) (s : State) : Host.Outcome State Fault Refusal := doneRails (railOffTimeout s n)

/-- RAIL_WAIT_TIMEOUT (R357, R363). -/
def execRailWaitTimeout (n : Fin 12) (s : State) : Host.Outcome State Fault Refusal := doneRails (railWaitFault s n)

/-- RAIL_MIN_ON_END (R365). -/
def execRailMinOnEnd (n : Fin 12) (s : State) : Host.Outcome State Fault Refusal := doneRails (railMinOnEnd s n)

/-- RAIL_MAXON_END (R365). -/
def execRailMaxonEnd (n : Fin 12) (s : State) : Host.Outcome State Fault Refusal := doneRails (railMaxOnEnd s n)

/-- RAIL_RESTART (R365). -/
def execRailRestart (n : Fin 12) (s : State) : Host.Outcome State Fault Refusal := doneRails (railRestart s n)

/-- SEQ_UP (R364). -/
def execSeqUp (s : State) : Host.Outcome State Fault Refusal := doneRails (seqUp s)

/-- SEQ_DOWN (R364). -/
def execSeqDown (s : State) : Host.Outcome State Fault Refusal := doneRails (seqDown s)

/-- SEQ_ABORT (R364). -/
def execSeqAbort (s : State) : Host.Outcome State Fault Refusal := doneRails (seqAbortCmd s)

/-- A step of one operation is issued, if it is the one to issue. -/
def stepOfOp (s : State) (op : Nat) : State := if s.stepReady op then stepIssue s else s

/-- SEQ_STEP_ON (R363). -/
def execSeqStepOn (s : State) : Host.Outcome State Fault Refusal := doneRails (stepOfOp s 1)

/-- SEQ_STEP_OFF (R363). -/
def execSeqStepOff (s : State) : Host.Outcome State Fault Refusal := doneRails (stepOfOp s 2)

/-- SEQ_STEP_WAIT_PG (R363). -/
def execSeqStepWaitPg (s : State) : Host.Outcome State Fault Refusal := doneRails (stepOfOp s 3)

/-- SEQ_STEP_DELAY (R363). -/
def execSeqStepDelay (s : State) : Host.Outcome State Fault Refusal := doneRails (stepOfOp s 4)

/-- SEQ_STEP_MARGIN (R363, R367, R368). -/
def execSeqStepMargin (s : State) : Host.Outcome State Fault Refusal := doneRails (stepOfOp s 5)

/-- SEQ_STEP_END (R364). -/
def execSeqStepEnd (s : State) : Host.Outcome State Fault Refusal :=
  doneRails (if s.stepReady 0 then stepEnd s else s)

/-- SEQ_DELAY_END (R363). -/
def execSeqDelayEnd (s : State) : Host.Outcome State Fault Refusal := doneRails (seqDelayEnd s)

/-- SEQ_STEP_TIMEOUT (R363). -/
def execSeqStepTimeout (s : State) : Host.Outcome State Fault Refusal := doneRails (seqStepTimeout s)

/-- MRG_TARGET_WRITE (R368). -/
def execMrgTargetWrite (d : Fin 2) (v : BitVec 16) (s : State) : Host.Outcome State Fault Refusal :=
  doneRails (marginWrite s d v)

/-- MRG_SLEW_STEP (R367): both DACs. -/
def execMrgSlewStep (s : State) : Host.Outcome State Fault Refusal := doneRails (s.forEach [0, 1] slewStep)

/-- RGRP_PREPARE (R369). -/
def execRgrpPrepare (s : State) : Host.Outcome State Fault Refusal := done (rgrpPrepare s)

/-- RGRP_COMMIT (R369). -/
def execRgrpCommit (s : State) : Host.Outcome State Fault Refusal := done (rgrpCommit s)

/-- RGRP_CANCEL (R369). -/
def execRgrpCancel (s : State) : Host.Outcome State Fault Refusal := done (rgrpCancel s)

/-- RAIL_SCAN_CONVERSION (R372): a rail of TYPE NONE is not converted. -/
def execRailScanConversion (n : Fin 12) (mv : Int) (s : State) : Host.Outcome State Fault Refusal :=
  done (if s.railType n = 0 then s else s.setRegN (Reg.RAIL_V n) (clamp 0 4800 mv).toNat)

end Sys2Proof.Machine
end

