-- ==== Sys2Proof/Machine/SelfTestCmds.lean ====
section
/-!
DEFINITION. Self-test (spec/16): the unlock, the sequence and its ends, LOOP's wait, and the background rotation.
-/
namespace Sys2Proof.Machine

/-- ST_KEY_A (R404, R405). -/
def execStKeyA (v : BitVec 16) (s : State) : Host.Outcome State Fault Refusal := done (stKeyA s v)

/-- ST_KEY_B (R404, R405). -/
def execStKeyB (v : BitVec 16) (s : State) : Host.Outcome State Fault Refusal := done (stKeyB s v)

/-- ST_UNLOCK_TIMEOUT (R404). -/
def execStUnlockTimeout (s : State) : Host.Outcome State Fault Refusal :=
  done (if s.running .stUnlock then stLock s else s)

/-- ST_LOCKOUT_END (R405). -/
def execStLockoutEnd (s : State) : Host.Outcome State Fault Refusal :=
  done (if s.running .stLockout then stLockoutEnd s else s)

/-- ST_START (R406). -/
def execStStart (s : State) : Host.Outcome State Fault Refusal := doneAll (stStart s)

/-- ST_ABORT (R410). -/
def execStAbort (s : State) : Host.Outcome State Fault Refusal := doneAll (hostResume (stAbort s))

/-- ST_TEST_END (R409, R411, R412): frames that wait for the blocks under test are served. -/
def execStTestEnd (count : Nat) (sig : BitVec 32) (failing : List Nat) (s : State) :
    Host.Outcome State Fault Refusal :=
  doneAll (hostResume (stTestEnd s count sig failing))

/-- ST_LOOP_WAIT_TIMEOUT (R407). -/
def execStLoopWaitTimeout (s : State) : Host.Outcome State Fault Refusal := doneAll (loopWaitTimeout s)

/-- ST_BACKGROUND_ITEM (R413). -/
def execStBackgroundItem (s : State) : Host.Outcome State Fault Refusal := doneRails (bgStart s)

/-- ST_BACKGROUND_END (R412, R413). -/
def execStBackgroundEnd (pass : Bool) (s : State) : Host.Outcome State Fault Refusal := doneRails (bgEnd s pass)

end Sys2Proof.Machine
end

