-- ==== Sys2Proof/Machine/SweepCmds.lean ====
section
/-!
DEFINITION. Sweeps (spec/01): SWEEP_PERIOD_ELAPSED to SWEEP_START_LAPSE.
-/
namespace Sys2Proof.Machine

/-- SWEEP_PERIOD_ELAPSED (R29). -/
def execSweepPeriodElapsed (s : State) : Host.Outcome State Fault Refusal := done (periodElapsed s)

/-- SWEEP_START_ISSUE (R28). -/
def execSweepStartIssue (s : State) : Host.Outcome State Fault Refusal := doneAll (rootBoundary s)

/-- SWEEP_BOUNDARY (R28). -/
def execSweepBoundary (sweep : BitVec 16) (tree : BitVec 32) (mark : SweepMark) (s : State) : Host.Outcome State Fault Refusal :=
  doneAll (memberBoundary s sweep.toNat tree.toNat mark)

/-- SWEEP_START_LAPSE (R24). -/
def execSweepStartLapse (s : State) : Host.Outcome State Fault Refusal := doneAll (sweepLapse s)

end Sys2Proof.Machine
end

