-- ==== Sys2Proof/Machine/TimeCmds.lean ====
section
/-!
DEFINITION. The phase timebase, its compare units and generators (spec/06), and the window monitors (spec/07).
-/
namespace Sys2Proof.Machine

/-- PHASE_IN_EDGE (R152, R153): an edge the filter or EDGE shuts out is not taken. -/
def execPhaseInEdge (edge : PhaseEdge) (s : State) : Host.Outcome State Fault Refusal :=
  done (if s.edgeTaken edge.falling edge.before edge.after then phaseInEdge s edge.interval else s)

/-- TB_MISS_HOLDOVER (R153). -/
def execTbMissHoldover (s : State) : Host.Outcome State Fault Refusal :=
  done (if tbHoldoverDue s then tbEnterHoldover s else s)

/-- EXPECTED_EDGE_MISSED (R153). -/
def execExpectedEdgeMissed (s : State) : Host.Outcome State Fault Refusal := done (tbMiss s)

/-- MILESTONE_RECEIVE (R162). -/
def execMilestoneReceive (frac : Fin 16) (localFlag : Bool) (carried : BitVec 48) (s : State) :
    Host.Outcome State Fault Refusal :=
  done (if s.linkOn then milestoneReceive s frac localFlag carried.toNat else s)

/-- SYNC_MILESTONE_ISSUE (R161): on a ring the node heads, once for every cycle whose count is a multiple of 2^MSP. -/
def execSyncMilestoneIssue (ring : RingId) (s : State) : Host.Outcome State Fault Refusal :=
  let r := ring.idx
  done (if s.heads r && s.linkOn && s.syncDue r then syncIssue s r else s)

/-- TREE_TIME_SET (R166). -/
def execTreeTimeSet (hi : BitVec 16) (s : State) : Host.Outcome State Fault Refusal := done (writeTreeTime s hi)

/-- TREE_SECOND (R166). -/
def execTreeSecond (s : State) : Host.Outcome State Fault Refusal := done (treeSecond s)

/-- TB_NOM_WRITE (R153). -/
def execTbNomWrite (hi : BitVec 16) (s : State) : Host.Outcome State Fault Refusal := done (writeTbNomHi s hi)

/-- CMP_TARGET_WRITE (R171). -/
def execCmpTargetWrite (u : Fin 8) (v : BitVec 16) (s : State) : Host.Outcome State Fault Refusal :=
  done (writeTimebase .qspi s (Reg.CMP_T0 u) v)

/-- CMP_ABS_ARM (R172). -/
def execCmpAbsArm (u : Fin 8) (v : BitVec 16) (s : State) : Host.Outcome State Fault Refusal :=
  done (writeTimebase .qspi s (Reg.CMP_T2 u) v)

/-- CMP_CTL_WRITE (R171). -/
def execCmpCtlWrite (u : Fin 8) (v : BitVec 16) (s : State) : Host.Outcome State Fault Refusal :=
  done (writeTimebase .qspi s (Reg.CMP_CTL u) v)

/-- COMPARE_FIRE (R170). -/
def execCompareFire (u : Fin 8) (s : State) : Host.Outcome State Fault Refusal :=
  done (if s.cmpFires u then cmpFire s u else s)

/-- PG_CYCLE_START (R180). -/
def execPgCycleStart (n : Fin 4) (s : State) : Host.Outcome State Fault Refusal := done (genCycleStart s n)

/-! ### Window monitors -/

/-- In WATCH a monitor with IRQ = 1 that has gone ABOVE or BELOW wakes the node, which sends IDLE characters on A0 and A1
(R191, R242). The wake runs BOOT after a reset, as every exit from WATCH does (R457, R461): it clears the monitors' registers
and CMP_FLAG too, though in the worked example of spec/07 the monitor stays BELOW (DESIGN CHOICE, log entry 173). -/
def monWake (before s : State) : State :=
  let woke := (List.range 41).any fun m =>
    s.flag (Fld.MON_CTL_IRQ m) && s.monReported m != .inside && s.monReported m != before.monReported m
  if before.mode == .watch && woke then wakeSend (hardReset s causeMonitor) [0, 1] else s

/-- MONITOR_STATE_CHANGE (R187): the report follows the comparator once FILT + 1 ticks agree. -/
def execMonitorStateChange (m : Fin 41) (s : State) : Host.Outcome State Fault Refusal :=
  if s.monActive m && s.monSettled m && !s.monSampled m && s.monFiltered m then doneRails (monReport s m (s.monComp m)) else done s

/-- COMPARATOR_STATE_CHANGE (R184, R185). -/
def execComparatorStateChange (m : Fin 41) (input : Int) (s : State) : Host.Outcome State Fault Refusal :=
  if s.monActive m && !s.monSampled m then
    let r := s.monDecide m input
    if s.monSettled m then done (s.setMonComp m r) else doneRails (monPowerUp s m r)
  else done s

/-- MONITOR_SAMPLE_TICK (R190, R191). -/
def execMonitorSampleTick (inputs : List Int) (s : State) : Host.Outcome State Fault Refusal :=
  if inputs.length ≠ 41 then .fault .illFormed
  else
    let s := { s with mon := { s.mon with tick := s.fld Fld.CMP_SAMPLE_TICK } }
    let t := s.forEach ((List.range 41).filter fun m => s.monActive m && s.monSampled m) fun t m =>
      monSample t m (inputs.getD m 0)
    doneRails (monWake s t)

/-- MONITOR_THRESHOLD_WRITE (R183, R186). -/
def execMonitorThresholdWrite (m : Fin 41) (which : Fin 3) (v : BitVec 16) (s : State) :
    Host.Outcome State Fault Refusal :=
  doneRails (writeMonitor s (0x0C10 + 4 * m + which) v)

end Sys2Proof.Machine
end

