-- ==== Sys2Proof/Machine/TreeCmds.lean ====
section
/-!
DEFINITION. Rings and the tree (spec/09): REMOTE access at a node, ring management frames at members and heads, the
Roundabout, heartbeats, hub roles, the binding table, and BULK frames.
-/
namespace Sys2Proof.Machine

/-- REMOTE_READ (R234, R235). -/
def execRemoteRead (f : Frame) (s : State) : Host.Outcome State Fault Refusal :=
  if remoteShape f && leAt f.payload 0 1 == 0x10 && !s.isRoot && s.linkOn then done (serveRead s f) else done s

/-- REMOTE_WRITE (R234, R235). -/
def execRemoteWrite (f : Frame) (s : State) : Host.Outcome State Fault Refusal :=
  if remoteShape f && leAt f.payload 0 1 == 0x11 && !s.isRoot && s.linkOn then doneAll (serveWrite s f) else done s

/-- The RING_CTL frame is for a member, from the head of its ring, with the OP of the row (R236). -/
def State.takesControl (s : State) (f : Frame) (op : Nat) : Bool :=
  s.linkOn && !s.heads 0 && s.fromHead f && leAt f.payload 0 1 == op

/-- The RING_CTL or ECHO frame reaches the head of its ring, with the OP of the row. -/
def State.headTakes (s : State) (r : Nat) (f : Frame) (op : Nat) : Bool :=
  s.linkOn && s.heads r && leAt f.payload 0 1 == op

/-- ENUM (R239): an ENUM_REPLY goes in with the next train. -/
def execEnum (f : Frame) (s : State) : Host.Outcome State Fault Refusal :=
  done (if s.takesControl f 0x01 then queueControl s s.enumReply else s)

/-- An accepted RING_CTL frame of a node brings its presence back at the root (R243). -/
def controlHeard (s : State) (f : Frame) : State := if s.isRoot then nodeBack s f.src.toNat else s

/-- ENUM_REPLY (R239). -/
def execEnumReply (ring : RingId) (f : Frame) (s : State) : Host.Outcome State Fault Refusal :=
  done (if s.headTakes ring.idx f 0x02 then takeReply (controlHeard s f) ring.idx f.payload else s)

/-- ECHO_RUN (R237): an ECHO request upstream on the receive port, 10 µs after the frame's EOF; the other port listens for
one. -/
def execEchoRun (f : Frame) (s : State) : Host.Outcome State Fault Refusal :=
  done (if s.takesControl f 0x03 then echoRun s 0 else s)

/-- ECHO_REQUEST (R195, R237): the answer, with this node's factory number, on the port it came in on, which then transmits
again. -/
def execEchoRequest (port : Fin 6) (f : Frame) (s : State) : Host.Outcome State Fault Refusal :=
  done (if s.linkOn && f.type == tyEcho then echoOver (sendEcho s port) (·.1 == port.val) else s)

/-- ECHO_ANSWER (R163, R237): a head learns its last member, a member forms MS_HOP, each the hop to the node upstream; the
upstream node's cut-through delay is a value of that node (log entry 40). -/
def execEchoAnswer (port : Fin 6) (rtt : BitVec 16) (f : Frame) (s : State) : Host.Outcome State Fault Refusal :=
  let r := portRing port
  let up := leAt f.payload 0 8
  if !s.linkOn || f.type != tyEcho then done s
  else if r ≠ 0 && !s.heads r then done s
  else
    let (cut, s) := s.drawBelow 65536
    let hop := ((rtt.toNat - 1024) / 2 + cut) % 65536
    if s.heads r then done (setRing s r { s.ring r with upFactory := some up, headHop := hop })
    else done ({ s with ms := { s.ms with upFactory := up } }.setRegN Reg.MS_HOP hop)

/-- ASSIGN (R239). -/
def execAssign (f : Frame) (s : State) : Host.Outcome State Fault Refusal :=
  done (if s.takesControl f 0x04 then loopCheck (takeAssign s f) else s)

/-- BREAK (R245, R246, R249): the sender's position locates it. -/
def execBreakFrame (ring : RingId) (f : Frame) (s : State) : Host.Outcome State Fault Refusal :=
  let r := ring.idx
  if !s.headTakes r f 0x05 then done s
  else match s.memberOf r f.src.toNat with
    | some m => doneTree (breakFrom (controlHeard s f) r m.pos)
    | none => done (controlHeard s f)

/-- ROUNDABOUT (R246, R247, R249, R251, R255). -/
def execRoundabout (f : Frame) (s : State) : Host.Outcome State Fault Refusal :=
  done (if s.takesControl f 0x06 then loopCheck (takeRoundabout s f) else s)

/-- HALF_INBOUND_END (R247). -/
def execHalfInboundEnd (s : State) : Host.Outcome State Fault Refusal := done (inboundEnd s)

/-- ROUNDABOUT_TURN_TIMEOUT (R249). -/
def execRoundaboutTurnTimeout (ring : RingId) (halfB : Bool) (s : State) : Host.Outcome State Fault Refusal :=
  doneTree (if s.linkOn && s.heads ring.idx then turnTimeout s ring.idx halfB else s)

/-- MEND_INSERT (R252): the end of half B, its A1 aligned for 100 ms. -/
def execMendInsert (s : State) : Host.Outcome State Fault Refusal :=
  let due := s.linkOn && !s.heads 0 && s.half == 2 && s.flag Fld.MEMB_END && s.flag (Fld.LP_STATUS_ALIGNED 1)
  done (if due then queueControl s [0x07, 0, 0, 0] else s)

/-- MEND (R252, R253). -/
def execMend (ring : RingId) (f : Frame) (s : State) : Host.Outcome State Fault Refusal :=
  let r := ring.idx
  if !s.headTakes r f 0x07 then done s
  else
    let s := (controlHeard s f).setFlag (Fld.RNG_STATUS_MEND_SEEN r) true
    doneTree (s.when (s.flag (Fld.RNG_CTL_MEND_AUTO r)) fun s => ringReform s r)

/-- REFORM (R253): the normal direction returns at the boundary of sweep ACT. -/
def execReform (f : Frame) (s : State) : Host.Outcome State Fault Refusal :=
  if s.takesControl f 0x08 then
    done { s with ms := { s.ms with restoreAt := some (leAt f.payload 2 2), restoreEpoch := leAt f.payload 1 1 } }
  else done s

/-- HEARTBEAT (R244): the count of seconds starts again. -/
def execHeartbeat (f : Frame) (s : State) : Host.Outcome State Fault Refusal :=
  done (if s.takesControl f 0x09 then s.startTimer .orphan else s)

/-- HEARTBEAT_PERIOD (R243). -/
def execHeartbeatPeriod (s : State) : Host.Outcome State Fault Refusal := done (heartbeatIssue s)

/-- ORPHAN_TIMEOUT (R244). -/
def execOrphanTimeout (s : State) : Host.Outcome State Fault Refusal := doneRails (orphaned s)

/-- RING_ENUM_CMD (R239): ENUM of RNG*r*_CMD. -/
def execRingEnumCmd (ring : RingId) (s : State) : Host.Outcome State Fault Refusal :=
  doneTree (if s.mayHead ring.idx then ringCmd s ring.idx 0x0001 else s)

/-- RING_REFORM_CMD (R253): REFORM of RNG*r*_CMD. -/
def execRingReformCmd (ring : RingId) (s : State) : Host.Outcome State Fault Refusal :=
  doneTree (if s.mayHead ring.idx then ringCmd s ring.idx 0x0002 else s)

/-- RING_HALVE_CMD (R255): HALVE of RNG*r*_CMD at POS. -/
def execRingHalveCmd (ring : RingId) (pos : BitVec 6) (s : State) : Host.Outcome State Fault Refusal :=
  doneTree (if s.mayHead ring.idx then ringCmd s ring.idx (BitVec.ofNat 16 (256 * pos.toNat + 4)) else s)

/-- HUB_TAKEOVER (R257). -/
def execHubTakeover (f : Frame) (s : State) : Host.Outcome State Fault Refusal :=
  done (if s.linkOn then roleCommand s f (s.mayTake (leAt f.payload 1 2 % 8192)) true else s)

/-- HUB_HAND_BACK (R258). -/
def execHubHandBack (f : Frame) (hubReady : Bool) (s : State) : Host.Outcome State Fault Refusal :=
  done (if s.linkOn then roleCommand s f (hubReady && s.ms.holds == some (leAt f.payload 1 2 % 8192)) false else s)

/-- BIND_STORE (R241): STORE of BIND_CMD. -/
def execBindStore (s : State) : Host.Outcome State Fault Refusal := done (if s.isRoot then bindCommand s 0x0002 else s)

/-- BIND_FORGET (R241): FORGET of BIND_CMD. -/
def execBindForget (s : State) : Host.Outcome State Fault Refusal := doneTree (if s.isRoot then bindCommand s 0x0001 else s)

/-- BULK (R238, R474 to R476). -/
def execBulk (f : Frame) (s : State) : Host.Outcome State Fault Refusal :=
  done (if s.linkOn && f.type == tyBulk then bulkReceive s f else s)

end Sys2Proof.Machine
end

