-- ==== Sys2Proof/Machine/TxnCmds.lean ====
section
/-!
DEFINITION. Transactions over the chain (R140 to R150): the root's commands, and the frames a node receives.
-/
namespace Sys2Proof.Machine

/-- TXN_START (R140). -/
def execTxnStart (s : State) : Host.Outcome State Fault Refusal := done (txnStart s)

/-- TXN_ABANDON (R140). -/
def execTxnAbandon (s : State) : Host.Outcome State Fault Refusal := done (txnAbandon s)

/-- TXN_PREPARE (R141, R150). -/
def execTxnPrepare (f : Frame) (s : State) : Host.Outcome State Fault Refusal := done (txnReceive s f 1)

/-- TXN_COMMIT (R143). -/
def execTxnCommit (f : Frame) (s : State) : Host.Outcome State Fault Refusal := done (txnReceive s f 2)

/-- TXN_CANCEL (R143). -/
def execTxnCancel (f : Frame) (s : State) : Host.Outcome State Fault Refusal := done (txnReceive s f 3)

/-- TXN_ROLLBACK (R144). -/
def execTxnRollback (f : Frame) (s : State) : Host.Outcome State Fault Refusal := done (txnReceive s f 4)

/-- TXN_CLOSE (R145). -/
def execTxnClose (f : Frame) (s : State) : Host.Outcome State Fault Refusal := done (txnReceive s f 5)

/-- TXN_STATUS (R144). -/
def execTxnStatus (f : Frame) (s : State) : Host.Outcome State Fault Refusal := done (txnReceive s f 6)

/-- TXN_STAGE_EXPIRE (R146). -/
def execTxnStageExpire (s : State) : Host.Outcome State Fault Refusal := done (txnExpireAll s)

end Sys2Proof.Machine
end

