-- ==== Sys2Proof/Machine/WireCmds.lean ====
section
/-!
DEFINITION. Sense-wire diagnostics (spec/03): WD_CMD, the periodic scan, and the steps of a pin test (R74, R75, R78).
-/
namespace Sys2Proof.Machine

/-- WD_SCAN (R78): SCAN in WD_CMD. -/
def execWdScan (s : State) : Host.Outcome State Fault Refusal := done (requestScan s)

/-- WD_PIN_TEST (R78): PIN_TEST in WD_CMD. -/
def execWdPinTest (pin : BitVec 5) (s : State) : Host.Outcome State Fault Refusal := done (requestPin s pin.toNat)

/-- WD_CLEAR (R78): CLEAR in WD_CMD. -/
def execWdClear (s : State) : Host.Outcome State Fault Refusal := done (wdClear s)

/-- WD_PERIOD_WRITE (R78). -/
def execWdPeriodWrite (v : BitVec 16) (s : State) : Host.Outcome State Fault Refusal :=
  done (restartPeriod (plainWrite s false Reg.WD_PERIOD v))

/-- WD_PERIOD_ELAPSED (R78): a PERIOD of 0 counts nothing. -/
def execWdPeriodElapsed (s : State) : Host.Outcome State Fault Refusal :=
  if s.regN Reg.WD_PERIOD = 0 ∨ !s.running .wdPeriod then done s
  else done (requestScan (s.stopTimer .wdPeriod))

/-- PIN_TEST_START (R74). -/
def execPinTestStart (s : State) : Host.Outcome State Fault Refusal := done (pinStart s)

/-- PIN_TEST_BASELINE_DONE (R74): the affected cells lose their transfer permission (R76, R135). -/
def execPinTestBaselineDone (v1 : Int) (v2 : Int) (s : State) : Host.Outcome State Fault Refusal :=
  if s.wd.phase ≠ .baseline then done s
  else done (transferPermissions (pinBaselines s v1 v2))

/-- PULL_TIME_ELAPSED (R74). -/
def execPullTimeElapsed (s : State) : Host.Outcome State Fault Refusal := done (pullElapsed s)

/-- PIN_TEST_READINGS_DONE (R75). -/
def execPinTestReadingsDone (v1 : Int) (v2 : Int) (s : State) : Host.Outcome State Fault Refusal :=
  done (pinReadings s v1 v2)

/-- PIN_TEST_RECOVERY_END (R74, R76): the affected cells return to service. -/
def execPinTestRecoveryEnd (s : State) : Host.Outcome State Fault Refusal :=
  if s.wd.phase ≠ .recovery then done s else doneAll (stResume (transferPermissions (pinRecovered s)))

end Sys2Proof.Machine
end

