-- ==== Sys2Proof/Machine/Dispatch.lean ====
section
/-!
DEFINITION. One arm per command: each calls its meaning.
-/
namespace Sys2Proof.Machine

def exec (i : Instr) (s : State) : Host.Outcome State Fault Refusal :=
  match i with
  | .sweepPeriodElapsed => Sys2Proof.Machine.execSweepPeriodElapsed s
  | .sweepStartIssue => Sys2Proof.Machine.execSweepStartIssue s
  | .sweepBoundary sweep tree mark => Sys2Proof.Machine.execSweepBoundary sweep tree mark s
  | .sweepStartLapse => Sys2Proof.Machine.execSweepStartLapse s
  | .instantsWindowClose values => Sys2Proof.Machine.execInstantsWindowClose values s
  | .filterOutput ep value => Sys2Proof.Machine.execFilterOutput ep value s
  | .auxScanValue value => Sys2Proof.Machine.execAuxScanValue value s
  | .secSlotComplete sarB inserted value => Sys2Proof.Machine.execSecSlotComplete sarB inserted value s
  | .acqReqMain => Sys2Proof.Machine.execAcqReqMain s
  | .acqReqSecondary => Sys2Proof.Machine.execAcqReqSecondary s
  | .modulatorPowerupDone => Sys2Proof.Machine.execModulatorPowerupDone s
  | .onRequestComplete => Sys2Proof.Machine.execOnRequestComplete s
  | .resultCapture path sec => Sys2Proof.Machine.execResultCapture path sec s
  | .snapCapture path addr => Sys2Proof.Machine.execSnapCapture path addr s
  | .registerWrite addr v => Sys2Proof.Machine.execRegisterWrite addr v s
  | .registerBusApply => Sys2Proof.Machine.execRegisterBusApply s
  | .wdScan => Sys2Proof.Machine.execWdScan s
  | .wdPinTest pin => Sys2Proof.Machine.execWdPinTest pin s
  | .wdClear => Sys2Proof.Machine.execWdClear s
  | .wdPeriodWrite v => Sys2Proof.Machine.execWdPeriodWrite v s
  | .wdPeriodElapsed => Sys2Proof.Machine.execWdPeriodElapsed s
  | .pinTestStart => Sys2Proof.Machine.execPinTestStart s
  | .pinTestBaselineDone v1 v2 => Sys2Proof.Machine.execPinTestBaselineDone v1 v2 s
  | .pullTimeElapsed => Sys2Proof.Machine.execPullTimeElapsed s
  | .pinTestReadingsDone v1 v2 => Sys2Proof.Machine.execPinTestReadingsDone v1 v2 s
  | .pinTestRecoveryEnd => Sys2Proof.Machine.execPinTestRecoveryEnd s
  | .impPrepare => Sys2Proof.Machine.execImpPrepare s
  | .impCommit => Sys2Proof.Machine.execImpCommit s
  | .impAbort => Sys2Proof.Machine.execImpAbort s
  | .impRoundStart => Sys2Proof.Machine.execImpRoundStart s
  | .impSettleEnd v0 => Sys2Proof.Machine.execImpSettleEnd v0 s
  | .impSlot sums outputs unit => Sys2Proof.Machine.execImpSlot sums outputs unit s
  | .impPointEnd => Sys2Proof.Machine.execImpPointEnd s
  | .impRoundEnd => Sys2Proof.Machine.execImpRoundEnd s
  | .pwmPeriodStart steps => Sys2Proof.Machine.execPwmPeriodStart steps s
  | .isTrip n above => Sys2Proof.Machine.execIsTrip n above s
  | .isBlankEnd n persists => Sys2Proof.Machine.execIsBlankEnd n persists s
  | .tripHoldEnd n => Sys2Proof.Machine.execTripHoldEnd n s
  | .balPrepare => Sys2Proof.Machine.execBalPrepare s
  | .balCommit => Sys2Proof.Machine.execBalCommit s
  | .balCancel => Sys2Proof.Machine.execBalCancel s
  | .balStop => Sys2Proof.Machine.execBalStop s
  | .balEnClear => Sys2Proof.Machine.execBalEnClear s
  | .balPlanTimeout => Sys2Proof.Machine.execBalPlanTimeout s
  | .groupClear n => Sys2Proof.Machine.execGroupClear n s
  | .txnStart => Sys2Proof.Machine.execTxnStart s
  | .txnAbandon => Sys2Proof.Machine.execTxnAbandon s
  | .txnPrepare f => Sys2Proof.Machine.execTxnPrepare f s
  | .txnCommit f => Sys2Proof.Machine.execTxnCommit f s
  | .txnCancel f => Sys2Proof.Machine.execTxnCancel f s
  | .txnRollback f => Sys2Proof.Machine.execTxnRollback f s
  | .txnClose f => Sys2Proof.Machine.execTxnClose f s
  | .txnStatus f => Sys2Proof.Machine.execTxnStatus f s
  | .txnStageExpire => Sys2Proof.Machine.execTxnStageExpire s
  | .phaseInEdge edge => Sys2Proof.Machine.execPhaseInEdge edge s
  | .tbMissHoldover => Sys2Proof.Machine.execTbMissHoldover s
  | .milestoneReceive frac localFlag carried => Sys2Proof.Machine.execMilestoneReceive frac localFlag carried s
  | .syncMilestoneIssue ring => Sys2Proof.Machine.execSyncMilestoneIssue ring s
  | .treeTimeSet hi => Sys2Proof.Machine.execTreeTimeSet hi s
  | .treeSecond => Sys2Proof.Machine.execTreeSecond s
  | .tbNomWrite hi => Sys2Proof.Machine.execTbNomWrite hi s
  | .cmpTargetWrite u v => Sys2Proof.Machine.execCmpTargetWrite u v s
  | .cmpAbsArm u v => Sys2Proof.Machine.execCmpAbsArm u v s
  | .cmpCtlWrite u v => Sys2Proof.Machine.execCmpCtlWrite u v s
  | .compareFire u => Sys2Proof.Machine.execCompareFire u s
  | .pgCycleStart n => Sys2Proof.Machine.execPgCycleStart n s
  | .monitorStateChange m => Sys2Proof.Machine.execMonitorStateChange m s
  | .monitorSampleTick inputs => Sys2Proof.Machine.execMonitorSampleTick inputs s
  | .monitorThresholdWrite m which v => Sys2Proof.Machine.execMonitorThresholdWrite m which v s
  | .frameReceive port bytes violations whole => Sys2Proof.Machine.execFrameReceive port bytes violations whole s
  | .frameForward port frame => Sys2Proof.Machine.execFrameForward port frame s
  | .linkLos port => Sys2Proof.Machine.execLinkLos port s
  | .linkLosClear port => Sys2Proof.Machine.execLinkLosClear port s
  | .linkAlignLoss port loss => Sys2Proof.Machine.execLinkAlignLoss port loss s
  | .linkAlignRegain port => Sys2Proof.Machine.execLinkAlignRegain port s
  | .linkWake port => Sys2Proof.Machine.execLinkWake port s
  | .wakeRelay port => Sys2Proof.Machine.execWakeRelay port s
  | .linkClearCounters => Sys2Proof.Machine.execLinkClearCounters s
  | .retxReq f => Sys2Proof.Machine.execRetxReq f s
  | .trainOpenReceive f => Sys2Proof.Machine.execTrainOpenReceive f s
  | .insertBufferDrain => Sys2Proof.Machine.execInsertBufferDrain s
  | .trainEnd ring => Sys2Proof.Machine.execTrainEnd ring s
  | .ringTimeout ring => Sys2Proof.Machine.execRingTimeout ring s
  | .remoteRead f => Sys2Proof.Machine.execRemoteRead f s
  | .remoteWrite f => Sys2Proof.Machine.execRemoteWrite f s
  | .enum f => Sys2Proof.Machine.execEnum f s
  | .enumReply ring f => Sys2Proof.Machine.execEnumReply ring f s
  | .echoRun f => Sys2Proof.Machine.execEchoRun f s
  | .echoRequest port f => Sys2Proof.Machine.execEchoRequest port f s
  | .echoAnswer port rtt f => Sys2Proof.Machine.execEchoAnswer port rtt f s
  | .assign f => Sys2Proof.Machine.execAssign f s
  | .breakFrame ring f => Sys2Proof.Machine.execBreakFrame ring f s
  | .roundabout f => Sys2Proof.Machine.execRoundabout f s
  | .halfInboundEnd => Sys2Proof.Machine.execHalfInboundEnd s
  | .roundaboutTurnTimeout ring halfB => Sys2Proof.Machine.execRoundaboutTurnTimeout ring halfB s
  | .mendInsert => Sys2Proof.Machine.execMendInsert s
  | .mend ring f => Sys2Proof.Machine.execMend ring f s
  | .reform f => Sys2Proof.Machine.execReform f s
  | .heartbeat f => Sys2Proof.Machine.execHeartbeat f s
  | .heartbeatPeriod => Sys2Proof.Machine.execHeartbeatPeriod s
  | .orphanTimeout => Sys2Proof.Machine.execOrphanTimeout s
  | .ringEnumCmd ring => Sys2Proof.Machine.execRingEnumCmd ring s
  | .ringReformCmd ring => Sys2Proof.Machine.execRingReformCmd ring s
  | .ringHalveCmd ring pos => Sys2Proof.Machine.execRingHalveCmd ring pos s
  | .hubTakeover f => Sys2Proof.Machine.execHubTakeover f s
  | .hubHandBack f hubReady => Sys2Proof.Machine.execHubHandBack f hubReady s
  | .bindStore => Sys2Proof.Machine.execBindStore s
  | .bindForget => Sys2Proof.Machine.execBindForget s
  | .bulk f => Sys2Proof.Machine.execBulk f s
  | .add e => Sys2Proof.Machine.execAdd e s
  | .addi e => Sys2Proof.Machine.execAddi e s
  | .sub e => Sys2Proof.Machine.execSub e s
  | .cmp e => Sys2Proof.Machine.execCmp e s
  | .cmpi e => Sys2Proof.Machine.execCmpi e s
  | .mul e => Sys2Proof.Machine.execMul e s
  | .mulh e => Sys2Proof.Machine.execMulh e s
  | .div e => Sys2Proof.Machine.execDiv e s
  | .divu e => Sys2Proof.Machine.execDivu e s
  | .andE e => Sys2Proof.Machine.execAndE e s
  | .orE e => Sys2Proof.Machine.execOrE e s
  | .xor e => Sys2Proof.Machine.execXor e s
  | .andi e => Sys2Proof.Machine.execAndi e s
  | .ori e => Sys2Proof.Machine.execOri e s
  | .xori e => Sys2Proof.Machine.execXori e s
  | .shl e => Sys2Proof.Machine.execShl e s
  | .shr e => Sys2Proof.Machine.execShr e s
  | .sar e => Sys2Proof.Machine.execSar e s
  | .sext e => Sys2Proof.Machine.execSext e s
  | .movi e => Sys2Proof.Machine.execMovi e s
  | .movt e => Sys2Proof.Machine.execMovt e s
  | .ldw e => Sys2Proof.Machine.execLdw e s
  | .ldh e => Sys2Proof.Machine.execLdh e s
  | .ldb e => Sys2Proof.Machine.execLdb e s
  | .stw e => Sys2Proof.Machine.execStw e s
  | .sth e => Sys2Proof.Machine.execSth e s
  | .stb e => Sys2Proof.Machine.execStb e s
  | .swap e => Sys2Proof.Machine.execSwap e s
  | .ldp e => Sys2Proof.Machine.execLdp e s
  | .branch e => Sys2Proof.Machine.execBranch e s
  | .br e => Sys2Proof.Machine.execBr e s
  | .call e => Sys2Proof.Machine.execCall e s
  | .callr e => Sys2Proof.Machine.execCallr e s
  | .dbnz e => Sys2Proof.Machine.execDbnz e s
  | .tbr e => Sys2Proof.Machine.execTbr e s
  | .wph e => Sys2Proof.Machine.execWph e s
  | .wtb e => Sys2Proof.Machine.execWtb e s
  | .wev e => Sys2Proof.Machine.execWev e s
  | .waitComplete e => Sys2Proof.Machine.execWaitComplete e s
  | .waitTimeout e => Sys2Proof.Machine.execWaitTimeout e s
  | .poll e => Sys2Proof.Machine.execPoll e s
  | .sig e => Sys2Proof.Machine.execSig e s
  | .hsig e => Sys2Proof.Machine.execHsig e s
  | .kick e => Sys2Proof.Machine.execKick e s
  | .endE e => Sys2Proof.Machine.execEndE e s
  | .regr e => Sys2Proof.Machine.execRegr e s
  | .regw e => Sys2Proof.Machine.execRegw e s
  | .mrd e => Sys2Proof.Machine.execMrd e s
  | .mreq e => Sys2Proof.Machine.execMreq e s
  | .xfrBalPrepare e => Sys2Proof.Machine.execXfrBalPrepare e s
  | .xfrBalCommit e => Sys2Proof.Machine.execXfrBalCommit e s
  | .xfrBalCancel e => Sys2Proof.Machine.execXfrBalCancel e s
  | .xfrBalStop e => Sys2Proof.Machine.execXfrBalStop e s
  | .xfrImpPrepare e => Sys2Proof.Machine.execXfrImpPrepare e s
  | .xfrImpCommit e => Sys2Proof.Machine.execXfrImpCommit e s
  | .xfrImpAbort e => Sys2Proof.Machine.execXfrImpAbort e s
  | .fsnd e => Sys2Proof.Machine.execFsnd e s
  | .frameSent e => Sys2Proof.Machine.execFrameSent e s
  | .frcv e => Sys2Proof.Machine.execFrcv e s
  | .log e => Sys2Proof.Machine.execLog e s
  | .crc e => Sys2Proof.Machine.execCrc e s
  | .engineWatchdogHalf e => Sys2Proof.Machine.execEngineWatchdogHalf e s
  | .engineWatchdog e => Sys2Proof.Machine.execEngineWatchdog e s
  | .engineStop e => Sys2Proof.Machine.execEngineStop e s
  | .engineStart e => Sys2Proof.Machine.execEngineStart e s
  | .engineRestart e => Sys2Proof.Machine.execEngineRestart e s
  | .engineWdtWrite e wdt => Sys2Proof.Machine.execEngineWdtWrite e wdt s
  | .stagingLoadDone e => Sys2Proof.Machine.execStagingLoadDone e s
  | .hostEventRaise v => Sys2Proof.Machine.execHostEventRaise v s
  | .debugKey v pin => Sys2Proof.Machine.execDebugKey v pin s
  | .debugHalt e => Sys2Proof.Machine.execDebugHalt e s
  | .debugStep e => Sys2Proof.Machine.execDebugStep e s
  | .debugResume e => Sys2Proof.Machine.execDebugResume e s
  | .engGWrite e hi => Sys2Proof.Machine.execEngGWrite e hi s
  | .hsKeyUnlock v => Sys2Proof.Machine.execHsKeyUnlock v s
  | .hsFormat => Sys2Proof.Machine.execHsFormat s
  | .hsFlush => Sys2Proof.Machine.execHsFlush s
  | .hsFlushAge t => Sys2Proof.Machine.execHsFlushAge t s
  | .hsClearCounters => Sys2Proof.Machine.execHsClearCounters s
  | .writePermissionCheck vreg vddd vddio pin => Sys2Proof.Machine.execWritePermissionCheck vreg vddd vddio pin s
  | .nandProgramStart => Sys2Proof.Machine.execNandProgramStart s
  | .nandProgramDone good symbols => Sys2Proof.Machine.execNandProgramDone good symbols s
  | .nandEraseStart => Sys2Proof.Machine.execNandEraseStart s
  | .nandEraseDone good => Sys2Proof.Machine.execNandEraseDone good s
  | .hsLoad => Sys2Proof.Machine.execHsLoad s
  | .hsLoadDone raw => Sys2Proof.Machine.execHsLoadDone raw s
  | .summaryIntervalEnd hour => Sys2Proof.Machine.execSummaryIntervalEnd hour s
  | .flashWordProgramStart => Sys2Proof.Machine.execFlashWordProgramStart s
  | .flashWordProgramDone good => Sys2Proof.Machine.execFlashWordProgramDone good s
  | .flashSectorEraseStart => Sys2Proof.Machine.execFlashSectorEraseStart s
  | .flashSectorEraseDone => Sys2Proof.Machine.execFlashSectorEraseDone s
  | .fflClear => Sys2Proof.Machine.execFflClear s
  | .railOn n => Sys2Proof.Machine.execRailOn n s
  | .railOff n => Sys2Proof.Machine.execRailOff n s
  | .railClear n => Sys2Proof.Machine.execRailClear n s
  | .railGrant => Sys2Proof.Machine.execRailGrant s
  | .railAlignedChange => Sys2Proof.Machine.execRailAlignedChange s
  | .railPowerGood n => Sys2Proof.Machine.execRailPowerGood n s
  | .railPgTimeout n => Sys2Proof.Machine.execRailPgTimeout n s
  | .railOffTimeout n => Sys2Proof.Machine.execRailOffTimeout n s
  | .railWaitTimeout n => Sys2Proof.Machine.execRailWaitTimeout n s
  | .railMinOnEnd n => Sys2Proof.Machine.execRailMinOnEnd n s
  | .railMaxonEnd n => Sys2Proof.Machine.execRailMaxonEnd n s
  | .railRestart n => Sys2Proof.Machine.execRailRestart n s
  | .seqUp => Sys2Proof.Machine.execSeqUp s
  | .seqDown => Sys2Proof.Machine.execSeqDown s
  | .seqAbort => Sys2Proof.Machine.execSeqAbort s
  | .seqStepOn => Sys2Proof.Machine.execSeqStepOn s
  | .seqStepOff => Sys2Proof.Machine.execSeqStepOff s
  | .seqStepWaitPg => Sys2Proof.Machine.execSeqStepWaitPg s
  | .seqStepDelay => Sys2Proof.Machine.execSeqStepDelay s
  | .seqStepMargin => Sys2Proof.Machine.execSeqStepMargin s
  | .seqStepEnd => Sys2Proof.Machine.execSeqStepEnd s
  | .seqDelayEnd => Sys2Proof.Machine.execSeqDelayEnd s
  | .seqStepTimeout => Sys2Proof.Machine.execSeqStepTimeout s
  | .mrgTargetWrite d v => Sys2Proof.Machine.execMrgTargetWrite d v s
  | .mrgSlewStep => Sys2Proof.Machine.execMrgSlewStep s
  | .rgrpPrepare => Sys2Proof.Machine.execRgrpPrepare s
  | .rgrpCommit => Sys2Proof.Machine.execRgrpCommit s
  | .rgrpCancel => Sys2Proof.Machine.execRgrpCancel s
  | .railScanConversion n mv => Sys2Proof.Machine.execRailScanConversion n mv s
  | .thermalSample tj => Sys2Proof.Machine.execThermalSample tj s
  | .thermalModelCheck => Sys2Proof.Machine.execThermalModelCheck s
  | .inhAgeExpire node => Sys2Proof.Machine.execInhAgeExpire node s
  | .thClearSuspect => Sys2Proof.Machine.execThClearSuspect s
  | .thClearMax => Sys2Proof.Machine.execThClearMax s
  | .calTempCheck => Sys2Proof.Machine.execCalTempCheck s
  | .calSchedElapsed => Sys2Proof.Machine.execCalSchedElapsed s
  | .calRetryElapsed => Sys2Proof.Machine.execCalRetryElapsed s
  | .calRun => Sys2Proof.Machine.execCalRun s
  | .calFull => Sys2Proof.Machine.execCalFull s
  | .calAbort => Sys2Proof.Machine.execCalAbort s
  | .calSlotStart => Sys2Proof.Machine.execCalSlotStart s
  | .calSlotPhaseEnd readings => Sys2Proof.Machine.execCalSlotPhaseEnd readings s
  | .calSlotEnd => Sys2Proof.Machine.execCalSlotEnd s
  | .calApplyTick => Sys2Proof.Machine.execCalApplyTick s
  | .stKeyA v => Sys2Proof.Machine.execStKeyA v s
  | .stKeyB v => Sys2Proof.Machine.execStKeyB v s
  | .stUnlockTimeout => Sys2Proof.Machine.execStUnlockTimeout s
  | .stLockoutEnd => Sys2Proof.Machine.execStLockoutEnd s
  | .stStart => Sys2Proof.Machine.execStStart s
  | .stAbort => Sys2Proof.Machine.execStAbort s
  | .stTestEnd count sig failing => Sys2Proof.Machine.execStTestEnd count sig failing s
  | .stLoopWaitTimeout => Sys2Proof.Machine.execStLoopWaitTimeout s
  | .stBackgroundItem => Sys2Proof.Machine.execStBackgroundItem s
  | .stBackgroundEnd pass => Sys2Proof.Machine.execStBackgroundEnd pass s
  | .cvuStart u => Sys2Proof.Machine.execCvuStart u s
  | .cvuCheck u => Sys2Proof.Machine.execCvuCheck u s
  | .cvuFeedByte u v => Sys2Proof.Machine.execCvuFeedByte u v s
  | .cvuFeedHalf u v => Sys2Proof.Machine.execCvuFeedHalf u v s
  | .cvuFeedWord u hi => Sys2Proof.Machine.execCvuFeedWord u hi s
  | .cvuFeedDone u => Sys2Proof.Machine.execCvuFeedDone u s
  | .cvuValLoad u hi => Sys2Proof.Machine.execCvuValLoad u hi s
  | .trngGen => Sys2Proof.Machine.execTrngGen s
  | .attGenStatement => Sys2Proof.Machine.execAttGenStatement s
  | .attGenCert => Sys2Proof.Machine.execAttGenCert s
  | .attSignDone => Sys2Proof.Machine.execAttSignDone s
  | .keyRenew => Sys2Proof.Machine.execKeyRenew s
  | .rootCert f => Sys2Proof.Machine.execRootCert f s
  | .keyHello f => Sys2Proof.Machine.execKeyHello f s
  | .getCert f => Sys2Proof.Machine.execGetCert f s
  | .keyAuth f => Sys2Proof.Machine.execKeyAuth f s
  | .keyConfirm f => Sys2Proof.Machine.execKeyConfirm f s
  | .keyComputeDone => Sys2Proof.Machine.execKeyComputeDone s
  | .attest f => Sys2Proof.Machine.execAttest f s
  | .treeKey f => Sys2Proof.Machine.execTreeKey f s
  | .mtag ring f => Sys2Proof.Machine.execMtag ring f s
  | .alyScan => Sys2Proof.Machine.execAlyScan s
  | .alyPoll => Sys2Proof.Machine.execAlyPoll s
  | .alyPage tag page => Sys2Proof.Machine.execAlyPage tag page s
  | .alyPollPeriod => Sys2Proof.Machine.execAlyPollPeriod s
  | .alyRescanPeriod => Sys2Proof.Machine.execAlyRescanPeriod s
  | .alyExchangeStart => Sys2Proof.Machine.execAlyExchangeStart s
  | .alyHail low high => Sys2Proof.Machine.execAlyHail low high s
  | .alyFind slots => Sys2Proof.Machine.execAlyFind slots s
  | .alyName slots => Sys2Proof.Machine.execAlyName slots s
  | .alyAll slots => Sys2Proof.Machine.execAlyAll slots s
  | .alyIdent slots => Sys2Proof.Machine.execAlyIdent slots s
  | .alyMeasure slots => Sys2Proof.Machine.execAlyMeasure slots s
  | .alyConversionEnd => Sys2Proof.Machine.execAlyConversionEnd s
  | .alyFetch slots => Sys2Proof.Machine.execAlyFetch slots s
  | .alyPageCmd slots => Sys2Proof.Machine.execAlyPageCmd slots s
  | .modeReqOff => Sys2Proof.Machine.execModeReqOff s
  | .modeReqShip => Sys2Proof.Machine.execModeReqShip s
  | .modeReqWatch => Sys2Proof.Machine.execModeReqWatch s
  | .modeReqStandby => Sys2Proof.Machine.execModeReqStandby s
  | .modeReqActive => Sys2Proof.Machine.execModeReqActive s
  | .modeReqService => Sys2Proof.Machine.execModeReqService s
  | .modeReqUpdate => Sys2Proof.Machine.execModeReqUpdate s
  | .modeReqSafe => Sys2Proof.Machine.execModeReqSafe s
  | .safeCauseClear v => Sys2Proof.Machine.execSafeCauseClear v s
  | .shutdownComplete => Sys2Proof.Machine.execShutdownComplete s
  | .shutdownWriteLimit => Sys2Proof.Machine.execShutdownWriteLimit s
  | .powerOn => Sys2Proof.Machine.execPowerOn s
  | .resetPin => Sys2Proof.Machine.execResetPin s
  | .wakePin => Sys2Proof.Machine.execWakePin s
  | .sysReset => Sys2Proof.Machine.execSysReset s
  | .supplySag which => Sys2Proof.Machine.execSupplySag which s
  | .supplySagRelease which => Sys2Proof.Machine.execSupplySagRelease which s
  | .brownoutReset => Sys2Proof.Machine.execBrownoutReset s
  | .bootStepComplete keys psel lane1 lane2 nand => Sys2Proof.Machine.execBootStepComplete keys psel lane1 lane2 nand s
  | .bootStepTimeout => Sys2Proof.Machine.execBootStepTimeout s
  | .ledgerClrPaths => Sys2Proof.Machine.execLedgerClrPaths s
  | .ledgerClrFallback => Sys2Proof.Machine.execLedgerClrFallback s
  | .profileSelect sel => Sys2Proof.Machine.execProfileSelect sel s
  | .updKeyUnlock v => Sys2Proof.Machine.execUpdKeyUnlock v s
  | .updOpen target => Sys2Proof.Machine.execUpdOpen target s
  | .updClose => Sys2Proof.Machine.execUpdClose s
  | .updAbort => Sys2Proof.Machine.execUpdAbort s
  | .updWordSubmit d3 => Sys2Proof.Machine.execUpdWordSubmit d3 s
  | .hostWriteFrame cmd words crc => Sys2Proof.Machine.execHostWriteFrame cmd words crc s
  | .hostReadFrame cmd => Sys2Proof.Machine.execHostReadFrame cmd s
  | .hostWaitTimeout => Sys2Proof.Machine.execHostWaitTimeout s
  | .hostFrameCut cmd words crc => Sys2Proof.Machine.execHostFrameCut cmd words crc s
  | .dbgFrame cmd words crc => Sys2Proof.Machine.execDbgFrame cmd words crc s
  | .windowEngineWrite k hi => Sys2Proof.Machine.execWindowEngineWrite k hi s
  | .rmtRead => Sys2Proof.Machine.execRmtRead s
  | .rmtWrite => Sys2Proof.Machine.execRmtWrite s
  | .remoteTimeout => Sys2Proof.Machine.execRemoteTimeout s
  | .comparatorStateChange m input => Sys2Proof.Machine.execComparatorStateChange m input s
  | .powerLoss => Sys2Proof.Machine.execPowerLoss s
  | .trngHealthFail => Sys2Proof.Machine.execTrngHealthFail s
  | .expectedEdgeMissed => Sys2Proof.Machine.execExpectedEdgeMissed s

end Sys2Proof.Machine
end

