-- ==== Sys2Proof/Machine/TickOps.lean ====
section
/-!
DEFINITION. What happens in a tick in which no command comes: the timebase advances, waits see the new phase, frames of
the host port that wait are looked at again, and the rails are judged (R13, R156, R274, R484; log entry 2).
-/
namespace Sys2Proof.Machine

/-- The oscillator of the excitation takes a step at each period of the modulator clock while a point runs (R88). -/
def oscillatorTick (s : State) : State :=
  if s.imp.inPoint && s.acq.modClk.pos == 0 then { s with imp := { s.imp with phase := s.imp.phase + s.imp.fw } } else s

/-- The timebase and the modulator clock of an awake node advance by one tick (R13, R37, R156). -/
def timebaseTick (s : State) : State :=
  if modeAsleep s.mode then s
  else oscillatorTick { s with tb := s.tb.tick, acq := { s.acq with modClk := s.acq.modClk.tick } }

/-- The end of a tick for the engines' waits (R274). -/
def waitsTick (s : State) : State := s.forEach engines waitTick

/-- One idle tick before the level flags. -/
def idleEffect (s : State) : State :=
  let s := timebaseTick { waitsTick s with now := s.now + 1 }
  let s := mirrorResume (bgResume (stAdvance (summaryFree (echoesTick (echoOver s (·.2 ≤ s.now))))))
  railsJudge (hostResume s)

/-- One idle tick. -/
def idleTick (s : State) : Host.Outcome State Fault Refusal := done (idleEffect s)

end Sys2Proof.Machine
end

