-- ==== Sys2Proof/Safety.lean ====
section
/-!
DEFINITION. What the statements speak of: the commands a state can take, the level flags a state must show, the part of
a state the level flags live in, canonical memories, and runs that never stop.
-/
namespace Sys2Proof.Machine

/-- Commands whose shape depends on what the node is doing: a calibration pass ends with one result for each trim of the
group (R389), and the NAND probe finds a device that can be there (R319). -/
def State.takes (s : State) : Instr → Bool
  | .calSlotPhaseEnd readings =>
    !(s.cal.step == 3 || s.cal.step == 4) || readings.length == (groupTrims s.cal.group).length
  | .bootStepComplete _ _ _ _ nand =>
    !(s.mode == .boot && s.bt.step == stepNand && s.role != 0 && s.flag Fld.HS_CTL_EN) || s.probeFits nand
  | _ => true

/-- The command can be run in the state. -/
def State.accepts (s : State) (i : Instr) : Bool := i.wf && s.takes i

/-- Every level flag whose cause holds is set: CMP_FLAG for a monitor ABOVE or BELOW (R191), the level flags of FLT_SUM
(R492), and the two level bits of IRQ_PEND (R491). -/
def State.levelsShown (s : State) : Prop :=
  (∀ i : Fin 3, (s.reg (Reg.CMP_ABOVE i) ||| s.reg (Reg.CMP_BELOW i)) &&& ~~~(s.reg (Reg.CMP_FLAG i)) = 0) ∧
  s.levelFlags &&& ~~~(s.reg Reg.FLT_SUM) = 0 ∧
  (s.reg Reg.FLT_SUM ≠ 0 → (s.reg Reg.IRQ_PEND).getLsbD irqFault = true) ∧
  (s.reg Reg.ENG_HOSTEVT ≠ 0 → (s.reg Reg.IRQ_PEND).getLsbD irqEngine = true)

/-- The registers the level flags live in. -/
def levelRegs : List Nat :=
  [Reg.CMP_FLAG 0, Reg.CMP_FLAG 1, Reg.CMP_FLAG 2, Reg.FLT_SUM, Reg.IRQ_PEND, Reg.IMP_STATUS]

/-- The engine data memory is in canonical form: addresses strictly rising, no byte listed that is 0. -/
def Memory.wf (s : State) : Bool := sparseWf (fun _ => (0 : Byte)) s.dmem

/-- The command is answered by a next state that has a property: it completes. -/
def Completes (i : Instr) (s : State) (p : State → Prop) : Prop := ∃ t : State, exec i s = .next t ∧ p t

/-- A command that may touch rails completes: after the state `u` of its own effect the rails are judged, as in every tick
(R357, R363, R371), and `u` has the property. -/
def CompletesRails (i : Instr) (s : State) (p : State → Prop) : Prop := ∃ u : State, exec i s = .next (settle (railsJudge u)) ∧ p u

/-- A command that may change what PACK_INH rests on (R384). -/
def CompletesTree (i : Instr) (s : State) (p : State → Prop) : Prop := ∃ u : State, exec i s = .next (settle (packCheck u)) ∧ p u

/-- A command that may touch registers of any kind: both are judged after it. -/
def CompletesAll (i : Instr) (s : State) (p : State → Prop) : Prop :=
  ∃ u : State, exec i s = .next (settle (packCheck (railsJudge u))) ∧ p u

/-- The plan the balancer's registers hold passes the checks of R137: setpoints within IMAX, no reserved direction and
no inactive cell, ACTIVE or BALANCE with EN set, no group it uses locked out, and some cell asking. -/
structure BalancePlanAllowed (s : State) : Prop where
  cells : ∀ k, k < 24 → spSet (s.planRegs.sp.getD k 0) ≤ s.fld Fld.BAL_IMAX_IMAX ∧ spDir (s.planRegs.sp.getD k 0) ≠ 3 ∧
    (spDir (s.planRegs.sp.getD k 0) ≠ 0 → k < s.cells)
  mode : s.mode = .active ∨ s.mode = .balance
  enabled : s.flag Fld.BAL_CTL_EN = true
  groups : ∀ k, k < 24 → spDir (s.planRegs.sp.getD k 0) ≠ 0 → s.locked (k / 6) = false
  asks : ∃ k, k < 24 ∧ spDir (s.planRegs.sp.getD k 0) ≠ 0

/-- One more RESPONSE waits for a train, and its payload begins with the bytes. -/
def Responds (s t : State) (head : List Byte) : Prop :=
  ∃ f : Frame, t.link.responses = s.link.responses ++ [f] ∧ f.type = tyResponse ∧ f.payload.take head.length = head

/-- The first six bytes of a node's answer to a transaction command (R150). -/
def txnAnswerHead (op sub id : Nat) (res : Byte) (stage : Nat) : List Byte :=
  leBytes 1 op ++ leBytes 1 sub ++ leBytes 2 id ++ [res] ++ leBytes 1 stage

/-- An accepted transaction command: its operation, subsystem, transaction and sweep number (R150). -/
structure TxnFrame (f : Frame) (op sub id act : Nat) : Prop where
  length : 8 ≤ f.payload.length
  opIs : leAt f.payload 0 1 = op
  subIs : leAt f.payload 1 1 = sub
  idIs : leAt f.payload 2 2 = id
  actIs : leAt f.payload 4 2 = act
  known : 1 ≤ sub ∧ sub ≤ 4

/-- One of the two integers nearest to a quotient has the property: the exact one where the division is exact; which of the two
it is otherwise, the spec leaves open (log entry 22). -/
def Near (a b : Int) (p : Int → Prop) : Prop := p (a / b) ∨ (a % b ≠ 0 ∧ p (a / b + 1))

/-! ### Registers -/

/-- Spans of registers whose fields act on nothing when they are written: acquisition, profiles of the measurements, plans and
general settings. -/
def plainSpans : List (Nat × Nat) :=
  [(0x0100, 0x01FF), (0x0204, 0x020D), (0x0210, 0x0211), (0x0213, 0x023F), (0x0260, 0x0405), (0x0407, 0x0802),
   (0x0806, 0x090B), (0x090D, 0x09FF), (0x0A01, 0x0A06), (0x0A08, 0x0A60), (0x0A62, 0x0AC3), (0x0AC5, 0x0AFF), (0x0C00, 0x0C0F)]

/-- `n` registers from `a` on lie in one of them. -/
def plainSpan (a n : Nat) : Bool := plainSpans.any fun p => decide (p.1 ≤ a) && decide (a + n ≤ p.2 + 1)

/-! ### The Alley's slots -/

/-- The low `n` bits of a number, most significant first. -/
def bitsOf (x n : Nat) : List Bool := (List.range n).map fun i => x.testBit (n - 1 - i)

/-- The bits of bytes in the order sent (R445). -/
def byteBits (bs : List Byte) : List Bool := bs.flatMap fun b => bitsOf b.toNat 8

/-- The low times of slots tell these bits, each within its bounds (R443). -/
def Slots (low : List Nat) (bits : List Bool) : Prop := low.map slotBit = bits.map some

/-- What a pass of the search reads from a tag alone on the wire: at each bit of its ID above the check byte the
complement and the bit, then the check byte (R448). -/
def aloneBits (id : BitVec 64) : List Bool :=
  ((List.range 56).flatMap fun i => [!id.getMsbD i, id.getMsbD i]) ++ bitsOf (id.toNat % 256) 8

/-! ### Engines -/

/-- The engine is RUNNING and stands before the word `w`: no breakpoint holds it, the word's parity is right, and nothing
asks it to stop or halt at the next instruction boundary (R275, R282, R283, R290). -/
structure Runs (s : State) (e : Engine) (w : Word) : Prop where
  running : (s.eng e).st = .running
  noBreak : s.atBreakpoint e = false
  parity : (s.eng e).wordBad (s.eng e).pc = false
  word : (s.eng e).word (s.eng e).pc = w
  run : s.engRun e = true
  noHalt : (s.eng e).haltReq = false
  noStep : (s.eng e).stepping = false

/-- The engine's record with its four flags given. -/
def Eng.withFlags (x : Eng) (z n c v : Bool) : Eng := { x with z := z, n := n, c := c, v := v }

/-- The engine's record after an instruction that leaves `x` in its registers and goes on at index `pc`. -/
def Eng.retired (x : Eng) (pc : Nat) : Eng := { x with pc := pc % 8192, instrs := (x.instrs + 1) % 2 ^ 32, passBp := false }

/-- The state after such an instruction: nothing else of the node has changed. -/
def retire (s : State) (e : Engine) (x : Eng) (pc : Nat) : State := s.setEng e (x.retired pc)

/-- No watchpoint of the engine is enabled (R283). -/
def noWatch (s : State) (e : Engine) : Bool :=
  !(s.reg (Reg.ENG_WP0_HI e.idx)).getLsbD 15 && !(s.reg (Reg.ENG_WP1_HI e.idx)).getLsbD 15

/-! ### Commands that leave the node's memories and its mode alone -/

/-- Orders, keys, timers' ends and wire exchanges of the store, the rails' groups, the thermal supervisor, calibration,
self-test, check values, attestation, the Alley, the ledger and a profile's update that only set up or record work. -/
def quietCommand : Instr → Bool
  | .hsKeyUnlock _ | .hsFlush | .hsFlushAge _ | .hsClearCounters | .hsLoad | .writePermissionCheck _ _ _ _ => true
  | .nandProgramStart | .nandEraseStart | .summaryIntervalEnd _ | .flashWordProgramStart | .flashSectorEraseStart => true
  | .fflClear | .rgrpPrepare | .rgrpCommit | .rgrpCancel | .railScanConversion _ _ => true
  | .thermalModelCheck | .thClearSuspect | .thClearMax | .calTempCheck | .calSchedElapsed | .calRetryElapsed => true
  | .calRun | .calAbort | .calSlotStart | .calSlotPhaseEnd _ | .calApplyTick => true
  | .stKeyA _ | .stKeyB _ | .stUnlockTimeout | .stLockoutEnd => true
  | .cvuStart _ | .cvuCheck _ | .cvuFeedByte _ _ | .cvuFeedHalf _ _ | .cvuFeedWord _ _ | .cvuFeedDone _ => true
  | .cvuValLoad _ _ | .trngGen | .trngHealthFail | .attGenStatement | .attGenCert | .attSignDone => true
  | .alyScan | .alyPoll | .alyPage _ _ | .alyPollPeriod | .alyRescanPeriod | .alyExchangeStart | .alyHail _ _ => true
  | .alyFind _ | .alyName _ | .alyAll _ | .alyIdent _ | .alyMeasure _ | .alyConversionEnd | .alyFetch _ | .alyPageCmd _ => true
  | .safeCauseClear _ | .ledgerClrPaths | .ledgerClrFallback | .profileSelect _ => true
  | .updKeyUnlock _ | .updOpen _ | .updAbort | .updWordSubmit _ | .linkClearCounters => true
  | _ => false

/-! ### Runs -/

/-- `k` steps from a state neither fault nor are refused. -/
def SafeRun (k : Nat) (s : State) : Prop := ∃ t : State, core.run k s = .next t

end Sys2Proof.Machine
end

