-- ==== Sys2Proof/Certificates/Slice0/Obligations.lean ====
section
/-!
DEFINITION. The statements about the model: what a step is, what holds after every step, what reset leaves, and, family
by family, what the commands do. Each command's statement says under which conditions on the state and the operands it
has its effect.
-/

open Sys2Proof Sys2Proof.Machine

/-! ### Hetric engines: arithmetic -/

/-- For every engine that runs and every word of the instruction: RD takes the sum or the difference modulo 2^32 (cmp and
cmpi write no register), Z and N tell a zero and a negative result, C is the carry out of an addition and "no borrow" of
a subtraction, V says that the exact signed result is not the one written, and nothing else of the node changes. -/
def Obligations.EngineAdditionAndComparison : Prop :=
  ∀ (s : State) (e : Engine) (w : Word), Runs s e w →
    let x := s.eng e
    let a := x.get (wRa w)
    let b := x.get (wRb w)
    let i := (wImm w).signExtend 32
    let sum (rd : Nat) (y : Word) : State := retire s e ((x.set rd (a + y)).withFlags (a + y == 0) (decide ((a + y).toInt < 0))
      (decide (2 ^ 32 ≤ a.toNat + y.toNat)) (decide ((a + y).toInt ≠ a.toInt + y.toInt))) (x.pc + 1)
    let dif (rd : Nat) (y : Word) : State := retire s e ((x.set rd (a - y)).withFlags (a - y == 0) (decide ((a - y).toInt < 0))
      (decide (y.toNat ≤ a.toNat)) (decide ((a - y).toInt ≠ a.toInt - y.toInt))) (x.pc + 1)
    (wOp w = 0x01 → okR w = true → wSh w = 0 → exec (.add e) s = .next (settle (sum (wRd w) b))) ∧
    (wOp w = 0x02 → exec (.addi e) s = .next (settle (sum (wRd w) i))) ∧
    (wOp w = 0x03 → okR w = true → wSh w = 0 → exec (.sub e) s = .next (settle (dif (wRd w) b))) ∧
    (wOp w = 0x04 → okR w = true → wSh w = 0 → wRd w = 0 → exec (.cmp e) s = .next (settle (dif 0 b))) ∧
    (wOp w = 0x05 → wRd w = 0 → exec (.cmpi e) s = .next (settle (dif 0 i)))

/-- mul writes the low and mulh the high 32 bits of the product, the high ones of the signed product; div truncates the
signed quotient toward zero, and its one quotient that does not fit wraps and sets V; divu divides unsigned numbers. C is
0 after all four, and V after all but div. A divisor of 0 is the fault DIVZERO. -/
def Obligations.EngineMultiplyAndDivide : Prop :=
  ∀ (s : State) (e : Engine) (w : Word), Runs s e w → okR w = true → wSh w = 0 →
    let x := s.eng e
    let a := x.get (wRa w)
    let b := x.get (wRb w)
    let out (r : Word) (v : Bool) : State :=
      retire s e ((x.set (wRd w) r).withFlags (r == 0) (decide (r.toInt < 0)) false v) (x.pc + 1)
    (wOp w = 0x06 → exec (.mul e) s = .next (settle (out (BitVec.ofNat 32 (a.toNat * b.toNat)) false))) ∧
    (wOp w = 0x07 → exec (.mulh e) s = .next (settle (out ((a.signExtend 64 * b.signExtend 64).extractLsb' 32 32) false))) ∧
    (wOp w = 0x08 → b ≠ 0 →
      exec (.div e) s = .next (settle (out (a.sdiv b) (a == 0x80000000#32 && b == 0xFFFFFFFF#32)))) ∧
    (wOp w = 0x09 → b ≠ 0 → exec (.divu e) s = .next (settle (out (BitVec.ofNat 32 (a.toNat / b.toNat)) false))) ∧
    (wOp w = 0x08 → b = 0 → exec (.div e) s = doneRails (engineFault s e efDivzero)) ∧
    (wOp w = 0x09 → b = 0 → exec (.divu e) s = doneRails (engineFault s e efDivzero))

/-- The logic instructions combine their operands bit by bit, the immediate extended with zeros, set Z and N, clear V and
leave C; sext extends the field that ends at bit SH; movi and movt set the low half and the high half of RD and leave all
flags. Nothing else of the node changes. -/
def Obligations.EngineLogicAndMoves : Prop :=
  ∀ (s : State) (e : Engine) (w : Word), Runs s e w →
    let x := s.eng e
    let a := x.get (wRa w)
    let b := x.get (wRb w)
    let i : Word := (wImm w).setWidth 32
    let out (r : Word) : State :=
      retire s e ((x.set (wRd w) r).withFlags (r == 0) (decide (r.toInt < 0)) x.c false) (x.pc + 1)
    (wOp w = 0x0A → okR w = true → wSh w = 0 → exec (.andE e) s = .next (settle (out (a &&& b)))) ∧
    (wOp w = 0x0B → okR w = true → wSh w = 0 → exec (.orE e) s = .next (settle (out (a ||| b)))) ∧
    (wOp w = 0x0C → okR w = true → wSh w = 0 → exec (.xor e) s = .next (settle (out (a ^^^ b)))) ∧
    (wOp w = 0x0D → exec (.andi e) s = .next (settle (out (a &&& i)))) ∧
    (wOp w = 0x0E → exec (.ori e) s = .next (settle (out (a ||| i)))) ∧
    (wOp w = 0x0F → exec (.xori e) s = .next (settle (out (a ^^^ i)))) ∧
    (wOp w = 0x13 → okR w = true → wRb w = 0 →
      exec (.sext e) s = .next (settle (out (BitVec.ofInt 32 (Int.bmod a.toNat (2 ^ (wSh w + 1))))))) ∧
    (wOp w = 0x14 → okM w = true →
      exec (.movi e) s = .next (settle (retire s e (x.set (wRd w) (BitVec.ofNat 32 (w.toNat % 65536))) (x.pc + 1)))) ∧
    (wOp w = 0x15 → okM w = true →
      exec (.movt e) s = .next (settle (retire s e
        (x.set (wRd w) (BitVec.ofNat 32 (w.toNat % 65536 * 65536 + (x.get (wRd w)).toNat % 65536))) (x.pc + 1))))

/-- The amount n is the low five bits of RB + SH. shl multiplies by 2^n, shr divides the unsigned and sar the signed
number by 2^n, rounding down. C is the last bit shifted out and stays for n = 0; V is cleared. -/
def Obligations.EngineShifts : Prop :=
  ∀ (s : State) (e : Engine) (w : Word), Runs s e w → okR w = true →
    let x := s.eng e
    let a := x.get (wRa w)
    let n := ((x.get (wRb w)).toNat + w.toNat % 32) % 32
    let out (r : Word) (last : Bool) : State := retire s e
      ((x.set (wRd w) r).withFlags (r == 0) (decide (r.toInt < 0)) (if n = 0 then x.c else last) false) (x.pc + 1)
    (wOp w = 0x10 → exec (.shl e) s = .next (settle (out (BitVec.ofNat 32 (a.toNat * 2 ^ n)) (a.toNat.testBit (32 - n))))) ∧
    (wOp w = 0x11 → exec (.shr e) s = .next (settle (out (BitVec.ofNat 32 (a.toNat / 2 ^ n)) (a.toNat.testBit (n - 1))))) ∧
    (wOp w = 0x12 → exec (.sar e) s = .next (settle (out (BitVec.ofInt 32 (a.toInt / 2 ^ n)) (a.toNat.testBit (n - 1)))))

/-! ### Hetric engines: memory, branches, waits, control -/

/-- At an aligned address in a bank the engine may access, whose bytes have right parity, a load writes RD with the
number its bytes spell, lowest byte first, extended with zeros; ldp writes RD with a word of the running page. Flags,
memory and everything else stay. -/
def Obligations.EngineLoads : Prop :=
  ∀ (s : State) (e : Engine) (w : Word), Runs s e w → noWatch s e = true →
    let x := s.eng e
    let a := (x.get (wRa w) + (wImm w).signExtend 32).toNat
    let b (i : Nat) : Nat := (s.dbyte (a + i)).toNat
    let load (v : Word) : Host.Outcome State Fault Refusal := .next (settle (retire s e (x.set (wRd w) v) (x.pc + 1)))
    (bankAllowed e a = true →
      (wOp w = 0x18 → a % 4 = 0 → s.dataBad a 4 = false →
        exec (.ldw e) s = load (BitVec.ofNat 32 (b 0 + 256 * b 1 + 65536 * b 2 + 16777216 * b 3))) ∧
      (wOp w = 0x19 → a % 2 = 0 → s.dataBad a 2 = false → exec (.ldh e) s = load (BitVec.ofNat 32 (b 0 + 256 * b 1))) ∧
      (wOp w = 0x1A → s.dataBad a 1 = false → exec (.ldb e) s = load (BitVec.ofNat 32 (b 0)))) ∧
    (wOp w = 0x1F → a ≤ 8191 → x.wordBad a = false → exec (.ldp e) s = load (x.word a))

/-- At an aligned address in a bank the engine may access, the bytes at RA + sext(IMM) take the low bytes of RD, lowest
first; every other byte, and its parity, stays; nothing else of the node changes but the engine's PC and count, and
a canonical memory stays canonical. swap does
the same to a word of bank 7 and brings the word that stood there to RD. -/
def Obligations.EngineStores : Prop :=
  ∀ (s : State) (e : Engine) (w : Word), Runs s e w → noWatch s e = true →
    let x := s.eng e
    let a := (x.get (wRa w) + (wImm w).signExtend 32).toNat
    let stores (i : Instr) (n : Nat) (y : Eng) : Prop := ∃ u : State, exec i s = .next (settle u) ∧
      u = { retire s e y (x.pc + 1) with dmem := u.dmem, badData := u.badData } ∧
      (∀ k, k < n → u.dbyte (a + k) = (x.get (wRd w)).extractLsb' (8 * k) 8) ∧
      (∀ c, c < a ∨ a + n ≤ c → u.dbyte c = s.dbyte c ∧ u.badData.contains c = s.badData.contains c) ∧
      u.dataBad a n = false ∧ (Memory.wf s = true → Memory.wf u = true)
    (bankAllowed e a = true →
      (wOp w = 0x1B → a % 4 = 0 → stores (.stw e) 4 x) ∧
      (wOp w = 0x1C → a % 2 = 0 → stores (.sth e) 2 x) ∧
      (wOp w = 0x1D → stores (.stb e) 1 x)) ∧
    (wOp w = 0x1E → 0x38000 ≤ a → a ≤ 0x3FFFF → a % 4 = 0 → s.dataBad a 4 = false →
      stores (.swap e) 4 (x.set (wRd w) (BitVec.ofNat 32 (fromLe (s.dbytes a 4)))))

/-- For every load and store: an address outside the engine's banks faults with BOUNDS, and otherwise one that is not
aligned to the access size with ALIGN; memory is not touched. A swap outside bank 7 faults with BOUNDS. -/
def Obligations.EngineAddressFaults : Prop :=
  ∀ (s : State) (e : Engine) (w : Word), Runs s e w →
    let x := s.eng e
    let a := (x.get (wRa w) + (wImm w).signExtend 32).toNat
    (∀ p ∈ [(Instr.ldw e, 0x18, 4), (.ldh e, 0x19, 2), (.ldb e, 0x1A, 1), (.stw e, 0x1B, 4), (.sth e, 0x1C, 2), (.stb e, 0x1D, 1)],
      wOp w = p.2.1 →
        (bankAllowed e a = false → exec p.1 s = doneRails (engineFault s e efBounds)) ∧
        (bankAllowed e a = true → a % p.2.2 ≠ 0 → exec p.1 s = doneRails (engineFault s e efAlign))) ∧
    (wOp w = 0x1E → a < 0x38000 ∨ 0x3FFFF < a → exec (.swap e) s = doneRails (engineFault s e efBounds))

/-- A branch goes to its target where its condition holds and to the next index where not; call and callr leave the
return index modulo 8192 in G15, callr reading RA first; dbnz counts RD down and branches while it is not 0. Nothing
else changes. -/
def Obligations.EngineBranches : Prop :=
  ∀ (s : State) (e : Engine) (w : Word), Runs s e w → okB w = true →
    let x := s.eng e
    let target := w.toNat % 8192
    let holds (k : Nat) : Bool := [true, x.z, !x.z, x.c, !x.c, x.n, !x.n, x.v, !x.v, x.c && !x.z, !x.c || x.z, x.n == x.v,
      x.n != x.v, !x.z && x.n == x.v, x.z || x.n != x.v].getD k false
    let goes (i : Instr) (y : Eng) (pc : Nat) : Prop := exec i s = .next (settle (retire s e y pc))
    let back : Word := BitVec.ofNat 32 ((x.pc + 1) % 8192)
    (wOp w = 0x20 → wRa w = 0 → wRd w < 15 → goes (.branch e) x (if holds (wRd w) then target else x.pc + 1)) ∧
    (wOp w = 0x21 → target = 0 → wRd w < 15 → (x.get (wRa w)).toNat ≤ 8191 →
      goes (.br e) x (if holds (wRd w) then (x.get (wRa w)).toNat else x.pc + 1)) ∧
    (wOp w = 0x22 → wRd w = 0 → wRa w = 0 → goes (.call e) (x.set 15 back) target) ∧
    (wOp w = 0x23 → wRd w = 0 → target = 0 → (x.get (wRa w)).toNat ≤ 8191 →
      goes (.callr e) (x.set 15 back) (x.get (wRa w)).toNat) ∧
    (wOp w = 0x24 → wRd w ≠ 0 → wRa w = 0 →
      goes (.dbnz e) (x.set (wRd w) (x.get (wRd w) - 1)) (if x.get (wRd w) = 1 then x.pc + 1 else target))

/-- wph and wtb, and wev with no matching bit latched, put the engine into WAITING with their target or mask, result
register and timeout, PC unchanged; a wtb whose target is not after the timebase is marked late. tbr reads cycle and phase
in one tick. wev with matching bits and poll return them, clear them from the latch and set the flags.
A wait whose condition holds completes: an event wait returns and clears the matching bits, the others return 1, C is
0 and V tells a late wtb. A timeout with the condition not met returns 0 with C = 1 and V = 0. The engine runs on at the
next index. -/
def Obligations.EngineWaits : Prop :=
  (∀ (s : State) (e : Engine) (w : Word), Runs s e w → okW w = true →
      let x := s.eng e
      let ra := x.get (wRa w)
      let hit := x.latch &&& ra
      let begun (k : WaitKind) (target : Nat) (mask : Word) (late : Bool) : Wait :=
        { kind := k, target := target, mask := mask, rd := wRd w, limit := (x.get (wRt w)).toNat,
          done := true, late := late, latched := false }
      let waits (i : Instr) (k : WaitKind) (target : Nat) (mask : Word) (late : Bool) : Prop :=
        exec i s = .next (settle (s.setEng e { x with st := .waiting, wait := some (begun k target mask late) }))
      let taken : Eng := { (x.set (wRd w) hit).withFlags (hit == 0) false false false with latch := x.latch &&& ~~~hit }
      let takes (i : Instr) : Prop := exec i s = .next (settle (retire s e taken (x.pc + 1)))
      let target := ra.toNat * 65536 + (x.get (wRb w)).toNat % 65536
      (wOp w = 0x28 → wRb w = 0 → wRt w = 0 → wRd w ≠ wRa w ∨ wRd w = 0 → exec (.tbr e) s = .next (settle (retire s e
        ((x.set (wRd w) (BitVec.ofNat 32 (s.tb.value / 65536))).set (wRa w) (BitVec.ofNat 32 (s.tb.value % 65536))) (x.pc + 1)))) ∧
      (wOp w = 0x29 → wRb w = 0 → waits (.wph e) .phase (ra.toNat % 65536) 0 false) ∧
      (wOp w = 0x2A → waits (.wtb e) .timebase target 0 (decide (target ≤ s.tb.value))) ∧
      (wOp w = 0x2B → wRb w = 0 → hit = 0 → waits (.wev e) .event 0 ra false) ∧
      (wOp w = 0x2B → wRb w = 0 → hit ≠ 0 → takes (.wev e)) ∧
      (wOp w = 0x2C → wRb w = 0 → wRt w = 0 → takes (.poll e))) ∧
  (∀ (s : State) (e : Engine) (v : Wait), let x := s.eng e
      x.st = .waiting → x.wait = some v → s.engRun e = true → x.haltReq = false → x.stepping = false →
      let ended (r : Word) (out late : Bool) (latch : Word) : Eng :=
        { (x.set v.rd r).withFlags (r == 0) false out late with st := .running, wait := none, latch := latch }
      let ends (i : Instr) (r : Word) (out late : Bool) (latch : Word) : Prop :=
        exec i s = .next (settle (retire s e (ended r out late latch) (x.pc + 1)))
      (s.waitMet x v = true → v.kind = .event → ends (.waitComplete e) (x.latch &&& v.mask) false false (x.latch &&& ~~~v.mask)) ∧
      (s.waitMet x v = true → v.kind = .phase → ends (.waitComplete e) 1 false false x.latch) ∧
      (s.waitMet x v = true → v.kind = .timebase → ends (.waitComplete e) 1 false v.late x.latch) ∧
      (s.waitMet x v = false → v.limit ≠ 0 → ends (.waitTimeout e) 0 true false x.latch))

/-- sig sets line 20 + sg in the latch of another engine; hsig sets its bit of ENG_HOSTEVT; kick restarts a watchdog whose
period is not 0; end clears RUN, and the engine is STOPPED after it. -/
def Obligations.EngineControlInstructions : Prop :=
  ∀ (s : State) (e : Engine) (w : Word), Runs s e w → wRd w = 0 → wRa w = 0 → wRb w = 0 →
    let x := s.eng e
    let fn := w.toNat % 16384
    let d := engineOf (fn / 4)
    let marked : Eng := { s.eng d with latch := (s.eng d).latch ||| (1#32 <<< (20 + fn % 4)) }
    (wOp w = 0x30 → fn < 12 → fn / 4 ≠ e.idx → exec (.sig e) s = .next (settle (retire (s.setEng d marked) e x (x.pc + 1)))) ∧
    (wOp w = 0x31 → fn < 16 → exec (.hsig e) s =
      .next (settle (retire (s.setReg Reg.ENG_HOSTEVT (s.reg Reg.ENG_HOSTEVT ||| (1#16 <<< fn))) e x (x.pc + 1)))) ∧
    (wOp w = 0x32 → fn = 0 → s.fld (Fld.ENG_CTL_WDT e.idx) ≠ 0 → exec (.kick e) s =
      .next (settle (retire (s.startTimer (.watchdog e)) e x (x.pc + 1)))) ∧
    (wOp w = 0x32 → fn = 0 → s.fld (Fld.ENG_CTL_WDT e.idx) = 0 → exec (.kick e) s = .next (settle (retire s e x (x.pc + 1)))) ∧
    (wOp w = 0x33 → fn = 0 → Completes (.endE e) s fun t =>
      t.engRun e = false ∧ (t.eng e).st = .stopped ∧ (t.eng e).pc = (x.pc + 1) % 8192 ∧ (t.eng e).g = x.g ∧ t.dmem = s.dmem)

/-! ### Hetric engines: calls, supervision, debug -/

/-- regr reads a register of 0x0000 to 0x1FFF as it reads now, with none of the engine's own writes waiting; regw puts a write
of a register the engine owns at the end of the register bus, and a write elsewhere is a PROTECT fault. mrd copies entries of
a result set or of the mirror, each word lowest byte first, and returns the set's sequence, with no watchpoint enabled. mreq
starts a conversion on request in STANDBY, SELFTEST or SAFE with no sweeps scheduled, and is refused with MODE in other modes.
crc carries a check value over bytes of data memory, with no watchpoint enabled. -/
def Obligations.EngineRegisterAndMeasurementCalls : Prop :=
  ∀ (s : State) (e : Engine) (w : Word), Runs s e w →
    let x := s.eng e
    let a := (x.get (wRa w) + (wImm w).signExtend 32).toNat
    let ra := (x.get (wRa w)).toNat
    let rb := (x.get (wRb w)).toNat
    let fn := w.toNat % 16384
    let entries (k : Nat) : Nat × Nat × (Nat → Word) := s.mrdSource k |> fun p => (p.2.1, p.2.2, p.1)
    let bare (v : Word) : Eng := { x.set (wRd w) v with z := v == 0 }
    let word (v : Word) : Eng := { x.set (wRd w) v with z := v == 0, n := v.msb }
    let noted : State := { s with bus := s.bus ++ [{ source := some e, addr := a, value := (x.get (wRd w)).setWidth 16 }] }
    (wOp w = 0x38 → a ≤ 0x1FFF → (∀ b ∈ s.bus, b.source ≠ some e) →
      exec (.regr e) s = .next (settle (packCheck (railsJudge (retire s e (bare ((s.live a).setWidth 32)) (x.pc + 1)))))) ∧
    (wOp w = 0x39 → a ≤ 0x1FFF → regOwner a = some e → exec (.regw e) s = .next (settle (retire noted e x (x.pc + 1)))) ∧
    (wOp w = 0x39 → a ≤ 0x1FFF → regOwner a ≠ some e →
      exec (.regw e) s = .next (settle (railsJudge (engineFault s e efProtect)))) ∧
    (wOp w = 0x3A → fn / 4096 < 3 → (fn / 4096 = 2 → s.isRoot = true) → fn / 64 % 64 = 0 → bufferFault e rb (4 * (fn % 64 + 1)) = none →
      noWatch s e = true → ra + (fn % 64 + 1) ≤ (entries (fn / 4096)).2.1 → Completes (.mrd e) s fun t =>
        (t.eng e).get (wRd w) = (word (BitVec.ofNat 32 ((entries (fn / 4096)).1 % 2 ^ 31))).get (wRd w) ∧
        (t.eng e).pc = (x.pc + 1) % 8192 ∧ t.regs = (settle s).regs ∧
        (∀ k, k ≤ fn % 64 → ∀ j, j < 4 → t.dbyte (rb + 4 * k + j) = ((entries (fn / 4096)).2.2 (ra + k)).extractLsb' (8 * j) 8) ∧
        (∀ c, c < rb ∨ rb + 4 * (fn % 64 + 1) ≤ c → t.dbyte c = s.dbyte c)) ∧
    (wOp w = 0x3B → e = .node → wRa w = 0 → wRb w = 0 → fn = 0 → s.reqAccepted = true → Completes (.mreq e) s fun t =>
      t.acq.req = .powering ∧ t.acq.reqByNode = true ∧ (t.eng e).get (wRd w) = 0 ∧ (t.eng e).pc = (x.pc + 1) % 8192) ∧
    (wOp w = 0x3B → e = .node → wRa w = 0 → wRb w = 0 → fn ≤ 1 → s.mode ≠ .standby → s.mode ≠ .selftest → s.mode ≠ .safe →
      exec (.mreq e) s = .next (settle (retire s e (word 0x80000002#32) (x.pc + 1)))) ∧
    (wOp w = 0x34 → fn < 3 → rb ≤ 8192 → spanAllowed e ra rb = true → s.dataBad ra rb = false → noWatch s e = true →
      let v := x.get (wRd w)
      let bs := s.dbytes ra rb
      exec (.crc e) s = .next (settle (retire s e (bare (if fn = 0 then crc32Run v bs
        else if fn = 1 then (crc16Run (v.setWidth 16) bs).setWidth 32 else (crc8Run (v.setWidth 8) bs).setWidth 32)) (x.pc + 1))))

/-- The NODE engine's xfr acts on the balancer and the impedance unit just as the host's command of the same name: their
state and the host registers are the same after either. It returns 0 where the command is taken. PREPARE returns the
cause of a refusal in bits 15 to 8 with STATE, and COMMIT with nothing prepared STATE. At another engine it is a CALL
fault. -/
def Obligations.EngineTransferCalls : Prop :=
  ∀ (s : State) (e : Engine) (w : Word), Runs s e w → wOp w = 0x3C → wRa w = 0 → wRb w = 0 →
    let x := s.eng e
    let calls : List (Instr × Instr × Nat) := [(.xfrBalPrepare e, .balPrepare, 1), (.xfrBalCommit e, .balCommit, 2),
      (.xfrBalCancel e, .balCancel, 3), (.xfrBalStop e, .balStop, 4), (.xfrImpPrepare e, .impPrepare, 5),
      (.xfrImpCommit e, .impCommit, 6), (.xfrImpAbort e, .impAbort, 7)]
    (∀ p ∈ calls, wFn w = p.2.2 → e = .node → Completes p.1 s fun t =>
      (t.eng e).pc = (x.pc + 1) % 8192 ∧
      (∃ u : State, exec p.2.1 s = .next u ∧ t.bal = u.bal ∧ t.imp = u.imp ∧ t.txn = u.txn ∧ t.regs = u.regs ∧
        t.mode = u.mode) ∧
      ((t.eng e).get (wRd w) = 0 ↔ wRd w = 0 ∨ p.2.2 = 3 ∨ p.2.2 = 4 ∨ p.2.2 = 7 ∨
        (p.2.2 = 1 ∧ t.fld Fld.BAL_STATUS_PLAN_ERR = 0) ∨ (p.2.2 = 2 ∧ s.balStage = stagePrepared) ∨
        (p.2.2 = 5 ∧ t.fld Fld.IMP_STATUS_PREP_ERR = 0) ∨ (p.2.2 = 6 ∧ s.impState = impPrepared ∧ t.impState = impRunning)) ∧
      (p.2.2 = 1 → t.fld Fld.BAL_STATUS_PLAN_ERR ≠ 0 → wRd w ≠ 0 →
        (t.eng e).get (wRd w) = BitVec.ofNat 32 (0x80000003 + 256 * t.fld Fld.BAL_STATUS_PLAN_ERR)) ∧
      (p.2.2 = 2 → s.balStage ≠ stagePrepared → wRd w ≠ 0 → (t.eng e).get (wRd w) = 0x80000003#32)) ∧
    (∀ p ∈ calls, wFn w = p.2.2 → e ≠ .node → exec p.1 s = .next (settle (railsJudge (engineFault s e efCall))))

/-- With no watchpoint enabled, fsnd puts the frame its descriptor names at the end of the engine's send queue and returns 0.
FRAME_SENT takes the oldest frame from the queue and fires line 11: a RESPONSE in a train that may still carry one, where no
engine queued one before it, the root's COMMAND in the command time of the destination's ring. frcv takes the oldest frame
received to the buffer and returns its length; with none it returns EMPTY. log adds the record to its tier's page buffer and
fires line 11; without a store it returns NO_STORE. -/
def Obligations.EngineFramesAndRecords : Prop :=
  ∀ (s : State) (e : Engine), let x := s.eng e
    (∀ w, Runs s e w → noWatch s e = true → wRb w = 0 →
      let a := (x.get (wRa w)).toNat
      let len := (s.dbyte (a + 1)).toNat
      let tag := (s.dbyte (a + 4)).getLsbD 1
      let f : EngFrame := { type := (s.dbyte a).toNat, dst := (s.dbyte (a + 2)).toNat + 256 * (s.dbyte (a + 3)).toNat, tag := tag,
                            payload := s.dbytes (a + 8) (if tag then len - 8 else len), order := s.nextOrder }
      let word (y : Eng) (v : Word) : Eng := { y.set (wRd w) v with z := v == 0, n := v.msb }
      (wOp w = 0x3D → wFn w = 0 → s.fsndFault e a = none →
        s.fsndRefuses e (s.dbyte a).toNat len (BitVec.ofNat 16 f.dst) tag = 0 →
        exec (.fsnd e) s = .next (settle (retire s e (word { x with sendQ := x.sendQ ++ [f] } 0) (x.pc + 1)))) ∧
      (∀ bs rest, wOp w = 0x3E → wFn w = 0 → bufferFault e a 256 = none → x.recvQ = bs :: rest → bs.length ≤ 256 →
        Completes (.frcv e) s fun t =>
          (t.eng e).recvQ = rest ∧ t.dbytes a bs.length = bs ∧ (t.eng e).pc = (x.pc + 1) % 8192 ∧
          (wRd w ≠ 0 → (t.eng e).get (wRd w) = BitVec.ofNat 32 (bs.length + 65536 * min 255 x.dropped)) ∧
          (∀ c, c < a ∨ a + bs.length ≤ c → t.dbyte c = s.dbyte c)) ∧
      (wOp w = 0x3E → wFn w = 0 → bufferFault e a 256 = none → x.recvQ = [] →
        exec (.frcv e) s = .next (settle (retire s e (word x 0x80000006#32) (x.pc + 1)))) ∧
      (∀ b, wOp w = 0x3F → wFn w < 3 → s.logFault e a = none → s.storeOn = true → s.hs.filling.getD (wFn w) none = some b →
        let n := fromLe (s.dbytes a 2)
        8 ≤ n → n ≤ 512 → b.data.length + n ≤ 4096 → Completes (.log e) s fun t =>
          t.hs.filling.getD (wFn w) none = some { b with data := b.data ++ s.dbytes a n, nrec := b.nrec + 1 } ∧
          (t.eng e).latch.getLsbD 11 = true ∧ (t.eng e).get (wRd w) = (word x 0).get (wRd w) ∧ (t.eng e).pc = (x.pc + 1) % 8192) ∧
      (wOp w = 0x3F → wFn w < 3 → s.logFault e a = none → s.storeOn = false →
        exec (.log e) s = .next (settle (retire s e (word x 0x80000008#32) (x.pc + 1))))) ∧
    (∀ q rest, s.linkOn = true → x.sendQ = q :: rest →
      (s.isRoot = false → q.type = 4 → q.tag = false → 0 < s.link.respLeft → s.numbered = true → modeInserts s.mode = true → s.half = 0 →
        s.oldestResponse q = true → s.flag Fld.MEMB_EXCLUDED = false → CompletesAll (.frameSent e) s fun u =>
          (u.eng e).sendQ = rest ∧ (u.eng e).latch.getLsbD 11 = true ∧ u.link.respLeft + 1 = s.link.respLeft ∧
          (s.portOn s.insertPort = true → s.dir s.insertPort ≠ 0 → u.sent.length = s.sent.length + 1)) ∧
      (∀ r, s.isRoot = true → q.type = 3 → q.tag = false → q.dst < 8192 → q.dst ≠ 0 → s.route q.dst = some r →
        (s.ring r).speaks = true → s.laneRoom r (engFrame s q).1 = true →
        CompletesAll (.frameSent e) s fun u => (u.eng e).sendQ = rest ∧ (u.eng e).latch.getLsbD 11 = true))

/-- At half its period a counting watchdog fires line 25, and at its end the engine has a WATCHDOG fault. Clearing RUN stops a
waiting engine at once and a running one too, its wait cancelled; setting it starts the engine at index 0 with its registers,
latch and wait cleared, where no self-test of what engines call runs and none that stops them failed; RESTART also clears
FAULT and RESTARTS. A write of WDT takes its new period and restarts the watchdog. A staging load is marked STAGED while a
switch waits for it. A host event fires its line at each engine named. -/
def Obligations.EngineSupervision : Prop :=
  ∀ (s : State) (e : Engine),
    let x := s.eng e
    let fresh (t : State) : Prop := (t.eng e).st = .running ∧ (t.eng e).pc = 0 ∧ (t.eng e).g = [] ∧ (t.eng e).latch = 0 ∧
      (t.eng e).wait = none ∧ (t.eng e).page = x.page
    let powered : Prop := modeAsleep s.mode = false ∧ s.mode ≠ .boot ∧ s.st.engFail = false ∧
      ∀ t ∈ s.st.cur, 7 < t ∧ t ≠ 11
    (s.fld (Fld.ENG_CTL_WDT e.idx) ≠ 0 → x.st = .running ∨ x.st = .waiting →
      (Completes (.engineWatchdogHalf e) s fun t => t.eng e = { x with latch := x.latch ||| (1#32 <<< 25) } ∧
        t.regs = (settle s).regs) ∧
      exec (.engineWatchdog e) s = .next (settle (railsJudge (engineFault s e efWatchdog)))) ∧
    (s.engRun e = true → x.st = .waiting ∨ x.st = .running → CompletesRails (.engineStop e) s fun u =>
      u.engRun e = false ∧ (u.eng e).st = .stopped ∧ (u.eng e).wait = none ∧ (u.eng e).pc = x.pc ∧ (u.eng e).g = x.g) ∧
    (s.engRun e = false → powered → CompletesRails (.engineStart e) s fun u => u.engRun e = true ∧ fresh u) ∧
    (powered → CompletesRails (.engineRestart e) s fun u => fresh u ∧ (u.eng e).fault = 0 ∧ (u.eng e).restarts = []) ∧
    (∀ v : BitVec 8, s.engRun e = true → CompletesRails (.engineWdtWrite e v) s fun u =>
      u.fld (Fld.ENG_CTL_WDT e.idx) = v.toNat ∧ u.engRun e = true ∧ u.eng e = x ∧
      (v ≠ 0 → (.watchdog e, s.now) ∈ u.timers) ∧ (v = 0 → u.running (.watchdog e) = false)) ∧
    (∀ k : Switch, s.sw = some k → x.staged = false → x.page ≤ 1 → Completes (.stagingLoadDone e) s fun t =>
      (t.eng e).staged = true ∧ (t.eng e).stagedLen = (s.profProgram k.profile e.idx).1.length ∧
      (∀ i, i < 8192 → sparseGet (t.eng e).prog 0 (8192 * (1 - x.page) + i) = (s.profProgram k.profile e.idx).1.getD i 0) ∧
      (∀ i, (t.eng e).word i = x.word i) ∧ (t.eng e).pc = x.pc ∧ (t.eng e).st = x.st) ∧
    (∀ v : BitVec 16, Completes (.hostEventRaise v) s fun t => ∀ j, j < 4 → v.getLsbD (4 * e.idx + j) = true →
      (t.eng e).latch.getLsbD (16 + j) = true ∧ t.regs = (settle s).regs)

/-- In SERVICE or UPDATE the second key within 100 µs of the first opens the debug fields; a write of any other value to the
key register while they are open closes them, clears every breakpoint and watchpoint and leaves no engine halted. While they
are open, HALT asks a running engine to halt at its next boundary and halts a waiting one at once, STEP runs one instruction
of a halted engine and RESUME lets it go on, and a write of the high half writes the selected G register of a halted engine.
While they are closed the three change nothing. -/
def Obligations.DebugAccess : Prop :=
  ∀ (s : State) (e : Engine), let x := s.eng e
    let onward : EngState := if x.wait.isSome then .waiting else .running
    let becomes (i : Instr) (y : Eng) : Prop := exec i s = .next (settle (railsJudge (s.setEng e y)))
    (∀ pin, s.dbgOpen = false → CompletesRails (.debugKey 0xD0B6#16 pin) s fun u =>
      u.dbgKeyArmed = true ∧ u.dbgOpen = false ∧ (.dbgKey, s.now) ∈ u.timers) ∧
    (∀ pin k, s.dbgOpen = false → s.dbgKeyArmed = true → (s.timers.find? fun p => p.1 == .dbgKey) = some (.dbgKey, k) →
      s.now ≤ k + 8000 → s.mode = .service ∨ s.mode = .update → CompletesRails (.debugKey 0x4E11#16 pin) s fun u =>
        u.dbgOpen = true ∧ u.dbgPin = pin ∧ u.engSweep = s.engSweep ∧ u.engNode = s.engNode ∧ u.engRail = s.engRail) ∧
    (∀ v pin, s.dbgOpen = true → v ≠ 0xD0B6#16 → v ≠ 0x4E11#16 → CompletesRails (.debugKey v pin) s fun u =>
      u.dbgOpen = false ∧ (u.eng e).st ≠ .halted ∧ (∀ b ∈ u.breakpoints e, b = 0) ∧ noWatch u e = true) ∧
    (s.dbgOpen = true → x.st = .running → becomes (.debugHalt e) { x with haltReq := true }) ∧
    (s.dbgOpen = true → x.st = .waiting → ¬ (e = .rail ∧ s.rail.seq.issued = true) →
      becomes (.debugHalt e) { x with st := .halted }) ∧
    (s.dbgOpen = true → x.st = .halted →
      becomes (.debugStep e) { x with st := onward, haltReq := false, stepping := true, passBp := true } ∧
      becomes (.debugResume e) { x with st := onward, haltReq := false, stepping := false, haltHeld := false }) ∧
    (s.dbgOpen = false → ∀ i ∈ [Instr.debugHalt e, .debugStep e, .debugResume e], exec i s = .next (settle (railsJudge s))) ∧
    (∀ hi : BitVec 16, s.dbgOpen = true → x.st = .halted →
      let g := s.fld (Fld.ENG_GSEL_REG e.idx)
      let lo := sparseGet s.held (s.live (Reg.ENG_G_LO e.idx)) (Reg.ENG_G_LO e.idx)
      g ≠ 0 → Completes (.engGWrite e hi) s fun t =>
        (t.eng e).get g = BitVec.ofNat 32 (lo.toNat + 65536 * hi.toNat) ∧
        (∀ r, r ≠ g → (t.eng e).get r = x.get r) ∧ t.regs = (settle s).regs)

/-! ### Registers, the host port and remote access -/

/-- For every field the register map marks WO, at every address of its series: each of its bits is 0 in what any host path
reads there, and in what an engine reads. -/
def Obligations.WriteOnlyFieldsReadZero : Prop :=
  ∀ (s : State) (p : Path) (r : MapRow) (a i : Nat), r ∈ mapRows → r.acc = .wo → inSeries r.base r.count r.stride a = true →
    r.lo ≤ i → i ≤ r.hi → (hostRead s p a).1.getLsbD i = false ∧ (s.live a).getLsbD i = false

/-- A command word passes its check just where its low byte is what a shift register of polynomial 0x2F, preset to 0xFF,
holds after bits 31 to 8, highest first. The CRC-16 of words is what a shift register of polynomial 0x1021, preset to
0xFFFF, holds after the bits of the words, each from bit 15 down; kind 1 of the crc instruction gives it from 0xFFFF over
the same bytes. Over "123456789" the two give 0x20 and 0x29B1. -/
def Obligations.HostCheckValues : Prop :=
  let shift8 (c : BitVec 8) (b : Bool) : BitVec 8 := (c <<< 1) ^^^ (if c.getLsbD 7 ^^ b then 0x2F#8 else 0)
  let shift16 (c : BitVec 16) (b : Bool) : BitVec 16 := (c <<< 1) ^^^ (if c.getLsbD 15 ^^ b then 0x1021#16 else 0)
  let digits : List Byte := [0x31, 0x32, 0x33, 0x34, 0x35, 0x36, 0x37, 0x38, 0x39]
  (∀ c : BitVec 32, cmdGood c = true ↔
    ((List.range 24).map fun i => c.getLsbD (31 - i)).foldl shift8 0xFF#8 = c.extractLsb' 0 8) ∧
  (∀ l : List Half, frameCrc l = (l.flatMap fun w => (List.range 16).map fun i => w.getLsbD (15 - i)).foldl shift16 0xFFFF#16) ∧
  (∀ l : List Half, engCheck 1 0x0000FFFF#32 (wireBytes l) = (frameCrc l).setWidth 32) ∧
  crc8Run 0xFF digits = 0x20#8 ∧ crc16Run 0xFFFF digits = 0x29B1#16

/-- A write of any register with any value completes. A write of a register whose fields act on nothing else leaves it with
each field's new value and everything else as it was, behind the writes that wait on the bus: an RW field takes a value of its
range and keeps its own before any other, a W1C bit written 1 is cleared, an RO and a WO field keep theirs, an RL field takes
one as an RW field does while its lock is open and keeps its own else, and a bit of no field keeps its value. A write of a
command register is the command the table has for its bit. Registers of others take nothing: the reserved 0x1A00 to 0x1FFF,
and the root's at another node. REGISTER_BUS_APPLY takes the oldest write off the bus and makes it; with none waiting it
changes nothing. -/
def Obligations.RegisterWritesAndBus : Prop :=
  (∀ (s : State) (a : BitVec 15) (v : BitVec 16), let i : Instr := .registerWrite a v
    let judged (u : State) : Host.Outcome State Fault Refusal := .next (settle (packCheck (railsJudge u)))
    let t := busDrain s
    (∃ t, exec i s = .next t) ∧
    (s.bus = [] → t = s) ∧
    (∀ b, s.bus = [b] → plainSpan b.addr 1 = true →
      t = settle ({ s with bus := [] }.setReg b.addr (fieldsWritten false b.addr b.value (s.reg b.addr)))) ∧
    (plainSpan a.toNat 1 = true → exec i s = judged (t.setReg a.toNat (fieldsWritten false a.toNat v (t.reg a.toNat)))) ∧
    (0x1A00 ≤ a.toNat → a.toNat ≤ 0x1FFF → exec i s = judged t) ∧
    (t.isRoot = false → 0x1200 ≤ a.toNat → a.toNat ≤ 0x13FF → exec i s = judged t) ∧
    (s.bus = [] → exec .registerBusApply s = judged s) ∧
    (∀ b rest, s.bus = b :: rest → ∃ t, exec .registerBusApply s = .next t) ∧
    (∀ b rest, s.bus = b :: rest → plainSpan b.addr 1 = true → exec .registerBusApply s =
      judged ({ s with bus := rest }.setReg b.addr (fieldsWritten false b.addr b.value (s.reg b.addr))))) ∧
  (∀ (s : State) (p : Nat × Nat × Instr), p ∈ [(Reg.ACQ_REQ, 1, Instr.acqReqMain), (Reg.ACQ_REQ, 3, .acqReqSecondary),
      (Reg.WD_CMD, 1, .wdScan), (Reg.WD_CMD, 4, .wdClear), (Reg.IMP_CMD, 1, .impPrepare), (Reg.IMP_CMD, 2, .impCommit),
      (Reg.IMP_CMD, 4, .impAbort), (Reg.BAL_CMD, 1, .balPrepare), (Reg.BAL_CMD, 2, .balCommit), (Reg.BAL_CMD, 4, .balCancel),
      (Reg.BAL_CMD, 8, .balStop), (Reg.TH_CMD, 1, .thClearMax), (Reg.TH_CMD, 2, .thClearSuspect), (Reg.CAL_CMD, 1, .calRun),
      (Reg.CAL_CMD, 4, .calAbort), (Reg.LINK_CMD, 1, .linkClearCounters), (Reg.HS_CMD, 1, .hsFlush), (Reg.HS_CMD, 2, .hsFormat),
      (Reg.HS_CMD, 4, .hsClearCounters), (Reg.HS_RD_CMD, 1, .hsLoad), (Reg.FFL_CMD, 1, .fflClear), (Reg.KEY_CMD, 1, .keyRenew),
      (Reg.TRNG_CMD, 1, .trngGen), (Reg.ATT_CMD, 1, .attGenStatement), (Reg.ATT_CMD, 3, .attGenCert)] →
    ∃ u, exec (.registerWrite (BitVec.ofNat 15 p.1) (BitVec.ofNat 16 p.2.1)) s = .next (settle (packCheck (railsJudge u))) ∧
      exec p.2.2 (busDrain s) = .next (settle u)) ∧
  (∀ (unlocked : Bool) (a : Nat) (v old : BitVec 16), let w := fieldsWritten unlocked a v old
    (∀ r ∈ mapRows, inSeries r.base r.count r.stride a = true →
      let field (x : BitVec 16) : Nat := x.toNat % 2 ^ (r.hi + 1) / 2 ^ r.lo
      let takes : Nat := if r.least ≤ field v ∧ field v ≤ r.most then field v else field old
      (r.acc = .rw → field w = takes) ∧
      (r.acc = .rl → field w = if unlocked = true then takes else field old) ∧
      (r.acc = .w1c → ∀ j, r.lo ≤ j → j ≤ r.hi → w.getLsbD j = (old.getLsbD j && !v.getLsbD j)) ∧
      (r.acc = .ro ∨ r.acc = .wo ∨ r.acc = .snap → field w = field old)) ∧
    (∀ j, j < 16 → (∀ r ∈ mapRows, inSeries r.base r.count r.stride a = true → j < r.lo ∨ r.hi < j) →
      w.getLsbD j = old.getLsbD j))

/-- A write frame with good checks writes its words to consecutive registers and is answered HSTAT with OK; a read frame is
answered HSTAT, the registers' words and their CRC-16. A command word that fails its check gets no answer and counts an
error; a wrong CRC-16 is answered DATA_CRC and words above 0x3FFF are answered ADDR, and no register changes but those of
the port. HWAIT's end answers the first frame that waits BUSY, with none of its accesses, and does nothing when none waits. A
frame cut before its command word or before its CRC-16 sets CUT, counts an error and writes nothing; one cut after its CRC-16
was checked writes its words and drives nothing. A node that sleeps takes no frame. -/
def Obligations.HostPortFrames : Prop :=
  (∀ (s : State) (cmd : BitVec 32) (words : List (BitVec 16)) (crc : BitVec 16), modeAsleep s.mode = true →
    let sleeps (i : Instr) : Prop := exec i s = .next (settle (packCheck (railsJudge s)))
    (cmdRead cmd = false → words.length = cmdCount cmd → sleeps (.hostWriteFrame cmd words crc)) ∧
    (cmdRead cmd = true → sleeps (.hostReadFrame cmd)) ∧ sleeps (.hostFrameCut none [] none)) ∧
  (∀ (s : State), s.hostWait = [] → exec .hostWaitTimeout s = .next (settle (packCheck (railsJudge s)))) ∧
  (∀ (s : State), modeAsleep s.mode = false → s.hostWait = [] →
    let count : Nat := (s.regN Reg.HIF_FRAMES + 1) % 65536
    let counted (u : State) : Prop := u.regN Reg.HIF_FRAMES = count
    let erred (u : State) : Prop := u.regN Reg.HIF_ERRS = min 65535 (s.regN Reg.HIF_ERRS + 1)
    let quiet (u : State) : Prop :=
      ∀ a, a ≠ Reg.HIF_STATUS → a ≠ Reg.HIF_FRAMES → a ≠ Reg.HIF_ERRS → u.reg a = s.reg a
    let shows (x : State) (a : Nat) : BitVec 16 := if a = Reg.HIF_FRAMES then BitVec.ofNat 16 count else x.live a
    let levels : List Nat := [Reg.IRQ_PEND, Reg.FLT_SUM, Reg.CMP_FLAG 0, Reg.CMP_FLAG 1, Reg.CMP_FLAG 2, Reg.IMP_STATUS]
    let wrote (u : State) (cmd : BitVec 32) (words : List (BitVec 16)) : Prop :=
      (∀ i v, words[i]? = some v → cmdAddr cmd + i ∉ [Reg.HIF_STATUS, Reg.HIF_FRAMES, Reg.HIF_ERRS] →
        (cmdAddr cmd + i ∈ levels → words.length = 1) →
        u.reg (cmdAddr cmd + i) = fieldsWritten false (cmdAddr cmd + i) v (s.reg (cmdAddr cmd + i))) ∧
      (∀ a, a < cmdAddr cmd ∨ cmdAddr cmd + cmdCount cmd ≤ a → a ≠ Reg.HIF_STATUS → a ≠ Reg.HIF_FRAMES → a ≠ Reg.HIF_ERRS →
        (a ∈ levels → words.length = 1) → u.reg a = s.reg a) ∧
      (∀ a ∈ levels, ∀ j, (s.reg a).getLsbD j = true → (u.reg a).getLsbD j = false →
        ∃ i v, words[i]? = some v ∧ a = cmdAddr cmd + i ∧ v.getLsbD j = true)
    (∀ cmd words crc, cmdRead cmd = false → words.length = cmdCount cmd → cmdGood cmd = true →
      plainSpan (cmdAddr cmd) (cmdCount cmd) = true → frameCrc words = crc → s.bus = [] →
      (CompletesAll (.hostWriteFrame cmd words crc) s fun u =>
        counted u ∧ u.hostAnswer = [(settle u).hstat 0] ∧ u.hostWait = [] ∧ wrote u cmd words ∧ u.mode = s.mode) ∧
      (CompletesAll (.hostFrameCut (some cmd) words (some crc)) s fun u =>
        counted u ∧ u.hostAnswer = [] ∧ u.hostWait = [] ∧ wrote u cmd words ∧ u.mode = s.mode)) ∧
    (∀ cmd, cmdRead cmd = true → cmdGood cmd = true → cmdAddr cmd + cmdCount cmd ≤ 0x2000 →
      (∀ i, i < cmdCount cmd → snapGroup (cmdAddr cmd + i) = none ∧ snapHigh (cmdAddr cmd + i) = none) →
      CompletesAll (.hostReadFrame cmd) s fun u =>
        let l := (settle u).hstat 0 :: (List.range (cmdCount cmd)).map fun i => shows s (cmdAddr cmd + i)
        counted u ∧ u.hostAnswer = l ++ [frameCrc l] ∧ u.hostWait = [] ∧ quiet u ∧ u.mode = s.mode) ∧
    (∀ cmd words crc, cmdRead cmd = false → words.length = cmdCount cmd → cmdGood cmd = false →
      ∀ i ∈ [Instr.hostWriteFrame cmd words crc, .hostFrameCut (some cmd) words (some crc)], CompletesAll i s fun u =>
        u.flag Fld.HIF_STATUS_CMD_CRC = true ∧ u.hostAnswer = [] ∧ erred u ∧ u.regN Reg.HIF_FRAMES = s.regN Reg.HIF_FRAMES ∧ quiet u) ∧
    (∀ cmd, cmdRead cmd = true → cmdGood cmd = false → CompletesAll (.hostReadFrame cmd) s fun u =>
      u.flag Fld.HIF_STATUS_CMD_CRC = true ∧ u.hostAnswer = [] ∧ erred u ∧ u.regN Reg.HIF_FRAMES = s.regN Reg.HIF_FRAMES ∧ quiet u) ∧
    (∀ cmd words crc, cmdRead cmd = false → words.length = cmdCount cmd → cmdGood cmd = true →
      cmdAddr cmd + cmdCount cmd ≤ 0x4000 → frameCrc words ≠ crc → CompletesAll (.hostWriteFrame cmd words crc) s fun u =>
        u.flag Fld.HIF_STATUS_DATA_CRC = true ∧ u.hostAnswer = [(settle u).hstat 2] ∧ counted u ∧ erred u ∧ quiet u) ∧
    (∀ cmd words crc, cmdRead cmd = false → words.length = cmdCount cmd → cmdGood cmd = true →
      0x4000 < cmdAddr cmd + cmdCount cmd → CompletesAll (.hostWriteFrame cmd words crc) s fun u =>
        u.flag Fld.HIF_STATUS_ADDR = true ∧ u.hostAnswer = [(settle u).hstat 3] ∧ counted u ∧ erred u ∧ quiet u) ∧
    (∀ cmd, cmdRead cmd = true → cmdGood cmd = true → 0x4000 < cmdAddr cmd + cmdCount cmd →
      CompletesAll (.hostReadFrame cmd) s fun u =>
        let l := (settle u).hstat 3 :: List.replicate (cmdCount cmd) 0
        u.flag Fld.HIF_STATUS_ADDR = true ∧ u.hostAnswer = l ++ [frameCrc l] ∧ counted u ∧ erred u ∧ quiet u) ∧
    (CompletesAll (.hostFrameCut none [] none) s fun u =>
      u.flag Fld.HIF_STATUS_CUT = true ∧ u.hostAnswer = [] ∧ erred u ∧ u.regN Reg.HIF_FRAMES = s.regN Reg.HIF_FRAMES ∧ quiet u) ∧
    (∀ cmd words, cmdRead cmd = false → words.length ≤ cmdCount cmd → cmdGood cmd = true →
      CompletesAll (.hostFrameCut (some cmd) words none) s fun u =>
        u.flag Fld.HIF_STATUS_CUT = true ∧ u.hostAnswer = [] ∧ erred u ∧ counted u ∧ quiet u) ∧
    (∀ f, f.path = .qspi → f.cut = false → CompletesAll .hostWaitTimeout { s with hostWait := [f] } fun u =>
      let l := (settle u).hstat 4 :: List.replicate (cmdCount f.cmd) 0
      u.flag Fld.HIF_STATUS_BUSY = true ∧ u.hostWait = [] ∧ erred u ∧ u.regN Reg.HIF_FRAMES = s.regN Reg.HIF_FRAMES ∧ quiet u ∧
      u.hostAnswer = if cmdRead f.cmd = true then l ++ [frameCrc l] else [(settle u).hstat 4]))

/-- A frame of the DBG pins outside 0x0000 to 0x00FF, 0x1400 to 0x15FF and the engine windows is answered as reserved: a
write writes nothing and a read returns zeros. Within 0x0000 to 0x00FF and 0x1400 to 0x15FF a read returns what the registers
read. A write of an odd word of the engine window writes the word that SPACE, PAGE and the address select, with the held low
half below it, and no other byte: of data memory, or of the program SRAM of an engine STOPPED or HALTED while the debug fields
are open, and not else. While a march tests either memory the write waits. -/
def Obligations.DebugPortAndEngineWindow : Prop :=
  ∀ (s : State),
    (∀ cmd words crc, modeAsleep s.mode = false → s.hostWait = [] → s.bus = [] → cmdGood cmd = true →
      let levels : List Nat := [Reg.IRQ_PEND, Reg.FLT_SUM, Reg.CMP_FLAG 0, Reg.CMP_FLAG 1, Reg.CMP_FLAG 2, Reg.IMP_STATUS]
      (0x0100 ≤ cmdAddr cmd → cmdAddr cmd + cmdCount cmd ≤ 0x1400 →
        (cmdRead cmd = false → words.length = cmdCount cmd → frameCrc words = crc → CompletesAll (.dbgFrame cmd words crc) s fun u =>
          u.dbgAnswer = [(settle u).hstat 0] ∧ u.hostAnswer = s.hostAnswer ∧
          ∀ a, a ≠ Reg.HIF_FRAMES → (a ∈ levels → words.length = 1) → u.reg a = s.reg a) ∧
        (cmdRead cmd = true → CompletesAll (.dbgFrame cmd [] crc) s fun u =>
          let l := (settle u).hstat 0 :: List.replicate (cmdCount cmd) 0
          u.dbgAnswer = l ++ [frameCrc l] ∧ ∀ a, a ≠ Reg.HIF_FRAMES → u.reg a = s.reg a)) ∧
      (cmdRead cmd = true → cmdAddr cmd + cmdCount cmd ≤ 0x0100 ∨ (0x1400 ≤ cmdAddr cmd ∧ cmdAddr cmd + cmdCount cmd ≤ 0x1600) →
        (∀ i, i < cmdCount cmd → snapGroup (cmdAddr cmd + i) = none ∧ snapHigh (cmdAddr cmd + i) = none) →
        CompletesAll (.dbgFrame cmd [] crc) s fun u =>
          let l := (settle u).hstat 0 :: (List.range (cmdCount cmd)).map fun i => s.live (cmdAddr cmd + i)
          u.dbgAnswer = l ++ [frameCrc l] ∧ u.hostAnswer = s.hostAnswer ∧ ∀ a, a ≠ Reg.HIF_FRAMES → u.reg a = s.reg a)) ∧
    (∀ (k : Fin 512) (hi : BitVec 16),
      let b := 4 * (512 * s.fld Fld.WIN_ENG_PAGE + k.val)
      let lo := sparseGet s.held 0 (0x3000 + 2 * k.val)
      let word : Word := BitVec.ofNat 32 (lo.toNat + 65536 * hi.toNat)
      (s.fld Fld.WIN_ENG_SPACE = 0 → s.st.cur ≠ some 2 → s.st.cur ≠ some 3 → Completes (.windowEngineWrite k hi) s fun t =>
        t.dbyte b = lo.extractLsb' 0 8 ∧ t.dbyte (b + 1) = lo.extractLsb' 8 8 ∧ t.dbyte (b + 2) = hi.extractLsb' 0 8 ∧
        t.dbyte (b + 3) = hi.extractLsb' 8 8 ∧ t.dataBad b 4 = false ∧ (∀ c, c < b ∨ b + 4 ≤ c → t.dbyte c = s.dbyte c) ∧
        t.regs = (settle s).regs) ∧
      (∀ e : Engine, s.fld Fld.WIN_ENG_SPACE = e.idx + 1 → s.st.cur ≠ some 2 → s.st.cur ≠ some 3 →
        Completes (.windowEngineWrite k hi) s fun t =>
          let free : Prop := s.dbgOpen = true ∧ ((s.eng e).st = .stopped ∨ (s.eng e).st = .halted)
          (∀ c, t.dbyte c = s.dbyte c) ∧ t.regs = (settle s).regs ∧
          (free → s.fld Fld.WIN_ENG_PAGE < 32 → sparseGet (t.eng e).prog 0 (b / 4) = word ∧ (b / 4) ∉ (t.eng e).badProg ∧
            ∀ i, i ≠ b / 4 → sparseGet (t.eng e).prog 0 i = sparseGet (s.eng e).prog 0 i) ∧
          (¬ free ∨ 32 ≤ s.fld Fld.WIN_ENG_PAGE → (t.eng e).prog = (s.eng e).prog)) ∧
      (s.st.cur = some 2 ∨ s.st.cur = some 3 → ∃ f : HostFrame, cmdAddr f.cmd = 0x3001 + 2 * k.val ∧ f.words = [hi] ∧
        exec (.windowEngineWrite k hi) s = .next (settle { s with hostWait := s.hostWait ++ [f] })))

/-- With no access pending, a write of node 0 writes the words to the root's own registers and a read brings its registers
to the data words, both completing with ACK. For another node that is VALID and PRESENT with a route the access is
PENDING; for one that is not it completes with ROUTE. A length of 0 or above 112 and a broadcast read complete with RANGE, a
span that reaches above 0x3FFF with ADDR. An access that has waited REM_TO sweeps completes with TIMEOUT, and REMOTE_TIMEOUT
does nothing else. Completing sets DONE and raises REMOTE. While an access is pending, and at a node that is not the root, the
two commands change nothing. -/
def Obligations.RemoteAccessByTheHost : Prop :=
  ∀ (s : State),
    let idles (i : Instr) : Prop := exec i s = .next (settle (packCheck (railsJudge s)))
    (s.isRoot = false ∨ s.fld Fld.RMT_STATUS_STATE = 1 → ∀ i ∈ [Instr.rmtRead, .rmtWrite], idles i) ∧
    (s.isRoot = false ∨ s.fld Fld.RMT_STATUS_STATE ≠ 1 ∨ s.tree.remoteRings ≠ [] ∨
      s.tree.remoteSweeps < s.fld Fld.TREE_CTL_REM_TO → exec .remoteTimeout s = .next (settle s)) ∧
    (s.isRoot = true →
      let ended (u : State) (result : Nat) : Prop := u.fld Fld.RMT_STATUS_STATE = 2 ∧ u.fld Fld.RMT_STATUS_RESULT = result ∧
        u.flag Fld.RMT_STATUS_DONE = true ∧ (u.reg Reg.IRQ_PEND).getLsbD irqRemote = true
      let ends (result : Nat) (i : Instr) : Prop := CompletesAll i s fun u => ended u result ∧ u.mode = s.mode ∧
        ∀ j, j < 112 → u.reg (Reg.RMT_D j) = s.reg (Reg.RMT_D j)
      let ready : Prop := s.fld Fld.RMT_STATUS_STATE ≠ 1 ∧ 1 ≤ s.rmtLen ∧ s.rmtLen ≤ 112
      let fits : Prop := s.rmtFirst + s.rmtLen ≤ 0x4000
      let valid (n : Nat) : Prop := eValid (s.entry n) = true ∧ ePresent (s.entry n) = true
      (ready → s.rmtBcast = false → s.rmtNode = 0 → plainSpan s.rmtFirst s.rmtLen = true →
        CompletesAll .rmtWrite s fun u => ended u 0 ∧ u.mode = s.mode ∧
          (∀ i, i < s.rmtLen → s.rmtFirst + i ≠ Reg.IRQ_PEND →
            (s.rmtFirst + i ∈ [Reg.FLT_SUM, Reg.CMP_FLAG 0, Reg.CMP_FLAG 1, Reg.CMP_FLAG 2, Reg.IMP_STATUS] → s.rmtLen = 1) →
            u.reg (s.rmtFirst + i) = fieldsWritten false (s.rmtFirst + i) (s.reg (Reg.RMT_D i)) (s.reg (s.rmtFirst + i))) ∧
          ∀ j, j < 112 → u.reg (Reg.RMT_D j) = s.reg (Reg.RMT_D j)) ∧
      (ready → s.rmtBcast = false → s.rmtNode = 0 → s.rmtFirst + s.rmtLen ≤ 0x2000 →
        (∀ i, i < s.rmtLen → snapGroup (s.rmtFirst + i) = none ∧ snapHigh (s.rmtFirst + i) = none) →
        CompletesAll .rmtRead s fun u => ended u 0 ∧ u.mode = s.mode ∧
          (∀ i, i < s.rmtLen → u.reg (Reg.RMT_D i) = s.live (s.rmtFirst + i)) ∧
          ∀ j, s.rmtLen ≤ j → j < 112 → u.reg (Reg.RMT_D j) = s.reg (Reg.RMT_D j)) ∧
      (ready → fits → s.rmtBcast = false → s.rmtNode ≠ 0 → ∀ i ∈ [Instr.rmtRead, .rmtWrite],
        (∀ r, valid s.rmtNode → s.route s.rmtNode = some r → CompletesAll i s fun u =>
          u.fld Fld.RMT_STATUS_STATE = 1 ∧ u.tree.remoteSweeps = 0 ∧ u.mode = s.mode) ∧
        (¬ valid s.rmtNode ∨ s.route s.rmtNode = none → ends 0x81 i)) ∧
      (ready → 0x4000 < s.rmtFirst + s.rmtLen → s.rmtBcast = false → ∀ i ∈ [Instr.rmtRead, .rmtWrite], ends 0x06 i) ∧
      (ready → s.rmtBcast = true → ends 0x82 .rmtRead) ∧
      (s.fld Fld.RMT_STATUS_STATE ≠ 1 → s.rmtLen = 0 ∨ 112 < s.rmtLen →
        ∀ i ∈ [Instr.rmtRead, .rmtWrite], ends 0x82 i) ∧
      (s.fld Fld.RMT_STATUS_STATE = 1 → s.tree.remoteRings = [] → s.fld Fld.TREE_CTL_REM_TO ≤ s.tree.remoteSweeps →
        Completes .remoteTimeout s fun t => ended t 0x80 ∧ t.mode = s.mode))

/-! ### Acquisition and sense wires -/

/-- While the main path measures, a value, scaled to the reference unless it is taken against the bandgap and held to the
range of its endpoint, enters that endpoint's record and no other: INSTANTS_WINDOW_CLOSE adds a window that reaches back into
no calibration slot to the sum of each simultaneous channel in service, the K-th publishing the mean; FILTER_OUTPUT gives the
channel its output and its time; AUX_SCAN_VALUE publishes the scanned input's value and moves the scan on. SEC_SLOT_COMPLETE
gives the endpoint put in for a main path under test or failed, while sweeps or a request run, or the next one of its
converter's rotation, its secondary value; SAR A's reference slot counts a reading outside or inside 3 % and publishes the
set. While the main path does not measure, or the converter is under test or reads a pulled pin, they change nothing. In
STANDBY, SELFTEST or SAFE with no sweeps scheduled and no conversion running, ACQ_REQ_MAIN takes the settings and powers the
main path up with no value fresh, and ACQ_REQ_SECONDARY starts a secondary conversion; elsewhere a request changes nothing.
MODULATOR_POWERUP_DONE starts the channels. ON_REQUEST_COMPLETE publishes the set with VALID and ON_REQUEST and counts
RES_SEQ, once every endpoint has its value. RESULT_CAPTURE keeps the set, its marks STALE and REREAD and its sequence, and
SNAP_CAPTURE the group as it reads now. -/
def Obligations.AcquisitionAndRequests : Prop :=
  (∀ (s : State),
      let taken (e : Nat) (x : Int) (p : Int → Bool → Prop) : Prop :=
        let r : Int × Int := if e < 24 then (-500000, 5200000) else if e < 30 then (-200000, 5000000)
          else if e = 31 then (0, 4300000) else if s.acq.eff.ctl.getLsbD 6 = true then (-5000000, 5000000) else (-160000, 160000)
        p (max r.1 (min r.2 x)) (decide (x < r.1 ∨ r.2 < x))
      let scaled (e : Nat) (x : Int) (p : Int → Bool → Prop) : Prop :=
        if s.acq.refFallback = true then taken e x p
        else Near (x * (4096000 + s.acq.eff.refTrim.toInt)) 4096000 fun y => taken e y p
      (∀ values : List Int, values.length = 26 → s.measuring = true → s.acq.mode = 1 →
        Completes (.instantsWindowClose values) s fun t =>
          t.regs = (settle s).regs ∧ t.mode = s.mode ∧ (∀ e, e ∉ simEps → t.chan e = s.chan e) ∧
          (∀ p ∈ simEps.zip values, let c := s.chan p.1
            let use : Prop := s.mainInService p.1 = true ∧ s.reachesSlot p.1 = false
            (¬ use → t.chan p.1 = c) ∧
            (use → c.windows + 1 < s.blockK → t.chan p.1 = { c with sum := c.sum + p.2, windows := c.windows + 1 }) ∧
            (use → s.blockK ≤ c.windows + 1 → (t.chan p.1).sum = 0 ∧ (t.chan p.1).windows = 0 ∧ (t.chan p.1).fresh = true ∧
              t.acq.lastTb % 65536 = s.acq.eff.instPh.toNat ∧ (s.tb.value + 2 ^ 48 - t.acq.lastTb) % 2 ^ 48 < 65536 ∧
              Near (c.sum + p.2) s.blockK fun m => scaled p.1 m fun v out => (t.chan p.1).value = v ∧ (t.chan p.1).clamped = out))) ∧
      (∀ (ep : Fin 32) (x : Int), s.measuring = true → s.acq.mode = 2 → epIsAux ep = false → s.mainInService ep = true → s.fedLast ep = false →
        Completes (.filterOutput ep x) s fun t =>
          let delay : Nat := [3088000, 1272000, 636800, 318400, 132000, 66160, 33040, 9840].getD s.corner 0
          let back : Nat := (s.tb.total + 2 ^ 80 - delay * tbIncrement s.tb.period) % 2 ^ 80
          (scaled ep x fun v out => (t.chan ep).value = v ∧ (t.chan ep).clamped = out) ∧ (t.chan ep).fresh = true ∧
          (back + 2 ^ 31 + 2 ^ 80 - t.acq.lastTb * 2 ^ 32) % 2 ^ 80 ≤ 2 ^ 32 ∧
          (∀ e, e ≠ ep.val → t.chan e = s.chan e) ∧ t.regs = (settle s).regs ∧ t.mode = s.mode) ∧
      (∀ x : Int, s.measuring = true → s.acq.auxInput < 6 → s.acq.eff.auxEn.getLsbD s.acq.auxInput = true →
        s.mainInService (24 + s.acq.auxInput) = true → s.fedLast (24 + s.acq.auxInput) = false → Completes (.auxScanValue x) s fun t => let i := 24 + s.acq.auxInput
          (scaled i x fun v out => (t.chan i).value = v ∧ (t.chan i).clamped = out) ∧
          (t.chan i).fresh = true ∧ t.acq.auxInput = s.nextAux s.acq.auxInput ∧
          (∀ e, e ≠ i → t.chan e = s.chan e) ∧ t.regs = (settle s).regs ∧ t.mode = s.mode) ∧
      (s.measuring = false → ∀ (values : List Int) (ep : Fin 32) (x : Int), values.length = 26 →
        ∀ i ∈ [Instr.instantsWindowClose values, .filterOutput ep x, .auxScanValue x], exec i s = .next (settle s)) ∧
      (∀ (b : Bool) (x : Int),
        (s.sarTest b = true ∨ s.pullUses b = true → ∀ i, exec (.secSlotComplete b i x) s = .next (settle s)) ∧
        (s.sarTest b = false → s.pullUses b = false →
          let enters (e : Nat) (t : State) : Prop := (∀ d, d ≠ e → t.secChan d = s.secChan d) ∧ (∀ d, t.chan d = s.chan d) ∧
            t.regs = (settle s).regs ∧ taken e x fun v out => (t.secChan e).value = v ∧ (t.secChan e).clamped = out ∧
              (t.secChan e).sincePub = true ∧ (t.secChan e).sinceLatch = true
          let slot : Nat := if b = true then s.acq.slotB else s.acq.slotA
          let turn : Nat := (sarEps b).getD slot 0
          let moved (t : State) : Prop := if b = true then t.acq.slotB = (slot + 1) % 16 ∧ t.acq.slotA = s.acq.slotA
            else t.acq.slotA = slot + 1 ∧ t.acq.slotB = s.acq.slotB
          (∀ e : Fin 32, s.acq.sched = true ∨ s.acq.req ≠ .idle → s.secServed e = true → sarOf e = b → Completes (.secSlotComplete b (some e) x) s (enters e)) ∧
          (∀ e : Fin 32, (s.acq.sched = false ∧ s.acq.req = .idle) ∨ s.secServed e = false ∨ sarOf e ≠ b → exec (.secSlotComplete b (some e) x) s = .next (settle s)) ∧
          (s.acq.sched = true → s.acq.reqSec = false → slot < 16 →
            (s.epUnused turn = false → Completes (.secSlotComplete b none x) s fun t => enters turn t ∧ moved t) ∧
            (s.epUnused turn = true → Completes (.secSlotComplete b none x) s fun t => (∀ d, t.secChan d = s.secChan d) ∧ t.regs = (settle s).regs ∧ moved t)) ∧
          (s.acq.sched = true → s.acq.reqSec = false → b = false → slot = 16 → Completes (.secSlotComplete b none x) s fun t =>
            let ref : Int := 4096000 + s.acq.eff.refTrim.toInt
            t.acq.slotA = 0 ∧ t.flag Fld.SEC_STATUS_VALID = true ∧
            t.regN Reg.SEC_SEQ = (s.regN Reg.SEC_SEQ + 1) % 65536 ∧
            (3 * ref < 100 * (x - ref).natAbs → t.acq.refBad = s.acq.refBad + 1 ∧ t.acq.refGood = 0) ∧
            (100 * (x - ref).natAbs ≤ 3 * ref → t.acq.refBad = 0 ∧ t.acq.refGood = s.acq.refGood + 1)) ∧
          (s.acq.sched = false → s.acq.reqSec = false → exec (.secSlotComplete b none x) s = .next (settle s)) ∧
          (∀ e, s.acq.sched = false → s.acq.reqSec = true → s.acq.sarATest = false → s.acq.sarBTest = false →
            s.reqSecNext b = some e → Completes (.secSlotComplete b none x) s fun t =>
              (t.acq.reqSec = true → enters e t ∧ (t.secChan e).onReq = true) ∧
              (t.acq.reqSec = false → t.flag Fld.SEC_STATUS_VALID = true ∧
                t.regN Reg.SEC_SEQ = (s.regN Reg.SEC_SEQ + 1) % 65536)))) ) ∧
  (∀ (s : State),
      let accepted : Prop := (s.mode = .standby ∨ s.mode = .selftest ∨ s.mode = .safe) ∧ s.scheduled = false ∧
        s.acq.req = .idle ∧ s.acq.reqSec = false
      let has (e : Nat) : Prop := s.epUnused e = true ∨ s.epCal e = true ∨
        (if s.secServed e = true then (s.secChan e).forReq = true else (s.chan e).forReq = true)
      (accepted → Completes .acqReqMain s fun t =>
        t.acq.req = .powering ∧ t.acq.powered = true ∧ t.acq.reqByNode = false ∧ t.acq.eff = s.acqWanted ∧ t.mode = s.mode ∧
        (s.mode = .safe → t.acq.mode = 2 ∧ t.acq.safeForced = true) ∧
        ∀ e, e < 32 → (t.chan e).fresh = false ∧ (t.chan e).forReq = false ∧ (t.secChan e).forReq = false) ∧
      (accepted → Completes .acqReqSecondary s fun t =>
        t.acq.reqSec = true ∧ t.acq.req = .idle ∧ t.acq.eff = s.acqWanted ∧ t.mode = s.mode ∧
        (∀ e, e < 32 → (t.secChan e).onReq = false) ∧ t.acq.powered = s.acq.powered) ∧
      (¬ accepted → exec .acqReqMain s = .next (settle s) ∧ exec .acqReqSecondary s = .next (settle s)) ∧
      (s.acq.req = .powering → Completes .modulatorPowerupDone s fun t =>
        t.acq.req = .measuring ∧ (∀ e, e < 32 → (t.chan e).sum = 0 ∧ (t.chan e).windows = 0 ∧ (t.chan e).since = s.now) ∧
        t.acq.auxInput = s.firstAux ∧ t.regs = (settle s).regs) ∧
      (s.acq.req ≠ .powering → exec .modulatorPowerupDone s = .next (settle s)) ∧
      (s.acq.req = .measuring → (∀ e, e < 32 → has e) → Completes .onRequestComplete s fun t =>
        t.acq.req = .idle ∧ t.flag Fld.RES_STATUS_VALID = true ∧ t.flag Fld.RES_STATUS_ON_REQUEST = true ∧
        t.regN Reg.RES_SEQ = (s.regN Reg.RES_SEQ + 1) % 65536 ∧ t.mode = s.mode ∧
        (s.scheduled = false → s.acq.test = [] → t.acq.powered = false) ∧
        ∀ e, e < 32 → s.epUnused e = false → s.epCal e = false → s.pullHold e = none → s.secServed e = false →
          -8388608 ≤ (s.chan e).value → (s.chan e).value < 8388608 → t.mainValue e = (s.chan e).value) ∧
      (s.acq.req ≠ .measuring ∨ (∃ e, e < 32 ∧ ¬ has e) → exec .onRequestComplete s = .next (settle s)) ∧
      (∀ (p : Path) (sec : Bool), Completes (.resultCapture p sec) s fun t =>
        let base : Nat := if sec = true then 0x0650 else 0x0600
        let stale : Bool := if sec = true then s.acq.reqSec || s.acq.sarATest || s.acq.sarBTest else s.acq.req != .idle
        let reread : Bool := (s.reg (base + 1)).getLsbD 0 && s.lastSeq p sec == some (s.regN base)
        t.lastSeq p sec = some (s.regN (if sec = true then Reg.SEC_SEQ else Reg.RES_SEQ)) ∧ t.regs = (settle s).regs ∧
        (∀ k, k < 80 → k ≠ 1 → t.snap p (base + k) = s.live (base + k)) ∧
        (sec = true → (Fld.SEC_STATUS_SARA_TEST.read (t.snap p (base + 1)) = 1 ↔ s.acq.sarATest = true) ∧
          (Fld.SEC_STATUS_SARB_TEST.read (t.snap p (base + 1)) = 1 ↔ s.acq.sarBTest = true)) ∧
        (t.snap p (base + 1)).getLsbD 0 = (s.reg (base + 1)).getLsbD 0 ∧
        (t.snap p (base + 1)).getLsbD 1 = ((s.reg (base + 1)).getLsbD 1 || stale) ∧
        (t.snap p (base + 1)).getLsbD 2 = ((s.reg (base + 1)).getLsbD 2 || reread)) ∧
      (∀ (p : Path) (a : BitVec 15),
        (∀ base n, snapGroup a.toNat = some (base, n) → base ≠ 0x0600 → base ≠ 0x0650 →
          Completes (.snapCapture p a) s fun t =>
            (∀ k, k < n → t.snap p (base + k) = s.live (base + k)) ∧ t.regs = (settle s).regs) ∧
        (a = 0x0600#15 → exec (.snapCapture p a) s = exec (.resultCapture p false) s) ∧
        (a = 0x0650#15 → exec (.snapCapture p a) s = exec (.resultCapture p true) s) ∧
        (snapGroup a.toNat = none → exec (.snapCapture p a) s = .next (settle s))))

/-- At a node with a block, a scan while none runs queues every pin C0 to CN, and a test of a pin the node has joins the queue
once; a scan that runs is not started again, and at a node without one neither does anything. CLEAR empties the queue, makes
every pin CLEAR and lets a running test end after its step 5. The period's end requests a scan, and its write starts the count
again. The pin at the head of the queue that may start begins: BUSY, its number in CUR_PIN. The baselines hold the affected
cells at the values a latch in this tick would give them and switch the pull on; after the pull time the readings give the pin
OPEN, HIGH_R or CLEAR by twice the shift against the thresholds; recovery ends the test, and the affected cells are held until
the next latch. Each step only follows its own. -/
def Obligations.WireDiagnostics : Prop :=
  (∀ (s : State),
      let full : List (Nat × Bool) := (List.range (s.cells + 1)).map (fun j => (j, true))
      (s.blockless = false → s.wd.scan = false → Completes .wdScan s fun t =>
        t.wd.scan = true ∧ t.wd.queue = full ∧ t.mode = s.mode ∧ t.wd.phase = s.wd.phase ∧ t.regs = (settle s).regs) ∧
      (s.wd.scan = true ∨ s.blockless = true → exec .wdScan s = .next (settle s)) ∧
      (∀ pin : BitVec 5, s.blockless = false → pin.toNat ≤ s.cells → (∀ p ∈ s.wd.queue, p.1 ≠ pin.toNat) →
        Completes (.wdPinTest pin) s fun t => t.wd.queue = s.wd.queue ++ [(pin.toNat, false)] ∧ t.wd.scan = s.wd.scan ∧
          t.regs = (settle s).regs ∧ t.mode = s.mode) ∧
      (∀ pin : BitVec 5, s.cells < pin.toNat ∨ s.blockless = true ∨ (∃ p ∈ s.wd.queue, p.1 = pin.toNat) →
        exec (.wdPinTest pin) s = .next (settle s)) ∧
      (s.wd.phase = .idle → Completes .wdClear s fun t =>
        t.wd.queue = [] ∧ t.wd.scan = false ∧ (∀ j, j < 25 → t.pinState j = pinClear) ∧ t.flag Fld.WD_STATUS_SUM_FAIL = false ∧
        t.flag Fld.WD_STATUS_SEC_SUM_FAIL = false ∧ t.wd.sumBad = 0 ∧ t.wd.secBad = 0 ∧ t.mode = s.mode ∧
        (∀ e, e < s.cells → sparseGet t.wd.base 0 e = s.mainValue e)) ∧
      (s.wd.phase ≠ .idle → Completes .wdClear s fun t => t.wd.abort = true ∧ t.wd.queue = [] ∧ t.wd.phase = s.wd.phase ∧
        t.wd.pin = s.wd.pin ∧ (∀ j, j < 25 → t.pinState j = pinClear) ∧ t.mode = s.mode) ∧
      (∀ v : BitVec 16, Completes (.wdPeriodWrite v) s fun t => t.running .wdPeriod = true ∧ t.wd = s.wd ∧ t.mode = s.mode ∧
        t.reg Reg.WD_PERIOD = fieldsWritten false Reg.WD_PERIOD v (s.reg Reg.WD_PERIOD)) ∧
      (s.regN Reg.WD_PERIOD ≠ 0 → s.running .wdPeriod = true → s.blockless = false → s.wd.scan = false →
        Completes .wdPeriodElapsed s fun t => t.wd.scan = true ∧ t.running .wdPeriod = false ∧ t.wd.queue = full ∧
          t.regs = (settle s).regs ∧ t.mode = s.mode) ∧
      (s.regN Reg.WD_PERIOD = 0 ∨ s.running .wdPeriod = false → exec .wdPeriodElapsed s = .next (settle s))) ∧
  (∀ (s : State),
      let idles (i : Instr) : Prop := exec i s = .next (settle s)
      (∀ (j : Nat) (inScan : Bool) (rest : List (Nat × Bool)), s.wd.phase = .idle → s.wd.queue = (j, inScan) :: rest → j < 25 →
        (s.pinMayStart j = true → Completes .pinTestStart s fun t =>
          t.wd.phase = .baseline ∧ t.wd.pin = j ∧ t.wd.pinInScan = inScan ∧ t.wd.queue = rest.filter (·.1 != j) ∧
          t.flag Fld.WD_STATUS_BUSY = true ∧ t.fld Fld.WD_STATUS_CUR_PIN = j ∧ t.mode = s.mode) ∧
        (s.pinMayStart j = false → idles .pinTestStart)) ∧
      (s.wd.phase ≠ .idle ∨ s.wd.queue = [] → idles .pinTestStart) ∧
      (∀ v1 v2 : Int, s.wd.phase = .baseline → Completes (.pinTestBaselineDone v1 v2) s fun t =>
        t.wd.phase = .pulling ∧ t.wd.b1 = v1 ∧ t.wd.b2 = v2 ∧ t.wd.pin = s.wd.pin ∧ t.mode = s.mode ∧
        (∀ e ∈ pinCells s.cells s.wd.pin, t.pullHold e =
          some ((s.pullHold e).getD (s.latchEp e (s.acq.req == .measuring)).1)) ∧
        ∀ e, e ∉ pinCells s.cells s.wd.pin → t.pullHold e = s.pullHold e) ∧
      (s.wd.phase = .pulling → exec .pullTimeElapsed s = .next (settle { s with wd := { s.wd with phase := .reading } })) ∧
      (∀ v1 v2 : Int, s.wd.phase = .reading → s.wd.pin < 25 → Completes (.pinTestReadingsDone v1 v2) s fun t =>
        let twice : Int := if s.wd.pin = 0 ∨ s.wd.pin = s.cells then 2 * (s.wd.b1 - v1) else (s.wd.b1 - v1) + (v2 - s.wd.b2)
        t.wd.phase = .recovery ∧ t.mode = s.mode ∧
        (Near twice 200 fun x => -32768 ≤ x → x ≤ 32767 → (t.reg (Reg.WD_SHIFT s.wd.pin)).toInt = x) ∧
        (∀ j, j < 25 → j ≠ s.wd.pin → t.pinState j = s.pinState j) ∧
        t.pinState s.wd.pin = (if 20000 * (s.fld Fld.WD_PULL_OPEN_THR : Int) ≤ twice then 2
          else if 20000 * (s.fld Fld.WD_PULL_HIGHR_THR : Int) ≤ twice then 3 else 0)) ∧
      (s.wd.phase = .recovery → Completes .pinTestRecoveryEnd s fun t =>
        t.wd.phase = .idle ∧ t.flag Fld.WD_STATUS_BUSY = false ∧ (∀ p ∈ t.wd.hold, p.2.2 = true) ∧ t.wd.abort = false ∧
        (s.wd.abort = true → t.flag Fld.WD_STATUS_ABORTED = true ∧ ∀ j, j < 25 → t.pinState j = pinClear) ∧
        (s.wd.abort = false → (∀ j, j < 25 → t.pinState j = s.pinState j) ∧
          (s.wd.queue = [] → t.flag Fld.WD_STATUS_DONE = true) ∧
          (s.wd.queue = [] → s.wd.scan = true → s.wd.pinInScan = true → t.wd.scan = false ∧
            t.regN Reg.WD_SCANS = (s.regN Reg.WD_SCANS + 1) % 65536))) ∧
      (s.wd.phase ≠ .baseline → ∀ v1 v2, idles (.pinTestBaselineDone v1 v2)) ∧
      (s.wd.phase ≠ .pulling → idles .pullTimeElapsed) ∧
      (s.wd.phase ≠ .reading → ∀ v1 v2, idles (.pinTestReadingsDone v1 v2)) ∧
      (s.wd.phase ≠ .recovery → idles .pinTestRecoveryEnd))

/-! ### Impedance spectroscopy and charge-transfer balancing -/

/-- A plan in range, long enough in its rounds, with a cell to excite, in ACTIVE or BALANCE, or once DONE is set before the
node leaves SPECTRUM, and with none running, is staged: STATE is PREPARED, PREP_ERR 0 and NEED shows its duration; otherwise
PREP_ERR is the first cause that applies and the stage stays.
COMMIT of a prepared plan whose start has not passed clears its records, counts PLAN_SEQ and makes STATE RUNNING; a late
one leaves it PREPARED with PREP_ERR 5, and of nothing prepared it does nothing. ABORT leaves no plan, and ABORTED where round
0 had begun. -/
def Obligations.ImpedancePlanCommands : Prop :=
  ∀ (s : State),
    let takes : Prop := s.mode = .active ∨ s.mode = .balance ∨ (s.mode = .spectrum ∧ s.imp.ended = true)
    let refused (code : Nat) : Prop := Completes .impPrepare s fun t => t.fld Fld.IMP_STATUS_PREP_ERR = code ∧
      t.imp.plan = s.imp.plan ∧ t.fld Fld.IMP_STATUS_STATE = s.fld Fld.IMP_STATUS_STATE ∧ t.mode = s.mode
    (s.impRegs.inRange = true → roundLongEnough s.impRegs.round s.tb.period s.impRegs.need = true →
      takes → s.impState ≠ impRunning → s.impRegs.mask % 2 ^ s.cells ≠ 0 →
      Completes .impPrepare s fun t =>
        t.fld Fld.IMP_STATUS_STATE = 1 ∧ t.fld Fld.IMP_STATUS_PREP_ERR = 0 ∧ t.imp.plan = some s.impRegs ∧
        t.pair Reg.IMP_NEED_LO Reg.IMP_NEED_HI = s.impRegs.need % 2 ^ 32 ∧ t.mode = s.mode) ∧
    (s.impRegs.inRange = true → roundLongEnough s.impRegs.round s.tb.period s.impRegs.need = true →
      (¬ takes ∨ s.impState = impRunning → refused 3) ∧
      (takes → s.impState ≠ impRunning → s.impRegs.mask % 2 ^ s.cells = 0 → refused 4)) ∧
    (s.impRegs.inRange = false → refused 1) ∧
    (s.impRegs.inRange = true → roundLongEnough s.impRegs.round s.tb.period s.impRegs.need = false → refused 2) ∧
    (s.imp.plan = none → exec .impCommit s = .next (settle s) ∧ exec .impAbort s = .next (settle s)) ∧
    (s.impState ≠ impPrepared → exec .impCommit s = .next (settle s)) ∧
    (∀ p : ImpPlan, s.imp.plan = some p → s.impState = impPrepared → s.tb.value ≤ p.start * 65536 →
      Completes .impCommit s fun t =>
        t.fld Fld.IMP_STATUS_STATE = 2 ∧ t.fld Fld.IMP_STATUS_PREP_ERR = 0 ∧ t.flag Fld.IMP_STATUS_DONE = false ∧
        t.flag Fld.IMP_STATUS_ABORTED = false ∧ t.imp.records = [] ∧ t.imp.next = 0 ∧ t.imp.plan = some p ∧
        t.regN Reg.IMP_PLAN_SEQ = (s.regN Reg.IMP_PLAN_SEQ + 1) % 65536) ∧
    (∀ p : ImpPlan, s.imp.plan = some p → s.impState = impPrepared → p.start * 65536 < s.tb.value →
      Completes .impCommit s fun t =>
        t.fld Fld.IMP_STATUS_STATE = 1 ∧ t.fld Fld.IMP_STATUS_PREP_ERR = 5 ∧ t.imp.plan = some p) ∧
    (∀ p : ImpPlan, s.imp.plan = some p → Completes .impAbort s fun t =>
      t.imp.plan = none ∧ t.imp.corr = [] ∧ t.imp.inRound = false ∧ t.fld Fld.IMP_STATUS_STATE = 0 ∧
      (s.imp.begun = true → s.impState = impRunning → t.flag Fld.IMP_STATUS_ABORTED = true ∧ t.imp.leaving = true))

/-- With a plan RUNNING, the tick in which the timebase reaches START + r × ROUND begins round r: it excites cell 6n + q + 1
of each group n that is active and in the mask, in this node's slot, and the first round enters SPECTRUM and ends the
balance plan. After NS cycles V0 is taken, every accumulator is 0 and the integration runs. A slot adds to each excited cell
short of its slots the clipped voltage and the current, each times the cosine and the sine weight. After NI cycles each
cell's record is written whole: status, cycles, sequence, frequency and Z; the next point follows, and the last one ends.
The end of a round marks what is unfinished CUT, and after the last round STATE is IDLE with DONE. Outside its own stage each
of these commands changes nothing. How a slot's current
follows from the net currents of its PWM periods is opaque (log entry 155); that EN excites no cell while 0, and what
stands for FAULT, are the model's (log entry 154). -/
def Obligations.ImpedanceRounds : Prop :=
  (∀ (s : State), let none' : Prop := s.imp.plan = none
    (none' ∨ s.imp.inRound = true ∨ s.impState ≠ impRunning → exec .impRoundStart s = .next (settle s)) ∧
    (∀ p, s.imp.plan = some p → s.roundDue p = false → exec .impRoundStart s = .next (settle s)) ∧
    (∀ v0 : List Int, v0.length = 4 → none' ∨ s.imp.inPoint = false ∨ s.imp.integrating = true →
      exec (.impSettleEnd v0) s = .next (settle s)) ∧
    (∀ (sums : List Int) (outputs unit : Nat), sums.length = 4 → 0 < outputs * unit →
      none' ∨ s.imp.inPoint = false ∨ s.imp.integrating = false → Completes (.impSlot sums outputs unit) s fun t =>
        t.imp = (settle s).imp ∧ t.regs = (settle s).regs ∧ t.mode = s.mode) ∧
    (none' ∨ s.imp.inPoint = false ∨ s.imp.integrating = false → exec .impPointEnd s = .next (settle s)) ∧
    (none' ∨ s.imp.inRound = false → exec .impRoundEnd s = .next (settle s))) ∧
  ∀ (s : State) (p : ImpPlan), s.imp.plan = some p →
    let r := s.imp.next
    let due := (p.start + r * p.round) * 65536
    let excites (n : Nat) : Option Nat :=
      let k := 6 * n + r / p.slotCount
      if r % p.slotCount = p.slot ∧ k < s.cells ∧ p.mask.testBit k = true ∧ s.flag Fld.BAL_CTL_EN = true then some k else none
    let i := s.imp.point
    let S := p.s i
    let done (c : Corr) (l : List Corr) : Prop := c.cell < s.cells ∧ ∀ d ∈ l, d.cell ≠ c.cell
    (s.impState = impRunning → s.imp.inRound = false → r < 6 * p.slotCount → s.tb.prevValue < due → due ≤ s.tb.value →
      s.mode = .active ∨ s.mode = .balance ∨ s.mode = .spectrum → (s.mode = .spectrum ↔ r ≠ 0) →
      Completes .impRoundStart s fun t =>
        t.mode = .spectrum ∧ t.imp.plan = some p ∧ t.imp.inRound = true ∧ t.imp.begun = true ∧ t.imp.next = r ∧
        t.imp.corr.map (·.cell) = [0, 1, 2, 3].filterMap excites ∧ t.imp.inPoint = !t.imp.corr.isEmpty ∧
        t.imp.integrating = false ∧ t.imp.point = 0 ∧ t.fld Fld.IMP_PROGRESS_ROUND = r ∧ t.fld Fld.IMP_PROGRESS_POINT = 0 ∧
        (∀ c ∈ t.imp.corr, c.stop = t.startStatus c.cell ∧ c.slots = 0) ∧ (r = 0 → t.bal.running = none)) ∧
    (∀ v0 : List Int, v0.length = 4 → s.imp.inPoint = true → s.imp.integrating = false → p.ns * 2 ^ 32 ≤ s.imp.phase →
      Completes (.impSettleEnd v0) s fun t =>
        t.imp.integrating = true ∧ t.imp.corr.length = s.imp.corr.length ∧ t.regs = (settle s).regs ∧ t.mode = s.mode ∧
        ∀ (k : Nat) (c : Corr), s.imp.corr[k]? = some c → ∃ d, t.imp.corr[k]? = some d ∧
          (d.v0 = v0.getD (c.cell / 6) 0 ∧ d.vi = 0 ∧ d.vq = 0 ∧ d.ii = 0 ∧ d.iq = 0 ∧ d.slots = 0 ∧ d.clip = false ∧
            d.cell = c.cell ∧ d.stop = c.stop)) ∧
    (∀ (sums : List Int) (outputs unit : Nat), sums.length = 4 → 0 < outputs * unit → s.imp.inPoint = true →
      s.imp.integrating = true → Completes (.impSlot sums outputs unit) s fun t =>
        let block := (s.imp.corr.map fun c => c.blockQ).sum
        t.imp.corr.length = s.imp.corr.length ∧ t.regs = (settle s).regs ∧ t.imp.slotTicks = 0 ∧ t.imp.plan = some p ∧
        ∀ (k : Nat) (c : Corr), s.imp.corr[k]? = some c → ∃ d, t.imp.corr[k]? = some d ∧
          (d.cell = c.cell ∧ d.stop = c.stop ∧ d.v0 = c.v0 ∧
          (c.stop ≠ 0 ∨ p.ni i * S ≤ c.slots → d.vi = c.vi ∧ d.vq = c.vq ∧ d.ii = c.ii ∧ d.iq = c.iq ∧ d.slots = c.slots) ∧
          (s.imp.slotTicks ≠ 0 → Near (800 * (c.cellQ - block)) s.imp.slotTicks fun x => d.before = x) ∧
          (c.stop = 0 → c.slots < p.ni i * S → d.slots = c.slots + 1 ∧
            let cur := Config.slotCurrent s.imp.fw s.bal.period c.before d.before
            let cw := cosWeight S (c.slots % S)
            let sw := sinWeight S (c.slots % S)
            d.ii = c.ii + cur * cw ∧ d.iq = c.iq + cur * sw ∧
            Near (sums.getD (c.cell / 6) 0) (outputs * unit : Nat) fun m =>
              let v := max (-65535) (min 65535 (m - c.v0))
              d.vi = c.vi + v * cw ∧ d.vq = c.vq + v * sw ∧ d.clip = (c.clip || decide (v ≠ m - c.v0))))) ∧
    (s.imp.inPoint = true → s.imp.integrating = true → (p.ns + p.ni i) * 2 ^ 32 ≤ s.imp.phase → i < 32 →
      (∀ c ∈ s.imp.corr, c.stop ≠ 0 ∨ c.slots = p.ni i * S) → Completes .impPointEnd s fun t =>
        t.imp.point = i + 1 ∧ t.imp.integrating = false ∧ t.imp.inPoint = decide (i + 1 < p.npts) ∧ t.imp.plan = some p ∧
        t.imp.inRound = s.imp.inRound ∧ t.mode = s.mode ∧
        ∀ l c m, s.imp.corr = l ++ c :: m → done c m →
          let b := t.impRecord c.cell i
          let d := c.ii * c.ii + c.iq * c.iq
          let part (num : Int) (off : Nat) : Prop := Near num d fun z =>
            -2147483648 ≤ z → z ≤ 2147483647 → leAt b off 4 = (BitVec.ofInt 32 z).toNat
          let hz := p.fw i * 2500000000000
          leAt b 0 1 / 128 = s.imp.freerun.toNat ∧ leAt b 1 1 = c.slots / S % 256 ∧ leAt b 2 2 = s.regN Reg.IMP_PLAN_SEQ ∧
          (leAt b 4 4 = (hz + 2 ^ 31) / 2 ^ 32 % 2 ^ 32 ∨ (hz % 2 ^ 32 = 2 ^ 31 ∧ leAt b 4 4 = hz / 2 ^ 32 % 2 ^ 32)) ∧
          (c.stop ≠ 0 → c.stop < 16 → leAt b 0 1 % 128 = c.stop) ∧
          (c.stop = 0 → leAt b 0 1 % 128 = (if c.clip then 1 else if lowSignal p c then 8 else 0)) ∧
          (c.stop = 0 → d ≠ 0 → part (10000000 * (c.vi * c.ii + c.vq * c.iq)) 8 ∧
            part (10000000 * (c.vi * c.iq - c.vq * c.ii)) 12)) ∧
    (s.imp.inRound = true → i < 32 → p.npts ≤ 32 → Completes .impRoundEnd s fun t =>
      t.imp.next = r + 1 ∧ t.imp.inRound = false ∧ t.imp.inPoint = false ∧ t.imp.corr = [] ∧ t.mode = s.mode ∧
      (s.imp.inPoint = true → t.flag Fld.IMP_STATUS_CUT = true ∧ ∀ l c m, s.imp.corr = l ++ c :: m → done c m →
        ∀ j, j < p.npts → i ≤ j → leAt (t.impRecord c.cell j) 0 1 % 128 = 2) ∧
      (r + 1 < 6 * p.slotCount → t.imp.plan = some p ∧ t.fld Fld.IMP_STATUS_STATE = s.fld Fld.IMP_STATUS_STATE) ∧
      (6 * p.slotCount ≤ r + 1 → t.imp.plan = none ∧ t.flag Fld.IMP_STATUS_DONE = true ∧ t.fld Fld.IMP_STATUS_STATE = 0))

/-- A plan whose setpoints and directions are allowed, in ACTIVE or BALANCE with EN set and no group it uses locked out,
is staged and drops the shadow, unless a chain transaction holds a stage, which gives PLAN_ERR 6; a refused plan gives the
first cause of the table in PLAN_ERR and leaves stage and running plan. COMMIT arms a prepared stage for the next sweep and
does nothing to another, CANCEL empties a stage, and STOP, EN = 0 and a timeout let the running plan end with its period. -/
def Obligations.BalancePlanCommands : Prop :=
  ∀ (s : State),
    let dir (k : Nat) : Nat := spDir (s.planRegs.sp.getD k 0)
    let inRange : Prop := ∀ k, k < 24 → spSet (s.planRegs.sp.getD k 0) ≤ s.fld Fld.BAL_IMAX_IMAX ∧ dir k ≠ 3 ∧
      (dir k ≠ 0 → k < s.cells)
    let mayRun : Prop := (s.mode = .active ∨ s.mode = .balance) ∧ s.flag Fld.BAL_CTL_EN = true
    let unlocked : Prop := ∀ k, k < 24 → dir k ≠ 0 → s.locked (k / 6) = false
    let asks : Prop := ∃ k, k < 24 ∧ dir k ≠ 0
    let refused (code : Nat) : Prop := Completes .balPrepare s fun t =>
      t.fld Fld.BAL_STATUS_PLAN_ERR = code ∧ t.bal.staged = s.bal.staged ∧ t.bal.running = s.bal.running ∧
      t.fld Fld.BAL_STATUS_STAGE = s.fld Fld.BAL_STATUS_STAGE ∧ t.mode = s.mode
    (BalancePlanAllowed s → s.balStage = stageNone ∨ s.chainHolds = false → Completes .balPrepare s fun t =>
      t.fld Fld.BAL_STATUS_STAGE = 1 ∧ t.fld Fld.BAL_STATUS_PLAN_ERR = 0 ∧ t.bal.staged = some s.planRegs ∧
      t.bal.shadow = none ∧ t.flag Fld.BAL_STATUS_SHADOW = false ∧ t.bal.running = s.bal.running ∧ t.mode = s.mode) ∧
    (¬ inRange → refused 1) ∧ (inRange → ¬ mayRun → refused 2) ∧ (inRange → mayRun → ¬ unlocked → refused 3) ∧
    (inRange → mayRun → ¬ asks → refused 4) ∧
    (BalancePlanAllowed s → s.balStage ≠ stageNone → s.chainHolds = true → refused 6) ∧
    (s.balStage = stagePrepared → Completes .balCommit s fun t =>
      t.fld Fld.BAL_STATUS_STAGE = 2 ∧ t.regN Reg.BAL_ACT = (s.regN Reg.SWEEP_NUM + 1) % 65536 ∧ t.bal = s.bal ∧
      t.mode = s.mode) ∧
    (s.balStage ≠ stagePrepared → exec .balCommit s = .next (settle s)) ∧
    (s.balStage ≠ stageNone → Completes .balCancel s fun t =>
      t.fld Fld.BAL_STATUS_STAGE = 0 ∧ t.bal.staged = none ∧ t.flag Fld.BAL_STATUS_CANCELLED = true ∧
      sparseGet t.txn none 1 = none ∧ t.bal.running = s.bal.running ∧ t.mode = s.mode) ∧
    (s.balStage = stageNone → exec .balCancel s = .next (settle s)) ∧
    (s.bal.running.isSome = true →
      exec .balStop s = .next (settle { s with bal := { s.bal with stopping := true } }) ∧
      (s.running .balPlan = true → Completes .balPlanTimeout s fun t =>
        t.bal.stopping = true ∧ t.running .balPlan = false ∧ t.regs = (settle s).regs ∧ t.bal.running = s.bal.running)) ∧
    (s.bal.running = none → exec .balStop s = .next (settle s)) ∧
    (s.running .balPlan = false → exec .balPlanTimeout s = .next (settle s)) ∧
    (Completes .balEnClear s fun t => t.flag Fld.BAL_CTL_EN = false ∧ t.imp.plan = none ∧
      t.bal.running = s.bal.running ∧ t.mode = s.mode ∧ (s.bal.running.isSome = true → t.bal.stopping = true))

/-- A period that starts has the length in force, and the interval of ACHIEVED grows by the one that ended. The steps at the
edges of a channel's oldest ended pulse give its charge, which enters the channel's counters and no other's; a budget reached
makes the channel DONE, and a plan that was stopped ends. A crossing of the threshold outside the blanking, in either direction,
or one that outlasts the blanking, switches the outputs of its group off at once, counts a trip, starts the hold time and locks
the group out at TRIP_MAX trips; within the blanking the balancer goes on. In the last period of the hold time the group is
released to run in the next. GROUP_CLEAR ends the lockout and clears the trips. The charge of a pulse from its steps is DEDUCED
(log entry 153). -/
def Obligations.BalancePeriodsAndTrips : Prop :=
  ∀ (s : State),
    let turns : Int := s.fld Fld.BAL_XFMR_TURNS
    let rsns : Int := s.regN Reg.BAL_RSNS
    (∀ (k : Fin 24) (a b : Int) (p : BalPulse) (rest : List BalPulse), (s.balChan k).pulses = p :: rest → p.fall ≤ s.now →
      Completes (.pwmPeriodStart [(k, a, b)]) s fun t =>
        let on : Int := (p.fall - p.rise : Nat)
        let energy : Int := 500000 * s.regN Reg.BAL_LMAG * turns * turns * (b * b - a * a)
        let counts (q : Int) : Prop := (t.balChan k).q = (s.balChan k).q + q ∧ (t.balChan k).moved = (s.balChan k).moved + q
        (p.b2c = true → Near energy (64 * rsns * rsns * max 1 (s.mainValue k)) counts) ∧
        (p.b2c = false → Near (5 * (a + b) * turns * on) (64 * rsns) fun q => counts (-q)) ∧
        (∀ j, j < 24 → j ≠ k.val → (t.balChan j).q = (s.balChan j).q ∧ (t.balChan j).moved = (s.balChan j).moved)) ∧
    (∀ steps, Completes (.pwmPeriodStart steps) s fun t =>
      t.bal.period = s.bal.nextPeriod ∧ t.bal.interval = s.bal.interval + s.bal.period ∧ t.bal.start = s.now ∧ t.mode = s.mode ∧
      (∀ n : Fin 4, (t.balGrp n).hold = (s.balGrp n).hold - 1 ∧ (t.balGrp n).off = (s.balGrp n).off ∧
        (t.balGrp n).trips = ((s.balGrp n).trips.map (· + 1)).filter (· < 256)) ∧
      (∀ k p, k < 24 → s.bal.running = some p → spDir (p.sp.getD k 0) ≠ 0 → p.bud.getD k 0 ≠ 0 →
        ((t.balChan k).reached = true ↔
          (s.balChan k).reached = true ∨ (p.bud.getD k 0).toNat * 1000000000 ≤ (t.balChan k).q.natAbs)) ∧
      (s.bal.running.isSome = true → s.bal.stopping = true → t.bal.running = none ∧ t.bal.stopping = false ∧
        t.flag Fld.BAL_STATUS_RUN = false ∧ t.flag Fld.BAL_STATUS_DONE = true)) ∧
    (∀ n : Fin 4, s.isInService n = true → s.monRuns n = true → ∀ i, i ∈ [Instr.isBlankEnd n true, .isTrip n true, .isTrip n false] →
      i = .isBlankEnd n true ∨ (∀ k, k / 6 = n.val → ∀ p ∈ (s.balChan k).pulses,
        s.now < p.rise ∨ p.rise + s.fld (Fld.MON_CTL_BLANK n) ≤ s.now) → Completes i s fun t =>
        (t.balGrp n).off = true ∧ (t.balGrp n).hold = s.fld Fld.BAL_TRIP_HOLD ∧ (t.balGrp n).trips = 0 :: (s.balGrp n).trips ∧
        t.flag Fld.BAL_STATUS_TRIP = true ∧ t.fld (Fld.BAL_GRP_TRIPS n) = min 255 (s.fld (Fld.BAL_GRP_TRIPS n) + 1) ∧
        (s.fld Fld.BAL_TRIP_TRIP_MAX ≤ (s.balGrp n).trips.length + 1 → t.locked n = true) ∧
        ((s.balGrp n).trips.length + 1 < s.fld Fld.BAL_TRIP_TRIP_MAX → t.locked n = s.locked n) ∧
        (∀ k, k / 6 = n.val → (t.balChan k).joined = false ∧ (t.balChan k).tripped = true ∧ (t.balChan k).q = (s.balChan k).q ∧
          ∀ p ∈ (t.balChan k).pulses, p.rise < s.now ∧ p.fall ≤ s.now) ∧
        (∀ k, k / 6 ≠ n.val → t.balChan k = s.balChan k) ∧ (∀ m : Fin 4, m ≠ n → t.balGrp m = s.balGrp m)) ∧
    (∀ (n : Fin 4) (above : Bool) (k : Nat), k / 6 = n.val → (∃ p ∈ (s.balChan k).pulses, p.rise ≤ s.now ∧
      s.now < p.rise + s.fld (Fld.MON_CTL_BLANK n)) → Completes (.isTrip n above) s fun t =>
        t.bal = s.bal ∧ t.imp.corr = s.imp.corr ∧ t.regs = (settle s).regs) ∧
    (∀ n : Fin 4, exec (.isBlankEnd n false) s = .next (settle s)) ∧
    (∀ n : Fin 4, (s.balGrp n).off = true → (s.balGrp n).hold ≤ 1 → Completes (.tripHoldEnd n) s fun t =>
      (t.balGrp n).off = false ∧ (t.balGrp n).hold = 0 ∧ (t.balGrp n).trips = (s.balGrp n).trips ∧
      t.bal.chans = s.bal.chans ∧ (∀ m : Fin 4, m ≠ n → t.balGrp m = s.balGrp m) ∧ t.regs = (settle s).regs) ∧
    (∀ n : Fin 4, (s.balGrp n).off = false ∨ 1 < (s.balGrp n).hold → exec (.tripHoldEnd n) s = .next (settle s)) ∧
    (∀ n : Fin 4, Completes (.groupClear n) s fun t =>
      t.locked n = false ∧ t.fld (Fld.BAL_GRP_TRIPS n) = 0 ∧ (t.balGrp n).trips = [] ∧
      (∀ m : Fin 4, m ≠ n → t.locked m = s.locked m ∧ t.balGrp m = s.balGrp m) ∧ t.bal.running = s.bal.running)

/-! ### Transactions over the chain -/

/-- A command whose tag is good: PREPARE of a transaction whose stage the node does not hold does what the host's own command
of the subsystem does, and where it is not refused the stage is held with its transaction and expiry; a repeat is answered
again, that of a profile switch once its pages are loaded. COMMIT for a later sweep records the activation sweep and commits
the subsystem, a SPECTRUM plan at once; one that is too late discards the stage. CANCEL and CLOSE leave no stage; ROLLBACK
marks an active stage and aborts a SPECTRUM plan. A transaction the node does not hold gives NO_TXN. STATUS needs no tag.
Each is answered with its result and the stage that results. A bad tag is answered AUTH and changes no stage.
START at an idle root with a subsystem named begins the prepare phase with a new transaction number, its targets, the
present sweep, the expiry and what TXN_CTL names (that later writes of TXN_CTL do not change it is the model's choice, log
entry 170); ABANDON before any COMMIT ends it with the outcome CANCELLED; else both change nothing. A stage
past its expiry sweep without a COMMIT is discarded, and a committed one stays. -/
def Obligations.Transactions : Prop :=
  (∀ (s : State) (f : Frame) (sub id act : Nat),
      let ok := (checkTag s f).1 = .good
      let later := 1 ≤ (act + 65536 - s.sweepNum) % 65536 ∧ (act + 65536 - s.sweepNum) % 65536 ≤ 32767
      let stage : Option TxnStage := s.txnStage sub
      let other : Prop := ∀ x, stage = some x → x.id ≠ id ∨ x.active = true
      let answered (t : State) (op : Nat) (res : Byte) : Prop := Responds s t (txnAnswerHead op sub id res (t.stageCode sub))
      let opened : TxnStage := { id := id, expiry := act }
      (∀ p ∈ [(1, Instr.balPrepare, Fld.BAL_STATUS_PLAN_ERR, Fld.BAL_STATUS_STAGE),
          (2, .impPrepare, Fld.IMP_STATUS_PREP_ERR, Fld.IMP_STATUS_STATE),
          (3, .rgrpPrepare, Fld.RGRP_STATUS_RGRP_ERR, Fld.RGRP_STATUS_STAGE)],
        sub = p.1 → TxnFrame f 1 sub id act → ok → other → (sub = 1 → s.chainHolds = false ∨ s.balStage = 0) →
        ∃ u, exec p.2.1 s = .next u ∧ Completes (.txnPrepare f) s fun t =>
          t.fld p.2.2.1 = u.fld p.2.2.1 ∧ t.fld p.2.2.2 = u.fld p.2.2.2 ∧ t.bal.staged = u.bal.staged ∧ t.imp.plan = u.imp.plan ∧
          t.rail.group.mask = u.rail.group.mask ∧ t.mode = s.mode ∧
          (u.fld p.2.2.1 = 0 → t.txnStage sub = some opened ∧ answered t 1 0 ∧ (sub = 1 → t.regN Reg.BAL_TXN = id % 65536)) ∧
          (u.fld p.2.2.1 ≠ 0 → answered t 1 1 ∧
            t.txnStage sub = (match stage with | some x => if x.active then none else some x | none => none))) ∧
      (sub = 1 → TxnFrame f 1 sub id act → ok → other → BalancePlanAllowed s → Completes (.txnPrepare f) s fun t =>
        t.txnStage 1 = some opened ∧ t.fld Fld.BAL_STATUS_STAGE = 1 ∧ t.bal.staged = some s.planRegs ∧ answered t 1 0) ∧
      (sub = 4 → TxnFrame f 1 sub id act → ok → other →
        let err := s.profError (s.regN Reg.PROF_CMD % 16)
        Completes (.txnPrepare f) s fun t => t.fld Fld.PROF_STATUS_PROF_ERR = err ∧ t.fld Fld.PROF_STATUS_ACTIVE = s.fld Fld.PROF_STATUS_ACTIVE ∧
          (err = 0 → t.txnStage 4 = some opened ∧ t.fld Fld.PROF_STATUS_STAGE = 1 ∧ t.link.responses = s.link.responses) ∧
          (err ≠ 0 → answered t 1 1)) ∧
      (∀ x, TxnFrame f 1 sub id act → ok → stage = some x → x.id = id → x.active = false →
        Completes (.txnPrepare f) s fun t => t.txn = s.txn ∧ t.bal = s.bal ∧ t.imp.plan = s.imp.plan ∧
          (sub ≠ 4 ∨ s.profStaged = true → answered t 1 0) ∧
          (sub = 4 → s.profStaged = false → t.link.responses = s.link.responses)) ∧
      (∀ e, TxnFrame f 2 sub id act → ok → sub ≠ 2 → stage = some { id := id, expiry := e } →
        (later → Completes (.txnCommit f) s fun t =>
          t.txnStage sub = some { id := id, expiry := e, act := some act } ∧ answered t 2 0 ∧ t.mode = s.mode ∧
          (sub = 1 → t.fld Fld.BAL_STATUS_STAGE = 2 ∧ t.regN Reg.BAL_ACT = act) ∧
          (sub = 3 → s.fld Fld.RGRP_STATUS_STAGE = 1 → t.fld Fld.RGRP_STATUS_STAGE = 2)) ∧
        (¬ later → Completes (.txnCommit f) s fun t => t.txnStage sub = none ∧ answered t 2 2 ∧ t.mode = s.mode ∧
          (sub = 1 → t.fld Fld.BAL_STATUS_STAGE = 0 ∧ t.fld Fld.BAL_STATUS_PLAN_ERR = 5) ∧
          (sub = 3 → t.fld Fld.RGRP_STATUS_RGRP_ERR = 5) ∧ (sub = 4 → t.fld Fld.PROF_STATUS_PROF_ERR = 6 ∧ t.sw = none))) ∧
      (∀ e p, TxnFrame f 2 2 id act → ok → sub = 2 → stage = some { id := id, expiry := e } → s.imp.plan = some p →
        s.impState = impPrepared → Completes (.txnCommit f) s fun t =>
          (s.tb.value ≤ p.start * 65536 → t.fld Fld.IMP_STATUS_STATE = 2 ∧ answered t 2 0 ∧
            t.txnStage 2 = some { id := id, expiry := e, act := some act }) ∧
          (p.start * 65536 < s.tb.value → t.txnStage 2 = none ∧ answered t 2 2 ∧ t.imp.plan = none)) ∧
      (∀ x, TxnFrame f 3 sub id act → ok → stage = some x → x.id = id → x.active = false →
        Completes (.txnCancel f) s fun t => t.txnStage sub = none ∧ answered t 3 0 ∧ t.mode = s.mode ∧
          (sub = 1 → t.bal.staged = none ∧ t.flag Fld.BAL_STATUS_CANCELLED = true) ∧ (sub = 2 → t.imp.plan = none)) ∧
      (∀ x, TxnFrame f 4 sub id act → ok → stage = some x → x.id = id → sub = 2 ∨ x.active = true →
        Completes (.txnRollback f) s fun t => answered t 4 0 ∧ t.mode = s.mode ∧ t.bal = s.bal ∧
          (sub ≠ 2 → t.txnStage sub = some { x with rollback := true }) ∧ (sub = 2 → t.txnStage 2 = none ∧ t.imp.plan = none)) ∧
      (∀ x, TxnFrame f 5 sub id act → ok → stage = some x → x.id = id →
        Completes (.txnClose f) s fun t => t.txnStage sub = none ∧ answered t 5 0 ∧ t.mode = s.mode ∧
          (sub = 1 → t.bal.shadow = none ∧ t.bal.running = s.bal.running)) ∧
      (∀ p ∈ [(Instr.txnCommit f, 2), (.txnCancel f, 3), (.txnRollback f, 4), (.txnClose f, 5)],
        TxnFrame f p.2 sub id act → ok → (∀ x, stage = some x → x.id ≠ id) →
        Completes p.1 s fun t => t.txn = s.txn ∧ t.bal = s.bal ∧ t.regs = (settle s).regs ∧ answered t p.2 3) ∧
      (TxnFrame f 6 sub id act → Completes (.txnStatus f) s fun t => t.txn = s.txn ∧ t.regs = (settle s).regs ∧
        Responds s t (txnAnswerHead 6 sub id (if stage.any (fun x => x.id == id) then 0 else 3) (s.stageCode sub))) ∧
      (∀ p ∈ [(Instr.txnPrepare f, 1), (.txnCommit f, 2), (.txnCancel f, 3), (.txnRollback f, 4), (.txnClose f, 5)],
        TxnFrame f p.2 sub id act → (checkTag s f).1 = .bad →
        Completes p.1 s fun t => t.txn = s.txn ∧ t.bal = s.bal ∧ t.imp.plan = s.imp.plan ∧ t.rail = s.rail ∧
          t.regN Reg.AUTH_FAIL = min 65535 (s.regN Reg.AUTH_FAIL + 1) ∧
          Responds s t (txnAnswerHead p.2 sub id 4 (s.stageCode sub)))) ∧
  (∀ (s : State),
      let sub := s.fld Fld.TXN_CTL_SUBSYS
      (s.isRoot = true → s.txnPhase = 0 → 1 ≤ sub → sub ≤ 4 →
        let expiry := (s.regN Reg.SWEEP_NUM + s.fld Fld.TXN_CTL_PTO + s.fld Fld.TXN_CTL_LEAD) % 65536
        Completes .txnStart s fun t => t.txnPhase = 1 ∧ t.regN Reg.TXN_ID = (s.regN Reg.TXN_ID + 1) % 65536 ∧
          t.rootTxn.target = s.txnScope ∧ t.rootTxn.first = s.regN Reg.SWEEP_NUM ∧ t.rootTxn.expiry = expiry ∧
          t.rootTxn.committed = false ∧ t.rootTxn.sub = sub ∧ t.rootTxn.best = s.flag Fld.TXN_CTL_SEM ∧ t.regN Reg.TXN_N_TARGET = s.txnScope.length % 65536 ∧
          (0 ∉ s.txnScope → t.rootTxn.answered = [] ∧ t.txn = s.txn)) ∧
      (s.isRoot = false ∨ s.txnPhase ≠ 0 ∨ sub = 0 ∨ 4 < sub → exec .txnStart s = .next (settle s)) ∧
      (s.txnPhase = 1 → s.rootTxn.committed = false → s.rootTxn.rollbackSent = false → Completes .txnAbandon s fun t =>
          t.txnPhase = 0 ∧ t.fld Fld.TXN_STATUS_OUTCOME = 3 ∧ t.flag Fld.TXN_STATUS_DONE = true) ∧
      (s.txnPhase ≠ 1 ∨ s.rootTxn.committed = true → exec .txnAbandon s = .next (settle s)) ∧
      (Completes .txnStageExpire s fun t => ∀ sub x, 1 ≤ sub → sub ≤ 4 → s.txnStage sub = some x →
        (x.act = none → x.active = false → sweepAfter x.expiry s.sweepNum = false → t.txnStage sub = none ∧
          (sub = 1 → t.flag Fld.BAL_STATUS_EXPIRED = true ∧ t.bal.staged = none)) ∧
        (x.act ≠ none ∨ x.active = true ∨ sweepAfter x.expiry s.sweepNum = true → t.txnStage sub = some x)))

/-! ### The timebase, compare units, pulse generators, window monitors -/

/-- Edges count only for a node whose source is PHASE_IN, of the polarity of EDGE and between levels of 4 ticks and more. In
LOCKED an interval within PULL of the period is accepted and its phase error enters TB_ERR and the loop; an error above 8
times LOCK_THR sends the node to ACQUIRE. Another interval is rejected with REF_BAD, and where the last four agree among
themselves ACQUIRE starts at a period among them. In FREE and HOLDOVER the second accepted interval starts ACQUIRE, and in
ACQUIRE the sixteenth edge in a row within LOCK_THR is LOCKED. MISS misses in LOCKED or ACQUIRE are HOLDOVER. A SYNC Milestone
without LAT_VALID moves nothing; with it, an error that fits enters the loop, and one of half a cycle or more loads the
timebase; a hub that heads its own domain captures DOM_OFS and follows it not. A write of TB_NOM_HI applies both halves where
the value lies in its range, in FREE also to the period. The root's tree time takes both halves when TREE_TIME_HI is written
and its second starts again; elsewhere nothing happens. A second adds one. A head sends a SYNC Milestone with its timebase
once for each cycle whose count is a multiple of 2^MSP. The loop is proportional and integral with the bandwidth of BW, its
damping opaque (log entry 21). -/
def Obligations.TheTimebase : Prop :=
  (∀ (s : State),
      let pi : Prop := s.tbSource = 1
      let taken (x : PhaseEdge) : Prop := x.falling = s.flag Fld.TB_CTL_EDGE ∧ 4 ≤ x.before ∧ 4 ≤ x.after
      let e := s.phaseError
      let thr := s.regN Reg.TB_LOCK_THR
      let bw := s.fld Fld.TB_CTL_BW
      let damping : Int := (Config.loopDamping bw % 65536 + 1 : Nat)
      let integ : Int := s.tb.integ + s.tb.period * e * 39478417604 * damping / (4 * 65536 * 256 * 4 ^ bw * 1000000000)
      let prop : Int := s.tb.period * e * 6283185307 / (16 * 2 ^ bw * 1000000000)
      let looped : Nat := (clamp 25600 128000000 ((integ + prop + 32768) / 65536)).toNat
      (∀ x : PhaseEdge, ¬ pi ∨ ¬ taken x → exec (.phaseInEdge x) s = .next (settle s)) ∧
      (∀ x : PhaseEdge, pi → taken x → x.interval = none → exec (.phaseInEdge x) s =
        .next (settle { s with tb := { s.tb with lastInterval := none } })) ∧
      (∀ x n, pi → taken x → x.interval = some n → s.tbState = tbLocked → withinPull s.pull s.tb.period (16 * n) = true →
        Completes (.phaseInEdge x) s fun t =>
          t.reg Reg.TB_ERR = half (clamp (-32767) 32767 e) ∧ t.tb.missCount = 0 ∧ t.tb.lastInterval = some n ∧
          t.tb.rejected = [] ∧ t.tb.value = s.tb.value ∧ t.tb.period = looped ∧
          (e.natAbs ≤ 8 * thr → t.tbState = tbLocked ∧ t.tb.integ = integ) ∧
          (8 * thr < e.natAbs → t.tbState = tbAcquire ∧ t.flag Fld.TB_STATUS_LOCK_LOST = true ∧
            t.tb.integ = looped * 65536)) ∧
      (∀ x n, pi → taken x → x.interval = some n → s.tbState = tbLocked → withinPull s.pull s.tb.period (16 * n) = false →
        let run := (n :: s.tb.rejected).take 4
        let agree : Prop := run.Pairwise fun a b => withinPull s.pull b a = true
        Completes (.phaseInEdge x) s fun t => t.flag Fld.TB_STATUS_REF_BAD = true ∧ t.tb.value = s.tb.value ∧
          (s.tb.rejected.length < 3 ∨ ¬ agree → t.tbState = tbLocked ∧ t.tb.rejected = run ∧
            t.tb.missCount = s.tb.missCount + 1 ∧ t.tb.period = s.tb.period) ∧
          (3 ≤ s.tb.rejected.length → agree → t.tbState = tbAcquire ∧
            run.any (fun m => decide (16 * m ≤ t.tb.period)) = true ∧ run.any (fun m => decide (t.tb.period ≤ 16 * m)) = true)) ∧
      (∀ x m n, pi → taken x → x.interval = some n → s.freeRunning = true → s.tb.lastInterval = some m → 1600 ≤ n → n ≤ 8000000 →
        withinPull s.pull m n = true → Completes (.phaseInEdge x) s fun t => t.tb.value = s.tb.value ∧
          (s.tb.goodIntervals = 0 → t.tbState = s.tbState ∧ t.tb.goodIntervals = 1 ∧ t.tb.period = s.tb.period) ∧
          (1 ≤ s.tb.goodIntervals → t.tbState = tbAcquire ∧ t.tb.acqCount = 0 ∧ 16 * min m n ≤ t.tb.period ∧
            t.tb.period ≤ 16 * max m n)) ∧
      (∀ x m n, pi → taken x → x.interval = some n → s.tbState ≠ tbLocked → s.tb.lastInterval = some m →
        n < 1600 ∨ 8000000 < n ∨ withinPull s.pull m n = false → Completes (.phaseInEdge x) s fun t =>
          t.flag Fld.TB_STATUS_REF_BAD = true ∧ t.tbState = s.tbState ∧ t.tb.missCount = s.tb.missCount + 1) ∧
      (∀ x m n, pi → taken x → x.interval = some n → s.tbState = tbAcquire → s.tb.lastInterval = some m → 1600 ≤ n → n ≤ 8000000 →
        withinPull s.pull m n = true → s.tb.acqCount ≠ 1 ∨ e.natAbs ≤ thr → Completes (.phaseInEdge x) s fun t =>
          t.reg Reg.TB_ERR = half (clamp (-32767) 32767 e) ∧ t.tb.value = s.tb.value ∧ t.tb.period = looped ∧
          (thr < e.natAbs ∨ s.tb.okCount < 15 → t.tbState = tbAcquire) ∧
          (e.natAbs ≤ thr → 15 ≤ s.tb.okCount → t.tbState = tbLocked ∧ t.fld Fld.MS_STATUS_MISSED = 0)) ∧
      (s.tbState = tbLocked ∨ s.tbState = tbAcquire → s.fld Fld.TB_CTL_MISS ≤ s.tb.missCount → Completes .tbMissHoldover s fun t =>
        t.tbState = tbHoldover ∧ t.flag Fld.TB_STATUS_LOCK_LOST = true ∧ t.tb.period = s.tb.period ∧ t.tb.value = s.tb.value) ∧
      (s.tbState = tbFree ∨ s.tbState = tbHoldover ∨ s.tb.missCount < s.fld Fld.TB_CTL_MISS →
        exec .tbMissHoldover s = .next (settle s)) ∧
      (Completes .expectedEdgeMissed s fun t => t.tb.missCount = s.tb.missCount + 1 ∧ t.tb.okCount = 0 ∧ t.tbState = s.tbState ∧
        (s.tbSource = 2 → t.fld Fld.MS_STATUS_MISSED = min 255 (s.fld Fld.MS_STATUS_MISSED + 1)) ∧
        (s.tbSource ≠ 2 → t.regs = (settle s).regs)) ∧
      (∀ (frac : Fin 16) (l : Bool) (carried : BitVec 48), s.linkOn = true →
        let sum := (carried.toNat + s.msLatPh) % 2 ^ 48
        let err : Int := (BitVec.ofNat 48 (s.tbStamp frac % 2 ^ 48 + 2 ^ 48 - sum)).toInt
        let i := Instr.milestoneReceive frac l carried
        let ownDomain := s.isHub && s.tb.localDom
        (ownDomain = false → s.tbSource ≠ 2 ∨ s.flag Fld.MS_STATUS_LAT_VALID = false →
          exec i s = .next (settle (s.setFlag Fld.MS_STATUS_LOCAL_DOM l))) ∧
        (ownDomain = true → s.tbSource ≠ 2 → Completes i s fun t => t.triple (Reg.DOM_OFS 0) = (err % 2 ^ 48).toNat ∧
          t.flag Fld.MS_STATUS_LOCAL_DOM = l ∧ t.tb = s.tb) ∧
        (s.tbSource = 2 → s.flag Fld.MS_STATUS_LAT_VALID = true → s.tbState = tbLocked → Completes i s fun t =>
            t.reg Reg.TB_ERR = half (clamp (-32767) 32767 (clamp (-32768) 32767 err)) ∧ t.tb.missCount = 0 ∧
            (err.natAbs ≤ 8 * thr → err.natAbs < 32768 → t.tbState = tbLocked) ∧
            (8 * thr < err.natAbs → err.natAbs < 32768 → t.tbState = tbAcquire ∧ t.flag Fld.TB_STATUS_LOCK_LOST = true) ∧
            (err.natAbs < 32768 → t.tb.value = s.tb.value) ∧
            (32768 ≤ err.natAbs → t.tb.value = sum ∧ t.flag Fld.TB_STATUS_LOAD = true)) ∧
        (s.tbSource = 2 → s.flag Fld.MS_STATUS_LAT_VALID = true → s.freeRunning = true → Completes i s fun t =>
            t.tbState = tbAcquire ∧ (err.natAbs < 32768 → t.tb.value = s.tb.value) ∧ (32768 ≤ err.natAbs → t.tb.value = sum)))) ∧
  (∀ (s : State),
      (∀ hi : BitVec 16,
        let n := (sparseGet s.held (s.reg Reg.TB_NOM_LO) Reg.TB_NOM_LO).toNat + 65536 * (hi.toNat % 2048)
        Completes (.tbNomWrite hi) s fun t =>
          (25600 ≤ n → n ≤ 128000000 → t.tbNom = n ∧ (s.tbState = tbFree → t.tb.period = n) ∧
            (s.tbState ≠ tbFree → t.tb.period = s.tb.period)) ∧
          (n < 25600 ∨ 128000000 < n → t.tbNom = s.tbNom ∧ t.tb = s.tb) ∧ t.tb.value = s.tb.value) ∧
      (∀ hi : BitVec 16,
        (s.isRoot = true → Completes (.treeTimeSet hi) s fun t =>
          t.treeTime = (sparseGet s.held (s.reg Reg.TREE_TIME_LO) Reg.TREE_TIME_LO).toNat + 65536 * hi.toNat ∧
          (.treeSecond, s.now) ∈ t.timers) ∧
        (s.isRoot = false → exec (.treeTimeSet hi) s = .next (settle s))) ∧
      (Completes .treeSecond s fun t => t.treeTime = (s.treeTime + 1) % 2 ^ 32 ∧ (.treeSecond, s.now) ∈ t.timers ∧ t.tb = s.tb) ∧
      (∀ ring : RingId, s.heads ring.idx = true → s.linkOn = true →
        let cycle := s.tb.cycle.toNat / 2 ^ s.fld Fld.MS_CTL_MSP * 2 ^ s.fld Fld.MS_CTL_MSP
        ((s.ring ring.idx).syncAt ≠ some cycle → (∀ p ∈ [2 * ring.idx, 2 * ring.idx + 1], s.portOn p = true ∧ s.dir p ≠ 0) →
          Completes (.syncMilestoneIssue ring) s fun t => ∃ f : Frame,
            t.sent = s.sent ++ (if s.inHalves ring.idx then [2 * ring.idx, 2 * ring.idx + 1] else [2 * ring.idx]).map
              (fun p => { port := p, bytes := sealFrame f (s.epoch ring.idx) }) ∧ f.type = tyMilestone ∧
            f.dst = bcastDst ∧ f.src = BitVec.ofNat 13 s.nodeNum ∧ f.payload = s.milestone 1 0 s.treeHubs s.treeTime ∧
            t.tb = s.tb ∧ (t.ring ring.idx).syncAt = some cycle) ∧
        ((s.ring ring.idx).syncAt = some cycle → exec (.syncMilestoneIssue ring) s = .next (settle s))))

/-- A write of a unit's target word takes effect for the next tick. A write of its last word arms an enabled ABS unit with all
three words, late where the target is not after the present value, and arms no other. A control write with EN = 0 disarms the
unit. A unit fires in the tick in which the timebase crosses its target: it sets its flag, and the overrun flag where it was
set; an ABS unit disarms, a late one says so; EVT fires the unit's line at each engine and IRQ raises COMPARE; else nothing
happens. At its cycle's start a generator takes its registers, and outside quiet windows places its pulse on ticks, carrying
the remainders, and pulses that have not ended run on to their falling edges: in the PHASE domain across the wrap where FALL
lies below RISE and none where they are equal, in the TICK domain no later than the period's end. -/
def Obligations.CompareUnitsAndGenerators : Prop :=
  ∀ (s : State),
    (∀ (u : Fin 8) (v : BitVec 16), Completes (.cmpTargetWrite u v) s fun t =>
      t.reg (Reg.CMP_T0 u) = v ∧ t.tb.armed = s.tb.armed ∧ t.tb.target = s.tb.target ∧
      (s.cmpEn u = true → s.cmpAbs u = false → t.tb.done.getLsbD u = true)) ∧
    (∀ (u : Fin 8) (v : BitVec 16), Completes (.cmpAbsArm u v) s fun t =>
      let target := s.regN (Reg.CMP_T0 u) + 65536 * s.regN (Reg.CMP_T1 u) + 4294967296 * v.toNat
      t.reg (Reg.CMP_T2 u) = v ∧
      (s.cmpEn u = true → s.cmpAbs u = true → t.tb.armed.getLsbD u = true ∧ (sparseGet t.tb.target 0 u).toNat = target ∧
        t.tb.late.getLsbD u = decide (target ≤ s.tb.value) ∧ t.tb.done.getLsbD u = true) ∧
      (s.cmpEn u = false ∨ s.cmpAbs u = false → t.tb = s.tb)) ∧
    (∀ (u : Fin 8) (v : BitVec 16), Completes (.cmpCtlWrite u v) s fun t =>
      t.cmpEn u = v.getLsbD 0 ∧ t.cmpAbs u = v.getLsbD 1 ∧
      (v.getLsbD 0 = false ∨ v.getLsbD 1 ≠ s.cmpAbs u → t.tb.armed.getLsbD u = false) ∧
      (v.getLsbD 0 = true → v.getLsbD 1 = false → s.cmpEn u = false ∨ s.cmpAbs u = true → t.tb.done.getLsbD u = true)) ∧
    (∀ u : Fin 8,
      let t0 := s.regN (Reg.CMP_T0 u)
      let prev := s.tb.prevValue
      let ahead := (t0 + 65536 - prev % 65536) % 65536
      let crosses : Prop := (if ahead = 0 then 65536 else ahead) ≤ (s.tb.value + 2 ^ 48 - prev) % 2 ^ 48
      let target := (sparseGet s.tb.target 0 u).toNat
      let fires : Prop := s.cmpEn u = true ∧ s.tb.done.getLsbD u = false ∧ (s.cmpAbs u = false → crosses) ∧
        (s.cmpAbs u = true → s.tb.armed.getLsbD u = true ∧
          (s.tb.late.getLsbD u = true ∨ (prev < target ∧ target ≤ s.tb.value)))
      (fires → Completes (.compareFire u) s fun t =>
        (t.reg Reg.CMP_FLAGS).getLsbD u = true ∧ t.tb.done.getLsbD u = true ∧
        ((s.reg Reg.CMP_FLAGS).getLsbD u = true → (t.reg Reg.CMP_OVR).getLsbD u = true) ∧
        (s.cmpAbs u = true → t.tb.armed.getLsbD u = false ∧
          (s.tb.late.getLsbD u = true → (t.reg Reg.CMP_FLAGS).getLsbD (8 + u) = true)) ∧
        (s.flag (Fld.CMP_CTL_IRQ u) = true → (t.reg Reg.IRQ_PEND).getLsbD irqCmp = true) ∧
        (s.flag (Fld.CMP_CTL_EVT u) = true → ∀ e, (t.eng e).latch.getLsbD u = true)) ∧
      (¬ fires → exec (.compareFire u) s = .next (settle s))) ∧
    (∀ n : Fin 4, Completes (.pgCycleStart n) s fun t =>
      let ctl := s.reg (Reg.PG_CTL n)
      let rise := (s.reg (Reg.PG_RISE n)).toNat
      let fall := (s.reg (Reg.PG_FALL n)).toNat
      let clear : Prop := s.acq.qw.on = false ∧ s.acq.qwOld.on = false
      let back : Int := s.tb.acc.toNat * s.tb.period / 4294967296
      let r : Int := rise * s.tb.period - back + (s.gen n).riseRem
      let f : Int := (if fall < rise then fall + 65536 else fall : Nat) * s.tb.period - back + (s.gen n).fallRem
      let rt : Nat := rise * 65536 + (s.gen n).riseRem
      let ft : Nat := fall * 65536 + (s.gen n).fallRem
      let per := (s.reg (Reg.PG_PER n)).toNat
      (t.gen n).ctl = ctl ∧ (t.gen n).rise = s.reg (Reg.PG_RISE n) ∧ (t.gen n).fall = s.reg (Reg.PG_FALL n) ∧
      (t.gen n).per = s.reg (Reg.PG_PER n) ∧ (t.gen n).tail = s.genPulses (s.gen n) ∧
      (genEn ctl = false ∨ genTrig ctl = true → (t.gen n).pulse = none) ∧
      (genEn ctl = true → genTrig ctl = false → genTickDomain ctl = false →
        (rise = fall → (t.gen n).pulse = none) ∧
        (rise ≠ fall → clear → (t.gen n).pulse = some (s.now + r / 1048576, s.now + f / 1048576) ∧
          (t.gen n).riseRem = (r % 1048576).toNat ∧ (t.gen n).fallRem = (f % 1048576).toNat)) ∧
      (genEn ctl = true → genTrig ctl = false → genTickDomain ctl = true → clear →
        (t.gen n).pulse = some (s.now + min ((rt / 1048576 : Nat) : Int) per, s.now + min ((ft / 1048576 : Nat) : Int) per) ∧
        (t.gen n).riseRem = rt % 1048576 ∧ (t.gen n).fallRem = ft % 1048576))

/-- A settled comparator follows the table of R184; its first evaluation is its power-up and sets the reported state too. A
reported change comes once the comparator has differed for FILT + 1 ticks, not before, and sets the bits of the state,
CMP_FLAG where it is beyond, and MONITOR where IRQ is 1. In sampled operation a decision that differs from the reported state
is reported once SCOUNT samples agree. A threshold is written only where the window stays wide enough. In WATCH a monitor with
IRQ = 1 that goes beyond starts the node. -/
def Obligations.WindowMonitors : Prop :=
  ∀ (s : State),
    (∀ m : Fin 41, s.monActive m = true → s.monSettled m = true → s.monSampled m = false →
      let since := sparseGet s.mon.since 0 m
      let filt := s.fld (Fld.MON_CTL_FILT m)
      (s.monReported m = s.monComp m ∨ s.now < since + filt + 1 → exec (.monitorStateChange m) s = .next (settle s)) ∧
      (s.monReported m ≠ s.monComp m → since + filt + 1 ≤ s.now → CompletesRails (.monitorStateChange m) s fun u =>
        u.monReported m = s.monComp m ∧ (s.monComp m ≠ .inside → u.mapBit (Reg.CMP_FLAG 0) m = true ∧
          (s.flag (Fld.MON_CTL_IRQ m) = true → (u.reg Reg.IRQ_PEND).getLsbD irqMon = true)) ∧
        (∀ k : Fin 41, k ≠ m → u.monReported k = s.monReported k) ∧ u.mon = s.mon)) ∧
    (∀ (m : Fin 41) (x : Int), s.monActive m = true → s.monSampled m = false →
      let c := monLsb (monClass m)
      let hi := s.monHi m * c
      let lo := s.monLo m * c
      let h := s.monHyst m
      (s.monSettled m = true → exec (.comparatorStateChange m x) s = .next (settle (s.setMonComp m
        (match s.monComp m with
        | .inside => if hi ≤ x then .above else if x ≤ lo then .below else .inside
        | .above => if hi - h ≤ x then .above else if x ≤ lo then .below else .inside
        | .below => if x ≤ lo + h then .below else if hi ≤ x then .above else .inside)))) ∧
      (s.monSettled m = false → CompletesRails (.comparatorStateChange m x) s fun u =>
        let first : MonState := if hi ≤ x then .above else if x ≤ lo then .below
          else if s.flag (Fld.MON_CTL_INIT m) = false then .inside
          else if hi - h ≤ x then .above else if x ≤ lo + h then .below else .inside
        u.monComp m = first ∧ u.monReported m = first ∧ u.monSettled m = true)) ∧
    (∀ inputs : List Int, inputs.length = 41 → s.mode ≠ .watch → CompletesRails (.monitorSampleTick inputs) s fun u =>
      ∀ m : Fin 41, (s.monActive m = true → s.monSampled m = true → s.monSettled m = true →
        let r := s.monDecide m (inputs.getD m 0)
        u.monComp m = r ∧
        (r ≠ s.monReported m → s.fld Fld.CMP_SAMPLE_SCM1 = 0 → u.monReported m = r) ∧
        (r ≠ s.monReported m → ∀ k, (s.mon.run.find? fun p => p.1 == m.val) = some (m.val, r, k) →
          (s.fld Fld.CMP_SAMPLE_SCM1 ≤ k → u.monReported m = r) ∧
          (k < s.fld Fld.CMP_SAMPLE_SCM1 → u.monReported m = s.monReported m)) ∧
        (r = s.monReported m → u.monReported m = r)) ∧
        (s.monActive m = true → s.monSampled m = true → s.monSettled m = false →
          u.monComp m = s.monDecide m (inputs.getD m 0) ∧ u.monReported m = s.monDecide m (inputs.getD m 0) ∧
          u.monSettled m = true) ∧
        (s.monActive m = false ∨ s.monSampled m = false → u.monComp m = s.monComp m ∧ u.monReported m = s.monReported m)) ∧
    (∀ (inputs : List Int) (m : Fin 41), inputs.length = 41 → s.mode = .watch → s.monActive m = true → s.monSampled m = true →
      s.monSettled m = true → s.flag (Fld.MON_CTL_IRQ m) = true → s.fld Fld.CMP_SAMPLE_SCM1 = 0 →
      s.monDecide m (inputs.getD m 0) ≠ .inside → s.monDecide m (inputs.getD m 0) ≠ s.monReported m →
      CompletesRails (.monitorSampleTick inputs) s fun u => u.mode = .boot) ∧
    (∀ (m : Fin 41) (v : BitVec 16),
      let hyst := s.fld (Fld.MON_CTL_HYST m)
      (monWindowOk m (v.toNat % 1024) (s.fld (Fld.MON_LO_CODE m)) hyst = true →
        CompletesRails (.monitorThresholdWrite m 1 v) s fun u => u.fld (Fld.MON_HI_CODE m) = v.toNat % 1024) ∧
      (monWindowOk m (v.toNat % 1024) (s.fld (Fld.MON_LO_CODE m)) hyst = false →
        exec (.monitorThresholdWrite m 1 v) s = .next (settle (railsJudge s))) ∧
      (monWindowOk m (s.fld (Fld.MON_HI_CODE m)) (v.toNat % 1024) hyst = true →
        CompletesRails (.monitorThresholdWrite m 2 v) s fun u => u.fld (Fld.MON_LO_CODE m) = v.toNat % 1024) ∧
      (monWindowOk m (s.fld (Fld.MON_HI_CODE m)) (v.toNat % 1024) hyst = false →
        exec (.monitorThresholdWrite m 2 v) s = .next (settle (railsJudge s))) ∧
      (CompletesRails (.monitorThresholdWrite m 0 v) s fun u =>
        let asked := v.toNat / 16 % 16
        u.fld (Fld.MON_CTL_HYST m) =
          (if monWindowOk m (s.fld (Fld.MON_HI_CODE m)) (s.fld (Fld.MON_LO_CODE m)) asked then asked else hyst) ∧
        u.flag (Fld.MON_CTL_EN m) = v.getLsbD 0))

/-! ### The Krovdun link, rings and the tree -/

/-- A port that does not listen, or whose node the frame is not for, changes nothing. Code violations count on the port. A frame
cut short counts ABORT, one under 18 bytes CRCF, and an undecodable one whose CRC fails UNCORR and CRCF. A frame addressed to a
member whose checks hold counts as received and moves the sender's window, so that the same frame is then a duplicate; a
COMMAND for NODE enters its queue and fires line 10. A MEASURE frame at the root enters the mirror, counts for its ring and
closes it as the last one expected; after the close it counts as dropped, and its node is
present all the same. A port that passes frames on copies their characters
to the port that transmits, an undecodable one as 0x00, and after the fourth ends the copy; a frame that broke off is copied as
far as it came, or not at all where its copy had not begun. -/
def Obligations.LinkFramesAtAPort : Prop :=
  ∀ (s : State) (p : Fin 6) (bs : List Byte) (v : Nat),
    let r := p.val / 2
    let f := parseFrame bs
    let checks : Prop := 18 ≤ bs.length ∧ rsDecode bs = some (bs, 0) ∧ leAt bs 1 1 = bs.length - 18 ∧
      crcGood (s.epoch r) bs = true ∧ lenAllowed f.type f.payload.length = true
    let mine : Prop := r = 0 ∧ s.heads 0 = false ∧ f.bcast = false ∧ s.numbered = true ∧ f.dstNode = s.nodeNum
    let heard (u : State) : Prop := u.regN (Reg.LP_CV p) = min 65535 (s.regN (Reg.LP_CV p) + v) ∧
      (v ≠ 0 → u.flag (Fld.LP_STATUS_CV p) = true)
    let received (u : State) : Prop := heard u ∧ u.inWindow r f = false ∧ u.mode = s.mode ∧
      u.pair (Reg.LP_RXOK_LO p) (Reg.LP_RXOK_HI p) = (s.pair (Reg.LP_RXOK_LO p) (Reg.LP_RXOK_HI p) + 1) % 4294967296
    (∀ whole, s.listens p = false ∨ s.takesIn r bs = false →
      exec (.frameReceive p bs v whole) s = .next (settle (packCheck s))) ∧
    (s.listens p = true → s.takesIn r bs = true → CompletesTree (.frameReceive p bs v false) s fun u =>
      heard u ∧ u.regN (Reg.LP_ABORT p) = min 65535 (s.regN (Reg.LP_ABORT p) + 1) ∧ u.link = s.link ∧ u.rings = s.rings ∧
      u.mode = s.mode) ∧
    (s.listens p = true → s.takesIn r bs = true → bs.length < 18 ∨ (rsDecode bs = none ∧ crcGood (s.epoch r) bs = false) →
      CompletesTree (.frameReceive p bs v true) s fun u =>
        heard u ∧ u.regN (Reg.LP_CRCF p) = min 65535 (s.regN (Reg.LP_CRCF p) + 1) ∧ u.flag (Fld.LP_STATUS_CRC_ERR p) = true ∧
        u.link = s.link ∧ u.rings = s.rings ∧ u.mode = s.mode ∧
        (18 ≤ bs.length → u.regN (Reg.LP_UNCORR p) = min 65535 (s.regN (Reg.LP_UNCORR p) + 1))) ∧
    (s.listens p = true → mine → checks → s.inWindow 0 f = true → CompletesTree (.frameReceive p bs v true) s fun u =>
      received u ∧
      (f.type = tyCommand → f.tagged = false → 0xC0 ≤ leAt f.payload 0 1 → leAt f.payload 0 1 < 0xE0 → s.engNode.recvQ.length < 8 →
        u.engNode.recvQ = s.engNode.recvQ ++ [frameBody f] ∧ u.engNode.latch.getLsbD 10 = true)) ∧
    (s.listens p = true → mine → checks → s.inWindow 0 f = false → CompletesTree (.frameReceive p bs v true) s fun u =>
      heard u ∧ u.regN (Reg.LP_DUP p) = min 65535 (s.regN (Reg.LP_DUP p) + 1) ∧ u.link = s.link ∧ u.engNode = s.engNode) ∧
    (s.listens p = true → s.isRoot = true → checks → s.inWindow r f = true → f.type = tyMeasure → s.flag Fld.KEY_CTL_MTAG_REQ = false →
      let others : Prop := ∃ m ∈ (s.ring r).expected, m ≠ f.src.toNat ∧ m ∉ (s.ring r).got
      ((s.ring r).isOpen = true → others → CompletesTree (.frameReceive p bs v true) s fun u =>
        received u ∧ f.src.toNat ∈ (u.ring r).got ∧ (u.ring r).isOpen = true ∧
        ∀ e, e < 32 → (u.mirrorAt (32 * f.src.toNat + e)).toNat =
          measureValue f.payload e + 2 ^ 24 * measureStatus f.payload e + 2 ^ 28 * (s.regN Reg.SWEEP_NUM % 16)) ∧
      ((s.ring r).isOpen = true → ¬ others → (s.ring r).awaits = [] → CompletesTree (.frameReceive p bs v true) s fun u =>
        received u ∧ f.src.toNat ∈ (u.ring r).got ∧ (u.ring r).isOpen = false) ∧
      ((s.ring r).isOpen = false → CompletesTree (.frameReceive p bs v true) s fun u =>
        received u ∧ u.regN (Reg.RNG_DROP r) = min 65535 (s.regN (Reg.RNG_DROP r) + 1) ∧ u.tree.mirror = s.tree.mirror ∧
        (eValid (s.entry f.src.toNat) = true → ePresent (u.entry f.src.toNat) = true))) ∧
    (∀ x : PassingFrame,
      let q := if p.val % 2 = 0 then p.val + 1 else p.val - 1
      let bad (l : List (Option Byte)) : Nat := (l.filter (·.isNone)).length
      let copy := x.chars.map fun c => c.getD 0
      (s.passes p = false → exec (.frameForward p x) s = .next (settle s)) ∧
      (s.passes p = true → Completes (.frameForward p x) s fun t =>
        let goes : Prop := s.portOn q = true ∧ s.dir q = 1 ∧ (x.whole = true ∨ x.begun = true)
        (goes → bad x.chars ≤ 3 → t.sent = s.sent ++ [{ port := q, bytes := copy, cut := !x.whole }]) ∧
        (goes → 4 ≤ bad x.chars → ∃ k, k < x.chars.length ∧ x.chars[k]? = some none ∧ bad (x.chars.take (k + 1)) = 4 ∧
          t.sent = s.sent ++ [{ port := q, bytes := copy.take (k + 1), cut := true }]) ∧
        (¬ goes → t.sent = s.sent) ∧ t.link = s.link ∧ t.mode = s.mode ∧
        t.regN (Reg.LP_CV p) = min 65535 (s.regN (Reg.LP_CV p) + min (bad x.chars) 4)))

/-- LOS is shown and remembered; at a head's receive port it, or a loss of alignment that lasts, breaks a running ring after
its last member, and at a member's upstream port it reverses both ports. Alignment lost and found is shown, and the violations
that went with its loss counted. Pulses on A0 or A1 start a node in SHIP or WATCH, which then wakes the other port's neighbour;
in other modes they start nothing. The counters of every port are cleared. A node without its link changes nothing. -/
def Obligations.LinkSignals : Prop :=
  ∀ (s : State),
    let breaks (p : Fin 6) (t : State) : Prop :=
      (∀ r, r < 3 → p.val = 2 * r + 1 → s.heads r = true → s.portOn p = true → s.rngState r = 2 →
        t.rngState r = 3 ∧ (t.ring r).endA = (s.ring r).members.length ∧ (t.ring r).endB = (s.ring r).members.length + 1) ∧
      (p.val = 1 → s.heads 0 = false → s.portOn p = true → s.flag Fld.MEMB_EXCLUDED = false → s.half = 0 → s.dir 1 = 2 →
        t.dir 0 = 2 ∧ t.dir 1 = 1)
    (∀ p : Fin 6, s.linkOn = true →
      (Completes (.linkLos p) s fun t => t.flag (Fld.LP_STATUS_LOS p) = true ∧ t.flag (Fld.LP_STATUS_LOS_SEEN p) = true ∧
        t.mode = s.mode ∧ breaks p t) ∧
      (Completes (.linkLosClear p) s fun t => t.flag (Fld.LP_STATUS_LOS p) = false ∧ p.val ∉ t.link.waking ∧ t.mode = s.mode) ∧
      (∀ x : AlignLoss, Completes (.linkAlignLoss p x) s fun t => t.flag (Fld.LP_STATUS_ALIGNED p) = false ∧ t.mode = s.mode ∧
        t.regN (Reg.LP_CV p) = min 65535 (s.regN (Reg.LP_CV p) + x.violations) ∧
        (x.violations ≠ 0 → t.flag (Fld.LP_STATUS_CV p) = true) ∧
        (x.persists = false → t.link = s.link ∧ t.rings = s.rings) ∧ (x.persists = true → breaks p t)) ∧
      (Completes (.linkAlignRegain p) s fun t => t.flag (Fld.LP_STATUS_ALIGNED p) = true ∧ p.val ∉ t.link.waking ∧
        t.mode = s.mode)) ∧
    (∀ (p : Fin 6) (x : AlignLoss), s.linkOn = false →
      ∀ i ∈ [Instr.linkLos p, .linkLosClear p, .linkAlignLoss p x, .linkAlignRegain p], exec i s = .next (settle s)) ∧
    (∀ p : Fin 2, s.mode = .ship ∨ s.mode = .watch → Completes (.linkWake p) s fun t =>
      t.mode = .boot ∧ t.regN Reg.RESET_CAUSE = causeLink ∧ t.link.wakePort = some p.val) ∧
    (∀ p : Fin 2, s.mode ≠ .ship → s.mode ≠ .watch → exec (.linkWake p) s = .next (settle s)) ∧
    (∀ p : Fin 2, s.mode = .boot → s.link.wakePort = some p.val → Completes (.wakeRelay p) s fun t =>
      t.sent = s.sent ++ [{ port := 1 - p.val, bytes := [] }] ∧ t.link.wakePort = none ∧ 1 - p.val ∈ t.link.waking ∧
      t.dir (1 - p.val) = 1 ∧ t.mode = .boot) ∧
    (∀ p : Fin 2, s.mode ≠ .boot ∨ s.link.wakePort ≠ some p.val → exec (.wakeRelay p) s = .next (settle s)) ∧
    (Completes .linkClearCounters s fun t => t.link = s.link ∧ t.mode = s.mode ∧ ∀ p, p < 6 →
      ∀ a ∈ [Reg.LP_CORR p, Reg.LP_UNCORR p, Reg.LP_CRCF p, Reg.LP_CV p, Reg.LP_ABORT p, Reg.LP_DUP p], t.reg a = 0)

/-- A TRAIN_OPEN lets a numbered member send it on and insert its MEASURE frame with its latched set, once a sweep, its
management frames, what was asked for again and up to four RESPONSE frames; a further opening of the sweep takes neither
MEASURE nor management frames. In a half the outbound opening turns the ports and nothing goes in but at the end. What waits
for the insertion buffer goes in frame by frame, then a hub's Lane frames. A RETX_REQ for the kept MEASURE frame of the sweep
makes the member insert it again, marked RETX, in a half with the inbound pass. The end of a head's train begins command time,
in which each missing node is asked again, RETX_MAX times at most; in halves a further opening follows every
such round of requests. Its timeout closes the
ring with TIMEOUT. At nodes these do not concern nothing changes. -/
def Obligations.TrainsAndRetransmission : Prop :=
  (∀ (s : State) (f : Frame),
    let member : Prop := s.heads 0 = false ∧ s.linkOn = true
    let port := s.insertPort
    let opens : Prop := member ∧ s.flag Fld.MEMB_EXCLUDED = false ∧ (s.keys.busy = false ∨ s.keys.awaited = false)
    let inserts : Prop := s.numbered = true ∧ modeInserts s.mode = true
    let carries : Prop := s.portOn port = true ∧ s.dir port ≠ 0
    let passed : Sent := { port := port, bytes := sealFrame f (s.epoch 0) }
    (s.heads 0 = true ∨ s.linkOn = false →
      exec (.trainOpenReceive f) s = .next (settle s) ∧ exec .insertBufferDrain s = .next (settle s)) ∧
    (opens → inserts → s.half = 0 ∨ s.ms.inbound = true → s.link.measureSent = false → s.link.insertion = [] →
      Completes (.trainOpenReceive f) s fun t => ∃ m : Frame, m.type = tyMeasure ∧ m.payload = s.measurePayload ∧
        m.src = BitVec.ofNat 13 s.nodeNum ∧ m.dst = 0 ∧ t.link.measure = some (s.regN Reg.SWEEP_NUM, m) ∧
        t.link.measureSent = true ∧ t.link.controls = [] ∧ t.link.retx = [] ∧ t.link.responses = s.link.responses.drop 4 ∧
        t.link.insertion = s.mtag m ++ s.link.controls ++ s.link.retx ++ s.link.responses.take 4 ∧ t.mode = s.mode ∧
        (carries → ∃ g : Frame, g.type = tyMeasure ∧ g.payload = m.payload ∧ g.src = m.src ∧
          t.sent = s.sent ++ [passed, { port := port, bytes := sealFrame g (s.epoch 0) }])) ∧
    (opens → inserts → s.half = 0 ∨ s.ms.inbound = true → s.link.measureSent = true → s.link.insertion = [] →
      Completes (.trainOpenReceive f) s fun t => t.link.measure = s.link.measure ∧ t.link.controls = s.link.controls ∧
        t.link.retx = [] ∧ t.link.responses = s.link.responses.drop 4 ∧
        t.link.insertion = (s.link.retx ++ s.link.responses.take 4).drop 1) ∧
    (opens → s.half ≠ 0 → s.ms.inbound = false → s.flag Fld.MEMB_END = false → Completes (.trainOpenReceive f) s fun t =>
      t.ms.inbound = true ∧ (.halfInbound, s.now) ∈ t.timers ∧ t.link = s.link ∧
      t.dir 0 = (if s.half = 2 then 1 else 2) ∧ t.dir 1 = (if s.half = 2 then 2 else 1)) ∧
    (member → s.flag Fld.MEMB_EXCLUDED = true → exec .insertBufferDrain s = .next (settle s)) ∧
    (member → s.flag Fld.MEMB_EXCLUDED = false → ∀ x rest, s.link.insertion = x :: rest → exec .insertBufferDrain s =
      .next (settle (insertFrame { s with link := { s.link with insertion := rest } } x))) ∧
    (member → s.flag Fld.MEMB_EXCLUDED = false → ∀ x rest, s.link.insertion = [] → s.link.hubQueue = x :: rest →
      let free : Bool := s.link.measureSent && !s.link.again && (s.half == 0 || s.ms.inbound)
      (free = true → exec .insertBufferDrain s = .next (settle (insertFrame { s with link := { s.link with hubQueue := rest } } x))) ∧
      (free = false → exec .insertBufferDrain s = .next (settle s))) ∧
    (member → s.link.insertion = [] → s.link.hubQueue = [] → exec .insertBufferDrain s = .next (settle s)) ∧
    (member → f.bcast = false → s.numbered = true → f.dstNode = s.nodeNum →
      let again (x : Frame) : Frame := { x with flags := x.flags ||| 1 }
      (∀ m, leAt f.payload 2 1 = 2 → s.link.measure = some (leAt f.payload 0 2, m) → s.flag Fld.KEY_CTL_MTAG = false →
        (s.half = 0 ∨ s.ms.inbound = true → exec (.retxReq f) s = .next (settle (insertFrame s (again m)))) ∧
        (s.half ≠ 0 → s.ms.inbound = false → s.flag Fld.MEMB_EXCLUDED = false → exec (.retxReq f) s =
          .next (settle { s with link := { s.link with retx := s.link.retx ++ [again m] } }))) ∧
      (∀ m, leAt f.payload 2 1 = 4 → s.link.response = some m → s.half = 0 ∨ s.ms.inbound = true →
        exec (.retxReq f) s = .next (settle (insertFrame s (again m)))) ∧
      (leAt f.payload 2 1 ≠ 2 → leAt f.payload 2 1 ≠ 4 → exec (.retxReq f) s = .next (settle s))) ∧
    (s.linkOn = false ∨ s.heads 0 = true ∨ f.bcast = true → exec (.retxReq f) s = .next (settle s))) ∧
  (∀ (s : State) (r : RingId), let x := s.ring r.idx
    let asked (n want : Nat) : Nat := x.retx.count (n, want)
    let more (k : Nat) : Nat := if k < s.fld Fld.LINK_CTL_RETX_MAX then k + 1 else k
    let due : Bool := s.inHalves r.idx &&
      (x.expected.any (fun n => !x.got.contains n && decide (asked n 2 < s.fld Fld.LINK_CTL_RETX_MAX)) ||
        x.awaits.any fun n => decide (asked n 4 < s.fld Fld.LINK_CTL_RETX_MAX))
    (s.heads r.idx = true → x.train = true → (s.inHalves r.idx = false ∧ x.taken = false) ∨ x.isOpen = false →
      CompletesAll (.trainEnd r) s fun u => (u.ring r.idx).train = false ∧ (u.ring r.idx).command = true ∧ u.mode = s.mode) ∧
    (s.heads r.idx = true → x.train = false → x.speaks = true → x.isOpen = true → x.expected.Nodup →
      CompletesAll (.trainEnd r) s fun u => (u.ring r.idx).train = due ∧ (u.ring r.idx).command = !due ∧
        (u.ring r.idx).isOpen = true ∧ u.mode = s.mode ∧
        (∀ n ∈ x.expected, n ∉ x.got → (u.ring r.idx).retx.count (n, 2) = more (asked n 2)) ∧
        (∀ n ∈ x.awaits, (u.ring r.idx).retx.count (n, 4) = more (asked n 4))) ∧
    (s.heads r.idx = true → x.train = false → x.speaks = false ∨ x.isOpen = false →
      exec (.trainEnd r) s = .next (settle (packCheck (railsJudge s)))) ∧
    (s.heads r.idx = true → x.isOpen = true → CompletesTree (.ringTimeout r) s fun u =>
      (u.ring r.idx).isOpen = false ∧ (u.ring r.idx).timedOut = true ∧ (u.ring r.idx).train = false ∧
      (u.ring r.idx).command = true ∧ u.mode = s.mode) ∧
    (s.heads r.idx = true → x.isOpen = false → exec (.ringTimeout r) s = .next (settle (packCheck s))) ∧
    (s.heads r.idx = false → exec (.trainEnd r) s = .next (settle s) ∧ exec (.ringTimeout r) s = .next (settle s)))

/-- A READ is answered ACK with the registers' values, lowest first. A WRITE of registers whose fields act on nothing else,
with a good tag, gives each its new value and is answered ACK; with a wrong tag none of them changes and it is answered AUTH.
A span past 0x3FFF is answered ADDR and read nowhere. A broadcast is not answered. A node without its link, and the root, take
neither. -/
def Obligations.NodeServesRemoteAccess : Prop :=
  ∀ (s : State) (f : Frame),
    let op := leAt f.payload 0 1
    let n := leAt f.payload 1 1
    let a := leAt f.payload 2 2
    let head (res : Byte) : List Byte := leBytes 1 op ++ [res] ++ leBytes 2 a
    let serves : Prop := s.isRoot = false ∧ s.linkOn = true ∧ remoteShape f = true
    let answered (t : State) (l : List Byte) : Prop := if f.bcast = true then t.link = s.link else Responds s t l
    let levels : List Nat := [Reg.IRQ_PEND, Reg.FLT_SUM, Reg.CMP_FLAG 0, Reg.CMP_FLAG 1, Reg.CMP_FLAG 2, Reg.IMP_STATUS]
    let written (u : State) : Prop := ∀ i, i < n → (a + i ∈ levels → n = 1) →
      u.reg (a + i) = fieldsWritten false (a + i) (BitVec.ofNat 16 (leAt f.payload (4 + 2 * i) 2)) (s.reg (a + i))
    (¬ serves → exec (.remoteRead f) s = .next (settle s) ∧ exec (.remoteWrite f) s = .next (settle s)) ∧
    (serves → op = 0x10 → a + n ≤ 0x2000 → (∀ i, i < n → snapGroup (a + i) = none ∧ snapHigh (a + i) = none) →
      Completes (.remoteRead f) s fun t =>
        answered t (head 0 ++ (List.range n).flatMap fun i => leBytes 2 (s.live (a + i)).toNat) ∧ t.regs = (settle s).regs) ∧
    (serves → op = 0x10 → 0x4000 < a + n → Completes (.remoteRead f) s fun t => answered t (head 6) ∧ t.regs = (settle s).regs) ∧
    (serves → op = 0x11 → plainSpan a n = true → s.bus = [] → (checkTag s f).1 = .good → CompletesAll (.remoteWrite f) s fun u =>
      answered u (head 0) ∧ written u ∧ u.mode = s.mode ∧
      ∀ b, b < a ∨ a + n ≤ b → (b ∈ levels → n = 1) → u.reg b = s.reg b) ∧
    (serves → op = 0x11 → 0x4000 < a + n → (checkTag s f).1 = .good → CompletesAll (.remoteWrite f) s fun u =>
      answered u (head 6) ∧ u.regs = s.regs) ∧
    (serves → op = 0x11 → (checkTag s f).1 = .bad → CompletesAll (.remoteWrite f) s fun u => answered u (head 4) ∧
      u.regN Reg.AUTH_FAIL = min 65535 (s.regN Reg.AUTH_FAIL + 1) ∧ ∀ b, b ≠ Reg.AUTH_FAIL → u.reg b = s.reg b)

/-- A member answers ENUM of its head with a reply in its next train; a head that is enumerating keeps the newest reply of
each factory number. ECHO_RUN makes a member ask upstream, on A1 or in half B on A0, and its other port listen, but for the
end of a half, an echo request is answered on its port, which transmits again, and the answer tells a head its last member and
a member its neighbour. ASSIGN with the node's own factory number gives it its number, position, head and epoch; with another
it changes none of them. The order to enumerate starts the enumeration under the next epoch, and makes a whole ring ENUM. A
frame that is not for the node, or of another kind, changes nothing. -/
def Obligations.Enumeration : Prop :=
  ∀ (s : State) (f : Frame),
    let echo (p : Nat) (t : State) : Prop := ∃ g : Frame, t.sent = s.sent ++ [{ port := p, bytes := sealFrame g (s.epoch (p / 2)) }] ∧
      g.type = tyEcho ∧ g.payload = leBytes 8 factory
    let up := if s.half = 2 then 0 else 1
    let idles (i : Instr) : Prop := exec i s = .next (settle s)
    (s.takesControl f 0x01 = true → Completes (.enum f) s fun t => ∃ g : Frame, t.link.controls = s.link.controls ++ [g] ∧
      g.type = tyCtl ∧ g.payload = s.enumReply ∧ t.regs = (settle s).regs ∧ t.mode = s.mode) ∧
    (s.takesControl f 0x01 = false → idles (.enum f)) ∧ (s.takesControl f 0x03 = false → idles (.echoRun f)) ∧
    (s.takesControl f 0x04 = false → idles (.assign f)) ∧
    (∀ r : RingId, (s.headTakes r.idx f 0x02 = false → idles (.enumReply r f)) ∧
      (s.headTakes r.idx f 0x02 = true → Completes (.enumReply r f) s fun t => t.mode = s.mode ∧
        ((s.ring r.idx).enumStep = 0 ∨ 4 ≤ (s.ring r.idx).enumStep → t.rings = s.rings) ∧
        ((s.ring r.idx).enumStep ≠ 0 → (s.ring r.idx).enumStep < 4 → (t.ring r.idx).replies = memberReply f.payload ::
          (s.ring r.idx).replies.filter (fun m => m.factory != leAt f.payload 1 8)) ∧
        (s.isRoot = false ∨ ePresent (s.entry f.src.toNat) = true → t.regs = (settle s).regs))) ∧
    (s.takesControl f 0x03 = true → s.portOn up = true → s.dir up ≠ 0 → Completes (.echoRun f) s fun t => echo up t ∧
      (s.half ≠ 0 → s.flag Fld.MEMB_END = true → t.dir (1 - up) = s.dir (1 - up) ∧ t.link.echo = s.link.echo) ∧
      (s.half = 0 ∨ s.flag Fld.MEMB_END = false → s.dir (1 - up) = 1 →
        t.dir (1 - up) = 2 ∧ (1 - up, s.now + 3200) ∈ t.link.echo) ∧ t.dir up = s.dir up) ∧
    (∀ p : Fin 6, s.linkOn = true → f.type = tyEcho → s.portOn p = true → s.dir p ≠ 0 →
      Completes (.echoRequest p f) s fun t => echo p t ∧ (∀ x ∈ t.link.echo, x.1 ≠ p.val) ∧
        ((∃ x ∈ s.link.echo, x.1 = p.val) → t.dir p = 1)) ∧
    (∀ (p : Fin 6) (rtt : BitVec 16), s.linkOn = false ∨ f.type ≠ tyEcho →
      idles (.echoRequest p f) ∧ idles (.echoAnswer p rtt f)) ∧
    (∀ (p : Fin 6) (rtt : BitVec 16), s.linkOn = true → f.type = tyEcho → Completes (.echoAnswer p rtt f) s fun t =>
      t.mode = s.mode ∧
      (s.heads (p.val / 2) = true → (t.ring (p.val / 2)).upFactory = some (leAt f.payload 0 8) ∧ t.regs = (settle s).regs) ∧
      (s.heads 0 = false → p.val < 2 → t.ms.upFactory = leAt f.payload 0 8 ∧ t.rings = s.rings) ∧
      (s.heads (p.val / 2) = false → 2 ≤ p.val → t.rings = s.rings ∧ t.ms = s.ms ∧ t.regs = (settle s).regs)) ∧
    (s.takesControl f 0x04 = true → leAt f.payload 1 8 = factory → Completes (.assign f) s fun t =>
      t.nodeNum = leAt f.payload 9 2 % 8192 ∧ t.numbered = true ∧ t.fld Fld.MEMB_POS = leAt f.payload 11 1 % 64 ∧
      t.fld Fld.MEMB_HEAD_HEAD = f.src.toNat ∧ t.epoch 0 = leAt f.payload 12 1) ∧
    (s.takesControl f 0x04 = true → leAt f.payload 1 8 ≠ factory → Completes (.assign f) s fun t =>
      t.nodeNum = s.nodeNum ∧ t.numbered = s.numbered ∧ t.epoch 0 = s.epoch 0 ∧ t.fld Fld.MEMB_POS = s.fld Fld.MEMB_POS) ∧
    (∀ r : RingId, (s.mayHead r.idx = false → exec (.ringEnumCmd r) s = .next (settle (packCheck s))) ∧
      (s.mayHead r.idx = true → CompletesTree (.ringEnumCmd r) s fun u =>
        (s.rngState r.idx ≠ 3 → s.rngState r.idx ≠ 4 → u.rngState r.idx = 1) ∧
        (s.rngState r.idx = 3 ∨ s.rngState r.idx = 4 → u.rngState r.idx = s.rngState r.idx) ∧
        (u.ring r.idx).enumStep = 1 ∧ (u.ring r.idx).replies = [] ∧ u.mode = s.mode ∧
        (u.ring r.idx).newEpoch = epochAfter (s.epoch r.idx) ∧ u.epoch r.idx = s.epoch r.idx ∧ u.heads r.idx = true))

/-- A BREAK of a running ring's member halves the ring before that member; in a half it cuts off the positions beyond.
ROUNDABOUT tells a member its half, whether it is its end or passed over, its window and the epoch, and clears LAT_VALID; the
window's end turns it outbound again, the end of half B listening at the break. A half without an inbound opening loses its
end position. The mended end of half B says MEND; the head notes it and with MEND_AUTO, or by order, re-forms the ring at the
next sweep, which its members note from REFORM. HALVE in SERVICE takes a position out. Where its conditions fail, each changes
nothing. A member of half A takes the hops of its position off the window; how many a member of half B takes no frame tells
it, and the number is free (log entry 156). -/
def Obligations.BreaksAndHalves : Prop :=
  ∀ (s : State) (f : Frame) (r : RingId),
    let x := s.ring r.idx
    let next := (s.regN Reg.SWEEP_NUM + 1) % 65536
    let idles (i : Instr) : Prop := exec i s = .next (settle s)
    let idlesTree (i : Instr) : Prop := exec i s = .next (settle (packCheck s))
    let halved : Prop := s.linkOn = true ∧ s.heads r.idx = true ∧ s.inHalves r.idx = true
    let mended : Prop := s.linkOn = true ∧ s.heads 0 = false ∧ s.half = 2 ∧ s.flag Fld.MEMB_END = true ∧
      s.flag (Fld.LP_STATUS_ALIGNED 1) = true
    (s.headTakes r.idx f 0x05 = false → idles (.breakFrame r f)) ∧ (s.headTakes r.idx f 0x07 = false → idles (.mend r f)) ∧
    (s.takesControl f 0x06 = false → idles (.roundabout f)) ∧ (s.takesControl f 0x08 = false → idles (.reform f)) ∧
    (∀ m, s.headTakes r.idx f 0x05 = true → s.memberOf r.idx f.src.toNat = some m →
      (s.rngState r.idx = 2 → CompletesTree (.breakFrame r f) s fun u => u.rngState r.idx = 3 ∧ u.mode = s.mode ∧
        (u.ring r.idx).endA = min (m.pos - 1) x.members.length ∧ (u.ring r.idx).endB = (u.ring r.idx).endA + 1) ∧
      (s.rngState r.idx = 3 → m.pos ≤ x.endA → CompletesTree (.breakFrame r f) s fun u => (u.ring r.idx).endA = m.pos ∧
        (u.ring r.idx).endB = x.endB ∧ u.flag (Fld.RNG_STATUS_ISOLATED r.idx) = true ∧
        ∀ k, m.pos < k → k ≤ x.endA → k ∈ (u.ring r.idx).isolated) ∧
      (s.rngState r.idx = 3 → x.endA < m.pos → CompletesTree (.breakFrame r f) s fun u => (u.ring r.idx).endB = m.pos ∧
        (u.ring r.idx).endA = x.endA ∧ u.flag (Fld.RNG_STATUS_ISOLATED r.idx) = true ∧
        ∀ k, x.endB ≤ k → k < m.pos → k ∈ (u.ring r.idx).isolated)) ∧
    (s.takesControl f 0x06 = true → leAt f.payload 2 1 ≤ 2 → Completes (.roundabout f) s fun t =>
      let pos := s.fld Fld.MEMB_POS
      t.half = leAt f.payload 2 1 ∧ t.flag Fld.MEMB_END = decide (leAt f.payload 3 1 = pos) ∧
      t.flag Fld.MEMB_EXCLUDED = (decide (leAt f.payload 4 1 = pos) && decide (pos ≠ 0)) ∧
      t.flag Fld.MS_STATUS_LAT_VALID = false ∧ t.ms.inbound = false ∧ t.epoch 0 = leAt f.payload 1 1 ∧
      let hop := if s.fld (Fld.LP_CTL_RATE 0) = 1 then 91 else 48
      (leAt f.payload 2 1 = 1 → t.ms.window = 100 * leAt f.payload 5 2 - hop * pos) ∧
      (leAt f.payload 2 1 ≠ 1 → ∃ k, 1 ≤ k ∧ k ≤ 63 ∧ t.ms.window = 100 * leAt f.payload 5 2 - hop * k)) ∧
    (s.half ≠ 0 → Completes .halfInboundEnd s fun t => t.ms.inbound = false ∧ t.half = s.half ∧ t.mode = s.mode ∧
      (s.half = 2 → t.dir 0 = 2 ∧ t.dir 1 = (if s.flag Fld.MEMB_END = true then 2 else 1)) ∧
      (s.half ≠ 2 → t.dir 0 = 1 ∧ t.dir 1 = 2)) ∧
    (s.half = 0 → idles .halfInboundEnd) ∧
    (halved → 0 < x.endA → CompletesTree (.roundaboutTurnTimeout r false) s fun u =>
      (u.ring r.idx).endA = x.endA - 1 ∧ (u.ring r.idx).endB = x.endB ∧ (u.ring r.idx).excluded = x.endA :: x.excluded) ∧
    (halved → x.endB ≤ x.members.length → CompletesTree (.roundaboutTurnTimeout r true) s fun u =>
      (u.ring r.idx).endB = x.endB + 1 ∧ (u.ring r.idx).endA = x.endA ∧ (u.ring r.idx).excluded = x.endB :: x.excluded) ∧
    (¬ halved ∨ x.endA = 0 → idlesTree (.roundaboutTurnTimeout r false)) ∧
    (¬ halved ∨ x.members.length < x.endB → idlesTree (.roundaboutTurnTimeout r true)) ∧
    (mended → Completes .mendInsert s fun t => ∃ g : Frame, t.link.controls = s.link.controls ++ [g] ∧ g.type = tyCtl ∧
      g.payload = [0x07, 0, 0, 0] ∧ t.regs = (settle s).regs) ∧
    (¬ mended → idles .mendInsert) ∧
    (s.headTakes r.idx f 0x07 = true → CompletesTree (.mend r f) s fun u => u.flag (Fld.RNG_STATUS_MEND_SEEN r.idx) = true ∧
      (s.flag (Fld.RNG_CTL_MEND_AUTO r.idx) = true → s.rngState r.idx = 3 → x.taken = false →
        u.rngState r.idx = 4 ∧ (u.ring r.idx).reformAt = some next) ∧
      (s.flag (Fld.RNG_CTL_MEND_AUTO r.idx) = false → u.ring r.idx = x)) ∧
    (s.takesControl f 0x08 = true → Completes (.reform f) s fun t =>
      t.ms.restoreAt = some (leAt f.payload 2 2) ∧ t.ms.restoreEpoch = leAt f.payload 1 1 ∧ t.regs = (settle s).regs) ∧
    (s.mayHead r.idx = true → s.rngState r.idx = 3 → x.taken = false → CompletesTree (.ringReformCmd r) s fun u =>
      u.rngState r.idx = 4 ∧ (u.ring r.idx).reformAt = some next ∧ (u.ring r.idx).newEpoch = epochAfter (s.epoch r.idx) ∧
      u.mode = s.mode) ∧
    (s.mayHead r.idx = false ∨ s.rngState r.idx ≠ 3 ∨ x.taken = true → idlesTree (.ringReformCmd r)) ∧
    (∀ pos : BitVec 6,
      let may : Prop := s.mayHead r.idx = true ∧ s.mode = .service ∧ s.rngState r.idx = 2 ∧ 1 ≤ pos.toNat ∧
        pos.toNat ≤ x.members.length
      (may → CompletesTree (.ringHalveCmd r pos) s fun u => u.rngState r.idx = 3 ∧ (u.ring r.idx).endA = pos.toNat - 1 ∧
        (u.ring r.idx).endB = pos.toNat + 1 ∧ (u.ring r.idx).excluded = [pos.toNat] ∧
        u.flag (Fld.RNG_STATUS_PLANNED r.idx) = true ∧ u.mode = s.mode) ∧
      (¬ may → idlesTree (.ringHalveCmd r pos)))

/-- A HEARTBEAT of the head starts the count of silent seconds again, and a head sends them. Without one for HB_TO a node
that is not the root shows ORPHAN, ends its plans and with HB_SAFE enters SAFE. A tagged order to take a hub's place, or to
give it back, that the node may follow is acknowledged and waits for the boundary, and one it may not is refused. STORE
asks for a checkpoint of the table and FORGET in SERVICE clears the entry shown. A tagged BULK opening in UPDATE starts to
erase a profile that is not active. -/
def Obligations.TreeServices : Prop :=
  ∀ (s : State) (f : Frame),
    let h := leAt f.payload 1 2
    let role (op : Nat) : Prop := s.linkOn = true ∧ s.isRoot = false ∧ leAt f.payload 0 1 = op ∧ f.payload.length = 11 ∧
      (checkTag s f).1 = .good
    let p := tagBody f
    (s.takesControl f 0x09 = true → exec (.heartbeat f) s = .next (settle (s.startTimer .orphan))) ∧
    (s.isRoot = true ∨ s.isHub = true → s.linkOn = true → s.mode ≠ .boot → Completes .heartbeatPeriod s fun t =>
      (.heartbeat, s.now) ∈ t.timers ∧ (s.isRoot = true → (.orphan, s.now) ∈ t.timers)) ∧
    (s.isRoot = false → modeAsleep s.mode = false → s.mode ≠ .boot → CompletesRails .orphanTimeout s fun u =>
      u.flag Fld.HB_STATUS_ORPHAN = true ∧ u.imp.plan = none ∧
      (s.flag Fld.HB_NODE_HB_SAFE = false → u.mode = s.mode ∧ (s.bal.running.isSome = true → u.bal.stopping = true)) ∧
      (s.flag Fld.HB_NODE_HB_SAFE = true → s.mc.shutdown = none → u.mode = .safe)) ∧
    (role 0x30 → s.mayTake (h % 8192) = true → Completes (.hubTakeover f) s fun t =>
      t.ms.roleChange = some (h % 8192, true) ∧ Responds s t ([0x30, 0] ++ leBytes 2 h)) ∧
    (role 0x30 → s.mayTake (h % 8192) = false → Completes (.hubTakeover f) s fun t =>
      t.ms.roleChange = s.ms.roleChange ∧ Responds s t ([0x30, 1] ++ leBytes 2 h)) ∧
    (role 0x31 → s.ms.holds = some (h % 8192) → Completes (.hubHandBack f true) s fun t =>
      t.ms.roleChange = some (h % 8192, false) ∧ Responds s t ([0x31, 0] ++ leBytes 2 h)) ∧
    (role 0x31 → Completes (.hubHandBack f false) s fun t =>
      t.ms.roleChange = s.ms.roleChange ∧ Responds s t ([0x31, 1] ++ leBytes 2 h)) ∧
    (s.isRoot = true → s.storeOn = true → Completes .bindStore s fun t =>
      (s.hs.ckptLeft = 0 → t.hs.ckptLeft = 33) ∧ (s.hs.ckptLeft ≠ 0 → t.hs.ckptDue = true ∧ t.hs.ckptLeft = s.hs.ckptLeft) ∧
      t.tree = s.tree) ∧
    (s.isRoot = true → s.mode = .service → s.regN Reg.BIND_SEL % 8192 ≠ 0 → CompletesTree .bindForget s fun u =>
      u.entry (s.regN Reg.BIND_SEL % 8192) = bindZero ∧ ∀ n, n ≠ s.regN Reg.BIND_SEL % 8192 → u.entry n = s.entry n) ∧
    (s.linkOn = true → f.type = tyBulk → s.heads 0 = false → (checkTag s f).1 = .good → 6 ≤ p.length → 1 ≤ leAt p 0 1 →
      leAt p 0 1 ≤ 8 → leAt p 2 4 = 0xFFFFFFFF → s.mode = .update → s.fld Fld.PROF_STATUS_ACTIVE ≠ leAt p 0 1 - 1 →
      Completes (.bulk f) s fun t => t.fld Fld.UPD_STATUS_STATE = 1 ∧ t.fld Fld.UPD_STATUS_XFER = leAt p 1 1 ∧
        t.upd.target = leAt p 0 1 - 1 ∧ t.upd.arrived = [])

/-- At the root a period that ends with its sweep still open counts an overrun, raises its flag and skips the sweep; one
that ends with no sweep open only starts the next period. A sweep start, issued by a root that is up with no sweep open, or
received by a node that is awake, gives the sweep its number and fires line 8 at every engine; in BOOT a node takes the tree
time from it too. One second without a sweep start ends the sweeps of a node that is not the root. Elsewhere nothing happens. -/
def Obligations.SweepStarts : Prop :=
  ∀ (s : State),
    let runs : Prop := s.isRoot = true ∧ s.flag Fld.TREE_CTL_SWEEP_EN = true
    let idlesAll (i : Instr) : Prop := exec i s = .next (settle (packCheck (railsJudge s)))
    (runs → s.tree.sweepOpen = true → Completes .sweepPeriodElapsed s fun t =>
      t.regN Reg.OVERRUNS = min 65535 (s.regN Reg.OVERRUNS + 1) ∧ (t.reg Reg.FLT_SUM).getLsbD fltOverrun = true ∧
      t.tree.skipped = true ∧ t.tree.sweepOpen = true ∧ (.sweepPeriod, s.now) ∈ t.timers ∧ t.rings = s.rings ∧ t.mode = s.mode) ∧
    (runs → s.tree.sweepOpen = false → exec .sweepPeriodElapsed s = .next (settle (s.startTimer .sweepPeriod))) ∧
    (¬ runs → exec .sweepPeriodElapsed s = .next (settle s)) ∧
    (runs → modeAsleep s.mode = false → s.mode ≠ .boot → s.tree.sweepOpen = false → CompletesAll .sweepStartIssue s fun u =>
      (∀ e, (u.eng e).latch.getLsbD 8 = true) ∧ u.regN Reg.SWEEP_NUM = (s.regN Reg.SWEEP_NUM + 1) % 65536) ∧
    (¬ runs ∨ modeAsleep s.mode = true ∨ s.mode = .boot ∨ s.tree.sweepOpen = true → idlesAll .sweepStartIssue) ∧
    (∀ (n : BitVec 16) (tree : BitVec 32) (mark : SweepMark),
      (s.isRoot = false → modeAsleep s.mode = false → CompletesAll (.sweepBoundary n tree mark) s fun u =>
        (∀ e, (u.eng e).latch.getLsbD 8 = true) ∧ u.regN Reg.SWEEP_NUM = n.toNat ∧
        (s.mode = .boot → u.treeTime = tree.toNat ∧ u.mode = .boot ∧ u.running .sweepLapse = true ∧
          u.flag Fld.HB_STATUS_ORPHAN = false ∧ u.flag Fld.MS_STATUS_LOCAL_DOM = mark.localFlag)) ∧
      (s.isRoot = true ∨ modeAsleep s.mode = true → idlesAll (.sweepBoundary n tree mark))) ∧
    (s.isRoot = false → s.running .sweepLapse = true → CompletesAll .sweepStartLapse s fun u => u.running .sweepLapse = false ∧
      u.sweepsRun = false) ∧
    (s.isRoot = true ∨ s.running .sweepLapse = false → idlesAll .sweepStartLapse)

/-! ### The history store and the internal flash -/

/-- HS_KEY opens the unlock in SERVICE by 0x5F0A and then 0xA35C in time, and nowhere else. FORMAT with the unlock open
discards every record, records marked blocks as bad, asks for a checkpoint and closes the unlock, or takes a device with fewer
than 8 good control blocks out of use; without the unlock nothing changes. FLUSH closes every filling buffer, the flush age
its own tier's, with AGE 0 none. CLR_CNT clears the counters. LOAD begins the read of a held page, or sets NOT_HELD; its end
takes the first copy of the metadata that passes, each failed one counted, and puts the page's bytes in the window with DONE,
an uncorrectable sector as read with its bit in UNCORR; with no copy that passes the page is not held (log entry 136). While a
page program is in progress the load waits. The end of a summary's interval at a node that is not the root sends three parts,
and the root, its SWEEP engine preset, logs its own. -/
def Obligations.HistoryStoreOrders : Prop :=
  ∀ (s : State),
    (s.mode = .service → Completes (.hsKeyUnlock 0x5F0A) s fun t => t.hs.keyAt = some s.now ∧ t.regs = (settle s).regs) ∧
    (∀ k, s.mode = .service → s.hs.keyAt = some k → Completes (.hsKeyUnlock 0xA35C) s fun t => t.hs.keyAt = none ∧
      (s.now ≤ k + 8000 → t.flag Fld.HS_STATUS_KEY_OPEN = true) ∧
      (k + 8000 < s.now → t.flag Fld.HS_STATUS_KEY_OPEN = s.flag Fld.HS_STATUS_KEY_OPEN)) ∧
    (∀ v, s.mode ≠ .service → exec (.hsKeyUnlock v) s = .next (settle s)) ∧
    (s.flag Fld.HS_STATUS_KEY_OPEN = true → s.storeOn = true ∨ (s.fld Fld.HS_STATUS_PROBE = 5 ∧ s.role ≠ 0) →
      ((s.hs.marks.filter (· < 16)).length ≤ 8 → Completes .hsFormat s fun t =>
        t.hs.pages = [] ∧ t.hs.torn = [] ∧ t.hs.full = [] ∧ t.hs.filling = [none, none, none] ∧ t.hs.op = none ∧ t.hs.ckpt = none ∧
        t.hs.tiers = [{}, {}, {}, {}] ∧ t.storeOn = true ∧ t.flag Fld.HS_STATUS_KEY_OPEN = false ∧
        t.flag Fld.HS_STATUS_READY = true ∧ t.fld Fld.HS_STATUS_PROBE = 1 ∧ t.hs.ckptLeft = (if s.isRoot = true then 33 else 1) ∧
        ∀ m ∈ s.hs.marks, m ∈ t.hs.work.bad) ∧
      (8 < (s.hs.marks.filter (· < 16)).length → Completes .hsFormat s fun t =>
        t.storeOn = false ∧ t.fld Fld.HS_STATUS_PROBE = 4 ∧ t.flag Fld.HS_STATUS_KEY_OPEN = false ∧ t.hs.pages = s.hs.pages)) ∧
    (s.flag Fld.HS_STATUS_KEY_OPEN = false → exec .hsFormat s = .next (settle s)) ∧
    (Completes .hsFlush s fun t => (∀ k, k < 3 → t.hs.filling.getD k none = none) ∧ t.hs.pages = s.hs.pages ∧
      t.hs.full = s.hs.full ++ ((List.range 3).filterMap fun k => s.hs.filling.getD k none).map
        fun b => { b with flushed := decide (b.data.length < 4096), tb := s.tb.value }) ∧
    (∀ k : Fin 3,
      (s.regN (Reg.HS_T_FLUSH k) = 0 → exec (.hsFlushAge k) s = .next (settle s)) ∧
      (∀ b, s.regN (Reg.HS_T_FLUSH k) ≠ 0 → s.hs.filling.getD k none = some b → Completes (.hsFlushAge k) s fun t =>
        t.hs.full = s.hs.full ++ [{ b with flushed := decide (b.data.length < 4096), tb := s.tb.value }] ∧ t.hs.filling.getD k none = none ∧
        ∀ j, j ≠ k.val → t.hs.filling.getD j none = s.hs.filling.getD j none)) ∧
    (Completes .hsClearCounters s fun t => t.hs = s.hs ∧
      ∀ a ∈ [Reg.HS_CORR, Reg.HS_UNCORR, Reg.HS_RETIRED, Reg.HS_PROG_FAIL, Reg.HS_ERASE_MAX, Reg.HS_TORN,
        Reg.HS_T_REFUSED 0, Reg.HS_T_REFUSED 1, Reg.HS_T_REFUSED 2], t.reg a = 0) ∧
    (let tier := s.fld Fld.HS_RD_TIER_TIER
     let seq := s.pair Reg.HS_RD_SEQ_LO Reg.HS_RD_SEQ_HI
     s.storeOn = true → s.hs.load = none →
      (∀ x, s.heldPage tier seq = some x → Completes .hsLoad s fun t => t.hs.load = some (tier, seq) ∧
        t.flag Fld.HS_RD_STATUS_BUSY = true ∧ t.flag Fld.HS_RD_STATUS_NOT_HELD = false ∧ t.hs.window = s.hs.window) ∧
      (s.heldPage tier seq = none → Completes .hsLoad s fun t => t.flag Fld.HS_RD_STATUS_NOT_HELD = true ∧
        t.flag Fld.HS_RD_STATUS_BUSY = false ∧ t.hs = s.hs)) ∧
    (s.hs.load.isSome = true ∨ s.storeOn = false → exec .hsLoad s = .next (settle s)) ∧
    (∀ (tier seq row k : Nat) (p : NandPage) (raw : List Byte), raw.length = 4352 →
      s.hs.load = some (tier, seq) → s.heldPage tier seq = some (row, p) → s.nandTested = false → s.nandPrograms = false → s.hostWait = [] →
      p.data.length ≤ 4096 → k < 3 → metaGood row (pageMeta raw k) = true → (∀ j, j < k → metaGood row (pageMeta raw j) = false) →
      Completes (.hsLoadDone raw) s fun t =>
        t.hs.load = none ∧ t.flag Fld.HS_RD_STATUS_DONE = true ∧ t.flag Fld.HS_RD_STATUS_BUSY = false ∧ t.hs.window.length = 4096 ∧
        t.hs.windowMeta = pageMeta raw k ∧ t.regN Reg.HCVU_FAIL = min 65535 (s.regN Reg.HCVU_FAIL + k) ∧
        ∀ i, i < 8 → (t.reg Reg.HS_RD_STATUS).getLsbD (8 + i) = decide (8 < p.errors raw i) ∧
          (8 < p.errors raw i → slice t.hs.window (512 * i) 512 = slice raw (512 * i) 512) ∧
          (p.errors raw i ≤ 8 → ∀ j, j < 512 → t.hs.window.getD (512 * i + j) 0 = p.data.getD (512 * i + j) 0xFF)) ∧
    (∀ (tier seq row : Nat) (p : NandPage) (raw : List Byte), raw.length = 4352 →
      s.hs.load = some (tier, seq) → s.heldPage tier seq = some (row, p) → s.nandTested = false → s.nandPrograms = false → s.hostWait = [] →
      (∀ k, k < 3 → metaGood row (pageMeta raw k) = false) → Completes (.hsLoadDone raw) s fun t =>
        t.hs.load = none ∧ t.flag Fld.HS_RD_STATUS_NOT_HELD = true ∧ t.flag Fld.HS_RD_STATUS_BUSY = false ∧
        t.hs.window = s.hs.window ∧ t.hs.windowMeta = s.hs.windowMeta) ∧
    (∀ raw : List Byte, raw.length = 4352 → s.nandPrograms = true → s.hostWait = [] → exec (.hsLoadDone raw) s = .next (settle s)) ∧
    (∀ h : Bool, let x := if h then s.hour else s.minute
      (s.isRoot = false → Completes (.summaryIntervalEnd h) s fun t => (∃ a b c : Frame,
        t.link.responses = s.link.responses ++ [a, b, c] ∧ a.payload.take 4 = [0x80, 0] ++ leBytes 2 x.seq ∧ a.payload.length = 236 ∧
        b.payload.take 4 = [0x80, 1] ++ leBytes 2 x.seq ∧ b.payload.length = 236 ∧
        c.payload.take 4 = [0x80, 2] ++ leBytes 2 x.seq ∧ c.payload.length = 52) ∧
        (if h then t.hour else t.minute) = { seq := (x.seq + 1) % 65536, tree := s.treeTime }) ∧
      (s.presetRecords = true → s.hs.filling.getD (if h then 1 else 0) none = none → s.buffersUsed < 8 →
        Completes (.summaryIntervalEnd h) s fun t => ∃ b : PageBuf, t.hs.filling.getD (if h then 1 else 0) none = some b ∧
          b.nrec = 1 ∧ b.data.length = 512 ∧ b.since = s.now ∧ t.link.responses = s.link.responses))

/-- The check every 1 ms evaluates supplies, temperature and hold-up, and REF shows what refuses. A program or erase starts
only when permitted and with none under way: copies of a retirement first, then the tiers' pages, then a checkpoint's, with
the binding table as it then stands and the CRC-32 over it. A page programmed stands in its tier under its SEQ, which counts
on; a failed program retires the block, and its page waits again: a spare takes its place and its pages are to be copied, or
with none left it is lost. A page of a checkpoint stands in the control area, and its last page makes the checkpoint the
store's. An erased block holds no page, and its erase counts. A flash word is programmed and a sector erased when the
operation in progress ends. CLEAR starts an empty first-fault slot with GEN + 1, or waits while the first fault is pending. -/
def Obligations.StoreAndFlashWrites : Prop :=
  ∀ (s : State),
    (∀ vreg vddd vddio pin : Nat,
      let v := s.vstk
      let enough (units : Nat) : Prop := 8000000 ≤ v ∧
        (((units + s.regN Reg.HOLD_MARGIN) * (200000000000 * pin) : Nat) : Int) ≤ s.regN Reg.HOLD_C * (v * v - 64000000000000)
      Completes (.writePermissionCheck vreg vddd vddio pin) s fun t =>
        (t.fla.holdIf = true ↔ enough 4) ∧ (t.fla.holdNand = true ↔ enough 75) ∧
        t.fla.supplyIf = (decide (4400 ≤ vreg) && decide (1080 ≤ vddd)) ∧ t.fla.supplyNand = decide (3000 ≤ vddio) ∧
        t.flag Fld.IF_STATUS_REF_HOLD = !t.fla.holdIf ∧ t.flag Fld.IF_STATUS_REF_SUPPLY = !t.fla.supplyIf ∧
        t.flag Fld.IF_STATUS_REF_TEMP = !s.flag Fld.TH_STATUS_WRITE_OK ∧ t.regN Reg.HS_PIN = min pin 65535 ∧
        (s.storeOn = true → t.flag Fld.HS_STATUS_REF_HOLD = !t.fla.holdNand ∧ t.flag Fld.HS_STATUS_REF_SUPPLY = !t.fla.supplyNand ∧
          t.flag Fld.HS_STATUS_REF_TEMP = !s.flag Fld.TH_STATUS_WRITE_OK) ∧ t.hs = s.hs) ∧
    (s.storeOn = true → s.hs.op = none → s.nandPermitted = true → s.hs.load = none → s.nandTested = false →
      (∀ x rest, s.hs.copies = x :: rest → s.hs.renew = [] → Completes .nandProgramStart s fun t =>
        t.hs.op = some (.copy x.1 x.2) ∧ t.hs.copies = rest ∧ t.flag Fld.HS_STATUS_BUSY = true ∧ t.hs.pages = s.hs.pages) ∧
      (∀ b, s.hs.copies = [] → s.nextBuffer = some b → Completes .nandProgramStart s fun t =>
        t.hs.op = some (.page b) ∧ t.hs.full = s.hs.full.erase b ∧ t.flag Fld.HS_STATUS_BUSY = true ∧ t.hs.pages = s.hs.pages) ∧
      (s.hs.copies = [] → s.nextBuffer = none → 0 < s.hs.ckptLeft → s.placeReady 3 = true → Completes .nandProgramStart s fun t =>
        ∃ b c, t.hs.op = some (.checkpoint b c) ∧ b.tier = 3 ∧ t.hs.pages = s.hs.pages ∧
          (1 < s.hs.ckptLeft → c.before = s.hs.ckptPart.before + 1 ∧ c.crc = crc32 s.hs.ckptPart.crc b.data ∧ b.data =
            (List.range 256).flatMap fun i => (s.entry (256 * (33 - s.hs.ckptLeft) + i)).flatMap fun w => leBytes 2 w.toNat) ∧
          (s.hs.ckptLeft = 1 → c.binding = s.hs.ckptPart.binding ∧ c.crc = s.hs.ckptPart.crc ∧ c.seq = s.hs.work.seq + 1))) ∧
    (s.storeOn = true → s.hs.op = none → s.nandPermitted = true → s.nandTested = false → ∀ b,
      s.hs.renew.head? = some b ∨ (s.hs.renew = [] ∧ [2, 0, 1, 3].findSome? s.eraseNeeded = some b) →
      Completes .nandEraseStart s fun t =>
        t.hs.op = some (.erase b) ∧ t.flag Fld.HS_STATUS_BUSY = true ∧ t.hs.pages = s.hs.pages) ∧
    (∀ i ∈ [Instr.nandProgramStart, .nandEraseStart], s.hs.op.isSome = true ∨ s.nandPermitted = false →
      exec i s = .next (settle s)) ∧
    (∀ (b : PageBuf) (symbols : Nat), s.hs.op = some (.page b) → let block := s.placeBlock b.tier (s.nextPlace b.tier)
      (symbols ≤ 4 → b.tier < 3 → Completes (.nandProgramDone true symbols) s fun t => t.hs.op = none ∧
        (t.tier b.tier).seq = ((s.tier b.tier).seq + 1) % 2 ^ 32 ∧
        t.regN Reg.HS_PROG_FAIL = s.regN Reg.HS_PROG_FAIL ∧ t.regN Reg.HS_RETIRED = s.regN Reg.HS_RETIRED ∧
        ∃ page : NandPage, (64 * s.physical block + s.nextPlace b.tier % 64, page) ∈ t.hs.pages ∧
          page.tier = b.tier ∧ page.seq = (s.tier b.tier).seq ∧ page.data = b.data ∧ page.nrec = b.nrec ∧ page.tb = b.tb) ∧
      (b.tier < 3 → Completes (.nandProgramDone false symbols) s fun t => t.hs.op = none ∧ t.flag Fld.HS_STATUS_RETIRED = true ∧
        t.regN Reg.HS_PROG_FAIL = min 65535 (s.regN Reg.HS_PROG_FAIL + 1) ∧
        t.regN Reg.HS_RETIRED = min 65535 (s.regN Reg.HS_RETIRED + 1) ∧
        t.hs.full = b :: s.hs.full ∧ (t.tier b.tier).seq = (s.tier b.tier).seq ∧
        (∀ new rest, s.spares = new :: rest → t.physical block = new ∧ ∀ x ∈ s.hs.pages, x.1 / 64 = s.physical block →
          (64 * new + x.1 % 64, x.2) ∈ t.hs.copies) ∧
        (s.spares = [] → block ∈ t.hs.work.lost ∧ t.flag Fld.HS_STATUS_POOL_EMPTY = true))) ∧
    (∀ (row symbols : Nat) (p : NandPage), s.hs.op = some (.copy row p) → symbols ≤ 4 →
      Completes (.nandProgramDone true symbols) s fun t => t.hs.op = none ∧
        ∃ page : NandPage, (row, page) ∈ t.hs.pages ∧ page = { p with flags := p.flags ||| 2, erases := page.erases }) ∧
    (∀ (b : PageBuf) (c : Checkpoint) (symbols : Nat), s.hs.op = some (.checkpoint b c) → b.tier = 3 → symbols ≤ 4 →
      let block := s.physical (s.placeBlock 3 (s.nextPlace 3))
      Completes (.nandProgramDone true symbols) s fun t => t.hs.op = none ∧
        (t.tier 3).seq = ((s.tier 3).seq + 1) % 2 ^ 32 ∧
        (1 < s.hs.ckptLeft ∨ block ∉ c.bad → ∃ page : NandPage, (64 * block + s.nextPlace 3 % 64, page) ∈ t.hs.pages ∧
          page.tier = 3 ∧ page.seq = (s.tier 3).seq) ∧
        (1 < s.hs.ckptLeft → t.hs.ckpt = s.hs.ckpt ∧ t.hs.ckptLeft = s.hs.ckptLeft - 1 ∧ t.hs.ckptPart = c) ∧
        (s.hs.ckptLeft = 1 → t.hs.ckpt = some c)) ∧
    (∀ block, s.hs.op = some (.erase block) → Completes (.nandEraseDone true) s fun t => t.hs.op = none ∧
      sparseGet t.hs.erases 0 (s.physical block) = sparseGet s.hs.erases 0 (s.physical block) + 1 ∧ block ∉ t.hs.renew ∧
      ∀ x ∈ t.hs.pages, x.1 / 64 ≠ s.physical block ∧ x ∈ s.hs.pages) ∧
    (∀ op rest, s.fla.ops = op :: rest → s.fla.cur.isSome = true → s.fla.busy = false → s.flashPermitted = true →
      let i := if isErase op then Instr.flashSectorEraseStart else .flashWordProgramStart
      Completes i s fun t => t.fla.busy = true ∧ t.flag Fld.IF_STATUS_BUSY = true ∧ t.fla.mem = s.fla.mem ∧ t.fla.ops = s.fla.ops) ∧
    (∀ w v rest, s.fla.busy = true → s.fla.ops = .program w v :: rest → rest ≠ [] → s.fla.cur.any isUpdate = false →
      Completes (.flashWordProgramDone true) s fun t => t.flashWord w = v ∧ t.fla.ops = rest ∧ t.fla.busy = false ∧
        ∀ u, u ≠ w → t.flashWord u = s.flashWord u) ∧
    (∀ x rest, s.fla.busy = true → s.fla.ops = .erase x :: rest → rest ≠ [] →
      Completes .flashSectorEraseDone s fun t => t.fla.ops = rest ∧ t.fla.busy = false ∧ x ∉ t.fla.void ∧
        (∀ w, w / 512 = x → t.flashWord w = BitVec.allOnes 64) ∧ (∀ w, w / 512 ≠ x → t.flashWord w = s.flashWord w) ∧
        sparseGet t.fla.erases 0 x = sparseGet s.fla.erases 0 x + 1) ∧
    (s.fla.pending.any (·.1) = false → Completes .fflClear s fun t => t.flag Fld.FFL_STATUS_FROZEN = false ∧
      t.regN Reg.FFL_GEN = (s.fla.clearGen + 1) % 65536 ∧ t.fla.clearWaits = true ∧ t.fla.pending = s.fla.pending ∧ t.fla.faults = 0) ∧
    (s.fla.pending.any (·.1) = true → Completes .fflClear s fun t => t.fla.clearHeld = true ∧ t.regs = (settle s).regs)

/-! ### Rails -/

/-- An ON request of a rail with a TYPE, within the budget, with no sequence running, no group change holding it, in a mode
that allows it and not LOCKED puts an OFF or discharging rail last in the queue in WAIT; an OFF request cancels a wait or a
restart, holds a LOAD on until MIN_ON, and otherwise switches off. A refused request shows CMD_ERR and changes no rail. CLEAR
takes the restart count and the fault bit of a rail, and returns a LOCKED or RETRY rail to OFF. The first waiting rail that
fits is granted: REN goes active, or with ALIGN in the tick in which the timebase crosses RAIL_PH, where what is ready changes
together. A RAMPING rail whose monitor has reported INSIDE for PG_DEB becomes GOOD. -/
def Obligations.RailRequests : Prop :=
  ∀ (s : State) (n : Nat) (h : n < 16),
    let st := s.railSt n
    let crosses := crossesPhase (s.regN Reg.RAIL_PH) s.tb.prevValue s.tb.value
    let off := if s.railWatched n = true ∧ s.railMon n ≠ .below then rsDischarge else rsOff
    let free : Prop := n < 12 ∧ s.railType n ≠ 0 ∧ s.fld Fld.SEQ_STATUS_SEQ = 0 ∧ s.groupHolds n = false ∧ modeAsleep s.mode = false ∧
      s.mode ≠ .selftest ∧ s.mode ≠ .update
    let mayOn : Prop := free ∧ s.overBudget n = false ∧ (s.mode = .safe → s.flag (Fld.RAIL_CFG_SAFE_OFF n) = false) ∧ st ≠ rsLocked
    (12 ≤ n ∨ s.railType n = 0 → ∀ i ∈ [Instr.railOn ⟨n, h⟩, .railOff ⟨n, h⟩], CompletesRails i s fun u =>
      u.fld Fld.SEQ_STATUS_CMD_ERR = 1 ∧ u.rail = s.rail ∧ ∀ a, a ≠ Reg.SEQ_STATUS → u.reg a = s.reg a) ∧
    (n < 12 → s.railType n ≠ 0 → s.overBudget n = false → s.fld Fld.SEQ_STATUS_SEQ ≠ 0 →
      ∀ i ∈ [Instr.railOn ⟨n, h⟩, .railOff ⟨n, h⟩], CompletesRails i s fun u =>
        u.fld Fld.SEQ_STATUS_CMD_ERR = 2 ∧ u.rail = s.rail ∧ ∀ a, a ≠ Reg.SEQ_STATUS → u.reg a = s.reg a) ∧
    (mayOn → CompletesRails (.railOn ⟨n, h⟩) s fun u =>
      (st = rsOff ∨ st = rsDischarge → u.railSt n = rsWait ∧ u.rail.queue = s.rail.queue.filter (· != n) ++ [n]) ∧
      (st = rsHoldOn → (s.railWatched n = false ∨ s.railMon n = .inside → u.railSt n = rsGood) ∧
        (s.railWatched n = true → s.railMon n ≠ .inside → u.railSt n = rsOut)) ∧
      (st = rsWait ∨ st = rsRamping ∨ st = rsGood ∨ st = rsOut ∨ st = rsRetry → u.regs = s.regs ∧ u.rail.queue = s.rail.queue)) ∧
    (free → CompletesRails (.railOff ⟨n, h⟩) s fun u =>
      (st = rsWait ∨ st = rsRetry → u.railSt n = rsOff ∧ n ∉ u.rail.queue) ∧
      (st = rsRamping ∨ st = rsGood ∨ st = rsOut →
        (s.minOnLeft n = true → u.railSt n = rsHoldOn ∧ u.ren n = s.ren n) ∧
        (s.minOnLeft n = false → s.flag Fld.RAIL_CTL_ALIGN = false → u.railSt n = off ∧ u.ren n = false) ∧
        (s.minOnLeft n = false → s.flag Fld.RAIL_CTL_ALIGN = true → (u.railOf n).offReady = true ∧ u.regs = s.regs)) ∧
      (st = rsOff ∨ st = rsDischarge ∨ st = rsHoldOn → u = s)) ∧
    (n < 12 → CompletesRails (.railClear ⟨n, h⟩) s fun u =>
      u.railSt n = (if st = rsLocked ∨ st = rsRetry then rsOff else st) ∧ u.fld (Fld.RAIL_STAT_RESTARTS n) = 0 ∧
      (u.reg Reg.RAIL_FLAGS).getLsbD n = false ∧ (u.railOf n).restarts = [] ∧ u.ren n = s.ren n) ∧
    (12 ≤ n → CompletesRails (.railClear ⟨n, h⟩) s fun u => u = s) ∧
    (∀ rest, n < 12 → s.rail.queue = n :: rest → s.railFits n = true → CompletesRails .railGrant s fun u =>
      u.rail.queue = rest ∧
      (s.flag Fld.RAIL_CTL_ALIGN = true → (u.railOf n).granted = true ∧ u.railSt n = st ∧ u.ren n = s.ren n) ∧
      (s.flag Fld.RAIL_CTL_ALIGN = false → u.ren n = true ∧ (u.railOf n).onAt = s.now ∧
        u.railSt n = if s.railSense n = true then rsRamping else rsGood)) ∧
    (∀ rest, s.rail.queue = n :: rest → s.railFits n = false → CompletesRails .railGrant s fun u => u = s) ∧
    (s.rail.queue = [] → CompletesRails .railGrant s fun u => u = s) ∧
    (s.flag Fld.RAIL_CTL_ALIGN = true → crosses = false → CompletesRails .railAlignedChange s fun u => u = s) ∧
    (n < 12 → s.flag Fld.RAIL_CTL_ALIGN = false ∨ crosses = true → CompletesRails .railAlignedChange s fun u =>
      ((s.railOf n).granted = true → u.ren n = true ∧ (u.railOf n).onAt = s.now ∧ (u.railOf n).granted = false) ∧
      ((s.railOf n).granted = false → (s.railOf n).offReady = true → u.ren n = false ∧ (u.railOf n).offReady = false) ∧
      ((s.railOf n).granted = false → (s.railOf n).offReady = false → u.ren n = s.ren n ∧ u.railSt n = st)) ∧
    (∀ q : n < 12,
      (st = rsRamping → s.railWatched n = true → s.railMon n = .inside → ∀ since, (s.railOf n).insideAt = some since →
        since + 8000 * s.fld (Fld.RAIL_INRUSH_PG_DEB n) ≤ s.now → CompletesRails (.railPowerGood ⟨n, q⟩) s fun u =>
          u.railSt n = rsGood ∧ (u.reg Reg.RAIL_GOOD).getLsbD n = true ∧ u.ren n = s.ren n) ∧
      (st ≠ rsRamping ∨ s.railWatched n = false ∨ s.railMon n ≠ .inside ∨ (s.railOf n).insideAt = none →
        CompletesRails (.railPowerGood ⟨n, q⟩) s fun u => u = s) ∧
      (∀ since, (s.railOf n).insideAt = some since → s.now < since + 8000 * s.fld (Fld.RAIL_INRUSH_PG_DEB n) →
        CompletesRails (.railPowerGood ⟨n, q⟩) s fun u => u = s) ∧
      (st = rsHoldOn → s.flag Fld.RAIL_CTL_ALIGN = false → CompletesRails (.railMinOnEnd ⟨n, q⟩) s fun u =>
        u.railSt n = off ∧ u.ren n = false) ∧
      (st = rsHoldOn → s.flag Fld.RAIL_CTL_ALIGN = true → CompletesRails (.railMinOnEnd ⟨n, q⟩) s fun u =>
        (u.railOf n).offReady = true ∧ u.regs = s.regs) ∧
      (st ≠ rsHoldOn → CompletesRails (.railMinOnEnd ⟨n, q⟩) s fun u => u = s) ∧
      (s.railLoad n = true → s.ren n = true → s.regN (Reg.RAIL_MAXON n) ≠ 0 → CompletesRails (.railMaxonEnd ⟨n, q⟩) s fun u =>
        u.railSt n = rsOff ∧ u.ren n = false ∧ (u.railOf n).maxed = true ∧ (u.railOf n).offAt = some s.now) ∧
      (s.railLoad n = false ∨ s.ren n = false ∨ s.regN (Reg.RAIL_MAXON n) = 0 → CompletesRails (.railMaxonEnd ⟨n, q⟩) s fun u => u = s) ∧
      (st ≠ rsRetry → CompletesRails (.railRestart ⟨n, q⟩) s fun u => u = s) ∧
      (st = rsRetry → s.railType n ≠ 0 → s.overBudget n = false → s.railModeRefuses n true = false →
        CompletesRails (.railRestart ⟨n, q⟩) s fun u => u.railSt n = rsWait ∧
          u.rail.queue = s.rail.queue.filter (· != n) ++ [n] ∧ (u.railOf n).restarts = s.now :: s.recentRestarts n))

/-- Outside a sequence and a group change, a rail not good in PG_TO has fault 3, and a watched one still above its window's
floor when OFFTO ends fault 4; the request of an ON step not granted in its TIME has fault 5, and the step fails. Each is
recorded in RAIL_FLAGS, FLT_SUM and the first-fault log, and ACT says what follows. A rail INSIDE for PG_DEB when PG_TO ends
is GOOD. The end of such a time in any other state changes nothing. A margin target is taken where its code and the expected
pin voltage are allowed, else TGT_ERR; codes move by SLEW. A group change is prepared, committed or cancelled. RAIL_V shows
the clamped reading. -/
def Obligations.RailFaultsAndMargins : Prop :=
  ∀ (s : State),
    let recorded (n : Fin 12) (u : State) (code : Nat) : Prop := u.fld (Fld.RAIL_STAT_FAULT n) = code ∧
      (u.reg Reg.RAIL_FLAGS).getLsbD n.val = true ∧ (u.reg Reg.FLT_SUM).getLsbD fltRail = true ∧
      (u.reg Reg.IRQ_PEND).getLsbD irqRail = true ∧ u.flag Fld.FFL_STATUS_FROZEN = true
    let lateOn (n : Fin 12) : Prop := s.railSt n = rsWait ∧ (s.railOf n).granted = false ∧ s.fld Fld.SEQ_STATUS_SEQ ≠ 0 ∧
      s.rail.seq.issued = true ∧ stepOp s.seqWord = 1 ∧ stepRail s.seqWord = n.val ∧ stepTime s.seqWord ≠ 0
    (∀ n : Fin 12, s.fld Fld.SEQ_STATUS_SEQ = 0 → s.rail.group.settling = false →
      let recorded (u : State) (code : Nat) : Prop := recorded n u code
      let act := s.fld (Fld.RAIL_CFG_ACT n)
      (s.railSt n = rsRamping → s.pgReached n = false →
        (act = 0 → CompletesRails (.railPgTimeout n) s fun u => recorded u 3 ∧ u.railSt n = rsRamping ∧ u.ren n = s.ren n ∧
          u.fla.faults = (s.fla.faults + 1) % 2 ^ 32) ∧
        (act = 1 → s.railLoad n = false → CompletesRails (.railPgTimeout n) s fun u => recorded u 3 ∧ u.railSt n = rsLocked ∧ u.ren n = false) ∧
        (act = 1 → s.railLoad n = true → (s.recentRestarts n).length < s.fld (Fld.RAIL_RST_RST_MAX n) →
          CompletesRails (.railPgTimeout n) s fun u => recorded u 3 ∧ u.railSt n = rsRetry ∧ u.ren n = false) ∧
        (act = 1 → s.railLoad n = true → s.fld (Fld.RAIL_RST_RST_MAX n) ≠ 0 →
          s.fld (Fld.RAIL_RST_RST_MAX n) ≤ (s.recentRestarts n).length →
          CompletesRails (.railPgTimeout n) s fun u => recorded u 6 ∧ u.railSt n = rsLocked ∧ u.ren n = false) ∧
        (act = 2 → s.tableError 64 = none → s.mc.shutdown = none →
          CompletesRails (.railPgTimeout n) s fun u => recorded u 3 ∧ u.railSt n = rsLocked ∧ u.fld Fld.SEQ_STATUS_SEQ = 2) ∧
        (act = 3 → s.mode = .active → s.mc.shutdown = none → CompletesRails (.railPgTimeout n) s fun u =>
          u.mode = .safe ∧ (u.reg Reg.SAFE_CAUSE).getLsbD 3 = true ∧ u.ren n = false)) ∧
      (s.railSt n = rsDischarge → s.railWatched n = true → s.railMon n ≠ .below → 4 ∉ (s.railOf n).raised → act = 0 →
        CompletesRails (.railOffTimeout n) s fun u => recorded u 4 ∧ u.railSt n = rsDischarge ∧ 4 ∈ (u.railOf n).raised)) ∧
    (∀ n : Fin 12,
      (s.railSt n ≠ rsRamping → CompletesRails (.railPgTimeout n) s fun u => u = s) ∧
      (s.pgReached n = true → CompletesRails (.railPgTimeout n) s fun u => u.railSt n = rsGood ∧ u.fla = s.fla ∧
        u.reg Reg.RAIL_FLAGS = s.reg Reg.RAIL_FLAGS) ∧
      (s.railSt n ≠ rsDischarge ∨ s.railWatched n = false ∨ s.railMon n = .below ∨ 4 ∈ (s.railOf n).raised →
        CompletesRails (.railOffTimeout n) s fun u => u = s) ∧
      (lateOn n → s.fld Fld.SEQ_STATUS_SEQ = 1 → s.rail.seq.thenDown = false → s.flag Fld.RAIL_CTL_DOWN_ON_FAIL = false →
        s.rail.group.settling = false → s.mc.shutdown = none → CompletesRails (.railWaitTimeout n) s fun u =>
          recorded n u 5 ∧ u.railSt n = rsOff ∧ n.val ∉ u.rail.queue ∧ u.fld Fld.SEQ_STATUS_SEQ = 0 ∧
          u.flag Fld.SEQ_STATUS_FAILED = true) ∧
      (¬ lateOn n → CompletesRails (.railWaitTimeout n) s fun u => u = s)) ∧
    (∀ (d : Fin 2) (v : BitVec 16),
      let m := signedByte (v.toNat % 256)
      let x := m * s.regI (Reg.MRG_GAIN d)
      let code : Int := s.fld (Fld.MRG_NEUTRAL_NEUTRAL d) + (x + 8) / 16
      x % 16 ≠ 8 →
      (0 ≤ code → code ≤ 4095 → -100 ≤ m → m ≤ 100 → s.marginInWindow d m = true → CompletesRails (.mrgTargetWrite d v) s fun u =>
        u.fld (Fld.MRG_TGT_TGT d) = v.toNat % 256 ∧ u.dacTarget d = code.toNat ∧
        u.flag Fld.SEQ_STATUS_TGT_ERR = s.flag Fld.SEQ_STATUS_TGT_ERR) ∧
      (code < 0 ∨ 4095 < code ∨ s.marginInWindow d m = false → CompletesRails (.mrgTargetWrite d v) s fun u =>
        u.flag Fld.SEQ_STATUS_TGT_ERR = true ∧ u.fld (Fld.MRG_TGT_TGT d) = s.fld (Fld.MRG_TGT_TGT d) ∧ u.rail = s.rail)) ∧
    (CompletesRails .mrgSlewStep s fun u => ∀ d, d < 2 →
      let target := s.dacTarget d
      let code := s.fld (Fld.MRG_CODE_CODE d)
      let slew := s.fld (Fld.MRG_CTL_SLEW d)
      (s.flag (Fld.MRG_CODE_DRIVEN d) = false → u.reg (Reg.MRG_CODE d) = s.reg (Reg.MRG_CODE d)) ∧
      (s.flag (Fld.MRG_CODE_DRIVEN d) = true →
        (slew = 0 → u.fld (Fld.MRG_CODE_CODE d) = target) ∧
        (slew ≠ 0 → code < target → u.fld (Fld.MRG_CODE_CODE d) = min target (code + slew)) ∧
        (slew ≠ 0 → target ≤ code → u.fld (Fld.MRG_CODE_CODE d) = max target (code - slew)))) ∧
    (s.groupError = 0 → Completes .rgrpPrepare s fun t => t.fld Fld.RGRP_STATUS_STAGE = 1 ∧ t.fld Fld.RGRP_STATUS_RGRP_ERR = 0 ∧
      t.rail.group.mask = s.fld Fld.RGRP_MASK_BITS ∧ t.rail.group.want = s.fld Fld.RGRP_STATE_BITS) ∧
    (s.fld Fld.RGRP_MASK_BITS = 0 → s.mode = .active → s.fld Fld.SEQ_STATUS_SEQ = 0 → s.rail.group.settling = false →
      Completes .rgrpPrepare s fun t => t.fld Fld.RGRP_STATUS_RGRP_ERR = 6 ∧ t.rail = s.rail ∧
        t.fld Fld.RGRP_STATUS_STAGE = s.fld Fld.RGRP_STATUS_STAGE) ∧
    (s.groupError ≠ 0 → Completes .rgrpPrepare s fun t => t.fld Fld.RGRP_STATUS_RGRP_ERR = s.groupError ∧ t.rail = s.rail ∧
      t.fld Fld.RGRP_STATUS_STAGE = s.fld Fld.RGRP_STATUS_STAGE) ∧
    (s.fld Fld.RGRP_STATUS_STAGE ≠ 1 → exec .rgrpCommit s = .next (settle s)) ∧
    (s.fld Fld.RGRP_STATUS_STAGE ≠ 1 → s.fld Fld.RGRP_STATUS_STAGE ≠ 2 → exec .rgrpCancel s = .next (settle s)) ∧
    (s.fld Fld.RGRP_STATUS_STAGE = 1 → Completes .rgrpCommit s fun t => t.fld Fld.RGRP_STATUS_STAGE = 2 ∧ t.rail = s.rail) ∧
    (s.fld Fld.RGRP_STATUS_STAGE = 1 ∨ s.fld Fld.RGRP_STATUS_STAGE = 2 → Completes .rgrpCancel s fun t =>
      t.fld Fld.RGRP_STATUS_STAGE = 0 ∧ t.rail.group = {} ∧ sparseGet t.txn none 3 = none ∧ t.rail.queue = s.rail.queue) ∧
    (∀ (n : Fin 12) (mv : Int),
      (s.railType n = 0 → exec (.railScanConversion n mv) s = .next (settle s)) ∧
      (s.railType n ≠ 0 → Completes (.railScanConversion n mv) s fun t => (t.regN (Reg.RAIL_V n) : Int) = max 0 (min 4800 mv) ∧
        t.rail = s.rail))

/-- UP with no sequence and no staged group change starts a table without an error, and refuses one with an error with FAILED;
while a sequence runs it is refused with BUSY. DOWN starts the power-down table, switches everything off where it has an
error, and during a power-up waits for the step. ABORT ends a sequence at its step. A step is issued once, by its own command
alone; a request that is refused fails it. END sets DONE and ends the sequence; a power-down then has every rail off. A
DELAY's end and a completed wait go on with the next step, and a bound that ran out fails the step; TIME 0 bounds nothing. -/
def Obligations.RailSequences : Prop :=
  ∀ (s : State), s.mc.shutdown = none →
    let seq := s.fld Fld.SEQ_STATUS_SEQ
    let step := s.fld Fld.SEQ_STEP_STEP
    let n := stepRail s.seqWord
    let stage := s.fld Fld.RGRP_STATUS_STAGE
    let allOff (u : State) : Prop := ∀ k, k < 12 → u.ren k = false
    let upFails (u : State) : Prop := u.fld Fld.SEQ_STATUS_SEQ = 0 ∧ u.flag Fld.SEQ_STATUS_FAILED = true
    let plainUp : Prop := seq = 1 ∧ s.rail.seq.thenDown = false ∧ s.flag Fld.RAIL_CTL_DOWN_ON_FAIL = false
    (seq = 0 → stage ≠ 1 → stage ≠ 2 →
      (s.tableError 0 = none → CompletesRails .seqUp s fun u => u.fld Fld.SEQ_STATUS_SEQ = 1 ∧ u.fld Fld.SEQ_STEP_STEP = 0 ∧
        u.fld Fld.SEQ_STATUS_SEQ_ERR = 0 ∧ u.rail.seq.issued = false) ∧
      (∀ i e, s.tableError 0 = some (i, e) → CompletesRails .seqUp s fun u => upFails u ∧ u.fld Fld.SEQ_STEP_STEP = i ∧
        u.fld Fld.SEQ_STATUS_SEQ_ERR = e ∧ u.rail = s.rail)) ∧
    (seq ≠ 0 ∨ stage = 1 ∨ stage = 2 → CompletesRails .seqUp s fun u => u.fld Fld.SEQ_STATUS_CMD_ERR = 2 ∧ u.rail = s.rail ∧
      u.fld Fld.SEQ_STATUS_SEQ = seq) ∧
    (seq = 0 → (s.tableError 64 = none → CompletesRails .seqDown s fun u => u.fld Fld.SEQ_STATUS_SEQ = 2 ∧
        u.fld Fld.SEQ_STEP_STEP = 64 ∧ u.reg Reg.RAIL_ON = s.reg Reg.RAIL_ON) ∧
      (∀ i e, s.tableError 64 = some (i, e) → CompletesRails .seqDown s fun u => u.fld Fld.SEQ_STATUS_SEQ = 0 ∧
        u.fld Fld.SEQ_STEP_STEP = i ∧ u.fld Fld.SEQ_STATUS_SEQ_ERR = e ∧ allOff u)) ∧
    (seq = 1 → CompletesRails .seqDown s fun u => u.rail.seq.thenDown = true ∧ u.regs = s.regs) ∧
    (seq = 2 ∨ seq = 3 → CompletesRails .seqDown s fun u => u = s) ∧
    (seq = 0 → CompletesRails .seqAbort s fun u => u = s) ∧
    (∀ p ∈ [(Instr.seqStepEnd, 0), (.seqStepOn, 1), (.seqStepOff, 2), (.seqStepWaitPg, 3), (.seqStepDelay, 4), (.seqStepMargin, 5)],
      s.stepReady p.2 = false → CompletesRails p.1 s fun u => u = s) ∧
    (seq = 0 ∨ s.rail.seq.issued = false ∨ s.seqMoves = false ∨ stepOp s.seqWord ≠ 4 → CompletesRails .seqDelayEnd s fun u => u = s) ∧
    (seq ≠ 0 → CompletesRails .seqAbort s fun u => u.fld Fld.SEQ_STATUS_SEQ = 0 ∧ u.rail.seq.issued = false ∧
      u.reg Reg.RAIL_ON = s.reg Reg.RAIL_ON ∧ u.rail.queue = s.rail.queue) ∧
    (s.stepReady 1 = true →
      (s.railType n ≠ 0 → n < 12 → s.overBudget n = false → s.railModeRefuses n true = false → s.railSt n = rsOff →
        CompletesRails .seqStepOn s fun u => u.rail.seq.issued = true ∧ u.railSt n = rsWait ∧ n ∈ u.rail.queue) ∧
      (plainUp → s.railSt n = rsLocked ∨ s.railType n = 0 → CompletesRails .seqStepOn s fun u => upFails u ∧
        u.rail.queue = s.rail.queue)) ∧
    (s.stepReady 2 = true →
      (s.railType n ≠ 0 → n < 12 → s.railModeRefuses n false = false → s.railSt n = rsGood → s.flag Fld.RAIL_CTL_ALIGN = false →
        seq = 2 ∨ s.minOnLeft n = false → CompletesRails .seqStepOff s fun u => u.rail.seq.issued = true ∧ u.ren n = false ∧
          u.railSt n = if s.railWatched n = true ∧ s.railMon n ≠ .below then rsDischarge else rsOff) ∧
      (plainUp → s.railType n = 0 → CompletesRails .seqStepOff s upFails)) ∧
    (s.stepReady 3 = true → CompletesRails .seqStepWaitPg s fun u => u.rail.seq.issued = true ∧ u.regs = s.regs) ∧
    (s.stepReady 4 = true → CompletesRails .seqStepDelay s fun u => u.rail.seq.issued = true ∧ u.regs = s.regs ∧
      (.seqDelay, s.now) ∈ u.timers) ∧
    (s.stepReady 5 = true →
      (∀ d, s.railDac n = some d →
        let m := stepArgSigned s.seqWord
        let x := m * s.regI (Reg.MRG_GAIN d)
        let code : Int := s.fld (Fld.MRG_NEUTRAL_NEUTRAL d) + (x + 8) / 16
        x % 16 ≠ 8 → 0 ≤ code → code ≤ 4095 → -100 ≤ m → m ≤ 100 → s.marginInWindow d m = true →
        CompletesRails .seqStepMargin s fun u => u.rail.seq.issued = true ∧ u.dacTarget d = code.toNat ∧
          u.fld (Fld.MRG_TGT_TGT d) = stepArg s.seqWord) ∧
      (plainUp → s.railDac n = none → CompletesRails .seqStepMargin s upFails)) ∧
    (s.stepReady 0 = true → s.rail.seq.thenDown = false → CompletesRails .seqStepEnd s fun u =>
      u.flag Fld.SEQ_STATUS_DONE = true ∧ u.fld Fld.SEQ_STATUS_SEQ = 0 ∧ (u.reg Reg.IRQ_PEND).getLsbD irqRail = true ∧
      (seq = 1 → u.reg Reg.RAIL_ON = s.reg Reg.RAIL_ON) ∧ (seq = 2 → allOff u)) ∧
    (seq ≠ 0 → s.rail.seq.issued = true → s.seqMoves = true → stepOp s.seqWord = 4 → s.rail.seq.thenDown = false → step < 127 →
      CompletesRails .seqDelayEnd s fun u => u.fld Fld.SEQ_STEP_STEP = step + 1 ∧ u.rail.seq.issued = false ∧
        u.fld Fld.SEQ_STATUS_SEQ = seq) ∧
    (seq ≠ 0 → s.rail.seq.issued = true → stepOp s.seqWord = 3 → stepTime s.seqWord = 0 →
      CompletesRails .seqStepTimeout s fun u => u = s) ∧
    (seq ≠ 0 → s.rail.seq.issued = true → stepOp s.seqWord = 3 → stepTime s.seqWord ≠ 0 →
      (plainUp → CompletesRails .seqStepTimeout s upFails) ∧
      (seq = 2 → step < 127 → CompletesRails .seqStepTimeout s fun u => u.fld Fld.SEQ_STEP_STEP = step + 1 ∧
        u.rail.seq.failed = true ∧ u.fld Fld.SEQ_STATUS_SEQ = 2)) ∧
    (seq = 0 ∨ s.rail.seq.issued = false → CompletesRails .seqStepTimeout s fun u => u = s)

/-! ### The thermal supervisor, calibration, self-test -/

/-- Asleep no sample is taken. Otherwise a sample shows in TH_TJ. With a trusted sensor it is the effective Tj, WRITE_OK says
whether that lies within -40 to 125 degrees C, and with thresholds in the order R376 asks for a level enters on its eighth
sample at or above entry with every level below it, leaves on the eighth below release, and stays in between; shutdown
brings an ACTIVE node to SAFE. In the power-up evaluation the eighth sample ends INIT and the mean decides. The eighth
sample out of range sets SENSOR_FAIL. TH_MODEL_TJ is the estimate, or 0x8000 without a valid NTC. -/
def Obligations.ThermalSupervisor : Prop :=
  ∀ (s : State),
    let trusted (tj : Int) : Prop := s.flag Fld.TH_STATUS_SENSOR_FAIL = false ∧ s.th.sensorTest = false ∧ s.suspect = false ∧
      -550 ≤ tj ∧ tj ≤ 1750
    let ordered : Prop := (∀ k, k < 3 → s.levelRelease k ≤ s.levelEntry k) ∧ s.levelEntry 0 ≤ s.levelEntry 1 ∧
      s.levelEntry 1 ≤ s.levelEntry 2
    let awake : Prop := modeAsleep s.mode = false ∧ s.mode ≠ .selftest
    let writeOk (tj : Int) : Bool := decide (-400 ≤ tj) && decide (tj ≤ 1250)
    (∀ tj, modeAsleep s.mode = true → exec (.thermalSample tj) s = .next (settle s) ∧
      exec .thermalModelCheck s = .next (settle s)) ∧
    (∀ tj, awake → trusted tj → s.flag Fld.TH_STATUS_INIT = false → CompletesAll (.thermalSample tj) s fun u =>
      u.reg Reg.TH_TJ = half tj ∧ u.th.eff = some tj ∧ u.flag Fld.TH_STATUS_WRITE_OK = writeOk tj ∧
      u.flag Fld.TH_STATUS_SUBST = false ∧
      (ordered → ∀ k, k < 3 →
        (s.levelEntry k ≤ tj → 7 ≤ s.th.up.getD k 0 → s.level k = false → ∀ j, j ≤ k → u.level j = true) ∧
        (tj < s.levelRelease k → 7 ≤ s.th.down.getD k 0 → u.level k = false) ∧
        (s.levelRelease k ≤ tj → tj < s.levelEntry k → u.level k = s.level k)) ∧
      (s.mode = .active → s.mc.shutdown = none → s.levelEntry 2 ≤ tj → 7 ≤ s.th.up.getD 2 0 → s.level 2 = false →
        u.mode = .safe ∧ (u.reg Reg.SAFE_CAUSE).getLsbD 1 = true ∧ u.flag Fld.FFL_STATUS_FROZEN = true)) ∧
    (∀ tj, awake → trusted tj → s.flag Fld.TH_STATUS_INIT = true → CompletesAll (.thermalSample tj) s fun u =>
      let sum := s.th.initSum + tj
      (s.th.initCount < 7 → u.flag Fld.TH_STATUS_INIT = true ∧ u.th.eff = s.th.eff ∧ u.th.initSum = sum ∧
        u.flag Fld.TH_STATUS_SHUT = s.flag Fld.TH_STATUS_SHUT) ∧
      (s.th.initCount = 7 → u.flag Fld.TH_STATUS_INIT = false ∧
        (8 * s.levelRelease 2 ≤ sum → u.flag Fld.TH_STATUS_SHUT = true) ∧
        (sum < 8 * s.levelRelease 2 → u.flag Fld.TH_STATUS_SHUT = s.flag Fld.TH_STATUS_SHUT) ∧
        (8 * s.levelEntry 0 ≤ sum → u.flag Fld.TH_STATUS_WARN = true) ∧
        ∃ mean : Int, u.th.eff = some mean ∧ (8 * mean - sum).natAbs < 8 ∧ u.flag Fld.TH_STATUS_WRITE_OK = writeOk mean)) ∧
    (∀ tj, awake → tj < -550 ∨ 1750 < tj → 7 ≤ s.th.outside → s.flag Fld.TH_STATUS_SENSOR_FAIL = false →
      CompletesAll (.thermalSample tj) s fun u => u.flag Fld.TH_STATUS_SENSOR_FAIL = true ∧ u.flag Fld.TH_STATUS_EVT = true) ∧
    (modeAsleep s.mode = false →
      (s.boardNtcs = [] → Completes .thermalModelCheck s fun t => t.reg Reg.TH_MODEL_TJ = 0x8000 ∧ t.th = s.th) ∧
      (s.boardNtcs ≠ [] → Completes .thermalModelCheck s fun t => ∃ x : Int, t.reg Reg.TH_MODEL_TJ = half x ∧
        (1000 * s.boardNtcs.length * x - (1000 * s.boardNtcs.sum +
          s.boardNtcs.length * s.fld Fld.TH_MODEL_THETA * s.regN Reg.HS_PIN)).natAbs < 1000 * s.boardNtcs.length ∧
        (s.flag Fld.TH_CTL_LOCAL_EN = false → t.flag Fld.TH_STATUS_LOCAL_SUSPECT = s.flag Fld.TH_STATUS_LOCAL_SUSPECT))) ∧
    (∀ n : BitVec 13,
      (s.isRoot = true → eValid (s.entry n.toNat) = true → CompletesTree (.inhAgeExpire n) s fun u =>
        (u.neighbour n.toNat).silent = true) ∧
      (s.isRoot = false → exec (.inhAgeExpire n) s = .next (settle s))) ∧
    (Completes .thClearSuspect s fun t => t.flag Fld.TH_STATUS_LOCAL_SUSPECT = false ∧ t.flag Fld.TH_NB_SUSPECT = false ∧
      t.flag Fld.TH_STATUS_NB_SUSPECT = false ∧ t.th.xBad = 0 ∧ t.th.xGood = 0) ∧
    (Completes .thClearMax s fun t => t.th.maxRestart = true ∧ t.regs = (settle s).regs)

/-- TEMP, SCHED, RETRY and RUN make a run due, and are absorbed while one is due or running. FULL asks for CALIBRATE where its
mode allows. ABORT ends a run that is due, or between its slots, with result 5, and one in a slot ends after it. A slot
starts, goes through its passes and compares them: one trim that does not agree marks the run. After the last slot a run
without a cause is accepted, counted and starts to apply its trims; one with a disagreement is rejected with result 1 and
applies nothing. An application moment moves every trim by at most STEP, or all the way. -/
def Obligations.CalibrationRuns : Prop :=
  ∀ (s : State),
    let idle : Prop := s.cal.due = false ∧ s.cal.running = false
    let due (u : State) (cause : Nat) : Prop := u.cal.due = true ∧ u.cal.cause = cause ∧ u.fld Fld.CAL_STATUS_CAUSE = min cause 3 ∧
      u.cal.step = 0 ∧ u.cal.group = 0 ∧ (s.cal.applying = false → u.fld Fld.CAL_STATUS_STATE = 1)
    (∀ t, modeAsleep s.mode = false → s.flag Fld.CAL_CTL_TEMP_EN = true → s.th.eff = some t → idle →
      10 * s.fld Fld.CAL_CTL_TRIG < (t - s.regI Reg.CAL_LAST_TJ).natAbs → Completes .calTempCheck s fun u => due u 1) ∧
    (∀ t, s.flag Fld.CAL_CTL_TEMP_EN = false ∨ (s.th.eff = some t ∧
      (t - s.regI Reg.CAL_LAST_TJ).natAbs ≤ 10 * s.fld Fld.CAL_CTL_TRIG) → exec .calTempCheck s = .next (settle s)) ∧
    (s.running .calSched = true → s.flag Fld.CAL_CTL_SCHED_EN = true → s.regN Reg.CAL_PERIOD ≠ 0 → idle →
      Completes .calSchedElapsed s fun u => due u 2) ∧
    (s.running .calRetry = true → idle → Completes .calRetryElapsed s fun u => due u 4 ∧ u.running .calRetry = false) ∧
    (idle → Completes .calRun s fun u => due u 3) ∧
    (s.cal.due = true ∨ s.cal.running = true → exec .calRun s = .next (settle s)) ∧
    (s.mode = .active ∨ s.mode = .balance ∨ s.mode = .service ∨ s.mode = .standby →
      (s.sweepsRun = true → CompletesRails .calFull s fun u => u.cal.full = true ∧ u.mc.calEnter = true ∧ u.mode = s.mode) ∧
      (s.sweepsRun = false → CompletesRails .calFull s fun u => u.mode = .calibrate ∧ u.mc.calFrom = s.mode ∧ u.cal.full = true)) ∧
    (s.mode = .spectrum ∨ s.mode = .safe ∨ s.mode = .update → CompletesRails .calFull s fun u => u = s) ∧
    (s.cal.running = true → s.cal.step ≠ 0 → Completes .calAbort s fun u => u.cal.abort = true ∧ u.cal.step = s.cal.step ∧
      u.regs = (settle s).regs) ∧
    (s.cal.running = true → s.cal.step = 0 → Completes .calAbort s fun u => u.cal.running = false ∧ u.cal.due = false ∧
      u.fld Fld.CAL_STATUS_RESULT = 5 ∧ u.flag Fld.CAL_STATUS_DONE = true ∧ u.cal.target = s.cal.target) ∧
    (s.cal.running = false → s.cal.due = true → Completes .calAbort s fun u => u.cal.due = false ∧ u.reg Reg.CAL_WAIT = 0 ∧
      u.fld Fld.CAL_STATUS_RESULT = 5 ∧ u.flag Fld.CAL_STATUS_DONE = true ∧ u.cal.target = s.cal.target) ∧
    (s.calMayStart = true →
      (s.calPullWait s.cal.group = false → s.calTestWait s.cal.group = false → s.cal.group < 4 → Completes .calSlotStart s fun u =>
        u.cal.step = 2 ∧ u.cal.running = true ∧ u.cal.due = false ∧ u.acq.calGroups = [s.cal.group] ∧
        u.fld Fld.CAL_STATUS_GROUP = s.cal.group) ∧
      (s.calPullWait s.cal.group = true → Completes .calSlotStart s fun u => u.cal.step = 0 ∧ u.cal.ready = false ∧
        u.flag Fld.CAL_WAIT_PULL = true ∧ u.acq = s.acq) ∧
      (s.calTestWait s.cal.group = true → Completes .calSlotStart s fun u => u.cal.step = 0 ∧ u.cal.ready = false ∧
        u.flag Fld.CAL_WAIT_SELFTEST = true ∧ u.acq = s.acq)) ∧
    (s.calMayStart = false → Completes .calSlotStart s fun u => u.cal = s.cal ∧ u.acq = s.acq ∧ u.wd = s.wd) ∧
    (∀ l : List Int, s.cal.step < 2 ∨ s.cal.step = 6 → Completes (.calSlotPhaseEnd l) s fun u => u.cal.step = s.cal.step ∧
      u.cal.live = s.cal.live ∧ u.regs = (settle s).regs) ∧
    (s.running .calSched = false ∨ s.flag Fld.CAL_CTL_SCHED_EN = false → exec .calSchedElapsed s = .next (settle s)) ∧
    (s.running .calRetry = false → exec .calRetryElapsed s = .next (settle s)) ∧
    (s.cal.running = false → s.cal.due = false → exec .calAbort s = .next (settle s)) ∧
    (s.cal.step ≠ 6 → s.mode ≠ .calibrate → CompletesRails .calSlotEnd s fun u => u = s) ∧
    (∀ l : List Int, l.length = (groupTrims s.cal.group).length →
      (s.cal.step = 2 → Completes (.calSlotPhaseEnd l) s fun u => u.cal.step = 3 ∧ u.regs = (settle s).regs) ∧
      (s.cal.step = 3 → Completes (.calSlotPhaseEnd l) s fun u => u.cal.step = 4 ∧ u.cal.pass1 = l) ∧
      (s.cal.step = 4 → Completes (.calSlotPhaseEnd l) s fun u => u.cal.step = 5 ∧ u.cal.pass2 = l ∧ u.cal.pass1 = s.cal.pass1)) ∧
    (∀ l : List Int, s.cal.step = 5 → Completes (.calSlotPhaseEnd l) s fun u => u.cal.step = 6 ∧ u.cal.live = s.cal.live ∧
      ((∀ i t, (groupTrims s.cal.group)[i]? = some t → trimAgrees t (s.cal.pass1.getD i 0) (s.cal.pass2.getD i 0) = true) →
        u.cal.disagree = s.cal.disagree) ∧
      ((∃ i t, (groupTrims s.cal.group)[i]? = some t ∧ trimAgrees t (s.cal.pass1.getD i 0) (s.cal.pass2.getD i 0) = false) →
        u.cal.disagree = true)) ∧
    (s.cal.step = 6 → s.cal.group < 3 → s.cal.abort = false → s.mode ≠ .calibrate → CompletesRails .calSlotEnd s fun u =>
      u.cal.step = 0 ∧ u.cal.group = s.cal.group + 1 ∧ u.acq.calGroups = [] ∧ u.cal.running = s.cal.running) ∧
    (s.cal.step = 6 → s.cal.group = 3 → s.cal.abort = false → s.mode ≠ .calibrate →
      (s.calResult = 0 → s.acq.refFallback = false → CompletesRails .calSlotEnd s fun u =>
        u.cal.running = false ∧ u.cal.applying = true ∧ u.cal.target = s.cal.staged ∧ u.fld Fld.CAL_STATUS_RESULT = 0 ∧
        u.flag Fld.CAL_STATUS_DONE = true ∧ u.flag Fld.CAL_STATUS_STORE_PEND = true ∧ u.cal.live = s.cal.live ∧
        u.pair Reg.CAL_COUNT_LO Reg.CAL_COUNT_HI = (s.pair Reg.CAL_COUNT_LO Reg.CAL_COUNT_HI + 1) % 2 ^ 32) ∧
      (s.cal.disagree = true → CompletesRails .calSlotEnd s fun u =>
        u.cal.running = false ∧ u.cal.target = s.cal.target ∧ u.fld Fld.CAL_STATUS_RESULT = 1 ∧ u.flag Fld.CAL_STATUS_DONE = true ∧
        u.regN Reg.CAL_REJECTS = min 65535 (s.regN Reg.CAL_REJECTS + 1))) ∧
    (s.scheduled = false → s.reqBusy = false → s.cal.applying = true → Completes .calApplyTick s fun u =>
      let step : Int := s.fld Fld.CAL_CTL_STEP
      ∀ g, g < 4 → ∀ t ∈ groupTrims g,
        let a := sparseGet s.cal.live 0 t
        let b := sparseGet s.cal.target 0 t
        (step = 0 → u.trim t = b) ∧ (step ≠ 0 → a < b → u.trim t = min b (a + step)) ∧
        (step ≠ 0 → b ≤ a → u.trim t = max b (a - step))) ∧
    (s.scheduled = true ∨ s.reqBusy = true ∨ s.cal.applying = false → exec .calApplyTick s = .next (settle s))

/-- KEY_A and then KEY_B in time open the unlock in STANDBY; a wrong key counts, and the third in a row locks out. The unlock
and the lockout end in time. START without the unlock is refused and changes no mode; an accepted one enters SELFTEST with the
first selected test, or waits while a pin test runs (R77). ABORT gives the test in progress INCOMPLETE and ends the sequence.
A test's end gives PASS, FAIL or INCOMPLETE by its count and signature, and after the last test READY. LOOP's wait ends with
the port skipped. The rotation takes one item at a time, has it wait for a pin test, and returns it with its verdict. -/
def Obligations.SelfTestRuns : Prop :=
  ∀ (s : State),
    let taken : Prop := s.mode = .standby ∧ s.flag Fld.ST_STATUS_LOCKOUT = false
    let failed (t : State) : Prop := t.st.keyAt = none ∧
      (s.st.failures < 2 → t.st.failures = s.st.failures + 1 ∧ t.flag Fld.ST_STATUS_LOCKOUT = false) ∧
      (2 ≤ s.st.failures → t.flag Fld.ST_STATUS_LOCKOUT = true ∧ (.stLockout, s.now) ∈ t.timers)
    let verdict (u : State) (t : Nat) : Nat := u.fld (Fld.ST_RES0_VERDICT t)
    (∀ v, taken → (v = 0x5E1F → Completes (.stKeyA v) s fun t => t.st.keyAt = some s.now ∧ t.regs = (settle s).regs) ∧
      (v ≠ 0x5E1F → Completes (.stKeyA v) s failed)) ∧
    (∀ v, taken → (∀ k, s.st.keyAt = some k → s.now ≤ k + 8000 → v = 0xA1E0 → Completes (.stKeyB v) s fun t =>
        t.flag Fld.ST_STATUS_UNLOCKED = true ∧ t.st.failures = 0 ∧ (.stUnlock, s.now) ∈ t.timers) ∧
      (s.st.keyAt = none ∨ v ≠ 0xA1E0 → Completes (.stKeyB v) s failed)) ∧
    (∀ v, s.mode ≠ .standby ∨ s.flag Fld.ST_STATUS_LOCKOUT = true → exec (.stKeyA v) s = .next (settle s) ∧
      exec (.stKeyB v) s = .next (settle s)) ∧
    (s.running .stUnlock = true → Completes .stUnlockTimeout s fun t => t.flag Fld.ST_STATUS_UNLOCKED = false ∧ t.st = s.st) ∧
    (s.running .stLockout = true → Completes .stLockoutEnd s fun t => t.flag Fld.ST_STATUS_LOCKOUT = false ∧ t.st.failures = 0) ∧
    (s.flag Fld.ST_STATUS_UNLOCKED = false → CompletesAll .stStart s fun u => u.fld Fld.ST_STATUS_REFUSE = 1 ∧ u.mode = s.mode ∧
      u.st = s.st ∧ u.reg Reg.ST_RUN = s.reg Reg.ST_RUN) ∧
    (s.flag Fld.ST_STATUS_UNLOCKED = true → s.mode = .standby → s.st.starts = [] → 0 < s.fld Fld.ST_LIMIT_MAX_HOUR →
      (s.reg Reg.ST_SEL).getLsbD 0 = true →
      (s.wd.phase = .idle → CompletesAll .stStart s fun u => u.mode = .selftest ∧ u.st.cur = some 0 ∧
        verdict u 0 = 5 ∧ u.fld Fld.ST_STATUS_STATE = 1 ∧ u.flag Fld.ST_STATUS_UNLOCKED = false ∧ u.st.starts = [s.now] ∧
        u.regN Reg.ST_RUN = (s.regN Reg.ST_RUN + 1) % 65536) ∧
      (s.wd.phase ≠ .idle → CompletesAll .stStart s fun u => u.mode = .standby ∧ u.st.held = true ∧ u.st.cur = none ∧
        u.fld Fld.ST_STATUS_STATE = 1 ∧ u.wd = s.wd ∧ u.st.starts = [s.now])) ∧
    (s.running .stUnlock = false → exec .stUnlockTimeout s = .next (settle s)) ∧
    (s.running .stLockout = false → exec .stLockoutEnd s = .next (settle s)) ∧
    (∀ (count : Nat) (sig : BitVec 32) (failing : List Nat), s.st.cur = none → s.hostWait = [] →
      CompletesAll (.stTestEnd count sig failing) s fun u => u = s) ∧
    (∀ pass : Bool, s.st.bg = none → CompletesRails (.stBackgroundEnd pass) s fun u => u = s) ∧
    (s.fld Fld.ST_STATUS_STATE = 0 → s.hostWait = [] → CompletesAll .stAbort s fun u => u.flag Fld.ST_STATUS_UNLOCKED = false ∧
      u.st = s.st ∧ u.mode = s.mode) ∧
    (∀ t, s.fld Fld.ST_STATUS_STATE ≠ 0 → s.st.cur = some t → t < 9 → s.hostWait = [] → s.mode = .selftest →
      s.st.marchFail = false → CompletesAll .stAbort s fun u => u.flag Fld.ST_STATUS_ABORTED = true ∧ u.fld Fld.ST_STATUS_STATE = 0 ∧
        u.st.cur = none ∧ verdict u t = 3 ∧ u.mode = .standby) ∧
    (∀ (t count : Nat) (sig : BitVec 32) (failing : List Nat), s.st.cur = some t → t < 10 → s.st.left = [] → s.hostWait = [] →
      s.mode = .selftest → s.st.marchFail = false →
      let ends (u : State) : Prop := u.flag Fld.ST_STATUS_READY = true ∧ u.fld Fld.ST_STATUS_STATE = 0 ∧ u.st.cur = none ∧
        (u.reg Reg.IRQ_PEND).getLsbD irqSelftest = true
      let passes : Word := Config.testResponse t 0
      (count < stPatterns t 0 → CompletesAll (.stTestEnd count sig failing) s fun u => verdict u t = 3 ∧ ends u ∧ u.mode = .standby ∧
        u.pair (Reg.ST_RES3 t) (Reg.ST_RES4 t) ≠ u.pair (Reg.ST_RES5 t) (Reg.ST_RES6 t)) ∧
      (stPatterns t 0 ≤ count → sig = passes → CompletesAll (.stTestEnd count sig failing) s fun u =>
        verdict u t = 1 ∧ ends u ∧ u.mode = .standby) ∧
      (stPatterns t 0 ≤ count → sig ≠ passes → CompletesAll (.stTestEnd count sig failing) s fun u =>
        verdict u t = 2 ∧ ends u ∧ u.flag Fld.ST_STATUS_FAILED = true ∧ (u.reg Reg.FLT_SUM).getLsbD fltSelftest = true ∧
        (t = 2 ∨ t = 3 ∨ t = 4 ∨ t = 5 → s.mc.shutdown = none → u.mode = .safe) ∧ (t = 0 → u.st.engFail = true))) ∧
    (∀ p, s.st.port = some p → s.flag Fld.ST_STATUS_LOOP_WAIT = true → s.st.ports = [] → s.st.tested ≠ [] →
      CompletesAll .stLoopWaitTimeout s fun u => u.flag Fld.ST_STATUS_LOOP_WAIT = false ∧ u.st.port = none ∧
        u.st.skipped = s.st.skipped ++ [p] ∧ u.st.cur = s.st.cur) ∧
    (s.st.port = none ∨ s.flag Fld.ST_STATUS_LOOP_WAIT = false → CompletesAll .stLoopWaitTimeout s fun u => u = s) ∧
    (s.flag Fld.ST_CTL_BG_EN = true → s.mode = .active → s.st.bg = none → s.wd.phase = .idle → s.st.bgNext < 2 →
      CompletesRails .stBackgroundItem s fun u => u.st.bg = some s.st.bgNext ∧ u.st.bgNext = s.st.bgNext + 1 ∧
        u.fld Fld.ST_BG_LAST = s.st.bgNext ∧ (s.st.bgNext = 0 → u.acq.sarATest = true) ∧ (s.st.bgNext = 1 → u.acq.sarBTest = true)) ∧
    (s.flag Fld.ST_CTL_BG_EN = true → s.mode = .active → s.st.bg = none → s.wd.phase ≠ .idle →
      CompletesRails .stBackgroundItem s fun u => u.st.bg = none ∧ u.st.bgDue = true ∧ u.regs = s.regs ∧ u.acq = s.acq) ∧
    (s.flag Fld.ST_CTL_BG_EN = false ∨ s.st.bg.isSome = true → CompletesRails .stBackgroundItem s fun u => u = s) ∧
    (∀ pass : Bool, s.st.bg = some 0 → CompletesRails (.stBackgroundEnd pass) s fun u => u.st.bg = none ∧ u.acq.sarATest = false ∧
      u.acq.sarAFail = (!pass) ∧ (pass = true → u.regs = s.regs) ∧
      (pass = false → u.flag Fld.ST_BG_BG_FAIL = true ∧ (u.reg Reg.FLT_SUM).getLsbD fltSelftest = true))

/-! ### Check values, keys and attestation -/

/-- Behind a feed in progress every write to the unit waits and changes nothing else. Otherwise START sets VAL to INIT XOR
SEED and clears COUNT and CHECKED; CHECK compares RES with EXP within WIDTH, leaves VAL, and counts SEED on in SEQUENCE; a
feed takes one, two or four bytes, lowest first, and leaves VAL until it completes; its end gives VAL the value after these
bytes and counts them; a write of VAL_HI loads VAL with the held low half. -/
def Obligations.CheckValueUnits : Prop :=
  ∀ (s : State) (u : Fin 4),
    let w := 2 ^ s.cvuWidth u
    let val (t : State) : Nat := t.pair (Reg.CVU_VAL_LO u) (Reg.CVU_VAL_HI u)
    let count (t : State) : Nat := t.pair (Reg.CVU_COUNT_LO u) (Reg.CVU_COUNT_HI u)
    let seed (t : State) : Nat := t.pair (Reg.CVU_SEED_LO u) (Reg.CVU_SEED_HI u)
    let init := s.pair (Reg.CVU_INIT_LO u) (Reg.CVU_INIT_HI u)
    let mode := s.fld (Fld.CVU_CTL_SEEDMODE u)
    let feeds (bs : List Byte) (t : State) : Prop := (t.cvu u).feed = some bs ∧ t.flag (Fld.CVU_STATUS_BUSY u) = true ∧
      val t = val s ∧ count t = count s
    ((s.cvu u).feed.isSome = true →
      (∀ x ∈ [(Instr.cvuStart u, 0x13, 1#16), (.cvuCheck u, 0x13, 2#16)], Completes x.1 s fun t =>
        t.regs = (settle s).regs ∧ (t.cvu u).waiting = (s.cvu u).waiting ++ [(x.2.1, x.2.2)] ∧ (t.cvu u).feed = (s.cvu u).feed) ∧
      (∀ v : BitVec 16, ∀ x ∈ [(Instr.cvuFeedByte u v, 0x0F), (.cvuFeedHalf u v, 0x10), (.cvuFeedWord u v, 0x12), (.cvuValLoad u v, 0x0A)],
        Completes x.1 s fun t => t.regs = (settle s).regs ∧ (t.cvu u).waiting = (s.cvu u).waiting ++ [(x.2, v)])) ∧
    ((s.cvu u).feed = none →
      (Completes (.cvuStart u) s fun t => val t = (init % w) ^^^ (if mode = 0 then 0 else seed s % w) ∧ count t = 0 ∧
        t.flag (Fld.CVU_STATUS_CHECKED u) = false ∧ t.flag (Fld.CVU_STATUS_MISMATCH u) = s.flag (Fld.CVU_STATUS_MISMATCH u)) ∧
      (Completes (.cvuCheck u) s fun t =>
        let res := t.pair (Reg.CVU_RES_LO u) (Reg.CVU_RES_HI u)
        let exp := s.pair (Reg.CVU_EXP_LO u) (Reg.CVU_EXP_HI u) % w
        val t = val s ∧ t.flag (Fld.CVU_STATUS_CHECKED u) = true ∧ t.flag (Fld.CVU_STATUS_MATCH u) = decide (res = exp) ∧
        (res ≠ exp → t.flag (Fld.CVU_STATUS_MISMATCH u) = true) ∧
        (s.flag (Fld.CVU_CTL_REFIN u) = s.flag (Fld.CVU_CTL_REFOUT u) →
          res = (val s % w ^^^ s.pair (Reg.CVU_XOR_LO u) (Reg.CVU_XOR_HI u)) % w) ∧
        (mode = 2 → seed t = (seed s + 1) % 2 ^ 32) ∧ (mode ≠ 2 → seed t = seed s)) ∧
      (∀ v : BitVec 16,
        (Completes (.cvuFeedByte u v) s (feeds (leBytes 1 v.toNat))) ∧
        (Completes (.cvuFeedHalf u v) s (feeds (leBytes 2 v.toNat))) ∧
        (Completes (.cvuFeedWord u v) s
          (feeds (leBytes 2 (sparseGet s.held 0 (Reg.CVU_DIN_W_LO u)).toNat ++ leBytes 2 v.toNat))) ∧
        (Completes (.cvuValLoad u v) s fun t =>
          val t = ((sparseGet s.held 0 (Reg.CVU_VAL_LO u)).toNat + 65536 * v.toNat) % w ∧ count t = count s ∧ seed t = seed s))) ∧
    (∀ bs, (s.cvu u).feed = some bs → (s.cvu u).waiting = [] → Completes (.cvuFeedDone u) s fun t =>
      val t = s.cvuFed u bs % 2 ^ 32 ∧ count t = (count s + bs.length) % 2 ^ 32 ∧ (t.cvu u).feed = none ∧
      t.flag (Fld.CVU_STATUS_BUSY u) = false ∧ seed t = seed s) ∧
    ((s.cvu u).feed = none → exec (.cvuFeedDone u) s = .next (settle s))

/-- GEN counts TRNG_SEQ unless a health test failed; a failure is shown and captured. A node whose keys serve signs a
statement of 64 bytes and shows it, or its certificate. ROOT_CERT is kept if genuine and allowed and is not answered.
KEY_HELLO, KEY_AUTH and ATTEST begin a computation, whose end queues the answer if the command waits; without the root's
certificate, or with a point off the curve, they are refused. GET_CERT is answered at once, KEY_CONFIRM and TREE_KEY install
keys that unwrap under a good tag, answer AUTH without one, and are refused while the keys do not serve. The root's renewal
waits for its nodes, and an MTAG releases the MEASURE frame it covers. -/
def Obligations.KeysAndAttestation : Prop :=
  ∀ (s : State) (f : Frame),
    let p := f.payload
    let begins (op : Nat) (t : State) : Prop := t.keys.op = op ∧ t.keys.busy = true ∧ t.keys.awaited = true ∧ t.link = s.link
    let ok (op : Nat) : Prop := s.takesKey f op = true
    (s.flag Fld.KEY_STATUS_TRNG_FAIL = false →
      (Completes .trngGen s fun t => t.regN Reg.TRNG_SEQ = (s.regN Reg.TRNG_SEQ + 1) % 65536) ∧
      (Completes .trngHealthFail s fun t => t.flag Fld.KEY_STATUS_TRNG_FAIL = true ∧ t.flag Fld.FFL_STATUS_FROZEN = true ∧
        t.fla.faults = (s.fla.faults + 1) % 2 ^ 32)) ∧
    (s.flag Fld.KEY_STATUS_TRNG_FAIL = true → exec .trngGen s = .next (settle s) ∧ exec .trngHealthFail s = .next (settle s)) ∧
    (s.keysServe = true →
      (s.keys.signing = false → Completes .attGenStatement s fun t => t.keys.signing = true ∧ t.flag Fld.ATT_STATUS_BUSY = true ∧
        t.flag Fld.ATT_STATUS_READY = false ∧
        t.keys.stmt.take 64 = s.statement ((List.range 8).flatMap fun i => leBytes 2 (s.regN (Reg.ATT_NONCE i)))) ∧
      (Completes .attGenCert s fun t => t.flag Fld.ATT_STATUS_READY = true ∧
        ∀ i, i < 72 → t.regN (Reg.ATT_RD i) = leAt Config.nodeCert (2 * i) 2)) ∧
    (s.keysServe = false → exec .attGenStatement s = .next (settle s) ∧ exec .attGenCert s = .next (settle s)) ∧
    (s.keys.signing = true → Completes .attSignDone s fun t => t.keys.signing = false ∧ t.flag Fld.ATT_STATUS_BUSY = false ∧
      t.flag Fld.ATT_STATUS_READY = true ∧ ∀ i, i < 72 → t.regN (Reg.ATT_RD i) = leAt s.keys.stmt (2 * i) 2) ∧
    (ok 0x40 → Completes (.rootCert f) s fun t =>
      let c := slice p 4 144
      t.link = s.link ∧ t.keys.rootCert = if s.keysServe = true ∧ certGood c = true ∧ (s.keyPins = [] ∨ certFactory c ∈ s.keyPins)
        then some c else none) ∧
    (ok 0x41 → s.keys.op ≠ 0x41 →
      (s.keysServe = true → s.keys.rootCert.isSome = true → Completes (.keyHello f) s fun t =>
        if Config.onCurve (slice p 20 64) = true then begins 0x41 t ∧ t.keys.setup.kgen = leAt p 1 1 ∧
          t.keys.setup.nonceR = slice p 4 16 ∧ t.keys.setup.ephR = slice p 20 64 ∧ t.keys.session = s.keys.session
        else Responds s t [0x41, 1, 0, 0] ∧ t.keys.busy = false ∧ t.keys.setup = {}) ∧
      (s.keysServe = false ∨ s.keys.rootCert = none → Completes (.keyHello f) s fun t => Responds s t [0x41, 1, 0, 0] ∧
        t.keys.busy = false ∧ t.keys.setup = {})) ∧
    (ok 0x45 → s.keysServe = true → Completes (.getCert f) s fun t => Responds s t ([0x45, 0, 0, 0] ++ Config.nodeCert)) ∧
    (ok 0x43 → s.keys.op ≠ 0x43 →
      (s.keys.rootCert.isSome = true → Completes (.keyAuth f) s fun t => begins 0x43 t ∧ t.keys.session = s.keys.session) ∧
      (s.keys.rootCert = none → Completes (.keyAuth f) s fun t => Responds s t [0x43, 1, 0, 0] ∧ t.keys.busy = false)) ∧
    (ok 0x46 → s.keys.op ≠ 0x46 → s.keysServe = true → 20 ≤ p.length → Completes (.attest f) s fun t => begins 0x46 t ∧
      t.keys.attested.take 64 = s.statement (slice p 4 16) ∧ t.regs = (settle s).regs) ∧
    (s.keys.busy = true → s.keys.awaited = true → s.keys.op = 0x41 → Completes .keyComputeDone s fun t => t.keys.busy = false ∧
      ∃ a b : Frame, t.link.responses = s.link.responses ++ [a, b] ∧ a.type = tyResponse ∧ b.type = tyResponse ∧
        a.payload = [0x41, 0, 0, 0] ++ s.keys.setup.nonceN ++ s.keys.setup.ephN ++ s.keys.setup.sigN ∧
        b.payload = [0x45, 0, 0, 0] ++ Config.nodeCert) ∧
    (s.keys.busy = true → s.keys.awaited = false → Completes .keyComputeDone s fun t => t.keys.busy = false ∧
      t.keys.ready.isSome = true ∧ t.link = s.link) ∧
    (s.keys.busy = false → exec .keyComputeDone s = .next (settle s)) ∧
    (s.keysServe = false →
      (ok 0x44 → Completes (.keyConfirm f) s fun t => Responds s t [0x44, 1, 0, 0] ∧ t.keys.session = s.keys.session ∧
        t.keys.treeKey = s.keys.treeKey) ∧
      (ok 0x47 → Completes (.treeKey f) s fun t => Responds s t [0x47, 1, 0, 0] ∧ t.keys.session = s.keys.session ∧
        t.keys.treeKey = s.keys.treeKey)) ∧
    (ok 0x44 → s.keysServe = true → s.keys.setup.key = none → Completes (.keyConfirm f) s fun t => Responds s t [0x44, 4, 0, 0] ∧
      t.regN Reg.AUTH_FAIL = min 65535 (s.regN Reg.AUTH_FAIL + 1) ∧ t.keys = s.keys) ∧
    (∀ k, ok 0x44 → s.keysServe = true → s.keys.setup.key = some k →
      (checkTag { s with keys := { s.keys with session := some k, kgen := s.keys.setup.kgen } } f).1 = .good →
      Completes (.keyConfirm f) s fun t => match Config.keyUnwrap k (slice p 4 24) with
        | some tk => Responds s t [0x44, 0, 0, 0] ∧ t.keys.session = some k ∧ t.keys.treeKey = some tk ∧
          t.keys.tkgen = leAt p 1 1 ∧ t.flag Fld.KEY_STATUS_SESSION = true
        | none => Responds s t [0x44, 1, 0, 0] ∧ t.keys.session = s.keys.session ∧ t.keys.treeKey = s.keys.treeKey) ∧
    (∀ k, ok 0x47 → s.keysServe = true → s.keys.session = some k → (checkTag s f).1 = .good → Completes (.treeKey f) s fun t =>
      t.keys.session = some k ∧ match Config.keyUnwrap k (slice p 4 24) with
        | some tk => Responds s t [0x47, 0, 0, 0] ∧ t.keys.treeKey = some tk ∧ t.keys.treePrev = s.keys.treeKey
        | none => Responds s t [0x47, 1, 0, 0] ∧ t.keys.treeKey = s.keys.treeKey) ∧
    (ok 0x47 → s.keysServe = true → (checkTag s f).1 = .bad → Completes (.treeKey f) s fun t => Responds s t [0x47, 4, 0, 0] ∧ t.keys = s.keys) ∧
    (s.isRoot = true → s.keysServe = true → Completes .keyRenew s fun t => t.keys.nextTree.isSome = true ∧
      t.keys.treeAcks = (s.tree.binding.filter fun x => eValid x.2 && ePresent x.2 && x.1 != 0).map (·.1) ∧
      t.keys.treeKey = s.keys.treeKey) ∧
    (s.isRoot = false → exec .keyRenew s = .next (settle s)) ∧
    (∀ (r : RingId) (m : Frame), s.linkOn = true → s.isRoot = true → s.heads r.idx = true → leAt p 0 1 = 0x48 →
      s.tree.heldMeasures.find? (fun x => x.src == f.src) = some m → (s.ring r.idx).isOpen = true →
      (∀ k, (s.session f.src.toNat).key = some k → (∃ q ∈ s.keys.pairs, makeTag k (tagString m.type m.payload.length f.src.toNat
          m.dst.toNat q.1 q.2 1 (s.session f.src.toNat).kgen m.payload) = p.drop 4) →
        (∃ x ∈ (s.ring r.idx).expected, x ≠ f.src.toNat ∧ x ∉ (s.ring r.idx).got) →
        CompletesTree (.mtag r f) s fun u => f.src.toNat ∈ (u.ring r.idx).got ∧ m ∉ u.tree.heldMeasures ∧
          ∀ e, e < 32 → (u.mirrorAt (32 * f.src.toNat + e)).toNat = measureValue m.payload e +
            2 ^ 24 * measureStatus m.payload e + 2 ^ 28 * (s.regN Reg.SWEEP_NUM % 16)) ∧
      ((s.session f.src.toNat).key = none → CompletesTree (.mtag r f) s fun u => m ∉ u.tree.heldMeasures ∧
        u.regN Reg.AUTH_FAIL = min 65535 (s.regN Reg.AUTH_FAIL + 1) ∧ u.ring r.idx = s.ring r.idx))

/-! ### The Alley tag wire -/

/-- SCAN, POLL and PAGE leave a request, a PAGE of a tag without pages fails, and with AUTO the periods request too. The
exchange of SCAN comes before PAGE and POLL. A hail shows PRESENT, a wire that stays low STUCK, and a scan without
presence empties the list. A pass that reads one tag alone makes the list that tag; a slot of no legal low time fails the
pass, which is hailed again. NAME or ALL addresses, MEASURE converts, the conversion's end goes on with the first tag,
FETCH with a good check gives the tag its values, PAGE its bytes, IDENT the one tag of a point-to-point wire. While the wire
may not open a slot (R444: in a quiet window with QW = 1 among others), and in any other stage, a command of the wire changes
nothing. -/
def Obligations.AlleyWire : Prop :=
  ∀ (s : State),
    let op := s.fld Fld.ALY_STATUS_OP
    let ptp := s.flag Fld.ALY_CTL_PTP
    let ended (t : State) : Prop := t.fld Fld.ALY_STATUS_OP = 0 ∧ t.flag Fld.ALY_STATUS_BUSY = false ∧ t.aly.stage = .idle
    let opens (g : AlyStage) : Prop := s.alyOpens = true ∧ s.aly.stage = g
    let unaddressed := (op = 3 ∨ (op = 2 ∧ s.aly.tag.isSome = true))
    let onlyTag (t : State) (id : BitVec 64) : Prop := (∃ i x, i < 32 ∧ t.alyTag i = some x ∧ x.id = id) ∧
      ∀ i x, i < 32 → t.alyTag i = some x → x.id = id
    let wrong (slots : List Nat) : Prop := ∃ n rest, slots = n :: rest ∧ slotBit n = none
    let terr (t : State) : Prop := t.flag Fld.ALY_STATUS_TERR = true ∧ t.regN Reg.ALY_TERR_N = min 65535 (s.regN Reg.ALY_TERR_N + 1)
    (Completes .alyScan s fun t => t.aly.reqScan = true ∧ t.regs = (settle s).regs) ∧
    (Completes .alyPoll s fun t => t.aly.reqPoll = true ∧ t.regs = (settle s).regs) ∧
    (∀ (i : Fin 32) (pg : Fin 8),
      (∀ x, s.alyTag i = some x → alyFamily x.id = 0xA3 → Completes (.alyPage i pg) s fun t =>
        t.aly.reqPage = some (s.aly.reqPage.getD (i.val, pg.val)) ∧ t.regs = (settle s).regs) ∧
      ((∀ x, s.alyTag i = some x → alyFamily x.id ≠ 0xA3) → Completes (.alyPage i pg) s fun t =>
        t.flag Fld.ALY_STATUS_PAGE_ERR = true ∧ t.aly = s.aly)) ∧
    (modeAsleep s.mode = false → s.flag Fld.ALY_CTL_AUTO = true →
      (s.fld Fld.ALY_TIME_POLL ≠ 0 → Completes .alyPollPeriod s fun t => t.aly.reqPoll = true ∧ (.alyPoll, s.now) ∈ t.timers) ∧
      (s.fld Fld.ALY_TIME_RESCAN ≠ 0 → Completes .alyRescanPeriod s fun t => t.aly.reqScan = true ∧ (.alyRescan, s.now) ∈ t.timers)) ∧
    (∀ i ∈ [Instr.alyPollPeriod, .alyRescanPeriod], modeAsleep s.mode = true ∨ s.flag Fld.ALY_CTL_AUTO = false →
      exec i s = .next (settle s)) ∧
    (s.alyRuns = false ∨ s.flag Fld.ALY_CTL_EN = false ∨ s.aly.stage ≠ .idle ∨
      (s.aly.reqScan = false ∧ s.aly.reqPage = none ∧ s.aly.reqPoll = false) → exec .alyExchangeStart s = .next (settle s)) ∧
    (∀ low high, s.alyRuns = false ∨ s.alyQuiet 360 = true ∨ s.aly.stage ≠ .hail → exec (.alyHail low high) s = .next (settle s)) ∧
    (∀ slots,
      (s.alyOpens = false → ∀ i ∈ [Instr.alyFind slots, .alyName slots, .alyAll slots, .alyIdent slots, .alyMeasure slots,
        .alyFetch slots, .alyPageCmd slots], exec i s = .next (settle s)) ∧
      (s.aly.stage ≠ .hailed → ∀ i ∈ [Instr.alyFind slots, .alyName slots, .alyAll slots, .alyIdent slots], exec i s = .next (settle s)) ∧
      (s.aly.stage ≠ .addressed → ∀ i ∈ [Instr.alyMeasure slots, .alyFetch slots, .alyPageCmd slots], exec i s = .next (settle s)) ∧
      (op ≠ 1 ∨ ptp = true → exec (.alyFind slots) s = .next (settle s)) ∧
      (op ≠ 1 ∨ ptp = false → exec (.alyIdent slots) s = .next (settle s)) ∧
      (op = 1 ∨ (unaddressed ∧ ptp = false) → exec (.alyAll slots) s = .next (settle s)) ∧
      (¬ unaddressed ∨ ptp = true → exec (.alyName slots) s = .next (settle s)) ∧
      (op ≠ 2 ∨ s.aly.tag.isSome = true → exec (.alyMeasure slots) s = .next (settle s)) ∧
      (op ≠ 2 ∨ s.aly.tag = none → exec (.alyFetch slots) s = .next (settle s)) ∧
      (op ≠ 3 → exec (.alyPageCmd slots) s = .next (settle s))) ∧
    (s.alyRuns = true → s.aly.stage = .idle → s.flag Fld.ALY_CTL_EN = true →
      (s.aly.reqScan = true → Completes .alyExchangeStart s fun t => t.fld Fld.ALY_STATUS_OP = 1 ∧ t.aly.stage = .hail ∧
        t.aly.reqScan = false ∧ t.aly.found = [] ∧ t.aly.last = none ∧ t.flag Fld.ALY_STATUS_BUSY = true) ∧
      (∀ x, s.aly.reqScan = false → s.aly.reqPage = some x → Completes .alyExchangeStart s fun t =>
        t.fld Fld.ALY_STATUS_OP = 3 ∧ t.aly.page = x ∧ t.aly.reqPage = none ∧ t.aly.stage = .hail) ∧
      (s.aly.reqScan = false → s.aly.reqPage = none → s.aly.reqPoll = true → Completes .alyExchangeStart s fun t =>
        t.fld Fld.ALY_STATUS_OP = 2 ∧ t.aly.reqPoll = false ∧ t.aly.tag = none ∧ t.aly.stage = .hail)) ∧
    (s.alyRuns = true → s.alyQuiet 360 = false → s.aly.stage = .hail →
      (∀ low, Completes (.alyHail low false) s fun t => ended t ∧ t.flag Fld.ALY_STATUS_STUCK = true ∧
        t.flag Fld.ALY_STATUS_PRESENT = low ∧ t.aly.list = s.aly.list ∧ (op = 3 → t.flag Fld.ALY_STATUS_PAGE_ERR = true)) ∧
      (Completes (.alyHail true true) s fun t => t.aly.stage = .hailed ∧ t.flag Fld.ALY_STATUS_PRESENT = true ∧
        t.fld Fld.ALY_STATUS_OP = op) ∧
      (op = 1 → s.aly.found = [] → Completes (.alyHail false true) s fun t => ended t ∧
        t.flag Fld.ALY_STATUS_PRESENT = false ∧ t.reg Reg.ALY_NTAG = 0 ∧ ∀ i, i < 32 → t.alyTag i = none)) ∧
    (∀ (id : BitVec 64) (slots : List Nat), opens .hailed → op = 1 → alyIdGood id = true →
      (ptp = false → s.aly.last = none → s.aly.found = [] → Slots slots (bitsOf 0xE1 8 ++ aloneBits id) →
        Completes (.alyFind slots) s fun t => ended t ∧ onlyTag t id ∧ t.flag Fld.ALY_STATUS_INCOMPLETE = false) ∧
      (ptp = true → Slots slots (bitsOf 0xB4 8 ++ bitsOf id.toNat 64) → Completes (.alyIdent slots) s fun t =>
        ended t ∧ onlyTag t id ∧ t.flag Fld.ALY_STATUS_MULTI = false)) ∧
    (∀ slots, wrong slots → opens .hailed → op = 1 →
      (ptp = false → s.aly.passFails = 0 → Completes (.alyFind slots) s fun t => terr t ∧ t.aly.stage = .hail ∧
        t.aly.passFails = 1 ∧ t.regN Reg.ALY_RESTARTS = min 65535 (s.regN Reg.ALY_RESTARTS + 1)) ∧
      (ptp = true → Completes (.alyIdent slots) s fun t => terr t ∧ ended t ∧ t.aly.list = s.aly.list)) ∧
    (∀ slots, opens .hailed → op = 2 →
      (∀ i x, s.aly.tag = some i → s.alyTag i = some x → ptp = false →
        (Slots slots (bitsOf 0xD2 8 ++ bitsOf x.id.toNat 64) → Completes (.alyName slots) s fun t =>
          t.aly.stage = .addressed ∧ t.regs = (settle s).regs) ∧
        (wrong slots → s.aly.retry = false → Completes (.alyName slots) s fun t => terr t ∧ t.aly.retry = true ∧
          t.aly.stage = .hail ∧ t.aly.list = s.aly.list)) ∧
      (s.aly.tag = none ∨ ptp = true → Slots slots (bitsOf 0xC3 8) → Completes (.alyAll slots) s fun t =>
        t.aly.stage = .addressed ∧ t.regs = (settle s).regs)) ∧
    (∀ slots, opens .hailed → op = 3 →
      (∀ x, s.alyTag s.aly.page.1 = some x → ptp = false →
        (Slots slots (bitsOf 0xD2 8 ++ bitsOf x.id.toNat 64) → Completes (.alyName slots) s fun t =>
          t.aly.stage = .addressed ∧ t.regs = (settle s).regs) ∧
        (wrong slots → Completes (.alyName slots) s fun t => terr t ∧ ended t ∧ t.flag Fld.ALY_STATUS_PAGE_ERR = true)) ∧
      (ptp = true → Slots slots (bitsOf 0xC3 8) → Completes (.alyAll slots) s fun t => t.aly.stage = .addressed)) ∧
    (∀ slots, opens .addressed → op = 2 → s.aly.tag = none →
      (Slots slots (bitsOf 0x87 8) → Completes (.alyMeasure slots) s fun t => t.aly.stage = .converting ∧ t.regs = (settle s).regs) ∧
      (wrong slots → Completes (.alyMeasure slots) s fun t => terr t ∧ ended t)) ∧
    (s.aly.stage = .converting →
      (∀ k, s.alyNext 0 = some k → Completes .alyConversionEnd s fun t => t.aly.tag = some k ∧ t.aly.stage = .hail) ∧
      (s.alyNext 0 = none → Completes .alyConversionEnd s ended)) ∧
    (s.aly.stage ≠ .converting → exec .alyConversionEnd s = .next (settle s)) ∧
    (∀ (i : Nat) (x : AlyTag) (bs : List Byte) (slots : List Nat), opens .addressed → op = 2 → s.aly.tag = some i →
      s.alyTag i = some x → i < 32 → bs.length = 9 → alyDataGood bs = true → Slots slots (bitsOf 0x96 8 ++ byteBits bs) →
      alyFamily x.id = 0xA1 ∨ alyFamily x.id = 0xA2 → Completes (.alyFetch slots) s fun t => ∃ y, t.alyTag i = some y ∧
        y.id = x.id ∧ y.misses = 0 ∧ y.fresh = true ∧
        y.val0 = some (BitVec.ofNat 16 ((bs.getD 0 0).toNat * 256 + (bs.getD 1 0).toNat)) ∧
        t.regN (Reg.ALY_TV i) = (bs.getD 0 0).toNat * 256 + (bs.getD 1 0).toNat ∧
        ∀ j, j ≠ i → t.alyTag j = s.alyTag j) ∧
    (∀ (i : Nat) (x : AlyTag) (slots : List Nat), opens .addressed → op = 2 → s.aly.tag = some i → s.alyTag i = some x → i < 32 →
      (wrong slots → s.aly.retry = false → Completes (.alyFetch slots) s fun t => terr t ∧ t.aly.retry = true ∧ t.aly.stage = .hail ∧
        t.aly.list = s.aly.list) ∧
      (∀ bs : List Byte, bs.length = 9 → alyDataGood bs = false → Slots slots (bitsOf 0x96 8 ++ byteBits bs) →
        s.aly.retry = false → Completes (.alyFetch slots) s fun t => t.flag Fld.ALY_STATUS_CRC = true ∧
          t.regN Reg.ALY_CRC_N = min 65535 (s.regN Reg.ALY_CRC_N + 1) ∧ t.aly.retry = true ∧ t.aly.list = s.aly.list)) ∧
    (∀ slots, opens .addressed → op = 3 → wrong slots → Completes (.alyPageCmd slots) s fun t => terr t ∧ ended t ∧
      t.flag Fld.ALY_STATUS_PAGE_ERR = true) ∧
    (∀ (bs : List Byte) (slots : List Nat), opens .addressed → op = 3 → bs.length = 9 → alyDataGood bs = true →
      Slots slots (bitsOf 0x78 8 ++ bitsOf s.aly.page.2 8 ++ byteBits bs) → Completes (.alyPageCmd slots) s fun t => ended t ∧
        t.flag Fld.ALY_STATUS_PAGE_DONE = true ∧ t.aly.list = s.aly.list ∧ ∀ m, m < 4 → t.regN (Reg.ALY_PAGE m) = leAt bs (2 * m) 2)

/-! ### Modes, resets, BOOT and profiles -/

/-- A request from a mode the table lists waits for the next boundary while sweeps run and takes effect at once otherwise;
from another mode it is refused with FROM. SAFE is left only with SAFE_CAUSE 0. OFF, SHIP and WATCH begin the shutdown order,
which ends in that mode with every rail off once what was to be written is written, or drops it at the limit. SAFE is entered
at once with its cause, from WATCH through BOOT (log entry 128). In BOOT a request is held. A cause cleared by writing 1 stays
while it persists. -/
def Obligations.ModeRequests : Prop :=
  ∀ (s : State),
    let plain : List (Instr × Mode × List Mode) :=
      [(.modeReqStandby, .standby, [.active, .balance, .spectrum, .calibrate, .service, .update, .safe]),
       (.modeReqActive, .active, [.standby, .balance, .spectrum, .calibrate, .service, .safe]),
       (.modeReqService, .service, [.standby, .active, .balance, .spectrum]),
       (.modeReqUpdate, .update, [.standby, .service])]
    let last : List (Instr × Mode) := [(.modeReqOff, .off), (.modeReqShip, .ship), (.modeReqWatch, .watch)]
    let lastFrom : List Mode := [.standby, .active, .balance, .spectrum, .calibrate, .service, .update, .safe]
    let refused (u : State) (why : Nat) : Prop := u.fld Fld.MODE_STATUS_REQ_ERR = why ∧ u.mode = s.mode ∧ u.mc = s.mc
    (∀ x ∈ plain,
      (s.mode ∉ x.2.2 → s.mode ≠ .boot → CompletesAll x.1 s fun u => refused u 2) ∧
      (s.mode ∈ x.2.2 → s.mode ≠ .safe ∨ s.reg Reg.SAFE_CAUSE = 0 →
        (s.sweepsRun = true → CompletesAll x.1 s fun u => u.mc.pend = some x.2.1 ∧ u.mc.shutdown = none ∧ u.mode = s.mode) ∧
        (s.sweepsRun = false → CompletesAll x.1 s fun u => u.mode = x.2.1 ∧ u.mc.pend = none)) ∧
      (s.mode = .safe → s.reg Reg.SAFE_CAUSE ≠ 0 → .safe ∈ x.2.2 → CompletesAll x.1 s fun u => refused u 3)) ∧
    (∀ x ∈ last,
      (s.mode ∉ lastFrom → s.mode ≠ .boot → CompletesAll x.1 s fun u => refused u 2) ∧
      (s.mode ∈ lastFrom → s.mc.shutdown = none → CompletesAll x.1 s fun u =>
        u.mc.shutdown = some x.2 ∧ u.mc.pend = none ∧ u.mode = s.mode) ∧
      (∀ m, s.mode ∈ lastFrom → s.mc.shutdown = some m → CompletesAll x.1 s fun u => u.mc.shutdown = some x.2 ∧ u.mode = s.mode)) ∧
    (s.mode = .off ∨ s.mode = .ship → CompletesAll .modeReqSafe s fun u => refused u 2) ∧
    (s.mode = .watch → CompletesAll .modeReqSafe s fun u => u.mode = .boot ∧ (u.reg Reg.SAFE_CAUSE).getLsbD 0 = true ∧
      u.flag Fld.TH_STATUS_INIT = true ∧ u.reg Reg.RESET_CAUSE = s.reg Reg.RESET_CAUSE) ∧
    (s.mode ∉ [.off, .ship, .boot, .safe, .watch] → s.mc.shutdown = none → CompletesAll .modeReqSafe s fun u =>
      u.mode = .safe ∧ (u.reg Reg.SAFE_CAUSE).getLsbD 0 = true ∧ u.mc.pend = none ∧ u.flag Fld.FFL_STATUS_FROZEN = true) ∧
    (∀ x ∈ [(Instr.modeReqOff, 1), (.modeReqShip, 2), (.modeReqWatch, 3), (.modeReqStandby, 4), (.modeReqActive, 5),
        (.modeReqService, 10), (.modeReqUpdate, 11), (.modeReqSafe, 12)], s.mode = .boot → CompletesAll x.1 s fun u =>
      u.mc.held = some x.2 ∧ u.mode = .boot ∧ u.fld Fld.MODE_CTL_REQ = x.2) ∧
    (∀ v : BitVec 16, Completes (.safeCauseClear v) s fun t =>
      (∀ i, i < 8 → v.getLsbD i = false → (t.reg Reg.SAFE_CAUSE).getLsbD i = (s.reg Reg.SAFE_CAUSE).getLsbD i) ∧
      (∀ i ∈ [0, 4, 5, 6, 7], v.getLsbD i = true → (t.reg Reg.SAFE_CAUSE).getLsbD i = false) ∧
      (s.flag Fld.TH_STATUS_SHUT = true → (t.reg Reg.SAFE_CAUSE).getLsbD 1 = (s.reg Reg.SAFE_CAUSE).getLsbD 1) ∧
      (s.flag Fld.TH_STATUS_SHUT = false → v.getLsbD 1 = true → (t.reg Reg.SAFE_CAUSE).getLsbD 1 = false)) ∧
    (∀ m, s.mc.shutdown = some m → modeAsleep m = true → s.mode ≠ m → s.mc.writing = true → s.shutdownWritten = true →
      CompletesAll .shutdownComplete s fun u => u.mode = m ∧ u.mc.shutdown = none ∧ ∀ n, n < 12 → u.ren n = false) ∧
    (s.mc.shutdown = none ∨ s.mc.writing = false ∨ s.shutdownWritten = false → CompletesAll .shutdownComplete s fun u => u = s) ∧
    (s.mc.shutdown.isSome = true → s.mc.writing = true → Completes .shutdownWriteLimit s fun t => t.hs.full = [] ∧
      t.hs.filling = [none, none, none] ∧ t.fla.queue = [] ∧ t.fla.pending = [] ∧ t.shutdownWritten = true ∧ t.mode = s.mode) ∧
    (s.mc.shutdown = none ∨ s.mc.writing = false → exec .shutdownWriteLimit s = .next (settle s))

/-- A reset returns every register and every piece of SRAM to what reset leaves, in BOOT, but RESET_CAUSE and what shows the
flash's first-fault log (FROZEN where its slot is taken) and erase counts, and keeps the flash and the NAND device. A node
without power takes no RESET_N, one asleep no SYS_CMD and no brown-out, one awake no WAKE. A sag sets its flag, refuses writes
and changes no mode. A step of BOOT whose work is done gives way to the next; step PSEL chooses the profile, and step MODE the
mode START_MODE names. A step over its limit resets the node, and under FALLBACK records SAFE_CAUSE bit 6 and is passed over.
CLR_PATHS and CLR_FALLBACK clear what they name. -/
def Obligations.ResetsSuppliesAndBoot : Prop :=
  ∀ (s : State),
    let resets (i : Instr) (cause : Nat) : Prop := ∃ u : State, exec i s = .next (settle u) ∧ u.mode = .boot ∧
      u.regN Reg.RESET_CAUSE = cause ∧ (∀ a, a ∉ [Reg.RESET_CAUSE, Reg.FFL_STATUS, Reg.FFL_GEN, Reg.IF_ERASE_MAX] → u.reg a = State.reset.reg a) ∧
      u.flag Fld.FFL_STATUS_FROZEN = u.fflFirst.isSome ∧ u.pending = s.pending ∧
      u.rail = State.reset.rail ∧ u.dmem = State.reset.dmem ∧ u.keys = State.reset.keys ∧ u.timers = State.reset.timers ∧
      u.fla.erases = s.fla.erases ∧ u.hs.erases = s.hs.erases ∧ u.hs.ckpt = s.hs.ckpt ∧
      (s.fla.busy = false → u.fla.mem = s.fla.mem) ∧ (s.hs.op = none → u.hs.pages = s.hs.pages)
    let asleep := modeAsleep s.mode
    resets .powerOn 1 ∧
    (Completes .powerLoss s fun t => t.mode = .off ∧ t.powered = false ∧ (s.fla.busy = false → t.fla.mem = s.fla.mem)) ∧
    (s.powered = true → resets .resetPin 2) ∧ (s.powered = false → exec .resetPin s = .next (settle s)) ∧
    (s.mode = .ship ∨ s.mode = .watch → Completes .wakePin s fun t => t.mode = .boot ∧ t.regN Reg.RESET_CAUSE = 6 ∧
      0 ∈ t.link.waking ∧ 1 ∈ t.link.waking) ∧
    (s.mode ≠ .ship → s.mode ≠ .watch → exec .wakePin s = .next (settle s)) ∧
    (asleep = false → resets .sysReset 4 ∧ resets .brownoutReset 3) ∧
    (asleep = true → ∀ i ∈ [Instr.sysReset, .brownoutReset], exec i s = .next (settle s)) ∧
    (∀ x ∈ [(Supply.vreg, Fld.MODE_STATUS_VREG_SAG), (.vddd, Fld.MODE_STATUS_VDDD_SAG), (.vddio, Fld.MODE_STATUS_VDDIO_SAG)],
      (asleep = false → Completes (.supplySag x.1) s fun t => t.flag x.2 = true ∧ t.mode = s.mode ∧
        (x.1 = .vddio → t.fla.supplyNand = false ∧ t.fla.supplyIf = s.fla.supplyIf) ∧
        (x.1 ≠ .vddio → t.fla.supplyIf = false ∧ t.flag Fld.IF_STATUS_REF_SUPPLY = true)) ∧
      (Completes (.supplySagRelease x.1) s fun t => t.flag x.2 = false ∧ t.fla = s.fla ∧ t.mode = s.mode)) ∧
    (∀ (keys : Bool) (psel : Fin 8) (l1 l2 : Bool) (nand : NandProbe),
      let k := s.bt.step
      let boot : Prop := s.mode = .boot
      let i := Instr.bootStepComplete keys psel l1 l2 nand
      let next (u : State) : Prop := u.mode = .boot ∧ u.bt.step = k + 1 ∧ (.bootStep, s.now) ∈ u.timers
      (¬boot → CompletesAll i s fun u => u = s) ∧
      (boot → k = 2 → s.flag Fld.TH_STATUS_INIT = true → CompletesAll i s fun u => u = s) ∧
      (boot → k = 0 ∨ k = 1 ∨ (k = 2 ∧ s.flag Fld.TH_STATUS_INIT = false) → s.stepPath (k + 1) ≠ 2 → CompletesAll i s next) ∧
      (boot → k = 3 → CompletesAll i s fun u => u.bt.begun = true ∧ 4 ≤ u.bt.step ∧ u.mode = .boot) ∧
      (boot → k = 4 → s.stepPath 5 ≠ 2 → CompletesAll i s fun u => next u ∧ u.flag Fld.KEY_STATUS_KEYS_OK = keys) ∧
      (boot → k = 5 → s.stepPath 6 ≠ 2 → CompletesAll i s fun u => next u ∧ u.fld Fld.PROF_STATUS_PSEL = psel.val ∧
        u.fld Fld.PROF_STATUS_ACTIVE = (if s.bt.fallback = true then 15 else psel.val)) ∧
      (∀ m, boot → k = 15 → s.reg Reg.SAFE_CAUSE = 0 → s.flag Fld.TH_STATUS_SHUT = false → s.mc.held = none →
        (s.profStart (s.fld Fld.PROF_STATUS_ACTIVE), m) ∈ [(4, Mode.standby), (5, .active), (10, .service)] →
        CompletesAll i s fun u => u.mode = m ∧ u.fld Fld.LED_FAILS_FAILS = 0 ∧ u.running .bootStep = false)) ∧
    (s.mode ≠ .boot → CompletesAll .bootStepTimeout s fun u => u = s) ∧
    (s.mode = .boot → s.bt.fallback = false → CompletesAll .bootStepTimeout s fun u => u.mode = .boot ∧
      u.regN Reg.RESET_CAUSE = 5 ∧ u.bt.step = State.reset.bt.step) ∧
    (s.mode = .boot → s.bt.fallback = true → 3 ≤ s.bt.step → s.bt.step < 12 → s.stepPath (s.bt.step + 1) ≠ 2 →
      CompletesAll .bootStepTimeout s fun u => u.mode = .boot ∧ u.bt.step = s.bt.step + 1 ∧
        (u.reg Reg.SAFE_CAUSE).getLsbD 6 = true) ∧
    (Completes .ledgerClrPaths s fun t => t.reg Reg.LED_ALT = 0 ∧ t.reg Reg.LED_SKIP = 0 ∧
      t.fla.queue.length = s.fla.queue.length + 1) ∧
    (Completes .ledgerClrFallback s fun t => t.bt.fallback = false ∧ t.flag Fld.PROF_STATUS_FALLBACK = false)

/-- SELECT stages a valid profile that is not active, in a mode and with a role that allow it, and none staged before;
otherwise PROF_ERR names the first cause and nothing is staged. UPD_KEY opens the unlock in UPDATE by its two values in
time. Without the unlock OPEN, CLOSE, ABORT and words do nothing. OPEN erases the twelve sectors of a profile that is not
active and refuses the active one. A word of the header is held, another one not yet there is queued to be programmed.
CLOSE before every word has arrived fails with MISSING, and ABORT ends the transfer. -/
def Obligations.ProfilesAndTheirUpdate : Prop :=
  ∀ (s : State),
    let state := s.fld Fld.UPD_STATUS_STATE
    let active := s.fld Fld.PROF_STATUS_ACTIVE
    (∀ sel : Fin 16,
      let fits : Prop := (s.profRole sel = s.role ∧ s.profCells sel = s.cells) ∨ s.mode = .service
      let freeMode : Prop := s.mode ≠ .calibrate ∧ s.mode ≠ .selftest ∧ s.mode ≠ .update
      let valid : Prop := s.profValid sel = true
      let refused (why : Nat) : Prop := Completes (.profileSelect sel) s fun t => t.fld Fld.PROF_STATUS_PROF_ERR = why ∧
        t.sw = s.sw ∧ t.fld Fld.PROF_STATUS_ACTIVE = active
      (valid → active ≠ sel.val → freeMode → fits → s.sw = none → Completes (.profileSelect sel) s fun t =>
        t.fld Fld.PROF_STATUS_PROF_ERR = 0 ∧ t.fld Fld.PROF_STATUS_STAGE = 1 ∧ t.fld Fld.PROF_STATUS_ACTIVE = active ∧
        ∃ w, t.sw = some w ∧ w.profile = sel.val) ∧
      (¬valid → refused 1) ∧ (valid → active = sel.val → refused 2) ∧ (valid → active ≠ sel.val → ¬freeMode → refused 3) ∧
      (valid → active ≠ sel.val → freeMode → ¬fits → refused 4) ∧
      (valid → active ≠ sel.val → freeMode → fits → s.sw.isSome = true → refused 5)) ∧
    (s.mode = .update → Completes (.updKeyUnlock 0x7D21) s fun t => t.upd.keyAt = some s.now ∧ t.regs = (settle s).regs) ∧
    (∀ k, s.mode = .update → s.upd.keyAt = some k → Completes (.updKeyUnlock 0x82DE) s fun t => t.upd.keyAt = none ∧
      (s.now ≤ k + 8000 → t.upd.unlocked = true) ∧ (k + 8000 < s.now → t.upd.unlocked = s.upd.unlocked)) ∧
    (∀ v, s.mode ≠ .update → exec (.updKeyUnlock v) s = .next (settle s)) ∧
    (s.upd.unlocked = false → (∀ p v, ∀ i ∈ [Instr.updOpen p, .updClose, .updAbort, .updWordSubmit v], exec i s = .next (settle s))) ∧
    (∀ p : Fin 8, s.upd.unlocked = true → s.mode = .update →
      (active ≠ p.val → Completes (.updOpen p) s fun t => t.fld Fld.UPD_STATUS_STATE = 1 ∧ t.fld Fld.UPD_STATUS_ERR = 0 ∧
        t.upd.target = p.val ∧ t.upd.arrived = [] ∧ (∃ l, t.fla.queue = l ++ [.update ((List.range 12).map fun i => .erase (12 * p.val + i))]) ∧
        t.fla.mem = s.fla.mem) ∧
      (active = p.val → Completes (.updOpen p) s fun t => t.fld Fld.UPD_STATUS_STATE = 5 ∧ t.fld Fld.UPD_STATUS_ERR = 1 ∧
        t.fla = s.fla)) ∧
    (∀ d3 : BitVec 16, s.upd.unlocked = true → state = 1 ∨ state = 2 →
      let i := s.fld Fld.UPD_OFS_WORD
      let bytes := (listPut s.upd.data 0 3 d3).flatMap fun x => leBytes 2 x.toNat
      let w := 6144 * s.upd.target + i
      (i < 8 → Completes (.updWordSubmit d3) s fun t => t.fld Fld.UPD_OFS_WORD = i + 1 ∧ i ∈ t.upd.arrived ∧ t.fla = s.fla ∧
        t.upd.header = putAt s.upd.header (8 * i) bytes) ∧
      (8 ≤ i → i < 6143 → s.updRoom 1 = true → i ∉ s.upd.arrived → (∀ x ∈ s.updWaiting, x.1 ≠ w) →
        Completes (.updWordSubmit d3) s fun t => t.fld Fld.UPD_OFS_WORD = i + 1 ∧ i ∈ t.upd.arrived ∧
          t.fla.queue = s.fla.queue ++ [.update [.program w (BitVec.ofNat 64 (fromLe bytes))]]) ∧
      (8 ≤ i → s.updRoom 1 = false → Completes (.updWordSubmit d3) s fun t => t.fla = s.fla ∧
        t.regN Reg.UPD_DROP = min 65535 (s.regN Reg.UPD_DROP + 1))) ∧
    (s.upd.unlocked = true → state = 2 → s.upd.arrived.length < 6144 → Completes .updClose s fun t =>
      t.fld Fld.UPD_STATUS_STATE = 5 ∧ t.fld Fld.UPD_STATUS_ERR = 4) ∧
    (s.upd.unlocked = true → state = 2 → 6144 ≤ s.upd.arrived.length → s.updFlashBusy = true → Completes .updClose s fun t =>
      t.fld Fld.UPD_STATUS_STATE = 3 ∧ t.fla = s.fla) ∧
    (s.upd.unlocked = true → state = 1 ∨ state = 2 ∨ state = 3 → Completes .updAbort s fun t => t.fld Fld.UPD_STATUS_STATE = 0 ∧
      t.fla.mem = s.fla.mem ∧ t.upd.committing = false) ∧
    (s.upd.unlocked = true → state = 0 ∨ state = 4 ∨ state = 5 → exec .updAbort s = .next (settle s))

/-! ### The machine as a whole -/

/-- For every command and state, a step with the command at the front of the queue is the command's own effect on the state
whose queue is the rest. That commands wait in one queue is the model's form (log entry 1). -/
def Obligations.AStepRunsTheFrontCommand : Prop :=
  ∀ (s : State) (c : Instr) (rest : List Instr), s.pending = c :: rest → step s = exec c { s with pending := rest }

/-- With an empty queue a step answers a next state; where no engine waits, no frame of a host port is held,
no echo is awaited, and no self-test runs or has a part of its work waiting, one tick has passed: an awake node's timebase and
modulator clock have advanced by it, one asleep keeps its own, the summaries note a timebase that runs free, and nothing else
changes but what the rails' supervision and the level flags do. In an impedance
point the excitation's phase takes a step of FW at each modulator period. This tick is the model's choice (log entry 2). -/
def Obligations.AnIdleStepIsOneTick : Prop :=
  ∀ (s : State), s.pending = [] →
    (∃ t, step s = .next t) ∧
    ((∀ e : Engine, (s.eng e).wait = none) → s.hostWait = [] → s.link.echo = [] → (∀ x ∈ s.rings, x.quietTo = none) →
      s.st.cur = none → s.st.bgDue = false → s.st.mirrorWait = [] →
      ∃ u : State, step s = .next (settle (railsJudge u)) ∧
        u = { s with
          now := s.now + 1
          minute := if s.freeRunning = true then { s.minute with free := true } else s.minute
          hour := if s.freeRunning = true then { s.hour with free := true } else s.hour
          tb := if modeAsleep s.mode = true then s.tb else s.tb.tick
          acq := if modeAsleep s.mode = true then s.acq else { s.acq with modClk := s.acq.modClk.tick }
          imp := if modeAsleep s.mode = false ∧ s.imp.inPoint = true ∧ s.acq.modClk.tick.pos = 0 then
            { s.imp with phase := s.imp.phase + s.imp.fw } else s.imp })

/-- From every state, a step that answers a next state leaves each CMP_FLAG bit set whose monitor reports ABOVE or BELOW,
each level flag of FLT_SUM whose cause lasts, IRQ_PEND's FAULT bit while FLT_SUM is not zero, and its ENGINE bit while a
host event is posted: no command's clear outlasts a cause that holds. -/
def Obligations.EveryStepShowsTheLevelFlags : Prop :=
  ∀ s t : State, step s = .next t → t.levelsShown

/-- After reset the node is in BOOT at its first step with no command waiting and no level flag missing; every rail is OFF
with REN inactive, no engine runs, no session or tree key is held, and TH_WARN, TH_THROT, TH_SHUT, the check-value units'
POLY, INIT and XOR, HOLD_C, the flush ages, ALY_TV and the result set's values read what the tables state. -/
def Obligations.WhatResetLeaves : Prop :=
  let r := State.reset
  r.mode = .boot ∧ r.bt.step = 0 ∧ r.pending = [] ∧ r.levelsShown ∧
  (∀ n, n < 12 → r.railSt n = rsOff ∧ r.ren n = false) ∧ (∀ e : Engine, (r.eng e).st = .stopped) ∧
  r.keys.session = none ∧ r.keys.treeKey = none ∧ Memory.wf r = true ∧
  (∀ u : Fin 4, r.pair (Reg.CVU_POLY_LO u) (Reg.CVU_POLY_HI u) = 0x04C11DB7 ∧
    r.pair (Reg.CVU_INIT_LO u) (Reg.CVU_INIT_HI u) = 0xFFFFFFFF ∧ r.pair (Reg.CVU_XOR_LO u) (Reg.CVU_XOR_HI u) = 0xFFFFFFFF) ∧
  r.levelEntry 0 = 1300 ∧ r.levelRelease 0 = 1250 ∧ r.levelEntry 1 = 1400 ∧ r.levelRelease 1 = 1350 ∧
  r.levelEntry 2 = 1500 ∧ r.levelRelease 2 = 1350 ∧ r.regN Reg.HOLD_C = 47 ∧ r.regN Reg.HOLD_MARGIN = 50 ∧
  [0, 1, 2].map (fun k => r.regN (Reg.HS_T_FLUSH k)) = [120, 900, 1] ∧ (∀ i : Fin 32, r.regN (Reg.ALY_TV i) = 0x8000)

/-- A command whose operands have the shape of what it stands for, and that can be in the state it meets, answers a next
state, never a fault and never a refusal; one that is not is answered by the fault illFormed. That ill-shaped operands
stop the machine is the model's form (log entry 4). -/
def Obligations.AcceptedCommandsComplete : Prop :=
  ∀ (s : State) (i : Instr),
    (s.accepts i = true → ∃ t, exec i s = .next t) ∧ (s.accepts i = false → exec i s = .fault .illFormed)

/-- For the commands listed as quiet (orders and keys of the store, groups, calibration, self-test, check values,
attestation, the Alley, the ledger and updates), a next state has the same mode, timebase, engine data memory with its
parity, flash contents, pages of the NAND device, queue and clock; a byte of data memory or a word of the flash reads as
before at every address. -/
def Obligations.QuietCommandsKeepMemories : Prop :=
  ∀ (s t : State) (i : Instr), quietCommand i = true → exec i s = .next t →
    t.mode = s.mode ∧ t.tb = s.tb ∧ t.badData = s.badData ∧ t.hs.pages = s.hs.pages ∧ t.pending = s.pending ∧ t.now = s.now ∧
    t.powered = s.powered ∧ (∀ a, t.dbyte a = s.dbyte a) ∧ ∀ w, t.flashWord w = s.flashWord w

/-- The bytes of a frame are its 8 header bytes, its payload, the 4 bytes of its CRC and 6 of parity; reading their fields
gives the frame back with every field at every value, and the CRC is good under the same epoch. -/
def Obligations.SealedFramesReadBack : Prop :=
  ∀ (f : Frame) (epoch : Nat),
    (sealFrame f epoch).length = f.payload.length + 18 ∧ parseFrame (sealFrame f epoch) = f ∧
    crcGood epoch (sealFrame f epoch) = true
end

