-- ==== Sys2Proof/Laws/Sparse.lean ====
section
/-!
SUPPORT. The sparse map: a read after a write, and that every operation keeps the canonical form.
-/
namespace Sys2Proof.Machine

variable {α : Type}

theorem sparseGet_erase_same (m : Sparse α) (d : α) (k : Nat) : sparseGet (sparseErase m k) d k = d := by
  induction m with
  | nil => rfl
  | cons p rest ih =>
    obtain ⟨a, v⟩ := p
    by_cases h : a = k
    · simpa [sparseErase, h] using ih
    · have h2 : (a != k) = true := by simpa using h
      simpa [sparseErase, sparseGet, h, h2] using ih

theorem sparseGet_erase_ne (m : Sparse α) (d : α) {j k : Nat} (h : j ≠ k) :
    sparseGet (sparseErase m k) d j = sparseGet m d j := by
  induction m with
  | nil => rfl
  | cons p rest ih =>
    obtain ⟨a, v⟩ := p
    by_cases hk : a = k
    · subst hk
      simpa [sparseErase, sparseGet, Ne.symm h] using ih
    · have h2 : (a != k) = true := by simpa using hk
      by_cases hj : a = j
      · subst hj
        simp [sparseErase, sparseGet, h2]
      · simpa [sparseErase, sparseGet, h2, hj] using ih

theorem sparseGet_place_same (m : Sparse α) (d : α) (k : Nat) (v : α) (h : ∀ p ∈ m, p.1 ≠ k) :
    sparseGet (sparsePlace m k v) d k = v := by
  induction m with
  | nil => simp [sparsePlace, sparseGet]
  | cons p rest ih =>
    obtain ⟨a, w⟩ := p
    have ha : a ≠ k := h (a, w) (by simp)
    unfold sparsePlace
    split
    · simp [sparseGet]
    · simp only [sparseGet, ha, if_false]
      exact ih fun q hq => h q (by simp [hq])

theorem sparseGet_place_ne (m : Sparse α) (d : α) {j k : Nat} (v : α) (h : j ≠ k) :
    sparseGet (sparsePlace m k v) d j = sparseGet m d j := by
  induction m with
  | nil => simp [sparsePlace, sparseGet, Ne.symm h]
  | cons p rest ih =>
    obtain ⟨a, w⟩ := p
    unfold sparsePlace
    split
    · simp [sparseGet, Ne.symm h]
    · simp [sparseGet, ih]

theorem sparseErase_no_key (m : Sparse α) (k : Nat) : ∀ p ∈ sparseErase m k, p.1 ≠ k := by
  intro p hp
  simpa [sparseErase] using (List.mem_filter.mp hp).2

/-- A read of the key just put gives what was put. -/
theorem sparseGet_keyPut_same (m : Sparse α) (d : α) (k : Nat) (v : α) : sparseGet (keyPut m k v) d k = v :=
  sparseGet_place_same _ d k v (sparseErase_no_key m k)

theorem sparseGet_keyPut_ne (m : Sparse α) (d : α) {j k : Nat} (v : α) (h : j ≠ k) :
    sparseGet (keyPut m k v) d j = sparseGet m d j := by
  unfold keyPut
  rw [sparseGet_place_ne _ d v h, sparseGet_erase_ne m d h]

/-- A read of the key just written gives what was written. -/
theorem sparseGet_set_same [DecidableEq α] (m : Sparse α) (d : α) (k : Nat) (v : α) :
    sparseGet (sparseSet m d k v) d k = v := by
  unfold sparseSet
  split
  · next h => rw [sparseGet_erase_same, h]
  · exact sparseGet_keyPut_same m d k v

/-- A write leaves every other key alone, whatever an unlisted key reads as there. -/
theorem sparseGet_set_ne [DecidableEq α] (m : Sparse α) (d e : α) {j k : Nat} (v : α) (h : j ≠ k) :
    sparseGet (sparseSet m d k v) e j = sparseGet m e j := by
  unfold sparseSet
  split
  · exact sparseGet_erase_ne m e h
  · exact sparseGet_keyPut_ne m e v h

/-! ### Lists of like things -/

/-- A read of the element just put gives what was put. -/
@[simp] theorem listPut_getD_same (l : List α) (d : α) (i : Nat) (v : α) : (listPut l d i v).getD i d = v := by
  unfold listPut
  have : i < (l ++ List.replicate (i + 1 - l.length) d).length := by
    rw [List.length_append, List.length_replicate]
    omega
  simp [List.getD_eq_getElem?_getD, List.getElem?_set_self this]

theorem listPut_getD_ne (l : List α) (d : α) {i j : Nat} (v : α) (h : j ≠ i) : (listPut l d i v).getD j d = l.getD j d := by
  unfold listPut
  rw [List.getD_eq_getElem?_getD, List.getElem?_set_ne (Ne.symm h), List.getD_eq_getElem?_getD]
  by_cases hj : j < l.length
  · rw [List.getElem?_append_left hj]
  · rw [List.getElem?_append_right (Nat.le_of_not_lt hj), List.getElem?_eq_none (Nat.le_of_not_lt hj)]
    simp only [List.getElem?_replicate]
    split <;> rfl

/-! ### The canonical form -/

theorem sparseWfFrom_mono [DecidableEq α] (d : Nat → α) (m : Sparse α) {lo hi : Nat} (h : lo ≤ hi)
    (w : sparseWfFrom d hi m = true) : sparseWfFrom d lo m = true := by
  cases m with
  | nil => rfl
  | cons p rest =>
    obtain ⟨a, v⟩ := p
    simp only [sparseWfFrom, Bool.and_eq_true, decide_eq_true_eq] at w ⊢
    exact ⟨⟨h.trans w.1.1, w.1.2⟩, w.2⟩

theorem sparseWfFrom_erase [DecidableEq α] (d : Nat → α) (m : Sparse α) (k : Nat) :
    ∀ lo, sparseWfFrom d lo m = true → sparseWfFrom d lo (sparseErase m k) = true := by
  induction m with
  | nil => intro lo _; rfl
  | cons p rest ih =>
    obtain ⟨a, v⟩ := p
    intro lo w
    simp only [sparseWfFrom, Bool.and_eq_true, decide_eq_true_eq] at w
    by_cases hk : a = k
    · subst hk
      have := ih lo (sparseWfFrom_mono d rest (by omega) w.2)
      simpa [sparseErase] using this
    · have h2 : (a != k) = true := by simpa using hk
      have e : sparseErase ((a, v) :: rest) k = (a, v) :: sparseErase rest k := by simp [sparseErase, h2]
      rw [e]
      simp only [sparseWfFrom, Bool.and_eq_true, decide_eq_true_eq]
      exact ⟨w.1, ih _ w.2⟩

theorem sparseWfFrom_place [DecidableEq α] (d : Nat → α) (m : Sparse α) (k : Nat) (v : α) (hv : v ≠ d k) :
    ∀ lo, lo ≤ k → (∀ p ∈ m, p.1 ≠ k) → sparseWfFrom d lo m = true → sparseWfFrom d lo (sparsePlace m k v) = true := by
  induction m with
  | nil => intro lo h _ _; simp [sparsePlace, sparseWfFrom, h, hv]
  | cons p rest ih =>
    obtain ⟨a, w⟩ := p
    intro lo h no wf
    have ha : a ≠ k := no (a, w) (by simp)
    simp only [sparseWfFrom, Bool.and_eq_true, decide_eq_true_eq] at wf
    unfold sparsePlace
    split
    · next hlt =>
      have hlt : k + 1 ≤ a := hlt
      simp only [sparseWfFrom, Bool.and_eq_true, decide_eq_true_eq]
      exact ⟨⟨h, by simpa using hv⟩, ⟨hlt, wf.1.2⟩, wf.2⟩
    · simp only [sparseWfFrom, Bool.and_eq_true, decide_eq_true_eq]
      exact ⟨wf.1, ih (a + 1) (by omega) (fun q hq => no q (by simp [hq])) wf.2⟩

/-- A write keeps the canonical form. -/
theorem sparseWf_set [DecidableEq α] (d : Nat → α) (m : Sparse α) (k : Nat) (v : α)
    (w : sparseWf d m = true) : sparseWf d (sparseSet m (d k) k v) = true := by
  unfold sparseSet
  split
  · exact sparseWfFrom_erase d m k 0 w
  · next h =>
    exact sparseWfFrom_place d _ k v h 0 (Nat.zero_le k) (sparseErase_no_key m k) (sparseWfFrom_erase d m k 0 w)

end Sys2Proof.Machine
end

