-- ==== Sys2Proof/Laws/Regs.lean ====
section
/-!
SUPPORT. Registers and fields: what a read gives after a write, for the register written and for every other one.
-/
namespace Sys2Proof.Machine

/-! ### Registers -/

@[simp] theorem reg_setReg_same (s : State) (a : Nat) (v : Half) : (s.setReg a v).reg a = v :=
  sparseGet_set_same _ _ _ _

theorem reg_setReg_ne (s : State) {a b : Nat} (v : Half) (h : b ≠ a) : (s.setReg a v).reg b = s.reg b :=
  sparseGet_set_ne _ _ _ _ h

theorem reg_setReg (s : State) (a b : Nat) (v : Half) : (s.setReg a v).reg b = if b = a then v else s.reg b := by
  split
  · next h => subst h; simp
  · next h => exact reg_setReg_ne s v h

theorem reg_setFld_ne (s : State) {f : BitField} {b : Nat} (n : Nat) (h : b ≠ f.addr) : (s.setFld f n).reg b = s.reg b :=
  reg_setReg_ne s _ h

theorem reg_setFlag_ne (s : State) {f : BitField} {b : Nat} (c : Bool) (h : b ≠ f.addr) : (s.setFlag f c).reg b = s.reg b :=
  reg_setReg_ne s _ h

@[simp] theorem reg_setRegN_same (s : State) (a n : Nat) : (s.setRegN a n).reg a = BitVec.ofNat 16 n := reg_setReg_same _ _ _

theorem reg_setRegN_ne (s : State) {a b : Nat} (n : Nat) (h : b ≠ a) : (s.setRegN a n).reg b = s.reg b := reg_setReg_ne s _ h

@[simp] theorem reg_setBits_same (s : State) (a : Nat) (m : Half) : (s.setBits a m).reg a = s.reg a ||| m := reg_setReg_same _ _ _

theorem reg_setBits_ne (s : State) {a b : Nat} (m : Half) (h : b ≠ a) : (s.setBits a m).reg b = s.reg b := reg_setReg_ne s _ h

@[simp] theorem reg_clearBits_same (s : State) (a : Nat) (m : Half) : (s.clearBits a m).reg a = s.reg a &&& ~~~m :=
  reg_setReg_same _ _ _

theorem reg_clearBits_ne (s : State) {a b : Nat} (m : Half) (h : b ≠ a) : (s.clearBits a m).reg b = s.reg b := reg_setReg_ne s _ h

@[simp] theorem reg_raiseIrq_same (s : State) (i : Nat) : (s.raiseIrq i).reg Reg.IRQ_PEND = s.reg Reg.IRQ_PEND ||| bit16 i :=
  reg_setReg_same _ _ _

theorem reg_raiseIrq_ne (s : State) {b : Nat} (i : Nat) (h : b ≠ Reg.IRQ_PEND) : (s.raiseIrq i).reg b = s.reg b := reg_setReg_ne s _ h

@[simp] theorem reg_raiseFlt_same (s : State) (i : Nat) : (s.raiseFlt i).reg Reg.FLT_SUM = s.reg Reg.FLT_SUM ||| bit16 i :=
  reg_setReg_same _ _ _

theorem reg_raiseFlt_ne (s : State) {b : Nat} (i : Nat) (h : b ≠ Reg.FLT_SUM) : (s.raiseFlt i).reg b = s.reg b := reg_setReg_ne s _ h

/-! ### Fields -/

theorem BitField.mask_getLsbD (f : BitField) (i : Nat) : f.mask.getLsbD i = (decide (i < 16) && decide (i < f.hi + 1 - f.lo)) := by
  simp [BitField.mask, BitVec.getLsbD_ofNat, Nat.testBit_two_pow_sub_one]

theorem BitField.mask_getElem (f : BitField) (i : Nat) (h : i < 16) : f.mask[i] = decide (i < f.hi + 1 - f.lo) := by
  rw [← BitVec.getLsbD_eq_getElem, BitField.mask_getLsbD]
  simp [h]

theorem BitField.read_getLsbD (f : BitField) (w : Half) (i : Nat) :
    (f.read w).testBit i = (decide (i < f.hi + 1 - f.lo) && w.getLsbD (f.lo + i)) := by
  have : (f.read w).testBit i = ((w >>> f.lo) &&& f.mask).getLsbD i := rfl
  rw [this, BitVec.getLsbD_and, BitField.mask_getLsbD, BitVec.getLsbD_ushiftRight]
  by_cases h : i < 16
  · by_cases h2 : i < f.hi + 1 - f.lo <;> simp [h, h2]
  · have : w.getLsbD (f.lo + i) = false := BitVec.getLsbD_of_ge _ _ (by omega)
    simp [this]

/-- What a field reads after it was given a value. -/
theorem BitField.read_write_same (f : BitField) (w : Half) (n : Nat) (h1 : f.lo ≤ f.hi) (h2 : f.hi < 16) :
    f.read (f.write w n) = n % 2 ^ (f.hi + 1 - f.lo) := by
  apply Nat.eq_of_testBit_eq
  intro i
  rw [BitField.read_getLsbD, Nat.testBit_mod_two_pow]
  by_cases h : i < f.hi + 1 - f.lo
  · have h16 : f.lo + i < 16 := by omega
    have hi16 : i < 16 := by omega
    have hn : (BitVec.ofNat 16 n)[i] = n.testBit i := by
      rw [← BitVec.getLsbD_eq_getElem, BitVec.getLsbD_ofNat]
      simp [hi16]
    simp [BitField.write, BitField.mask_getElem, h, h16, hn]
  · simp [h]

/-- A field that shares no bit with the one written reads as before. -/
theorem BitField.read_write_apart (f g : BitField) (w : Half) (n : Nat) (h : g.hi < f.lo ∨ f.hi < g.lo) :
    g.read (f.write w n) = g.read w := by
  apply Nat.eq_of_testBit_eq
  intro i
  rw [BitField.read_getLsbD, BitField.read_getLsbD]
  by_cases hi : i < g.hi + 1 - g.lo
  · by_cases h16 : g.lo + i < 16
    · have : ¬ (f.lo ≤ g.lo + i ∧ g.lo + i - f.lo < f.hi + 1 - f.lo) := by omega
      by_cases a : g.lo + i < f.lo
      · simp [BitField.write, hi, h16, a]
      · have b : ¬ (g.lo + i - f.lo < f.hi + 1 - f.lo) := by omega
        simp [BitField.write, BitField.mask_getElem, hi, h16, a, b]
    · simp [BitVec.getLsbD_of_ge _ _ (Nat.le_of_not_lt h16)]
  · simp [hi]

theorem fld_setFld_same (s : State) (f : BitField) (n : Nat) (h1 : f.lo ≤ f.hi) (h2 : f.hi < 16) :
    (s.setFld f n).fld f = n % 2 ^ (f.hi + 1 - f.lo) := by
  unfold State.setFld State.fld
  rw [reg_setReg_same]
  exact BitField.read_write_same f _ n h1 h2

theorem fld_setFld_ne (s : State) {f g : BitField} (n : Nat) (h : g.addr ≠ f.addr ∨ g.hi < f.lo ∨ f.hi < g.lo) :
    (s.setFld f n).fld g = s.fld g := by
  by_cases ha : g.addr = f.addr
  · unfold State.setFld State.fld
    rw [ha, reg_setReg_same]
    exact BitField.read_write_apart f g _ n (by tauto)
  · unfold State.fld
    rw [reg_setFld_ne s n ha]

theorem fld_setReg_ne (s : State) {g : BitField} {a : Nat} (v : Half) (h : g.addr ≠ a) : (s.setReg a v).fld g = s.fld g := by
  unfold State.fld; rw [reg_setReg_ne s v h]

theorem fld_setRegN_ne (s : State) {g : BitField} {a : Nat} (n : Nat) (h : g.addr ≠ a) : (s.setRegN a n).fld g = s.fld g :=
  fld_setReg_ne s _ h

theorem fld_setBits_ne (s : State) {g : BitField} {a : Nat} (m : Half) (h : g.addr ≠ a) : (s.setBits a m).fld g = s.fld g :=
  fld_setReg_ne s _ h

theorem fld_clearBits_ne (s : State) {g : BitField} {a : Nat} (m : Half) (h : g.addr ≠ a) : (s.clearBits a m).fld g = s.fld g :=
  fld_setReg_ne s _ h

theorem fld_raiseIrq_ne (s : State) {g : BitField} (i : Nat) (h : g.addr ≠ Reg.IRQ_PEND) : (s.raiseIrq i).fld g = s.fld g :=
  fld_setReg_ne s _ h

theorem fld_raiseFlt_ne (s : State) {g : BitField} (i : Nat) (h : g.addr ≠ Reg.FLT_SUM) : (s.raiseFlt i).fld g = s.fld g :=
  fld_setReg_ne s _ h

theorem fld_setFlag_ne (s : State) {f g : BitField} (c : Bool) (h : g.addr ≠ f.addr ∨ g.hi < f.lo ∨ f.hi < g.lo) :
    (s.setFlag f c).fld g = s.fld g := fld_setFld_ne s _ h

/-- A flag reads as it was set. -/
theorem flag_setFlag_same (s : State) (f : BitField) (c : Bool) (h1 : f.lo ≤ f.hi) (h2 : f.hi < 16) :
    (s.setFlag f c).flag f = c := by
  unfold State.setFlag State.flag
  rw [fld_setFld_same s f _ h1 h2]
  have : 1 < 2 ^ (f.hi + 1 - f.lo) := Nat.one_lt_two_pow (by omega)
  cases c <;> simp [Nat.mod_eq_of_lt this]

theorem flag_setFlag_ne (s : State) {f g : BitField} (c : Bool) (h : g.addr ≠ f.addr ∨ g.hi < f.lo ∨ f.hi < g.lo) :
    (s.setFlag f c).flag g = s.flag g := by
  unfold State.flag; rw [fld_setFlag_ne s c h]

theorem flag_setFld_ne (s : State) {f g : BitField} (n : Nat) (h : g.addr ≠ f.addr ∨ g.hi < f.lo ∨ f.hi < g.lo) :
    (s.setFld f n).flag g = s.flag g := by
  unfold State.flag; rw [fld_setFld_ne s n h]

theorem flag_setReg_ne (s : State) {g : BitField} {a : Nat} (v : Half) (h : g.addr ≠ a) : (s.setReg a v).flag g = s.flag g := by
  unfold State.flag; rw [fld_setReg_ne s v h]

theorem flag_setRegN_ne (s : State) {g : BitField} {a : Nat} (n : Nat) (h : g.addr ≠ a) : (s.setRegN a n).flag g = s.flag g :=
  flag_setReg_ne s _ h

theorem flag_setBits_ne (s : State) {g : BitField} {a : Nat} (m : Half) (h : g.addr ≠ a) : (s.setBits a m).flag g = s.flag g :=
  flag_setReg_ne s _ h

theorem flag_clearBits_ne (s : State) {g : BitField} {a : Nat} (m : Half) (h : g.addr ≠ a) : (s.clearBits a m).flag g = s.flag g :=
  flag_setReg_ne s _ h

theorem flag_raiseIrq_ne (s : State) {g : BitField} (i : Nat) (h : g.addr ≠ Reg.IRQ_PEND) : (s.raiseIrq i).flag g = s.flag g :=
  flag_setReg_ne s _ h

theorem flag_raiseFlt_ne (s : State) {g : BitField} (i : Nat) (h : g.addr ≠ Reg.FLT_SUM) : (s.raiseFlt i).flag g = s.flag g :=
  flag_setReg_ne s _ h

end Sys2Proof.Machine
end

