-- ==== Sys2Proof/Laws/State.lean ====
section
/-!
SUPPORT. One lemma per field of the state and named update: what the update leaves of the field.
-/
namespace Sys2Proof.Machine

/-! ### setReg -/

@[simp] theorem setReg_pending (s : State) (a : Nat) (v : Half) : (s.setReg a v).pending = s.pending := rfl
@[simp] theorem setReg_now (s : State) (a : Nat) (v : Half) : (s.setReg a v).now = s.now := rfl
@[simp] theorem setReg_freeCtr (s : State) (a : Nat) (v : Half) : (s.setReg a v).freeCtr = s.freeCtr := rfl
@[simp] theorem setReg_held (s : State) (a : Nat) (v : Half) : (s.setReg a v).held = s.held := rfl
@[simp] theorem setReg_snapQspi (s : State) (a : Nat) (v : Half) : (s.setReg a v).snapQspi = s.snapQspi := rfl
@[simp] theorem setReg_snapRemote (s : State) (a : Nat) (v : Half) : (s.setReg a v).snapRemote = s.snapRemote := rfl
@[simp] theorem setReg_snapDbg (s : State) (a : Nat) (v : Half) : (s.setReg a v).snapDbg = s.snapDbg := rfl
@[simp] theorem setReg_mode (s : State) (a : Nat) (v : Half) : (s.setReg a v).mode = s.mode := rfl
@[simp] theorem setReg_timers (s : State) (a : Nat) (v : Half) : (s.setReg a v).timers = s.timers := rfl
@[simp] theorem setReg_sent (s : State) (a : Nat) (v : Half) : (s.setReg a v).sent = s.sent := rfl
@[simp] theorem setReg_acq (s : State) (a : Nat) (v : Half) : (s.setReg a v).acq = s.acq := rfl
@[simp] theorem setReg_wd (s : State) (a : Nat) (v : Half) : (s.setReg a v).wd = s.wd := rfl
@[simp] theorem setReg_imp (s : State) (a : Nat) (v : Half) : (s.setReg a v).imp = s.imp := rfl
@[simp] theorem setReg_bal (s : State) (a : Nat) (v : Half) : (s.setReg a v).bal = s.bal := rfl
@[simp] theorem setReg_txn (s : State) (a : Nat) (v : Half) : (s.setReg a v).txn = s.txn := rfl
@[simp] theorem setReg_rootTxn (s : State) (a : Nat) (v : Half) : (s.setReg a v).rootTxn = s.rootTxn := rfl
@[simp] theorem setReg_txnTargets (s : State) (a : Nat) (v : Half) : (s.setReg a v).txnTargets = s.txnTargets := rfl
@[simp] theorem setReg_tb (s : State) (a : Nat) (v : Half) : (s.setReg a v).tb = s.tb := rfl
@[simp] theorem setReg_mon (s : State) (a : Nat) (v : Half) : (s.setReg a v).mon = s.mon := rfl
@[simp] theorem setReg_trimsLoaded (s : State) (a : Nat) (v : Half) : (s.setReg a v).trimsLoaded = s.trimsLoaded := rfl
@[simp] theorem setReg_link (s : State) (a : Nat) (v : Half) : (s.setReg a v).link = s.link := rfl
@[simp] theorem setReg_rings (s : State) (a : Nat) (v : Half) : (s.setReg a v).rings = s.rings := rfl
@[simp] theorem setReg_ms (s : State) (a : Nat) (v : Half) : (s.setReg a v).ms = s.ms := rfl
@[simp] theorem setReg_tree (s : State) (a : Nat) (v : Half) : (s.setReg a v).tree = s.tree := rfl
@[simp] theorem setReg_engSweep (s : State) (a : Nat) (v : Half) : (s.setReg a v).engSweep = s.engSweep := rfl
@[simp] theorem setReg_engNode (s : State) (a : Nat) (v : Half) : (s.setReg a v).engNode = s.engNode := rfl
@[simp] theorem setReg_engRail (s : State) (a : Nat) (v : Half) : (s.setReg a v).engRail = s.engRail := rfl
@[simp] theorem setReg_dmem (s : State) (a : Nat) (v : Half) : (s.setReg a v).dmem = s.dmem := rfl
@[simp] theorem setReg_badData (s : State) (a : Nat) (v : Half) : (s.setReg a v).badData = s.badData := rfl
@[simp] theorem setReg_bus (s : State) (a : Nat) (v : Half) : (s.setReg a v).bus = s.bus := rfl
@[simp] theorem setReg_dbgKeyArmed (s : State) (a : Nat) (v : Half) : (s.setReg a v).dbgKeyArmed = s.dbgKeyArmed := rfl
@[simp] theorem setReg_dbgOpen (s : State) (a : Nat) (v : Half) : (s.setReg a v).dbgOpen = s.dbgOpen := rfl
@[simp] theorem setReg_dbgPin (s : State) (a : Nat) (v : Half) : (s.setReg a v).dbgPin = s.dbgPin := rfl
@[simp] theorem setReg_fla (s : State) (a : Nat) (v : Half) : (s.setReg a v).fla = s.fla := rfl
@[simp] theorem setReg_hs (s : State) (a : Nat) (v : Half) : (s.setReg a v).hs = s.hs := rfl
@[simp] theorem setReg_minute (s : State) (a : Nat) (v : Half) : (s.setReg a v).minute = s.minute := rfl
@[simp] theorem setReg_hour (s : State) (a : Nat) (v : Half) : (s.setReg a v).hour = s.hour := rfl
@[simp] theorem setReg_parts (s : State) (a : Nat) (v : Half) : (s.setReg a v).parts = s.parts := rfl
@[simp] theorem setReg_toLog (s : State) (a : Nat) (v : Half) : (s.setReg a v).toLog = s.toLog := rfl
@[simp] theorem setReg_rail (s : State) (a : Nat) (v : Half) : (s.setReg a v).rail = s.rail := rfl
@[simp] theorem setReg_th (s : State) (a : Nat) (v : Half) : (s.setReg a v).th = s.th := rfl
@[simp] theorem setReg_cal (s : State) (a : Nat) (v : Half) : (s.setReg a v).cal = s.cal := rfl
@[simp] theorem setReg_st (s : State) (a : Nat) (v : Half) : (s.setReg a v).st = s.st := rfl
@[simp] theorem setReg_keys (s : State) (a : Nat) (v : Half) : (s.setReg a v).keys = s.keys := rfl
@[simp] theorem setReg_cvus (s : State) (a : Nat) (v : Half) : (s.setReg a v).cvus = s.cvus := rfl
@[simp] theorem setReg_aly (s : State) (a : Nat) (v : Half) : (s.setReg a v).aly = s.aly := rfl
@[simp] theorem setReg_powered (s : State) (a : Nat) (v : Half) : (s.setReg a v).powered = s.powered := rfl
@[simp] theorem setReg_mc (s : State) (a : Nat) (v : Half) : (s.setReg a v).mc = s.mc := rfl
@[simp] theorem setReg_bt (s : State) (a : Nat) (v : Half) : (s.setReg a v).bt = s.bt := rfl
@[simp] theorem setReg_upd (s : State) (a : Nat) (v : Half) : (s.setReg a v).upd = s.upd := rfl
@[simp] theorem setReg_sw (s : State) (a : Nat) (v : Half) : (s.setReg a v).sw = s.sw := rfl
@[simp] theorem setReg_swShadow (s : State) (a : Nat) (v : Half) : (s.setReg a v).swShadow = s.swShadow := rfl
@[simp] theorem setReg_hostWait (s : State) (a : Nat) (v : Half) : (s.setReg a v).hostWait = s.hostWait := rfl
@[simp] theorem setReg_hostAnswer (s : State) (a : Nat) (v : Half) : (s.setReg a v).hostAnswer = s.hostAnswer := rfl
@[simp] theorem setReg_dbgAnswer (s : State) (a : Nat) (v : Half) : (s.setReg a v).dbgAnswer = s.dbgAnswer := rfl

/-! ### setFld -/

@[simp] theorem setFld_pending (s : State) (f : BitField) (n : Nat) : (s.setFld f n).pending = s.pending := rfl
@[simp] theorem setFld_now (s : State) (f : BitField) (n : Nat) : (s.setFld f n).now = s.now := rfl
@[simp] theorem setFld_freeCtr (s : State) (f : BitField) (n : Nat) : (s.setFld f n).freeCtr = s.freeCtr := rfl
@[simp] theorem setFld_held (s : State) (f : BitField) (n : Nat) : (s.setFld f n).held = s.held := rfl
@[simp] theorem setFld_snapQspi (s : State) (f : BitField) (n : Nat) : (s.setFld f n).snapQspi = s.snapQspi := rfl
@[simp] theorem setFld_snapRemote (s : State) (f : BitField) (n : Nat) : (s.setFld f n).snapRemote = s.snapRemote := rfl
@[simp] theorem setFld_snapDbg (s : State) (f : BitField) (n : Nat) : (s.setFld f n).snapDbg = s.snapDbg := rfl
@[simp] theorem setFld_mode (s : State) (f : BitField) (n : Nat) : (s.setFld f n).mode = s.mode := rfl
@[simp] theorem setFld_timers (s : State) (f : BitField) (n : Nat) : (s.setFld f n).timers = s.timers := rfl
@[simp] theorem setFld_sent (s : State) (f : BitField) (n : Nat) : (s.setFld f n).sent = s.sent := rfl
@[simp] theorem setFld_acq (s : State) (f : BitField) (n : Nat) : (s.setFld f n).acq = s.acq := rfl
@[simp] theorem setFld_wd (s : State) (f : BitField) (n : Nat) : (s.setFld f n).wd = s.wd := rfl
@[simp] theorem setFld_imp (s : State) (f : BitField) (n : Nat) : (s.setFld f n).imp = s.imp := rfl
@[simp] theorem setFld_bal (s : State) (f : BitField) (n : Nat) : (s.setFld f n).bal = s.bal := rfl
@[simp] theorem setFld_txn (s : State) (f : BitField) (n : Nat) : (s.setFld f n).txn = s.txn := rfl
@[simp] theorem setFld_rootTxn (s : State) (f : BitField) (n : Nat) : (s.setFld f n).rootTxn = s.rootTxn := rfl
@[simp] theorem setFld_txnTargets (s : State) (f : BitField) (n : Nat) : (s.setFld f n).txnTargets = s.txnTargets := rfl
@[simp] theorem setFld_tb (s : State) (f : BitField) (n : Nat) : (s.setFld f n).tb = s.tb := rfl
@[simp] theorem setFld_mon (s : State) (f : BitField) (n : Nat) : (s.setFld f n).mon = s.mon := rfl
@[simp] theorem setFld_trimsLoaded (s : State) (f : BitField) (n : Nat) : (s.setFld f n).trimsLoaded = s.trimsLoaded := rfl
@[simp] theorem setFld_link (s : State) (f : BitField) (n : Nat) : (s.setFld f n).link = s.link := rfl
@[simp] theorem setFld_rings (s : State) (f : BitField) (n : Nat) : (s.setFld f n).rings = s.rings := rfl
@[simp] theorem setFld_ms (s : State) (f : BitField) (n : Nat) : (s.setFld f n).ms = s.ms := rfl
@[simp] theorem setFld_tree (s : State) (f : BitField) (n : Nat) : (s.setFld f n).tree = s.tree := rfl
@[simp] theorem setFld_engSweep (s : State) (f : BitField) (n : Nat) : (s.setFld f n).engSweep = s.engSweep := rfl
@[simp] theorem setFld_engNode (s : State) (f : BitField) (n : Nat) : (s.setFld f n).engNode = s.engNode := rfl
@[simp] theorem setFld_engRail (s : State) (f : BitField) (n : Nat) : (s.setFld f n).engRail = s.engRail := rfl
@[simp] theorem setFld_dmem (s : State) (f : BitField) (n : Nat) : (s.setFld f n).dmem = s.dmem := rfl
@[simp] theorem setFld_badData (s : State) (f : BitField) (n : Nat) : (s.setFld f n).badData = s.badData := rfl
@[simp] theorem setFld_bus (s : State) (f : BitField) (n : Nat) : (s.setFld f n).bus = s.bus := rfl
@[simp] theorem setFld_dbgKeyArmed (s : State) (f : BitField) (n : Nat) : (s.setFld f n).dbgKeyArmed = s.dbgKeyArmed := rfl
@[simp] theorem setFld_dbgOpen (s : State) (f : BitField) (n : Nat) : (s.setFld f n).dbgOpen = s.dbgOpen := rfl
@[simp] theorem setFld_dbgPin (s : State) (f : BitField) (n : Nat) : (s.setFld f n).dbgPin = s.dbgPin := rfl
@[simp] theorem setFld_fla (s : State) (f : BitField) (n : Nat) : (s.setFld f n).fla = s.fla := rfl
@[simp] theorem setFld_hs (s : State) (f : BitField) (n : Nat) : (s.setFld f n).hs = s.hs := rfl
@[simp] theorem setFld_minute (s : State) (f : BitField) (n : Nat) : (s.setFld f n).minute = s.minute := rfl
@[simp] theorem setFld_hour (s : State) (f : BitField) (n : Nat) : (s.setFld f n).hour = s.hour := rfl
@[simp] theorem setFld_parts (s : State) (f : BitField) (n : Nat) : (s.setFld f n).parts = s.parts := rfl
@[simp] theorem setFld_toLog (s : State) (f : BitField) (n : Nat) : (s.setFld f n).toLog = s.toLog := rfl
@[simp] theorem setFld_rail (s : State) (f : BitField) (n : Nat) : (s.setFld f n).rail = s.rail := rfl
@[simp] theorem setFld_th (s : State) (f : BitField) (n : Nat) : (s.setFld f n).th = s.th := rfl
@[simp] theorem setFld_cal (s : State) (f : BitField) (n : Nat) : (s.setFld f n).cal = s.cal := rfl
@[simp] theorem setFld_st (s : State) (f : BitField) (n : Nat) : (s.setFld f n).st = s.st := rfl
@[simp] theorem setFld_keys (s : State) (f : BitField) (n : Nat) : (s.setFld f n).keys = s.keys := rfl
@[simp] theorem setFld_cvus (s : State) (f : BitField) (n : Nat) : (s.setFld f n).cvus = s.cvus := rfl
@[simp] theorem setFld_aly (s : State) (f : BitField) (n : Nat) : (s.setFld f n).aly = s.aly := rfl
@[simp] theorem setFld_powered (s : State) (f : BitField) (n : Nat) : (s.setFld f n).powered = s.powered := rfl
@[simp] theorem setFld_mc (s : State) (f : BitField) (n : Nat) : (s.setFld f n).mc = s.mc := rfl
@[simp] theorem setFld_bt (s : State) (f : BitField) (n : Nat) : (s.setFld f n).bt = s.bt := rfl
@[simp] theorem setFld_upd (s : State) (f : BitField) (n : Nat) : (s.setFld f n).upd = s.upd := rfl
@[simp] theorem setFld_sw (s : State) (f : BitField) (n : Nat) : (s.setFld f n).sw = s.sw := rfl
@[simp] theorem setFld_swShadow (s : State) (f : BitField) (n : Nat) : (s.setFld f n).swShadow = s.swShadow := rfl
@[simp] theorem setFld_hostWait (s : State) (f : BitField) (n : Nat) : (s.setFld f n).hostWait = s.hostWait := rfl
@[simp] theorem setFld_hostAnswer (s : State) (f : BitField) (n : Nat) : (s.setFld f n).hostAnswer = s.hostAnswer := rfl
@[simp] theorem setFld_dbgAnswer (s : State) (f : BitField) (n : Nat) : (s.setFld f n).dbgAnswer = s.dbgAnswer := rfl

/-! ### setFlag -/

@[simp] theorem setFlag_pending (s : State) (f : BitField) (c : Bool) : (s.setFlag f c).pending = s.pending := rfl
@[simp] theorem setFlag_now (s : State) (f : BitField) (c : Bool) : (s.setFlag f c).now = s.now := rfl
@[simp] theorem setFlag_freeCtr (s : State) (f : BitField) (c : Bool) : (s.setFlag f c).freeCtr = s.freeCtr := rfl
@[simp] theorem setFlag_held (s : State) (f : BitField) (c : Bool) : (s.setFlag f c).held = s.held := rfl
@[simp] theorem setFlag_snapQspi (s : State) (f : BitField) (c : Bool) : (s.setFlag f c).snapQspi = s.snapQspi := rfl
@[simp] theorem setFlag_snapRemote (s : State) (f : BitField) (c : Bool) : (s.setFlag f c).snapRemote = s.snapRemote := rfl
@[simp] theorem setFlag_snapDbg (s : State) (f : BitField) (c : Bool) : (s.setFlag f c).snapDbg = s.snapDbg := rfl
@[simp] theorem setFlag_mode (s : State) (f : BitField) (c : Bool) : (s.setFlag f c).mode = s.mode := rfl
@[simp] theorem setFlag_timers (s : State) (f : BitField) (c : Bool) : (s.setFlag f c).timers = s.timers := rfl
@[simp] theorem setFlag_sent (s : State) (f : BitField) (c : Bool) : (s.setFlag f c).sent = s.sent := rfl
@[simp] theorem setFlag_acq (s : State) (f : BitField) (c : Bool) : (s.setFlag f c).acq = s.acq := rfl
@[simp] theorem setFlag_wd (s : State) (f : BitField) (c : Bool) : (s.setFlag f c).wd = s.wd := rfl
@[simp] theorem setFlag_imp (s : State) (f : BitField) (c : Bool) : (s.setFlag f c).imp = s.imp := rfl
@[simp] theorem setFlag_bal (s : State) (f : BitField) (c : Bool) : (s.setFlag f c).bal = s.bal := rfl
@[simp] theorem setFlag_txn (s : State) (f : BitField) (c : Bool) : (s.setFlag f c).txn = s.txn := rfl
@[simp] theorem setFlag_rootTxn (s : State) (f : BitField) (c : Bool) : (s.setFlag f c).rootTxn = s.rootTxn := rfl
@[simp] theorem setFlag_txnTargets (s : State) (f : BitField) (c : Bool) : (s.setFlag f c).txnTargets = s.txnTargets := rfl
@[simp] theorem setFlag_tb (s : State) (f : BitField) (c : Bool) : (s.setFlag f c).tb = s.tb := rfl
@[simp] theorem setFlag_mon (s : State) (f : BitField) (c : Bool) : (s.setFlag f c).mon = s.mon := rfl
@[simp] theorem setFlag_trimsLoaded (s : State) (f : BitField) (c : Bool) : (s.setFlag f c).trimsLoaded = s.trimsLoaded := rfl
@[simp] theorem setFlag_link (s : State) (f : BitField) (c : Bool) : (s.setFlag f c).link = s.link := rfl
@[simp] theorem setFlag_rings (s : State) (f : BitField) (c : Bool) : (s.setFlag f c).rings = s.rings := rfl
@[simp] theorem setFlag_ms (s : State) (f : BitField) (c : Bool) : (s.setFlag f c).ms = s.ms := rfl
@[simp] theorem setFlag_tree (s : State) (f : BitField) (c : Bool) : (s.setFlag f c).tree = s.tree := rfl
@[simp] theorem setFlag_engSweep (s : State) (f : BitField) (c : Bool) : (s.setFlag f c).engSweep = s.engSweep := rfl
@[simp] theorem setFlag_engNode (s : State) (f : BitField) (c : Bool) : (s.setFlag f c).engNode = s.engNode := rfl
@[simp] theorem setFlag_engRail (s : State) (f : BitField) (c : Bool) : (s.setFlag f c).engRail = s.engRail := rfl
@[simp] theorem setFlag_dmem (s : State) (f : BitField) (c : Bool) : (s.setFlag f c).dmem = s.dmem := rfl
@[simp] theorem setFlag_badData (s : State) (f : BitField) (c : Bool) : (s.setFlag f c).badData = s.badData := rfl
@[simp] theorem setFlag_bus (s : State) (f : BitField) (c : Bool) : (s.setFlag f c).bus = s.bus := rfl
@[simp] theorem setFlag_dbgKeyArmed (s : State) (f : BitField) (c : Bool) : (s.setFlag f c).dbgKeyArmed = s.dbgKeyArmed := rfl
@[simp] theorem setFlag_dbgOpen (s : State) (f : BitField) (c : Bool) : (s.setFlag f c).dbgOpen = s.dbgOpen := rfl
@[simp] theorem setFlag_dbgPin (s : State) (f : BitField) (c : Bool) : (s.setFlag f c).dbgPin = s.dbgPin := rfl
@[simp] theorem setFlag_fla (s : State) (f : BitField) (c : Bool) : (s.setFlag f c).fla = s.fla := rfl
@[simp] theorem setFlag_hs (s : State) (f : BitField) (c : Bool) : (s.setFlag f c).hs = s.hs := rfl
@[simp] theorem setFlag_minute (s : State) (f : BitField) (c : Bool) : (s.setFlag f c).minute = s.minute := rfl
@[simp] theorem setFlag_hour (s : State) (f : BitField) (c : Bool) : (s.setFlag f c).hour = s.hour := rfl
@[simp] theorem setFlag_parts (s : State) (f : BitField) (c : Bool) : (s.setFlag f c).parts = s.parts := rfl
@[simp] theorem setFlag_toLog (s : State) (f : BitField) (c : Bool) : (s.setFlag f c).toLog = s.toLog := rfl
@[simp] theorem setFlag_rail (s : State) (f : BitField) (c : Bool) : (s.setFlag f c).rail = s.rail := rfl
@[simp] theorem setFlag_th (s : State) (f : BitField) (c : Bool) : (s.setFlag f c).th = s.th := rfl
@[simp] theorem setFlag_cal (s : State) (f : BitField) (c : Bool) : (s.setFlag f c).cal = s.cal := rfl
@[simp] theorem setFlag_st (s : State) (f : BitField) (c : Bool) : (s.setFlag f c).st = s.st := rfl
@[simp] theorem setFlag_keys (s : State) (f : BitField) (c : Bool) : (s.setFlag f c).keys = s.keys := rfl
@[simp] theorem setFlag_cvus (s : State) (f : BitField) (c : Bool) : (s.setFlag f c).cvus = s.cvus := rfl
@[simp] theorem setFlag_aly (s : State) (f : BitField) (c : Bool) : (s.setFlag f c).aly = s.aly := rfl
@[simp] theorem setFlag_powered (s : State) (f : BitField) (c : Bool) : (s.setFlag f c).powered = s.powered := rfl
@[simp] theorem setFlag_mc (s : State) (f : BitField) (c : Bool) : (s.setFlag f c).mc = s.mc := rfl
@[simp] theorem setFlag_bt (s : State) (f : BitField) (c : Bool) : (s.setFlag f c).bt = s.bt := rfl
@[simp] theorem setFlag_upd (s : State) (f : BitField) (c : Bool) : (s.setFlag f c).upd = s.upd := rfl
@[simp] theorem setFlag_sw (s : State) (f : BitField) (c : Bool) : (s.setFlag f c).sw = s.sw := rfl
@[simp] theorem setFlag_swShadow (s : State) (f : BitField) (c : Bool) : (s.setFlag f c).swShadow = s.swShadow := rfl
@[simp] theorem setFlag_hostWait (s : State) (f : BitField) (c : Bool) : (s.setFlag f c).hostWait = s.hostWait := rfl
@[simp] theorem setFlag_hostAnswer (s : State) (f : BitField) (c : Bool) : (s.setFlag f c).hostAnswer = s.hostAnswer := rfl
@[simp] theorem setFlag_dbgAnswer (s : State) (f : BitField) (c : Bool) : (s.setFlag f c).dbgAnswer = s.dbgAnswer := rfl

/-! ### setRegN -/

@[simp] theorem setRegN_pending (s : State) (a n : Nat) : (s.setRegN a n).pending = s.pending := rfl
@[simp] theorem setRegN_now (s : State) (a n : Nat) : (s.setRegN a n).now = s.now := rfl
@[simp] theorem setRegN_freeCtr (s : State) (a n : Nat) : (s.setRegN a n).freeCtr = s.freeCtr := rfl
@[simp] theorem setRegN_held (s : State) (a n : Nat) : (s.setRegN a n).held = s.held := rfl
@[simp] theorem setRegN_snapQspi (s : State) (a n : Nat) : (s.setRegN a n).snapQspi = s.snapQspi := rfl
@[simp] theorem setRegN_snapRemote (s : State) (a n : Nat) : (s.setRegN a n).snapRemote = s.snapRemote := rfl
@[simp] theorem setRegN_snapDbg (s : State) (a n : Nat) : (s.setRegN a n).snapDbg = s.snapDbg := rfl
@[simp] theorem setRegN_mode (s : State) (a n : Nat) : (s.setRegN a n).mode = s.mode := rfl
@[simp] theorem setRegN_timers (s : State) (a n : Nat) : (s.setRegN a n).timers = s.timers := rfl
@[simp] theorem setRegN_sent (s : State) (a n : Nat) : (s.setRegN a n).sent = s.sent := rfl
@[simp] theorem setRegN_acq (s : State) (a n : Nat) : (s.setRegN a n).acq = s.acq := rfl
@[simp] theorem setRegN_wd (s : State) (a n : Nat) : (s.setRegN a n).wd = s.wd := rfl
@[simp] theorem setRegN_imp (s : State) (a n : Nat) : (s.setRegN a n).imp = s.imp := rfl
@[simp] theorem setRegN_bal (s : State) (a n : Nat) : (s.setRegN a n).bal = s.bal := rfl
@[simp] theorem setRegN_txn (s : State) (a n : Nat) : (s.setRegN a n).txn = s.txn := rfl
@[simp] theorem setRegN_rootTxn (s : State) (a n : Nat) : (s.setRegN a n).rootTxn = s.rootTxn := rfl
@[simp] theorem setRegN_txnTargets (s : State) (a n : Nat) : (s.setRegN a n).txnTargets = s.txnTargets := rfl
@[simp] theorem setRegN_tb (s : State) (a n : Nat) : (s.setRegN a n).tb = s.tb := rfl
@[simp] theorem setRegN_mon (s : State) (a n : Nat) : (s.setRegN a n).mon = s.mon := rfl
@[simp] theorem setRegN_trimsLoaded (s : State) (a n : Nat) : (s.setRegN a n).trimsLoaded = s.trimsLoaded := rfl
@[simp] theorem setRegN_link (s : State) (a n : Nat) : (s.setRegN a n).link = s.link := rfl
@[simp] theorem setRegN_rings (s : State) (a n : Nat) : (s.setRegN a n).rings = s.rings := rfl
@[simp] theorem setRegN_ms (s : State) (a n : Nat) : (s.setRegN a n).ms = s.ms := rfl
@[simp] theorem setRegN_tree (s : State) (a n : Nat) : (s.setRegN a n).tree = s.tree := rfl
@[simp] theorem setRegN_engSweep (s : State) (a n : Nat) : (s.setRegN a n).engSweep = s.engSweep := rfl
@[simp] theorem setRegN_engNode (s : State) (a n : Nat) : (s.setRegN a n).engNode = s.engNode := rfl
@[simp] theorem setRegN_engRail (s : State) (a n : Nat) : (s.setRegN a n).engRail = s.engRail := rfl
@[simp] theorem setRegN_dmem (s : State) (a n : Nat) : (s.setRegN a n).dmem = s.dmem := rfl
@[simp] theorem setRegN_badData (s : State) (a n : Nat) : (s.setRegN a n).badData = s.badData := rfl
@[simp] theorem setRegN_bus (s : State) (a n : Nat) : (s.setRegN a n).bus = s.bus := rfl
@[simp] theorem setRegN_dbgKeyArmed (s : State) (a n : Nat) : (s.setRegN a n).dbgKeyArmed = s.dbgKeyArmed := rfl
@[simp] theorem setRegN_dbgOpen (s : State) (a n : Nat) : (s.setRegN a n).dbgOpen = s.dbgOpen := rfl
@[simp] theorem setRegN_dbgPin (s : State) (a n : Nat) : (s.setRegN a n).dbgPin = s.dbgPin := rfl
@[simp] theorem setRegN_fla (s : State) (a n : Nat) : (s.setRegN a n).fla = s.fla := rfl
@[simp] theorem setRegN_hs (s : State) (a n : Nat) : (s.setRegN a n).hs = s.hs := rfl
@[simp] theorem setRegN_minute (s : State) (a n : Nat) : (s.setRegN a n).minute = s.minute := rfl
@[simp] theorem setRegN_hour (s : State) (a n : Nat) : (s.setRegN a n).hour = s.hour := rfl
@[simp] theorem setRegN_parts (s : State) (a n : Nat) : (s.setRegN a n).parts = s.parts := rfl
@[simp] theorem setRegN_toLog (s : State) (a n : Nat) : (s.setRegN a n).toLog = s.toLog := rfl
@[simp] theorem setRegN_rail (s : State) (a n : Nat) : (s.setRegN a n).rail = s.rail := rfl
@[simp] theorem setRegN_th (s : State) (a n : Nat) : (s.setRegN a n).th = s.th := rfl
@[simp] theorem setRegN_cal (s : State) (a n : Nat) : (s.setRegN a n).cal = s.cal := rfl
@[simp] theorem setRegN_st (s : State) (a n : Nat) : (s.setRegN a n).st = s.st := rfl
@[simp] theorem setRegN_keys (s : State) (a n : Nat) : (s.setRegN a n).keys = s.keys := rfl
@[simp] theorem setRegN_cvus (s : State) (a n : Nat) : (s.setRegN a n).cvus = s.cvus := rfl
@[simp] theorem setRegN_aly (s : State) (a n : Nat) : (s.setRegN a n).aly = s.aly := rfl
@[simp] theorem setRegN_powered (s : State) (a n : Nat) : (s.setRegN a n).powered = s.powered := rfl
@[simp] theorem setRegN_mc (s : State) (a n : Nat) : (s.setRegN a n).mc = s.mc := rfl
@[simp] theorem setRegN_bt (s : State) (a n : Nat) : (s.setRegN a n).bt = s.bt := rfl
@[simp] theorem setRegN_upd (s : State) (a n : Nat) : (s.setRegN a n).upd = s.upd := rfl
@[simp] theorem setRegN_sw (s : State) (a n : Nat) : (s.setRegN a n).sw = s.sw := rfl
@[simp] theorem setRegN_swShadow (s : State) (a n : Nat) : (s.setRegN a n).swShadow = s.swShadow := rfl
@[simp] theorem setRegN_hostWait (s : State) (a n : Nat) : (s.setRegN a n).hostWait = s.hostWait := rfl
@[simp] theorem setRegN_hostAnswer (s : State) (a n : Nat) : (s.setRegN a n).hostAnswer = s.hostAnswer := rfl
@[simp] theorem setRegN_dbgAnswer (s : State) (a n : Nat) : (s.setRegN a n).dbgAnswer = s.dbgAnswer := rfl

/-! ### setBits -/

@[simp] theorem setBits_pending (s : State) (a : Nat) (m : Half) : (s.setBits a m).pending = s.pending := rfl
@[simp] theorem setBits_now (s : State) (a : Nat) (m : Half) : (s.setBits a m).now = s.now := rfl
@[simp] theorem setBits_freeCtr (s : State) (a : Nat) (m : Half) : (s.setBits a m).freeCtr = s.freeCtr := rfl
@[simp] theorem setBits_held (s : State) (a : Nat) (m : Half) : (s.setBits a m).held = s.held := rfl
@[simp] theorem setBits_snapQspi (s : State) (a : Nat) (m : Half) : (s.setBits a m).snapQspi = s.snapQspi := rfl
@[simp] theorem setBits_snapRemote (s : State) (a : Nat) (m : Half) : (s.setBits a m).snapRemote = s.snapRemote := rfl
@[simp] theorem setBits_snapDbg (s : State) (a : Nat) (m : Half) : (s.setBits a m).snapDbg = s.snapDbg := rfl
@[simp] theorem setBits_mode (s : State) (a : Nat) (m : Half) : (s.setBits a m).mode = s.mode := rfl
@[simp] theorem setBits_timers (s : State) (a : Nat) (m : Half) : (s.setBits a m).timers = s.timers := rfl
@[simp] theorem setBits_sent (s : State) (a : Nat) (m : Half) : (s.setBits a m).sent = s.sent := rfl
@[simp] theorem setBits_acq (s : State) (a : Nat) (m : Half) : (s.setBits a m).acq = s.acq := rfl
@[simp] theorem setBits_wd (s : State) (a : Nat) (m : Half) : (s.setBits a m).wd = s.wd := rfl
@[simp] theorem setBits_imp (s : State) (a : Nat) (m : Half) : (s.setBits a m).imp = s.imp := rfl
@[simp] theorem setBits_bal (s : State) (a : Nat) (m : Half) : (s.setBits a m).bal = s.bal := rfl
@[simp] theorem setBits_txn (s : State) (a : Nat) (m : Half) : (s.setBits a m).txn = s.txn := rfl
@[simp] theorem setBits_rootTxn (s : State) (a : Nat) (m : Half) : (s.setBits a m).rootTxn = s.rootTxn := rfl
@[simp] theorem setBits_txnTargets (s : State) (a : Nat) (m : Half) : (s.setBits a m).txnTargets = s.txnTargets := rfl
@[simp] theorem setBits_tb (s : State) (a : Nat) (m : Half) : (s.setBits a m).tb = s.tb := rfl
@[simp] theorem setBits_mon (s : State) (a : Nat) (m : Half) : (s.setBits a m).mon = s.mon := rfl
@[simp] theorem setBits_trimsLoaded (s : State) (a : Nat) (m : Half) : (s.setBits a m).trimsLoaded = s.trimsLoaded := rfl
@[simp] theorem setBits_link (s : State) (a : Nat) (m : Half) : (s.setBits a m).link = s.link := rfl
@[simp] theorem setBits_rings (s : State) (a : Nat) (m : Half) : (s.setBits a m).rings = s.rings := rfl
@[simp] theorem setBits_ms (s : State) (a : Nat) (m : Half) : (s.setBits a m).ms = s.ms := rfl
@[simp] theorem setBits_tree (s : State) (a : Nat) (m : Half) : (s.setBits a m).tree = s.tree := rfl
@[simp] theorem setBits_engSweep (s : State) (a : Nat) (m : Half) : (s.setBits a m).engSweep = s.engSweep := rfl
@[simp] theorem setBits_engNode (s : State) (a : Nat) (m : Half) : (s.setBits a m).engNode = s.engNode := rfl
@[simp] theorem setBits_engRail (s : State) (a : Nat) (m : Half) : (s.setBits a m).engRail = s.engRail := rfl
@[simp] theorem setBits_dmem (s : State) (a : Nat) (m : Half) : (s.setBits a m).dmem = s.dmem := rfl
@[simp] theorem setBits_badData (s : State) (a : Nat) (m : Half) : (s.setBits a m).badData = s.badData := rfl
@[simp] theorem setBits_bus (s : State) (a : Nat) (m : Half) : (s.setBits a m).bus = s.bus := rfl
@[simp] theorem setBits_dbgKeyArmed (s : State) (a : Nat) (m : Half) : (s.setBits a m).dbgKeyArmed = s.dbgKeyArmed := rfl
@[simp] theorem setBits_dbgOpen (s : State) (a : Nat) (m : Half) : (s.setBits a m).dbgOpen = s.dbgOpen := rfl
@[simp] theorem setBits_dbgPin (s : State) (a : Nat) (m : Half) : (s.setBits a m).dbgPin = s.dbgPin := rfl
@[simp] theorem setBits_fla (s : State) (a : Nat) (m : Half) : (s.setBits a m).fla = s.fla := rfl
@[simp] theorem setBits_hs (s : State) (a : Nat) (m : Half) : (s.setBits a m).hs = s.hs := rfl
@[simp] theorem setBits_minute (s : State) (a : Nat) (m : Half) : (s.setBits a m).minute = s.minute := rfl
@[simp] theorem setBits_hour (s : State) (a : Nat) (m : Half) : (s.setBits a m).hour = s.hour := rfl
@[simp] theorem setBits_parts (s : State) (a : Nat) (m : Half) : (s.setBits a m).parts = s.parts := rfl
@[simp] theorem setBits_toLog (s : State) (a : Nat) (m : Half) : (s.setBits a m).toLog = s.toLog := rfl
@[simp] theorem setBits_rail (s : State) (a : Nat) (m : Half) : (s.setBits a m).rail = s.rail := rfl
@[simp] theorem setBits_th (s : State) (a : Nat) (m : Half) : (s.setBits a m).th = s.th := rfl
@[simp] theorem setBits_cal (s : State) (a : Nat) (m : Half) : (s.setBits a m).cal = s.cal := rfl
@[simp] theorem setBits_st (s : State) (a : Nat) (m : Half) : (s.setBits a m).st = s.st := rfl
@[simp] theorem setBits_keys (s : State) (a : Nat) (m : Half) : (s.setBits a m).keys = s.keys := rfl
@[simp] theorem setBits_cvus (s : State) (a : Nat) (m : Half) : (s.setBits a m).cvus = s.cvus := rfl
@[simp] theorem setBits_aly (s : State) (a : Nat) (m : Half) : (s.setBits a m).aly = s.aly := rfl
@[simp] theorem setBits_powered (s : State) (a : Nat) (m : Half) : (s.setBits a m).powered = s.powered := rfl
@[simp] theorem setBits_mc (s : State) (a : Nat) (m : Half) : (s.setBits a m).mc = s.mc := rfl
@[simp] theorem setBits_bt (s : State) (a : Nat) (m : Half) : (s.setBits a m).bt = s.bt := rfl
@[simp] theorem setBits_upd (s : State) (a : Nat) (m : Half) : (s.setBits a m).upd = s.upd := rfl
@[simp] theorem setBits_sw (s : State) (a : Nat) (m : Half) : (s.setBits a m).sw = s.sw := rfl
@[simp] theorem setBits_swShadow (s : State) (a : Nat) (m : Half) : (s.setBits a m).swShadow = s.swShadow := rfl
@[simp] theorem setBits_hostWait (s : State) (a : Nat) (m : Half) : (s.setBits a m).hostWait = s.hostWait := rfl
@[simp] theorem setBits_hostAnswer (s : State) (a : Nat) (m : Half) : (s.setBits a m).hostAnswer = s.hostAnswer := rfl
@[simp] theorem setBits_dbgAnswer (s : State) (a : Nat) (m : Half) : (s.setBits a m).dbgAnswer = s.dbgAnswer := rfl

/-! ### clearBits -/

@[simp] theorem clearBits_pending (s : State) (a : Nat) (m : Half) : (s.clearBits a m).pending = s.pending := rfl
@[simp] theorem clearBits_now (s : State) (a : Nat) (m : Half) : (s.clearBits a m).now = s.now := rfl
@[simp] theorem clearBits_freeCtr (s : State) (a : Nat) (m : Half) : (s.clearBits a m).freeCtr = s.freeCtr := rfl
@[simp] theorem clearBits_held (s : State) (a : Nat) (m : Half) : (s.clearBits a m).held = s.held := rfl
@[simp] theorem clearBits_snapQspi (s : State) (a : Nat) (m : Half) : (s.clearBits a m).snapQspi = s.snapQspi := rfl
@[simp] theorem clearBits_snapRemote (s : State) (a : Nat) (m : Half) : (s.clearBits a m).snapRemote = s.snapRemote := rfl
@[simp] theorem clearBits_snapDbg (s : State) (a : Nat) (m : Half) : (s.clearBits a m).snapDbg = s.snapDbg := rfl
@[simp] theorem clearBits_mode (s : State) (a : Nat) (m : Half) : (s.clearBits a m).mode = s.mode := rfl
@[simp] theorem clearBits_timers (s : State) (a : Nat) (m : Half) : (s.clearBits a m).timers = s.timers := rfl
@[simp] theorem clearBits_sent (s : State) (a : Nat) (m : Half) : (s.clearBits a m).sent = s.sent := rfl
@[simp] theorem clearBits_acq (s : State) (a : Nat) (m : Half) : (s.clearBits a m).acq = s.acq := rfl
@[simp] theorem clearBits_wd (s : State) (a : Nat) (m : Half) : (s.clearBits a m).wd = s.wd := rfl
@[simp] theorem clearBits_imp (s : State) (a : Nat) (m : Half) : (s.clearBits a m).imp = s.imp := rfl
@[simp] theorem clearBits_bal (s : State) (a : Nat) (m : Half) : (s.clearBits a m).bal = s.bal := rfl
@[simp] theorem clearBits_txn (s : State) (a : Nat) (m : Half) : (s.clearBits a m).txn = s.txn := rfl
@[simp] theorem clearBits_rootTxn (s : State) (a : Nat) (m : Half) : (s.clearBits a m).rootTxn = s.rootTxn := rfl
@[simp] theorem clearBits_txnTargets (s : State) (a : Nat) (m : Half) : (s.clearBits a m).txnTargets = s.txnTargets := rfl
@[simp] theorem clearBits_tb (s : State) (a : Nat) (m : Half) : (s.clearBits a m).tb = s.tb := rfl
@[simp] theorem clearBits_mon (s : State) (a : Nat) (m : Half) : (s.clearBits a m).mon = s.mon := rfl
@[simp] theorem clearBits_trimsLoaded (s : State) (a : Nat) (m : Half) : (s.clearBits a m).trimsLoaded = s.trimsLoaded := rfl
@[simp] theorem clearBits_link (s : State) (a : Nat) (m : Half) : (s.clearBits a m).link = s.link := rfl
@[simp] theorem clearBits_rings (s : State) (a : Nat) (m : Half) : (s.clearBits a m).rings = s.rings := rfl
@[simp] theorem clearBits_ms (s : State) (a : Nat) (m : Half) : (s.clearBits a m).ms = s.ms := rfl
@[simp] theorem clearBits_tree (s : State) (a : Nat) (m : Half) : (s.clearBits a m).tree = s.tree := rfl
@[simp] theorem clearBits_engSweep (s : State) (a : Nat) (m : Half) : (s.clearBits a m).engSweep = s.engSweep := rfl
@[simp] theorem clearBits_engNode (s : State) (a : Nat) (m : Half) : (s.clearBits a m).engNode = s.engNode := rfl
@[simp] theorem clearBits_engRail (s : State) (a : Nat) (m : Half) : (s.clearBits a m).engRail = s.engRail := rfl
@[simp] theorem clearBits_dmem (s : State) (a : Nat) (m : Half) : (s.clearBits a m).dmem = s.dmem := rfl
@[simp] theorem clearBits_badData (s : State) (a : Nat) (m : Half) : (s.clearBits a m).badData = s.badData := rfl
@[simp] theorem clearBits_bus (s : State) (a : Nat) (m : Half) : (s.clearBits a m).bus = s.bus := rfl
@[simp] theorem clearBits_dbgKeyArmed (s : State) (a : Nat) (m : Half) : (s.clearBits a m).dbgKeyArmed = s.dbgKeyArmed := rfl
@[simp] theorem clearBits_dbgOpen (s : State) (a : Nat) (m : Half) : (s.clearBits a m).dbgOpen = s.dbgOpen := rfl
@[simp] theorem clearBits_dbgPin (s : State) (a : Nat) (m : Half) : (s.clearBits a m).dbgPin = s.dbgPin := rfl
@[simp] theorem clearBits_fla (s : State) (a : Nat) (m : Half) : (s.clearBits a m).fla = s.fla := rfl
@[simp] theorem clearBits_hs (s : State) (a : Nat) (m : Half) : (s.clearBits a m).hs = s.hs := rfl
@[simp] theorem clearBits_minute (s : State) (a : Nat) (m : Half) : (s.clearBits a m).minute = s.minute := rfl
@[simp] theorem clearBits_hour (s : State) (a : Nat) (m : Half) : (s.clearBits a m).hour = s.hour := rfl
@[simp] theorem clearBits_parts (s : State) (a : Nat) (m : Half) : (s.clearBits a m).parts = s.parts := rfl
@[simp] theorem clearBits_toLog (s : State) (a : Nat) (m : Half) : (s.clearBits a m).toLog = s.toLog := rfl
@[simp] theorem clearBits_rail (s : State) (a : Nat) (m : Half) : (s.clearBits a m).rail = s.rail := rfl
@[simp] theorem clearBits_th (s : State) (a : Nat) (m : Half) : (s.clearBits a m).th = s.th := rfl
@[simp] theorem clearBits_cal (s : State) (a : Nat) (m : Half) : (s.clearBits a m).cal = s.cal := rfl
@[simp] theorem clearBits_st (s : State) (a : Nat) (m : Half) : (s.clearBits a m).st = s.st := rfl
@[simp] theorem clearBits_keys (s : State) (a : Nat) (m : Half) : (s.clearBits a m).keys = s.keys := rfl
@[simp] theorem clearBits_cvus (s : State) (a : Nat) (m : Half) : (s.clearBits a m).cvus = s.cvus := rfl
@[simp] theorem clearBits_aly (s : State) (a : Nat) (m : Half) : (s.clearBits a m).aly = s.aly := rfl
@[simp] theorem clearBits_powered (s : State) (a : Nat) (m : Half) : (s.clearBits a m).powered = s.powered := rfl
@[simp] theorem clearBits_mc (s : State) (a : Nat) (m : Half) : (s.clearBits a m).mc = s.mc := rfl
@[simp] theorem clearBits_bt (s : State) (a : Nat) (m : Half) : (s.clearBits a m).bt = s.bt := rfl
@[simp] theorem clearBits_upd (s : State) (a : Nat) (m : Half) : (s.clearBits a m).upd = s.upd := rfl
@[simp] theorem clearBits_sw (s : State) (a : Nat) (m : Half) : (s.clearBits a m).sw = s.sw := rfl
@[simp] theorem clearBits_swShadow (s : State) (a : Nat) (m : Half) : (s.clearBits a m).swShadow = s.swShadow := rfl
@[simp] theorem clearBits_hostWait (s : State) (a : Nat) (m : Half) : (s.clearBits a m).hostWait = s.hostWait := rfl
@[simp] theorem clearBits_hostAnswer (s : State) (a : Nat) (m : Half) : (s.clearBits a m).hostAnswer = s.hostAnswer := rfl
@[simp] theorem clearBits_dbgAnswer (s : State) (a : Nat) (m : Half) : (s.clearBits a m).dbgAnswer = s.dbgAnswer := rfl

/-! ### raiseIrq -/

@[simp] theorem raiseIrq_pending (s : State) (i : Nat) : (s.raiseIrq i).pending = s.pending := rfl
@[simp] theorem raiseIrq_now (s : State) (i : Nat) : (s.raiseIrq i).now = s.now := rfl
@[simp] theorem raiseIrq_freeCtr (s : State) (i : Nat) : (s.raiseIrq i).freeCtr = s.freeCtr := rfl
@[simp] theorem raiseIrq_held (s : State) (i : Nat) : (s.raiseIrq i).held = s.held := rfl
@[simp] theorem raiseIrq_snapQspi (s : State) (i : Nat) : (s.raiseIrq i).snapQspi = s.snapQspi := rfl
@[simp] theorem raiseIrq_snapRemote (s : State) (i : Nat) : (s.raiseIrq i).snapRemote = s.snapRemote := rfl
@[simp] theorem raiseIrq_snapDbg (s : State) (i : Nat) : (s.raiseIrq i).snapDbg = s.snapDbg := rfl
@[simp] theorem raiseIrq_mode (s : State) (i : Nat) : (s.raiseIrq i).mode = s.mode := rfl
@[simp] theorem raiseIrq_timers (s : State) (i : Nat) : (s.raiseIrq i).timers = s.timers := rfl
@[simp] theorem raiseIrq_sent (s : State) (i : Nat) : (s.raiseIrq i).sent = s.sent := rfl
@[simp] theorem raiseIrq_acq (s : State) (i : Nat) : (s.raiseIrq i).acq = s.acq := rfl
@[simp] theorem raiseIrq_wd (s : State) (i : Nat) : (s.raiseIrq i).wd = s.wd := rfl
@[simp] theorem raiseIrq_imp (s : State) (i : Nat) : (s.raiseIrq i).imp = s.imp := rfl
@[simp] theorem raiseIrq_bal (s : State) (i : Nat) : (s.raiseIrq i).bal = s.bal := rfl
@[simp] theorem raiseIrq_txn (s : State) (i : Nat) : (s.raiseIrq i).txn = s.txn := rfl
@[simp] theorem raiseIrq_rootTxn (s : State) (i : Nat) : (s.raiseIrq i).rootTxn = s.rootTxn := rfl
@[simp] theorem raiseIrq_txnTargets (s : State) (i : Nat) : (s.raiseIrq i).txnTargets = s.txnTargets := rfl
@[simp] theorem raiseIrq_tb (s : State) (i : Nat) : (s.raiseIrq i).tb = s.tb := rfl
@[simp] theorem raiseIrq_mon (s : State) (i : Nat) : (s.raiseIrq i).mon = s.mon := rfl
@[simp] theorem raiseIrq_trimsLoaded (s : State) (i : Nat) : (s.raiseIrq i).trimsLoaded = s.trimsLoaded := rfl
@[simp] theorem raiseIrq_link (s : State) (i : Nat) : (s.raiseIrq i).link = s.link := rfl
@[simp] theorem raiseIrq_rings (s : State) (i : Nat) : (s.raiseIrq i).rings = s.rings := rfl
@[simp] theorem raiseIrq_ms (s : State) (i : Nat) : (s.raiseIrq i).ms = s.ms := rfl
@[simp] theorem raiseIrq_tree (s : State) (i : Nat) : (s.raiseIrq i).tree = s.tree := rfl
@[simp] theorem raiseIrq_engSweep (s : State) (i : Nat) : (s.raiseIrq i).engSweep = s.engSweep := rfl
@[simp] theorem raiseIrq_engNode (s : State) (i : Nat) : (s.raiseIrq i).engNode = s.engNode := rfl
@[simp] theorem raiseIrq_engRail (s : State) (i : Nat) : (s.raiseIrq i).engRail = s.engRail := rfl
@[simp] theorem raiseIrq_dmem (s : State) (i : Nat) : (s.raiseIrq i).dmem = s.dmem := rfl
@[simp] theorem raiseIrq_badData (s : State) (i : Nat) : (s.raiseIrq i).badData = s.badData := rfl
@[simp] theorem raiseIrq_bus (s : State) (i : Nat) : (s.raiseIrq i).bus = s.bus := rfl
@[simp] theorem raiseIrq_dbgKeyArmed (s : State) (i : Nat) : (s.raiseIrq i).dbgKeyArmed = s.dbgKeyArmed := rfl
@[simp] theorem raiseIrq_dbgOpen (s : State) (i : Nat) : (s.raiseIrq i).dbgOpen = s.dbgOpen := rfl
@[simp] theorem raiseIrq_dbgPin (s : State) (i : Nat) : (s.raiseIrq i).dbgPin = s.dbgPin := rfl
@[simp] theorem raiseIrq_fla (s : State) (i : Nat) : (s.raiseIrq i).fla = s.fla := rfl
@[simp] theorem raiseIrq_hs (s : State) (i : Nat) : (s.raiseIrq i).hs = s.hs := rfl
@[simp] theorem raiseIrq_minute (s : State) (i : Nat) : (s.raiseIrq i).minute = s.minute := rfl
@[simp] theorem raiseIrq_hour (s : State) (i : Nat) : (s.raiseIrq i).hour = s.hour := rfl
@[simp] theorem raiseIrq_parts (s : State) (i : Nat) : (s.raiseIrq i).parts = s.parts := rfl
@[simp] theorem raiseIrq_toLog (s : State) (i : Nat) : (s.raiseIrq i).toLog = s.toLog := rfl
@[simp] theorem raiseIrq_rail (s : State) (i : Nat) : (s.raiseIrq i).rail = s.rail := rfl
@[simp] theorem raiseIrq_th (s : State) (i : Nat) : (s.raiseIrq i).th = s.th := rfl
@[simp] theorem raiseIrq_cal (s : State) (i : Nat) : (s.raiseIrq i).cal = s.cal := rfl
@[simp] theorem raiseIrq_st (s : State) (i : Nat) : (s.raiseIrq i).st = s.st := rfl
@[simp] theorem raiseIrq_keys (s : State) (i : Nat) : (s.raiseIrq i).keys = s.keys := rfl
@[simp] theorem raiseIrq_cvus (s : State) (i : Nat) : (s.raiseIrq i).cvus = s.cvus := rfl
@[simp] theorem raiseIrq_aly (s : State) (i : Nat) : (s.raiseIrq i).aly = s.aly := rfl
@[simp] theorem raiseIrq_powered (s : State) (i : Nat) : (s.raiseIrq i).powered = s.powered := rfl
@[simp] theorem raiseIrq_mc (s : State) (i : Nat) : (s.raiseIrq i).mc = s.mc := rfl
@[simp] theorem raiseIrq_bt (s : State) (i : Nat) : (s.raiseIrq i).bt = s.bt := rfl
@[simp] theorem raiseIrq_upd (s : State) (i : Nat) : (s.raiseIrq i).upd = s.upd := rfl
@[simp] theorem raiseIrq_sw (s : State) (i : Nat) : (s.raiseIrq i).sw = s.sw := rfl
@[simp] theorem raiseIrq_swShadow (s : State) (i : Nat) : (s.raiseIrq i).swShadow = s.swShadow := rfl
@[simp] theorem raiseIrq_hostWait (s : State) (i : Nat) : (s.raiseIrq i).hostWait = s.hostWait := rfl
@[simp] theorem raiseIrq_hostAnswer (s : State) (i : Nat) : (s.raiseIrq i).hostAnswer = s.hostAnswer := rfl
@[simp] theorem raiseIrq_dbgAnswer (s : State) (i : Nat) : (s.raiseIrq i).dbgAnswer = s.dbgAnswer := rfl

/-! ### raiseFlt -/

@[simp] theorem raiseFlt_pending (s : State) (i : Nat) : (s.raiseFlt i).pending = s.pending := rfl
@[simp] theorem raiseFlt_now (s : State) (i : Nat) : (s.raiseFlt i).now = s.now := rfl
@[simp] theorem raiseFlt_freeCtr (s : State) (i : Nat) : (s.raiseFlt i).freeCtr = s.freeCtr := rfl
@[simp] theorem raiseFlt_held (s : State) (i : Nat) : (s.raiseFlt i).held = s.held := rfl
@[simp] theorem raiseFlt_snapQspi (s : State) (i : Nat) : (s.raiseFlt i).snapQspi = s.snapQspi := rfl
@[simp] theorem raiseFlt_snapRemote (s : State) (i : Nat) : (s.raiseFlt i).snapRemote = s.snapRemote := rfl
@[simp] theorem raiseFlt_snapDbg (s : State) (i : Nat) : (s.raiseFlt i).snapDbg = s.snapDbg := rfl
@[simp] theorem raiseFlt_mode (s : State) (i : Nat) : (s.raiseFlt i).mode = s.mode := rfl
@[simp] theorem raiseFlt_timers (s : State) (i : Nat) : (s.raiseFlt i).timers = s.timers := rfl
@[simp] theorem raiseFlt_sent (s : State) (i : Nat) : (s.raiseFlt i).sent = s.sent := rfl
@[simp] theorem raiseFlt_acq (s : State) (i : Nat) : (s.raiseFlt i).acq = s.acq := rfl
@[simp] theorem raiseFlt_wd (s : State) (i : Nat) : (s.raiseFlt i).wd = s.wd := rfl
@[simp] theorem raiseFlt_imp (s : State) (i : Nat) : (s.raiseFlt i).imp = s.imp := rfl
@[simp] theorem raiseFlt_bal (s : State) (i : Nat) : (s.raiseFlt i).bal = s.bal := rfl
@[simp] theorem raiseFlt_txn (s : State) (i : Nat) : (s.raiseFlt i).txn = s.txn := rfl
@[simp] theorem raiseFlt_rootTxn (s : State) (i : Nat) : (s.raiseFlt i).rootTxn = s.rootTxn := rfl
@[simp] theorem raiseFlt_txnTargets (s : State) (i : Nat) : (s.raiseFlt i).txnTargets = s.txnTargets := rfl
@[simp] theorem raiseFlt_tb (s : State) (i : Nat) : (s.raiseFlt i).tb = s.tb := rfl
@[simp] theorem raiseFlt_mon (s : State) (i : Nat) : (s.raiseFlt i).mon = s.mon := rfl
@[simp] theorem raiseFlt_trimsLoaded (s : State) (i : Nat) : (s.raiseFlt i).trimsLoaded = s.trimsLoaded := rfl
@[simp] theorem raiseFlt_link (s : State) (i : Nat) : (s.raiseFlt i).link = s.link := rfl
@[simp] theorem raiseFlt_rings (s : State) (i : Nat) : (s.raiseFlt i).rings = s.rings := rfl
@[simp] theorem raiseFlt_ms (s : State) (i : Nat) : (s.raiseFlt i).ms = s.ms := rfl
@[simp] theorem raiseFlt_tree (s : State) (i : Nat) : (s.raiseFlt i).tree = s.tree := rfl
@[simp] theorem raiseFlt_engSweep (s : State) (i : Nat) : (s.raiseFlt i).engSweep = s.engSweep := rfl
@[simp] theorem raiseFlt_engNode (s : State) (i : Nat) : (s.raiseFlt i).engNode = s.engNode := rfl
@[simp] theorem raiseFlt_engRail (s : State) (i : Nat) : (s.raiseFlt i).engRail = s.engRail := rfl
@[simp] theorem raiseFlt_dmem (s : State) (i : Nat) : (s.raiseFlt i).dmem = s.dmem := rfl
@[simp] theorem raiseFlt_badData (s : State) (i : Nat) : (s.raiseFlt i).badData = s.badData := rfl
@[simp] theorem raiseFlt_bus (s : State) (i : Nat) : (s.raiseFlt i).bus = s.bus := rfl
@[simp] theorem raiseFlt_dbgKeyArmed (s : State) (i : Nat) : (s.raiseFlt i).dbgKeyArmed = s.dbgKeyArmed := rfl
@[simp] theorem raiseFlt_dbgOpen (s : State) (i : Nat) : (s.raiseFlt i).dbgOpen = s.dbgOpen := rfl
@[simp] theorem raiseFlt_dbgPin (s : State) (i : Nat) : (s.raiseFlt i).dbgPin = s.dbgPin := rfl
@[simp] theorem raiseFlt_fla (s : State) (i : Nat) : (s.raiseFlt i).fla = s.fla := rfl
@[simp] theorem raiseFlt_hs (s : State) (i : Nat) : (s.raiseFlt i).hs = s.hs := rfl
@[simp] theorem raiseFlt_minute (s : State) (i : Nat) : (s.raiseFlt i).minute = s.minute := rfl
@[simp] theorem raiseFlt_hour (s : State) (i : Nat) : (s.raiseFlt i).hour = s.hour := rfl
@[simp] theorem raiseFlt_parts (s : State) (i : Nat) : (s.raiseFlt i).parts = s.parts := rfl
@[simp] theorem raiseFlt_toLog (s : State) (i : Nat) : (s.raiseFlt i).toLog = s.toLog := rfl
@[simp] theorem raiseFlt_rail (s : State) (i : Nat) : (s.raiseFlt i).rail = s.rail := rfl
@[simp] theorem raiseFlt_th (s : State) (i : Nat) : (s.raiseFlt i).th = s.th := rfl
@[simp] theorem raiseFlt_cal (s : State) (i : Nat) : (s.raiseFlt i).cal = s.cal := rfl
@[simp] theorem raiseFlt_st (s : State) (i : Nat) : (s.raiseFlt i).st = s.st := rfl
@[simp] theorem raiseFlt_keys (s : State) (i : Nat) : (s.raiseFlt i).keys = s.keys := rfl
@[simp] theorem raiseFlt_cvus (s : State) (i : Nat) : (s.raiseFlt i).cvus = s.cvus := rfl
@[simp] theorem raiseFlt_aly (s : State) (i : Nat) : (s.raiseFlt i).aly = s.aly := rfl
@[simp] theorem raiseFlt_powered (s : State) (i : Nat) : (s.raiseFlt i).powered = s.powered := rfl
@[simp] theorem raiseFlt_mc (s : State) (i : Nat) : (s.raiseFlt i).mc = s.mc := rfl
@[simp] theorem raiseFlt_bt (s : State) (i : Nat) : (s.raiseFlt i).bt = s.bt := rfl
@[simp] theorem raiseFlt_upd (s : State) (i : Nat) : (s.raiseFlt i).upd = s.upd := rfl
@[simp] theorem raiseFlt_sw (s : State) (i : Nat) : (s.raiseFlt i).sw = s.sw := rfl
@[simp] theorem raiseFlt_swShadow (s : State) (i : Nat) : (s.raiseFlt i).swShadow = s.swShadow := rfl
@[simp] theorem raiseFlt_hostWait (s : State) (i : Nat) : (s.raiseFlt i).hostWait = s.hostWait := rfl
@[simp] theorem raiseFlt_hostAnswer (s : State) (i : Nat) : (s.raiseFlt i).hostAnswer = s.hostAnswer := rfl
@[simp] theorem raiseFlt_dbgAnswer (s : State) (i : Nat) : (s.raiseFlt i).dbgAnswer = s.dbgAnswer := rfl

/-! ### setPair -/

@[simp] theorem setPair_pending (s : State) (lo hi n : Nat) : (s.setPair lo hi n).pending = s.pending := rfl
@[simp] theorem setPair_now (s : State) (lo hi n : Nat) : (s.setPair lo hi n).now = s.now := rfl
@[simp] theorem setPair_freeCtr (s : State) (lo hi n : Nat) : (s.setPair lo hi n).freeCtr = s.freeCtr := rfl
@[simp] theorem setPair_held (s : State) (lo hi n : Nat) : (s.setPair lo hi n).held = s.held := rfl
@[simp] theorem setPair_snapQspi (s : State) (lo hi n : Nat) : (s.setPair lo hi n).snapQspi = s.snapQspi := rfl
@[simp] theorem setPair_snapRemote (s : State) (lo hi n : Nat) : (s.setPair lo hi n).snapRemote = s.snapRemote := rfl
@[simp] theorem setPair_snapDbg (s : State) (lo hi n : Nat) : (s.setPair lo hi n).snapDbg = s.snapDbg := rfl
@[simp] theorem setPair_mode (s : State) (lo hi n : Nat) : (s.setPair lo hi n).mode = s.mode := rfl
@[simp] theorem setPair_timers (s : State) (lo hi n : Nat) : (s.setPair lo hi n).timers = s.timers := rfl
@[simp] theorem setPair_sent (s : State) (lo hi n : Nat) : (s.setPair lo hi n).sent = s.sent := rfl
@[simp] theorem setPair_acq (s : State) (lo hi n : Nat) : (s.setPair lo hi n).acq = s.acq := rfl
@[simp] theorem setPair_wd (s : State) (lo hi n : Nat) : (s.setPair lo hi n).wd = s.wd := rfl
@[simp] theorem setPair_imp (s : State) (lo hi n : Nat) : (s.setPair lo hi n).imp = s.imp := rfl
@[simp] theorem setPair_bal (s : State) (lo hi n : Nat) : (s.setPair lo hi n).bal = s.bal := rfl
@[simp] theorem setPair_txn (s : State) (lo hi n : Nat) : (s.setPair lo hi n).txn = s.txn := rfl
@[simp] theorem setPair_rootTxn (s : State) (lo hi n : Nat) : (s.setPair lo hi n).rootTxn = s.rootTxn := rfl
@[simp] theorem setPair_txnTargets (s : State) (lo hi n : Nat) : (s.setPair lo hi n).txnTargets = s.txnTargets := rfl
@[simp] theorem setPair_tb (s : State) (lo hi n : Nat) : (s.setPair lo hi n).tb = s.tb := rfl
@[simp] theorem setPair_mon (s : State) (lo hi n : Nat) : (s.setPair lo hi n).mon = s.mon := rfl
@[simp] theorem setPair_trimsLoaded (s : State) (lo hi n : Nat) : (s.setPair lo hi n).trimsLoaded = s.trimsLoaded := rfl
@[simp] theorem setPair_link (s : State) (lo hi n : Nat) : (s.setPair lo hi n).link = s.link := rfl
@[simp] theorem setPair_rings (s : State) (lo hi n : Nat) : (s.setPair lo hi n).rings = s.rings := rfl
@[simp] theorem setPair_ms (s : State) (lo hi n : Nat) : (s.setPair lo hi n).ms = s.ms := rfl
@[simp] theorem setPair_tree (s : State) (lo hi n : Nat) : (s.setPair lo hi n).tree = s.tree := rfl
@[simp] theorem setPair_engSweep (s : State) (lo hi n : Nat) : (s.setPair lo hi n).engSweep = s.engSweep := rfl
@[simp] theorem setPair_engNode (s : State) (lo hi n : Nat) : (s.setPair lo hi n).engNode = s.engNode := rfl
@[simp] theorem setPair_engRail (s : State) (lo hi n : Nat) : (s.setPair lo hi n).engRail = s.engRail := rfl
@[simp] theorem setPair_dmem (s : State) (lo hi n : Nat) : (s.setPair lo hi n).dmem = s.dmem := rfl
@[simp] theorem setPair_badData (s : State) (lo hi n : Nat) : (s.setPair lo hi n).badData = s.badData := rfl
@[simp] theorem setPair_bus (s : State) (lo hi n : Nat) : (s.setPair lo hi n).bus = s.bus := rfl
@[simp] theorem setPair_dbgKeyArmed (s : State) (lo hi n : Nat) : (s.setPair lo hi n).dbgKeyArmed = s.dbgKeyArmed := rfl
@[simp] theorem setPair_dbgOpen (s : State) (lo hi n : Nat) : (s.setPair lo hi n).dbgOpen = s.dbgOpen := rfl
@[simp] theorem setPair_dbgPin (s : State) (lo hi n : Nat) : (s.setPair lo hi n).dbgPin = s.dbgPin := rfl
@[simp] theorem setPair_fla (s : State) (lo hi n : Nat) : (s.setPair lo hi n).fla = s.fla := rfl
@[simp] theorem setPair_hs (s : State) (lo hi n : Nat) : (s.setPair lo hi n).hs = s.hs := rfl
@[simp] theorem setPair_minute (s : State) (lo hi n : Nat) : (s.setPair lo hi n).minute = s.minute := rfl
@[simp] theorem setPair_hour (s : State) (lo hi n : Nat) : (s.setPair lo hi n).hour = s.hour := rfl
@[simp] theorem setPair_parts (s : State) (lo hi n : Nat) : (s.setPair lo hi n).parts = s.parts := rfl
@[simp] theorem setPair_toLog (s : State) (lo hi n : Nat) : (s.setPair lo hi n).toLog = s.toLog := rfl
@[simp] theorem setPair_rail (s : State) (lo hi n : Nat) : (s.setPair lo hi n).rail = s.rail := rfl
@[simp] theorem setPair_th (s : State) (lo hi n : Nat) : (s.setPair lo hi n).th = s.th := rfl
@[simp] theorem setPair_cal (s : State) (lo hi n : Nat) : (s.setPair lo hi n).cal = s.cal := rfl
@[simp] theorem setPair_st (s : State) (lo hi n : Nat) : (s.setPair lo hi n).st = s.st := rfl
@[simp] theorem setPair_keys (s : State) (lo hi n : Nat) : (s.setPair lo hi n).keys = s.keys := rfl
@[simp] theorem setPair_cvus (s : State) (lo hi n : Nat) : (s.setPair lo hi n).cvus = s.cvus := rfl
@[simp] theorem setPair_aly (s : State) (lo hi n : Nat) : (s.setPair lo hi n).aly = s.aly := rfl
@[simp] theorem setPair_powered (s : State) (lo hi n : Nat) : (s.setPair lo hi n).powered = s.powered := rfl
@[simp] theorem setPair_mc (s : State) (lo hi n : Nat) : (s.setPair lo hi n).mc = s.mc := rfl
@[simp] theorem setPair_bt (s : State) (lo hi n : Nat) : (s.setPair lo hi n).bt = s.bt := rfl
@[simp] theorem setPair_upd (s : State) (lo hi n : Nat) : (s.setPair lo hi n).upd = s.upd := rfl
@[simp] theorem setPair_sw (s : State) (lo hi n : Nat) : (s.setPair lo hi n).sw = s.sw := rfl
@[simp] theorem setPair_swShadow (s : State) (lo hi n : Nat) : (s.setPair lo hi n).swShadow = s.swShadow := rfl
@[simp] theorem setPair_hostWait (s : State) (lo hi n : Nat) : (s.setPair lo hi n).hostWait = s.hostWait := rfl
@[simp] theorem setPair_hostAnswer (s : State) (lo hi n : Nat) : (s.setPair lo hi n).hostAnswer = s.hostAnswer := rfl
@[simp] theorem setPair_dbgAnswer (s : State) (lo hi n : Nat) : (s.setPair lo hi n).dbgAnswer = s.dbgAnswer := rfl

/-! ### startTimer -/

@[simp] theorem startTimer_pending (s : State) (t : Timer) : (s.startTimer t).pending = s.pending := rfl
@[simp] theorem startTimer_now (s : State) (t : Timer) : (s.startTimer t).now = s.now := rfl
@[simp] theorem startTimer_freeCtr (s : State) (t : Timer) : (s.startTimer t).freeCtr = s.freeCtr := rfl
@[simp] theorem startTimer_regs (s : State) (t : Timer) : (s.startTimer t).regs = s.regs := rfl
@[simp] theorem startTimer_held (s : State) (t : Timer) : (s.startTimer t).held = s.held := rfl
@[simp] theorem startTimer_snapQspi (s : State) (t : Timer) : (s.startTimer t).snapQspi = s.snapQspi := rfl
@[simp] theorem startTimer_snapRemote (s : State) (t : Timer) : (s.startTimer t).snapRemote = s.snapRemote := rfl
@[simp] theorem startTimer_snapDbg (s : State) (t : Timer) : (s.startTimer t).snapDbg = s.snapDbg := rfl
@[simp] theorem startTimer_mode (s : State) (t : Timer) : (s.startTimer t).mode = s.mode := rfl
@[simp] theorem startTimer_sent (s : State) (t : Timer) : (s.startTimer t).sent = s.sent := rfl
@[simp] theorem startTimer_acq (s : State) (t : Timer) : (s.startTimer t).acq = s.acq := rfl
@[simp] theorem startTimer_wd (s : State) (t : Timer) : (s.startTimer t).wd = s.wd := rfl
@[simp] theorem startTimer_imp (s : State) (t : Timer) : (s.startTimer t).imp = s.imp := rfl
@[simp] theorem startTimer_bal (s : State) (t : Timer) : (s.startTimer t).bal = s.bal := rfl
@[simp] theorem startTimer_txn (s : State) (t : Timer) : (s.startTimer t).txn = s.txn := rfl
@[simp] theorem startTimer_rootTxn (s : State) (t : Timer) : (s.startTimer t).rootTxn = s.rootTxn := rfl
@[simp] theorem startTimer_txnTargets (s : State) (t : Timer) : (s.startTimer t).txnTargets = s.txnTargets := rfl
@[simp] theorem startTimer_tb (s : State) (t : Timer) : (s.startTimer t).tb = s.tb := rfl
@[simp] theorem startTimer_mon (s : State) (t : Timer) : (s.startTimer t).mon = s.mon := rfl
@[simp] theorem startTimer_trimsLoaded (s : State) (t : Timer) : (s.startTimer t).trimsLoaded = s.trimsLoaded := rfl
@[simp] theorem startTimer_link (s : State) (t : Timer) : (s.startTimer t).link = s.link := rfl
@[simp] theorem startTimer_rings (s : State) (t : Timer) : (s.startTimer t).rings = s.rings := rfl
@[simp] theorem startTimer_ms (s : State) (t : Timer) : (s.startTimer t).ms = s.ms := rfl
@[simp] theorem startTimer_tree (s : State) (t : Timer) : (s.startTimer t).tree = s.tree := rfl
@[simp] theorem startTimer_engSweep (s : State) (t : Timer) : (s.startTimer t).engSweep = s.engSweep := rfl
@[simp] theorem startTimer_engNode (s : State) (t : Timer) : (s.startTimer t).engNode = s.engNode := rfl
@[simp] theorem startTimer_engRail (s : State) (t : Timer) : (s.startTimer t).engRail = s.engRail := rfl
@[simp] theorem startTimer_dmem (s : State) (t : Timer) : (s.startTimer t).dmem = s.dmem := rfl
@[simp] theorem startTimer_badData (s : State) (t : Timer) : (s.startTimer t).badData = s.badData := rfl
@[simp] theorem startTimer_bus (s : State) (t : Timer) : (s.startTimer t).bus = s.bus := rfl
@[simp] theorem startTimer_dbgKeyArmed (s : State) (t : Timer) : (s.startTimer t).dbgKeyArmed = s.dbgKeyArmed := rfl
@[simp] theorem startTimer_dbgOpen (s : State) (t : Timer) : (s.startTimer t).dbgOpen = s.dbgOpen := rfl
@[simp] theorem startTimer_dbgPin (s : State) (t : Timer) : (s.startTimer t).dbgPin = s.dbgPin := rfl
@[simp] theorem startTimer_fla (s : State) (t : Timer) : (s.startTimer t).fla = s.fla := rfl
@[simp] theorem startTimer_hs (s : State) (t : Timer) : (s.startTimer t).hs = s.hs := rfl
@[simp] theorem startTimer_minute (s : State) (t : Timer) : (s.startTimer t).minute = s.minute := rfl
@[simp] theorem startTimer_hour (s : State) (t : Timer) : (s.startTimer t).hour = s.hour := rfl
@[simp] theorem startTimer_parts (s : State) (t : Timer) : (s.startTimer t).parts = s.parts := rfl
@[simp] theorem startTimer_toLog (s : State) (t : Timer) : (s.startTimer t).toLog = s.toLog := rfl
@[simp] theorem startTimer_rail (s : State) (t : Timer) : (s.startTimer t).rail = s.rail := rfl
@[simp] theorem startTimer_th (s : State) (t : Timer) : (s.startTimer t).th = s.th := rfl
@[simp] theorem startTimer_cal (s : State) (t : Timer) : (s.startTimer t).cal = s.cal := rfl
@[simp] theorem startTimer_st (s : State) (t : Timer) : (s.startTimer t).st = s.st := rfl
@[simp] theorem startTimer_keys (s : State) (t : Timer) : (s.startTimer t).keys = s.keys := rfl
@[simp] theorem startTimer_cvus (s : State) (t : Timer) : (s.startTimer t).cvus = s.cvus := rfl
@[simp] theorem startTimer_aly (s : State) (t : Timer) : (s.startTimer t).aly = s.aly := rfl
@[simp] theorem startTimer_powered (s : State) (t : Timer) : (s.startTimer t).powered = s.powered := rfl
@[simp] theorem startTimer_mc (s : State) (t : Timer) : (s.startTimer t).mc = s.mc := rfl
@[simp] theorem startTimer_bt (s : State) (t : Timer) : (s.startTimer t).bt = s.bt := rfl
@[simp] theorem startTimer_upd (s : State) (t : Timer) : (s.startTimer t).upd = s.upd := rfl
@[simp] theorem startTimer_sw (s : State) (t : Timer) : (s.startTimer t).sw = s.sw := rfl
@[simp] theorem startTimer_swShadow (s : State) (t : Timer) : (s.startTimer t).swShadow = s.swShadow := rfl
@[simp] theorem startTimer_hostWait (s : State) (t : Timer) : (s.startTimer t).hostWait = s.hostWait := rfl
@[simp] theorem startTimer_hostAnswer (s : State) (t : Timer) : (s.startTimer t).hostAnswer = s.hostAnswer := rfl
@[simp] theorem startTimer_dbgAnswer (s : State) (t : Timer) : (s.startTimer t).dbgAnswer = s.dbgAnswer := rfl

/-! ### stopTimer -/

@[simp] theorem stopTimer_pending (s : State) (t : Timer) : (s.stopTimer t).pending = s.pending := rfl
@[simp] theorem stopTimer_now (s : State) (t : Timer) : (s.stopTimer t).now = s.now := rfl
@[simp] theorem stopTimer_freeCtr (s : State) (t : Timer) : (s.stopTimer t).freeCtr = s.freeCtr := rfl
@[simp] theorem stopTimer_regs (s : State) (t : Timer) : (s.stopTimer t).regs = s.regs := rfl
@[simp] theorem stopTimer_held (s : State) (t : Timer) : (s.stopTimer t).held = s.held := rfl
@[simp] theorem stopTimer_snapQspi (s : State) (t : Timer) : (s.stopTimer t).snapQspi = s.snapQspi := rfl
@[simp] theorem stopTimer_snapRemote (s : State) (t : Timer) : (s.stopTimer t).snapRemote = s.snapRemote := rfl
@[simp] theorem stopTimer_snapDbg (s : State) (t : Timer) : (s.stopTimer t).snapDbg = s.snapDbg := rfl
@[simp] theorem stopTimer_mode (s : State) (t : Timer) : (s.stopTimer t).mode = s.mode := rfl
@[simp] theorem stopTimer_sent (s : State) (t : Timer) : (s.stopTimer t).sent = s.sent := rfl
@[simp] theorem stopTimer_acq (s : State) (t : Timer) : (s.stopTimer t).acq = s.acq := rfl
@[simp] theorem stopTimer_wd (s : State) (t : Timer) : (s.stopTimer t).wd = s.wd := rfl
@[simp] theorem stopTimer_imp (s : State) (t : Timer) : (s.stopTimer t).imp = s.imp := rfl
@[simp] theorem stopTimer_bal (s : State) (t : Timer) : (s.stopTimer t).bal = s.bal := rfl
@[simp] theorem stopTimer_txn (s : State) (t : Timer) : (s.stopTimer t).txn = s.txn := rfl
@[simp] theorem stopTimer_rootTxn (s : State) (t : Timer) : (s.stopTimer t).rootTxn = s.rootTxn := rfl
@[simp] theorem stopTimer_txnTargets (s : State) (t : Timer) : (s.stopTimer t).txnTargets = s.txnTargets := rfl
@[simp] theorem stopTimer_tb (s : State) (t : Timer) : (s.stopTimer t).tb = s.tb := rfl
@[simp] theorem stopTimer_mon (s : State) (t : Timer) : (s.stopTimer t).mon = s.mon := rfl
@[simp] theorem stopTimer_trimsLoaded (s : State) (t : Timer) : (s.stopTimer t).trimsLoaded = s.trimsLoaded := rfl
@[simp] theorem stopTimer_link (s : State) (t : Timer) : (s.stopTimer t).link = s.link := rfl
@[simp] theorem stopTimer_rings (s : State) (t : Timer) : (s.stopTimer t).rings = s.rings := rfl
@[simp] theorem stopTimer_ms (s : State) (t : Timer) : (s.stopTimer t).ms = s.ms := rfl
@[simp] theorem stopTimer_tree (s : State) (t : Timer) : (s.stopTimer t).tree = s.tree := rfl
@[simp] theorem stopTimer_engSweep (s : State) (t : Timer) : (s.stopTimer t).engSweep = s.engSweep := rfl
@[simp] theorem stopTimer_engNode (s : State) (t : Timer) : (s.stopTimer t).engNode = s.engNode := rfl
@[simp] theorem stopTimer_engRail (s : State) (t : Timer) : (s.stopTimer t).engRail = s.engRail := rfl
@[simp] theorem stopTimer_dmem (s : State) (t : Timer) : (s.stopTimer t).dmem = s.dmem := rfl
@[simp] theorem stopTimer_badData (s : State) (t : Timer) : (s.stopTimer t).badData = s.badData := rfl
@[simp] theorem stopTimer_bus (s : State) (t : Timer) : (s.stopTimer t).bus = s.bus := rfl
@[simp] theorem stopTimer_dbgKeyArmed (s : State) (t : Timer) : (s.stopTimer t).dbgKeyArmed = s.dbgKeyArmed := rfl
@[simp] theorem stopTimer_dbgOpen (s : State) (t : Timer) : (s.stopTimer t).dbgOpen = s.dbgOpen := rfl
@[simp] theorem stopTimer_dbgPin (s : State) (t : Timer) : (s.stopTimer t).dbgPin = s.dbgPin := rfl
@[simp] theorem stopTimer_fla (s : State) (t : Timer) : (s.stopTimer t).fla = s.fla := rfl
@[simp] theorem stopTimer_hs (s : State) (t : Timer) : (s.stopTimer t).hs = s.hs := rfl
@[simp] theorem stopTimer_minute (s : State) (t : Timer) : (s.stopTimer t).minute = s.minute := rfl
@[simp] theorem stopTimer_hour (s : State) (t : Timer) : (s.stopTimer t).hour = s.hour := rfl
@[simp] theorem stopTimer_parts (s : State) (t : Timer) : (s.stopTimer t).parts = s.parts := rfl
@[simp] theorem stopTimer_toLog (s : State) (t : Timer) : (s.stopTimer t).toLog = s.toLog := rfl
@[simp] theorem stopTimer_rail (s : State) (t : Timer) : (s.stopTimer t).rail = s.rail := rfl
@[simp] theorem stopTimer_th (s : State) (t : Timer) : (s.stopTimer t).th = s.th := rfl
@[simp] theorem stopTimer_cal (s : State) (t : Timer) : (s.stopTimer t).cal = s.cal := rfl
@[simp] theorem stopTimer_st (s : State) (t : Timer) : (s.stopTimer t).st = s.st := rfl
@[simp] theorem stopTimer_keys (s : State) (t : Timer) : (s.stopTimer t).keys = s.keys := rfl
@[simp] theorem stopTimer_cvus (s : State) (t : Timer) : (s.stopTimer t).cvus = s.cvus := rfl
@[simp] theorem stopTimer_aly (s : State) (t : Timer) : (s.stopTimer t).aly = s.aly := rfl
@[simp] theorem stopTimer_powered (s : State) (t : Timer) : (s.stopTimer t).powered = s.powered := rfl
@[simp] theorem stopTimer_mc (s : State) (t : Timer) : (s.stopTimer t).mc = s.mc := rfl
@[simp] theorem stopTimer_bt (s : State) (t : Timer) : (s.stopTimer t).bt = s.bt := rfl
@[simp] theorem stopTimer_upd (s : State) (t : Timer) : (s.stopTimer t).upd = s.upd := rfl
@[simp] theorem stopTimer_sw (s : State) (t : Timer) : (s.stopTimer t).sw = s.sw := rfl
@[simp] theorem stopTimer_swShadow (s : State) (t : Timer) : (s.stopTimer t).swShadow = s.swShadow := rfl
@[simp] theorem stopTimer_hostWait (s : State) (t : Timer) : (s.stopTimer t).hostWait = s.hostWait := rfl
@[simp] theorem stopTimer_hostAnswer (s : State) (t : Timer) : (s.stopTimer t).hostAnswer = s.hostAnswer := rfl
@[simp] theorem stopTimer_dbgAnswer (s : State) (t : Timer) : (s.stopTimer t).dbgAnswer = s.dbgAnswer := rfl

/-! ### send -/

@[simp] theorem send_pending (s : State) (p : Nat) (l : List Byte) : (s.send p l).pending = s.pending := rfl
@[simp] theorem send_now (s : State) (p : Nat) (l : List Byte) : (s.send p l).now = s.now := rfl
@[simp] theorem send_freeCtr (s : State) (p : Nat) (l : List Byte) : (s.send p l).freeCtr = s.freeCtr := rfl
@[simp] theorem send_regs (s : State) (p : Nat) (l : List Byte) : (s.send p l).regs = s.regs := rfl
@[simp] theorem send_held (s : State) (p : Nat) (l : List Byte) : (s.send p l).held = s.held := rfl
@[simp] theorem send_snapQspi (s : State) (p : Nat) (l : List Byte) : (s.send p l).snapQspi = s.snapQspi := rfl
@[simp] theorem send_snapRemote (s : State) (p : Nat) (l : List Byte) : (s.send p l).snapRemote = s.snapRemote := rfl
@[simp] theorem send_snapDbg (s : State) (p : Nat) (l : List Byte) : (s.send p l).snapDbg = s.snapDbg := rfl
@[simp] theorem send_mode (s : State) (p : Nat) (l : List Byte) : (s.send p l).mode = s.mode := rfl
@[simp] theorem send_timers (s : State) (p : Nat) (l : List Byte) : (s.send p l).timers = s.timers := rfl
@[simp] theorem send_acq (s : State) (p : Nat) (l : List Byte) : (s.send p l).acq = s.acq := rfl
@[simp] theorem send_wd (s : State) (p : Nat) (l : List Byte) : (s.send p l).wd = s.wd := rfl
@[simp] theorem send_imp (s : State) (p : Nat) (l : List Byte) : (s.send p l).imp = s.imp := rfl
@[simp] theorem send_bal (s : State) (p : Nat) (l : List Byte) : (s.send p l).bal = s.bal := rfl
@[simp] theorem send_txn (s : State) (p : Nat) (l : List Byte) : (s.send p l).txn = s.txn := rfl
@[simp] theorem send_rootTxn (s : State) (p : Nat) (l : List Byte) : (s.send p l).rootTxn = s.rootTxn := rfl
@[simp] theorem send_txnTargets (s : State) (p : Nat) (l : List Byte) : (s.send p l).txnTargets = s.txnTargets := rfl
@[simp] theorem send_tb (s : State) (p : Nat) (l : List Byte) : (s.send p l).tb = s.tb := rfl
@[simp] theorem send_mon (s : State) (p : Nat) (l : List Byte) : (s.send p l).mon = s.mon := rfl
@[simp] theorem send_trimsLoaded (s : State) (p : Nat) (l : List Byte) : (s.send p l).trimsLoaded = s.trimsLoaded := rfl
@[simp] theorem send_link (s : State) (p : Nat) (l : List Byte) : (s.send p l).link = s.link := rfl
@[simp] theorem send_rings (s : State) (p : Nat) (l : List Byte) : (s.send p l).rings = s.rings := rfl
@[simp] theorem send_ms (s : State) (p : Nat) (l : List Byte) : (s.send p l).ms = s.ms := rfl
@[simp] theorem send_tree (s : State) (p : Nat) (l : List Byte) : (s.send p l).tree = s.tree := rfl
@[simp] theorem send_engSweep (s : State) (p : Nat) (l : List Byte) : (s.send p l).engSweep = s.engSweep := rfl
@[simp] theorem send_engNode (s : State) (p : Nat) (l : List Byte) : (s.send p l).engNode = s.engNode := rfl
@[simp] theorem send_engRail (s : State) (p : Nat) (l : List Byte) : (s.send p l).engRail = s.engRail := rfl
@[simp] theorem send_dmem (s : State) (p : Nat) (l : List Byte) : (s.send p l).dmem = s.dmem := rfl
@[simp] theorem send_badData (s : State) (p : Nat) (l : List Byte) : (s.send p l).badData = s.badData := rfl
@[simp] theorem send_bus (s : State) (p : Nat) (l : List Byte) : (s.send p l).bus = s.bus := rfl
@[simp] theorem send_dbgKeyArmed (s : State) (p : Nat) (l : List Byte) : (s.send p l).dbgKeyArmed = s.dbgKeyArmed := rfl
@[simp] theorem send_dbgOpen (s : State) (p : Nat) (l : List Byte) : (s.send p l).dbgOpen = s.dbgOpen := rfl
@[simp] theorem send_dbgPin (s : State) (p : Nat) (l : List Byte) : (s.send p l).dbgPin = s.dbgPin := rfl
@[simp] theorem send_fla (s : State) (p : Nat) (l : List Byte) : (s.send p l).fla = s.fla := rfl
@[simp] theorem send_hs (s : State) (p : Nat) (l : List Byte) : (s.send p l).hs = s.hs := rfl
@[simp] theorem send_minute (s : State) (p : Nat) (l : List Byte) : (s.send p l).minute = s.minute := rfl
@[simp] theorem send_hour (s : State) (p : Nat) (l : List Byte) : (s.send p l).hour = s.hour := rfl
@[simp] theorem send_parts (s : State) (p : Nat) (l : List Byte) : (s.send p l).parts = s.parts := rfl
@[simp] theorem send_toLog (s : State) (p : Nat) (l : List Byte) : (s.send p l).toLog = s.toLog := rfl
@[simp] theorem send_rail (s : State) (p : Nat) (l : List Byte) : (s.send p l).rail = s.rail := rfl
@[simp] theorem send_th (s : State) (p : Nat) (l : List Byte) : (s.send p l).th = s.th := rfl
@[simp] theorem send_cal (s : State) (p : Nat) (l : List Byte) : (s.send p l).cal = s.cal := rfl
@[simp] theorem send_st (s : State) (p : Nat) (l : List Byte) : (s.send p l).st = s.st := rfl
@[simp] theorem send_keys (s : State) (p : Nat) (l : List Byte) : (s.send p l).keys = s.keys := rfl
@[simp] theorem send_cvus (s : State) (p : Nat) (l : List Byte) : (s.send p l).cvus = s.cvus := rfl
@[simp] theorem send_aly (s : State) (p : Nat) (l : List Byte) : (s.send p l).aly = s.aly := rfl
@[simp] theorem send_powered (s : State) (p : Nat) (l : List Byte) : (s.send p l).powered = s.powered := rfl
@[simp] theorem send_mc (s : State) (p : Nat) (l : List Byte) : (s.send p l).mc = s.mc := rfl
@[simp] theorem send_bt (s : State) (p : Nat) (l : List Byte) : (s.send p l).bt = s.bt := rfl
@[simp] theorem send_upd (s : State) (p : Nat) (l : List Byte) : (s.send p l).upd = s.upd := rfl
@[simp] theorem send_sw (s : State) (p : Nat) (l : List Byte) : (s.send p l).sw = s.sw := rfl
@[simp] theorem send_swShadow (s : State) (p : Nat) (l : List Byte) : (s.send p l).swShadow = s.swShadow := rfl
@[simp] theorem send_hostWait (s : State) (p : Nat) (l : List Byte) : (s.send p l).hostWait = s.hostWait := rfl
@[simp] theorem send_hostAnswer (s : State) (p : Nat) (l : List Byte) : (s.send p l).hostAnswer = s.hostAnswer := rfl
@[simp] theorem send_dbgAnswer (s : State) (p : Nat) (l : List Byte) : (s.send p l).dbgAnswer = s.dbgAnswer := rfl

@[simp] theorem send_sent (s : State) (p : Nat) (l : List Byte) :
    (s.send p l).sent = s.sent ++ [({ port := p, bytes := l } : Sent)] := rfl

/-! ### setEng -/

@[simp] theorem setEng_pending (s : State) (e : Engine) (x : Eng) : (s.setEng e x).pending = s.pending := by cases e <;> rfl
@[simp] theorem setEng_now (s : State) (e : Engine) (x : Eng) : (s.setEng e x).now = s.now := by cases e <;> rfl
@[simp] theorem setEng_freeCtr (s : State) (e : Engine) (x : Eng) : (s.setEng e x).freeCtr = s.freeCtr := by cases e <;> rfl
@[simp] theorem setEng_regs (s : State) (e : Engine) (x : Eng) : (s.setEng e x).regs = s.regs := by cases e <;> rfl
@[simp] theorem setEng_held (s : State) (e : Engine) (x : Eng) : (s.setEng e x).held = s.held := by cases e <;> rfl
@[simp] theorem setEng_snapQspi (s : State) (e : Engine) (x : Eng) : (s.setEng e x).snapQspi = s.snapQspi := by cases e <;> rfl
@[simp] theorem setEng_snapRemote (s : State) (e : Engine) (x : Eng) : (s.setEng e x).snapRemote = s.snapRemote := by cases e <;> rfl
@[simp] theorem setEng_snapDbg (s : State) (e : Engine) (x : Eng) : (s.setEng e x).snapDbg = s.snapDbg := by cases e <;> rfl
@[simp] theorem setEng_mode (s : State) (e : Engine) (x : Eng) : (s.setEng e x).mode = s.mode := by cases e <;> rfl
@[simp] theorem setEng_timers (s : State) (e : Engine) (x : Eng) : (s.setEng e x).timers = s.timers := by cases e <;> rfl
@[simp] theorem setEng_sent (s : State) (e : Engine) (x : Eng) : (s.setEng e x).sent = s.sent := by cases e <;> rfl
@[simp] theorem setEng_acq (s : State) (e : Engine) (x : Eng) : (s.setEng e x).acq = s.acq := by cases e <;> rfl
@[simp] theorem setEng_wd (s : State) (e : Engine) (x : Eng) : (s.setEng e x).wd = s.wd := by cases e <;> rfl
@[simp] theorem setEng_imp (s : State) (e : Engine) (x : Eng) : (s.setEng e x).imp = s.imp := by cases e <;> rfl
@[simp] theorem setEng_bal (s : State) (e : Engine) (x : Eng) : (s.setEng e x).bal = s.bal := by cases e <;> rfl
@[simp] theorem setEng_txn (s : State) (e : Engine) (x : Eng) : (s.setEng e x).txn = s.txn := by cases e <;> rfl
@[simp] theorem setEng_rootTxn (s : State) (e : Engine) (x : Eng) : (s.setEng e x).rootTxn = s.rootTxn := by cases e <;> rfl
@[simp] theorem setEng_txnTargets (s : State) (e : Engine) (x : Eng) : (s.setEng e x).txnTargets = s.txnTargets := by cases e <;> rfl
@[simp] theorem setEng_tb (s : State) (e : Engine) (x : Eng) : (s.setEng e x).tb = s.tb := by cases e <;> rfl
@[simp] theorem setEng_mon (s : State) (e : Engine) (x : Eng) : (s.setEng e x).mon = s.mon := by cases e <;> rfl
@[simp] theorem setEng_trimsLoaded (s : State) (e : Engine) (x : Eng) : (s.setEng e x).trimsLoaded = s.trimsLoaded := by cases e <;> rfl
@[simp] theorem setEng_link (s : State) (e : Engine) (x : Eng) : (s.setEng e x).link = s.link := by cases e <;> rfl
@[simp] theorem setEng_rings (s : State) (e : Engine) (x : Eng) : (s.setEng e x).rings = s.rings := by cases e <;> rfl
@[simp] theorem setEng_ms (s : State) (e : Engine) (x : Eng) : (s.setEng e x).ms = s.ms := by cases e <;> rfl
@[simp] theorem setEng_tree (s : State) (e : Engine) (x : Eng) : (s.setEng e x).tree = s.tree := by cases e <;> rfl
@[simp] theorem setEng_dmem (s : State) (e : Engine) (x : Eng) : (s.setEng e x).dmem = s.dmem := by cases e <;> rfl
@[simp] theorem setEng_badData (s : State) (e : Engine) (x : Eng) : (s.setEng e x).badData = s.badData := by cases e <;> rfl
@[simp] theorem setEng_bus (s : State) (e : Engine) (x : Eng) : (s.setEng e x).bus = s.bus := by cases e <;> rfl
@[simp] theorem setEng_dbgKeyArmed (s : State) (e : Engine) (x : Eng) : (s.setEng e x).dbgKeyArmed = s.dbgKeyArmed := by cases e <;> rfl
@[simp] theorem setEng_dbgOpen (s : State) (e : Engine) (x : Eng) : (s.setEng e x).dbgOpen = s.dbgOpen := by cases e <;> rfl
@[simp] theorem setEng_dbgPin (s : State) (e : Engine) (x : Eng) : (s.setEng e x).dbgPin = s.dbgPin := by cases e <;> rfl
@[simp] theorem setEng_fla (s : State) (e : Engine) (x : Eng) : (s.setEng e x).fla = s.fla := by cases e <;> rfl
@[simp] theorem setEng_hs (s : State) (e : Engine) (x : Eng) : (s.setEng e x).hs = s.hs := by cases e <;> rfl
@[simp] theorem setEng_minute (s : State) (e : Engine) (x : Eng) : (s.setEng e x).minute = s.minute := by cases e <;> rfl
@[simp] theorem setEng_hour (s : State) (e : Engine) (x : Eng) : (s.setEng e x).hour = s.hour := by cases e <;> rfl
@[simp] theorem setEng_parts (s : State) (e : Engine) (x : Eng) : (s.setEng e x).parts = s.parts := by cases e <;> rfl
@[simp] theorem setEng_toLog (s : State) (e : Engine) (x : Eng) : (s.setEng e x).toLog = s.toLog := by cases e <;> rfl
@[simp] theorem setEng_rail (s : State) (e : Engine) (x : Eng) : (s.setEng e x).rail = s.rail := by cases e <;> rfl
@[simp] theorem setEng_th (s : State) (e : Engine) (x : Eng) : (s.setEng e x).th = s.th := by cases e <;> rfl
@[simp] theorem setEng_cal (s : State) (e : Engine) (x : Eng) : (s.setEng e x).cal = s.cal := by cases e <;> rfl
@[simp] theorem setEng_st (s : State) (e : Engine) (x : Eng) : (s.setEng e x).st = s.st := by cases e <;> rfl
@[simp] theorem setEng_keys (s : State) (e : Engine) (x : Eng) : (s.setEng e x).keys = s.keys := by cases e <;> rfl
@[simp] theorem setEng_cvus (s : State) (e : Engine) (x : Eng) : (s.setEng e x).cvus = s.cvus := by cases e <;> rfl
@[simp] theorem setEng_aly (s : State) (e : Engine) (x : Eng) : (s.setEng e x).aly = s.aly := by cases e <;> rfl
@[simp] theorem setEng_powered (s : State) (e : Engine) (x : Eng) : (s.setEng e x).powered = s.powered := by cases e <;> rfl
@[simp] theorem setEng_mc (s : State) (e : Engine) (x : Eng) : (s.setEng e x).mc = s.mc := by cases e <;> rfl
@[simp] theorem setEng_bt (s : State) (e : Engine) (x : Eng) : (s.setEng e x).bt = s.bt := by cases e <;> rfl
@[simp] theorem setEng_upd (s : State) (e : Engine) (x : Eng) : (s.setEng e x).upd = s.upd := by cases e <;> rfl
@[simp] theorem setEng_sw (s : State) (e : Engine) (x : Eng) : (s.setEng e x).sw = s.sw := by cases e <;> rfl
@[simp] theorem setEng_swShadow (s : State) (e : Engine) (x : Eng) : (s.setEng e x).swShadow = s.swShadow := by cases e <;> rfl
@[simp] theorem setEng_hostWait (s : State) (e : Engine) (x : Eng) : (s.setEng e x).hostWait = s.hostWait := by cases e <;> rfl
@[simp] theorem setEng_hostAnswer (s : State) (e : Engine) (x : Eng) : (s.setEng e x).hostAnswer = s.hostAnswer := by cases e <;> rfl
@[simp] theorem setEng_dbgAnswer (s : State) (e : Engine) (x : Eng) : (s.setEng e x).dbgAnswer = s.dbgAnswer := by cases e <;> rfl
@[simp] theorem setReg_eng (s : State) (a : Nat) (v : Half) (e : Engine) : (s.setReg a v).eng e = s.eng e := by cases e <;> rfl
@[simp] theorem setFld_eng (s : State) (f : BitField) (n : Nat) (e : Engine) : (s.setFld f n).eng e = s.eng e := by cases e <;> rfl
@[simp] theorem setFlag_eng (s : State) (f : BitField) (c : Bool) (e : Engine) : (s.setFlag f c).eng e = s.eng e := by cases e <;> rfl
@[simp] theorem setRegN_eng (s : State) (a n : Nat) (e : Engine) : (s.setRegN a n).eng e = s.eng e := by cases e <;> rfl
@[simp] theorem setBits_eng (s : State) (a : Nat) (m : Half) (e : Engine) : (s.setBits a m).eng e = s.eng e := by cases e <;> rfl
@[simp] theorem clearBits_eng (s : State) (a : Nat) (m : Half) (e : Engine) : (s.clearBits a m).eng e = s.eng e := by cases e <;> rfl
@[simp] theorem raiseIrq_eng (s : State) (i : Nat) (e : Engine) : (s.raiseIrq i).eng e = s.eng e := by cases e <;> rfl
@[simp] theorem raiseFlt_eng (s : State) (i : Nat) (e : Engine) : (s.raiseFlt i).eng e = s.eng e := by cases e <;> rfl
@[simp] theorem setPair_eng (s : State) (lo hi n : Nat) (e : Engine) : (s.setPair lo hi n).eng e = s.eng e := by cases e <;> rfl
@[simp] theorem startTimer_eng (s : State) (t : Timer) (e : Engine) : (s.startTimer t).eng e = s.eng e := by cases e <;> rfl
@[simp] theorem stopTimer_eng (s : State) (t : Timer) (e : Engine) : (s.stopTimer t).eng e = s.eng e := by cases e <;> rfl
@[simp] theorem send_eng (s : State) (p : Nat) (l : List Byte) (e : Engine) : (s.send p l).eng e = s.eng e := by cases e <;> rfl
@[simp] theorem reg_startTimer (s : State) (t : Timer) (b : Nat) : (s.startTimer t).reg b = s.reg b := rfl
@[simp] theorem fld_startTimer (s : State) (t : Timer) (g : BitField) : (s.startTimer t).fld g = s.fld g := rfl
@[simp] theorem flag_startTimer (s : State) (t : Timer) (g : BitField) : (s.startTimer t).flag g = s.flag g := rfl
@[simp] theorem reg_stopTimer (s : State) (t : Timer) (b : Nat) : (s.stopTimer t).reg b = s.reg b := rfl
@[simp] theorem fld_stopTimer (s : State) (t : Timer) (g : BitField) : (s.stopTimer t).fld g = s.fld g := rfl
@[simp] theorem flag_stopTimer (s : State) (t : Timer) (g : BitField) : (s.stopTimer t).flag g = s.flag g := rfl
@[simp] theorem reg_send (s : State) (p : Nat) (l : List Byte) (b : Nat) : (s.send p l).reg b = s.reg b := rfl
@[simp] theorem fld_send (s : State) (p : Nat) (l : List Byte) (g : BitField) : (s.send p l).fld g = s.fld g := rfl
@[simp] theorem flag_send (s : State) (p : Nat) (l : List Byte) (g : BitField) : (s.send p l).flag g = s.flag g := rfl
@[simp] theorem reg_setEng (s : State) (e : Engine) (x : Eng) (b : Nat) : (s.setEng e x).reg b = s.reg b := by cases e <;> rfl
@[simp] theorem fld_setEng (s : State) (e : Engine) (x : Eng) (g : BitField) : (s.setEng e x).fld g = s.fld g := by cases e <;> rfl
@[simp] theorem flag_setEng (s : State) (e : Engine) (x : Eng) (g : BitField) : (s.setEng e x).flag g = s.flag g := by cases e <;> rfl

theorem reg_congr {s t : State} (h : s.regs = t.regs) (a : Nat) : s.reg a = t.reg a := by unfold State.reg; rw [h]

theorem fld_congr {s t : State} (h : s.regs = t.regs) (f : BitField) : s.fld f = t.fld f := by unfold State.fld; rw [reg_congr h]

theorem flag_congr {s t : State} (h : s.regs = t.regs) (f : BitField) : s.flag f = t.flag f := by unfold State.flag; rw [fld_congr h]

@[simp] theorem setEng_eng_same (s : State) (e : Engine) (x : Eng) : (s.setEng e x).eng e = x := by cases e <;> rfl

theorem setEng_eng_ne (s : State) {d e : Engine} (x : Eng) (h : d ≠ e) : (s.setEng e x).eng d = s.eng d := by
  cases d <;> cases e <;> first | rfl | exact absurd rfl h

end Sys2Proof.Machine
end

