-- ==== Sys2Proof/Laws/Settle.lean ====
section
/-!
SUPPORT. The level flags of a tick: everything `settle` can change.
-/
namespace Sys2Proof.Machine

/-! ### What is left alone -/

theorem settleMonitors_eq (s : State) : settleMonitors s =
    ((s.setBits (Reg.CMP_FLAG 0) (s.reg (Reg.CMP_ABOVE 0) ||| s.reg (Reg.CMP_BELOW 0))).setBits (Reg.CMP_FLAG 1)
      (s.reg (Reg.CMP_ABOVE 1) ||| s.reg (Reg.CMP_BELOW 1))).setBits (Reg.CMP_FLAG 2)
      (s.reg (Reg.CMP_ABOVE 2) ||| s.reg (Reg.CMP_BELOW 2)) := by
  unfold settleMonitors State.forEach
  simp only [List.foldl]
  rw [reg_setBits_ne (a := Reg.CMP_FLAG 1) (b := Reg.CMP_ABOVE 2) _ _ (by decide),
    reg_setBits_ne (a := Reg.CMP_FLAG 0) (b := Reg.CMP_ABOVE 2) _ _ (by decide),
    reg_setBits_ne (a := Reg.CMP_FLAG 1) (b := Reg.CMP_BELOW 2) _ _ (by decide),
    reg_setBits_ne (a := Reg.CMP_FLAG 0) (b := Reg.CMP_BELOW 2) _ _ (by decide),
    reg_setBits_ne (a := Reg.CMP_FLAG 0) (b := Reg.CMP_ABOVE 1) _ _ (by decide),
    reg_setBits_ne (a := Reg.CMP_FLAG 0) (b := Reg.CMP_BELOW 1) _ _ (by decide)]

/-- `t` differs from `s` at most in the registers and the impedance unit's marks. -/
def LevelsOnly (s t : State) : Prop := t = { s with regs := t.regs, imp := t.imp }

theorem LevelsOnly_refl (s : State) : LevelsOnly s s := rfl

theorem LevelsOnly_trans {s t u : State} (h : LevelsOnly s t) (k : LevelsOnly t u) : LevelsOnly s u := by
  unfold LevelsOnly at *
  refine k.trans ?_
  rw [h]

theorem LevelsOnly_setBits (s : State) (a : Nat) (m : Half) : LevelsOnly s (s.setBits a m) := rfl

theorem settleMonitors_frame (s : State) : LevelsOnly s (settleMonitors s) := by
  rw [settleMonitors_eq]
  exact LevelsOnly_trans (LevelsOnly_setBits s _ _) (LevelsOnly_trans (LevelsOnly_setBits _ _ _) (LevelsOnly_setBits _ _ _))

theorem markFreerun_frame (s : State) : LevelsOnly s (markFreerun s) := by
  unfold markFreerun
  split
  · rfl
  · rfl

theorem when_raiseIrq_frame (s : State) (c : Bool) (i : Nat) : LevelsOnly s (s.when c fun s => s.raiseIrq i) := by
  cases c <;> rfl

/-- Only the registers and the mark of the point in progress change. -/
theorem settle_frame (s : State) : LevelsOnly s (settle s) :=
  LevelsOnly_trans (settleMonitors_frame s) (LevelsOnly_trans (markFreerun_frame _) (LevelsOnly_trans
    (LevelsOnly_setBits _ _ _) (LevelsOnly_trans (when_raiseIrq_frame _ _ _) (when_raiseIrq_frame _ _ _))))

theorem settle_eq (s : State) : settle s = { s with regs := (settle s).regs, imp := (settle s).imp } := settle_frame s

@[simp] theorem settle_pending (s : State) : (settle s).pending = s.pending := (congrArg State.pending (settle_eq s)).trans rfl
@[simp] theorem settle_now (s : State) : (settle s).now = s.now := (congrArg State.now (settle_eq s)).trans rfl
@[simp] theorem settle_freeCtr (s : State) : (settle s).freeCtr = s.freeCtr := (congrArg State.freeCtr (settle_eq s)).trans rfl
@[simp] theorem settle_held (s : State) : (settle s).held = s.held := (congrArg State.held (settle_eq s)).trans rfl
@[simp] theorem settle_snapQspi (s : State) : (settle s).snapQspi = s.snapQspi := (congrArg State.snapQspi (settle_eq s)).trans rfl
@[simp] theorem settle_snapRemote (s : State) : (settle s).snapRemote = s.snapRemote := (congrArg State.snapRemote (settle_eq s)).trans rfl
@[simp] theorem settle_snapDbg (s : State) : (settle s).snapDbg = s.snapDbg := (congrArg State.snapDbg (settle_eq s)).trans rfl
@[simp] theorem settle_mode (s : State) : (settle s).mode = s.mode := (congrArg State.mode (settle_eq s)).trans rfl
@[simp] theorem settle_timers (s : State) : (settle s).timers = s.timers := (congrArg State.timers (settle_eq s)).trans rfl
@[simp] theorem settle_sent (s : State) : (settle s).sent = s.sent := (congrArg State.sent (settle_eq s)).trans rfl
@[simp] theorem settle_acq (s : State) : (settle s).acq = s.acq := (congrArg State.acq (settle_eq s)).trans rfl
@[simp] theorem settle_wd (s : State) : (settle s).wd = s.wd := (congrArg State.wd (settle_eq s)).trans rfl
@[simp] theorem settle_bal (s : State) : (settle s).bal = s.bal := (congrArg State.bal (settle_eq s)).trans rfl
@[simp] theorem settle_txn (s : State) : (settle s).txn = s.txn := (congrArg State.txn (settle_eq s)).trans rfl
@[simp] theorem settle_rootTxn (s : State) : (settle s).rootTxn = s.rootTxn := (congrArg State.rootTxn (settle_eq s)).trans rfl
@[simp] theorem settle_txnTargets (s : State) : (settle s).txnTargets = s.txnTargets := (congrArg State.txnTargets (settle_eq s)).trans rfl
@[simp] theorem settle_tb (s : State) : (settle s).tb = s.tb := (congrArg State.tb (settle_eq s)).trans rfl
@[simp] theorem settle_mon (s : State) : (settle s).mon = s.mon := (congrArg State.mon (settle_eq s)).trans rfl
@[simp] theorem settle_trimsLoaded (s : State) : (settle s).trimsLoaded = s.trimsLoaded := (congrArg State.trimsLoaded (settle_eq s)).trans rfl
@[simp] theorem settle_link (s : State) : (settle s).link = s.link := (congrArg State.link (settle_eq s)).trans rfl
@[simp] theorem settle_rings (s : State) : (settle s).rings = s.rings := (congrArg State.rings (settle_eq s)).trans rfl
@[simp] theorem settle_ms (s : State) : (settle s).ms = s.ms := (congrArg State.ms (settle_eq s)).trans rfl
@[simp] theorem settle_tree (s : State) : (settle s).tree = s.tree := (congrArg State.tree (settle_eq s)).trans rfl
@[simp] theorem settle_engSweep (s : State) : (settle s).engSweep = s.engSweep := (congrArg State.engSweep (settle_eq s)).trans rfl
@[simp] theorem settle_engNode (s : State) : (settle s).engNode = s.engNode := (congrArg State.engNode (settle_eq s)).trans rfl
@[simp] theorem settle_engRail (s : State) : (settle s).engRail = s.engRail := (congrArg State.engRail (settle_eq s)).trans rfl
@[simp] theorem settle_dmem (s : State) : (settle s).dmem = s.dmem := (congrArg State.dmem (settle_eq s)).trans rfl
@[simp] theorem settle_badData (s : State) : (settle s).badData = s.badData := (congrArg State.badData (settle_eq s)).trans rfl
@[simp] theorem settle_bus (s : State) : (settle s).bus = s.bus := (congrArg State.bus (settle_eq s)).trans rfl
@[simp] theorem settle_dbgKeyArmed (s : State) : (settle s).dbgKeyArmed = s.dbgKeyArmed := (congrArg State.dbgKeyArmed (settle_eq s)).trans rfl
@[simp] theorem settle_dbgOpen (s : State) : (settle s).dbgOpen = s.dbgOpen := (congrArg State.dbgOpen (settle_eq s)).trans rfl
@[simp] theorem settle_dbgPin (s : State) : (settle s).dbgPin = s.dbgPin := (congrArg State.dbgPin (settle_eq s)).trans rfl
@[simp] theorem settle_fla (s : State) : (settle s).fla = s.fla := (congrArg State.fla (settle_eq s)).trans rfl
@[simp] theorem settle_hs (s : State) : (settle s).hs = s.hs := (congrArg State.hs (settle_eq s)).trans rfl
@[simp] theorem settle_minute (s : State) : (settle s).minute = s.minute := (congrArg State.minute (settle_eq s)).trans rfl
@[simp] theorem settle_hour (s : State) : (settle s).hour = s.hour := (congrArg State.hour (settle_eq s)).trans rfl
@[simp] theorem settle_parts (s : State) : (settle s).parts = s.parts := (congrArg State.parts (settle_eq s)).trans rfl
@[simp] theorem settle_toLog (s : State) : (settle s).toLog = s.toLog := (congrArg State.toLog (settle_eq s)).trans rfl
@[simp] theorem settle_rail (s : State) : (settle s).rail = s.rail := (congrArg State.rail (settle_eq s)).trans rfl
@[simp] theorem settle_th (s : State) : (settle s).th = s.th := (congrArg State.th (settle_eq s)).trans rfl
@[simp] theorem settle_cal (s : State) : (settle s).cal = s.cal := (congrArg State.cal (settle_eq s)).trans rfl
@[simp] theorem settle_st (s : State) : (settle s).st = s.st := (congrArg State.st (settle_eq s)).trans rfl
@[simp] theorem settle_keys (s : State) : (settle s).keys = s.keys := (congrArg State.keys (settle_eq s)).trans rfl
@[simp] theorem settle_cvus (s : State) : (settle s).cvus = s.cvus := (congrArg State.cvus (settle_eq s)).trans rfl
@[simp] theorem settle_aly (s : State) : (settle s).aly = s.aly := (congrArg State.aly (settle_eq s)).trans rfl
@[simp] theorem settle_powered (s : State) : (settle s).powered = s.powered := (congrArg State.powered (settle_eq s)).trans rfl
@[simp] theorem settle_mc (s : State) : (settle s).mc = s.mc := (congrArg State.mc (settle_eq s)).trans rfl
@[simp] theorem settle_bt (s : State) : (settle s).bt = s.bt := (congrArg State.bt (settle_eq s)).trans rfl
@[simp] theorem settle_upd (s : State) : (settle s).upd = s.upd := (congrArg State.upd (settle_eq s)).trans rfl
@[simp] theorem settle_sw (s : State) : (settle s).sw = s.sw := (congrArg State.sw (settle_eq s)).trans rfl
@[simp] theorem settle_swShadow (s : State) : (settle s).swShadow = s.swShadow := (congrArg State.swShadow (settle_eq s)).trans rfl
@[simp] theorem settle_hostWait (s : State) : (settle s).hostWait = s.hostWait := (congrArg State.hostWait (settle_eq s)).trans rfl
@[simp] theorem settle_hostAnswer (s : State) : (settle s).hostAnswer = s.hostAnswer := (congrArg State.hostAnswer (settle_eq s)).trans rfl
@[simp] theorem settle_dbgAnswer (s : State) : (settle s).dbgAnswer = s.dbgAnswer := (congrArg State.dbgAnswer (settle_eq s)).trans rfl

@[simp] theorem settle_eng (s : State) (e : Engine) : (settle s).eng e = s.eng e := by
  cases e
  · exact settle_engSweep s
  · exact settle_engNode s
  · exact settle_engRail s

/-- A register outside the level flags reads as before. -/
theorem settle_reg (s : State) (a : Nat) (h : a ∉ levelRegs) : (settle s).reg a = s.reg a := by
  simp only [levelRegs, List.mem_cons, List.not_mem_nil, not_or, or_false] at h
  obtain ⟨h0, h1, h2, hs, hp, hi⟩ := h
  have irq (x : State) (c : Bool) (i : Nat) : (x.when c fun s => s.raiseIrq i).reg a = x.reg a := by
    cases c
    · rfl
    · exact reg_raiseIrq_ne x i hp
  have mark (x : State) : (markFreerun x).reg a = x.reg a := by
    unfold markFreerun
    split
    · exact reg_setFlag_ne _ _ hi
    · rfl
  rw [settle, showIrqs, irq, irq, showFaults, reg_setBits_ne _ _ hs, mark, settleMonitors_eq, reg_setBits_ne _ _ h2,
    reg_setBits_ne _ _ h1, reg_setBits_ne _ _ h0]

theorem settle_fld (s : State) (f : BitField) (h : f.addr ∉ levelRegs) : (settle s).fld f = s.fld f := by
  unfold State.fld; rw [settle_reg s _ h]

theorem settle_flag (s : State) (f : BitField) (h : f.addr ∉ levelRegs) : (settle s).flag f = s.flag f := by
  unfold State.flag; rw [settle_fld s f h]

end Sys2Proof.Machine
end

