-- ==== Sys2Proof/Laws/Answers.lean ====
section
/-!
SUPPORT. How a command answers: by a state whose level flags have been set for its tick, or, where its operands have the
wrong shape, by the fault of that name.
-/
namespace Sys2Proof.Machine

/-- The answer is a state with its level flags set, or the fault of an ill-formed command. -/
def Answers (o : Host.Outcome State Fault Refusal) : Prop := (∃ t, o = .next (settle t)) ∨ o = .fault .illFormed

theorem Answers.state {o : Host.Outcome State Fault Refusal} {t : State} (h : o = .next (settle t)) : Answers o := .inl ⟨t, h⟩

theorem Answers.ite {c : Prop} [Decidable c] {a b : Host.Outcome State Fault Refusal} (h : Answers a) (k : Answers b) :
    Answers (if c then a else b) := by
  split
  · exact h
  · exact k

/-- An engine's instruction ends in the state its body leaves or in the engine's fault; neither stops the machine. -/
theorem engRun_answers (s : State) (e : Engine) (op : Nat) (pick : Word → Bool) (body : Word → Eng → EngOut) :
    Answers (engRun s e op pick body) := by
  unfold engRun
  split <;> exact .state rfl

theorem execInstantsWindowClose_answers a (s : State) : Answers (execInstantsWindowClose a s) := by
  unfold execInstantsWindowClose
  exact .ite (.inr rfl) (.ite (.state rfl) (.state rfl))

theorem execFilterOutput_answers a b (s : State) : Answers (execFilterOutput a b s) := by
  unfold execFilterOutput
  exact .ite (.state rfl) (.state rfl)

theorem execAuxScanValue_answers a (s : State) : Answers (execAuxScanValue a s) := by
  unfold execAuxScanValue
  exact .ite (.state rfl) (.state rfl)

theorem execSecSlotComplete_answers a b c (s : State) : Answers (execSecSlotComplete a b c s) := by
  unfold execSecSlotComplete
  repeat' first | exact .state rfl | apply Answers.ite | split

theorem execSnapCapture_answers a b (s : State) : Answers (execSnapCapture a b s) := by
  unfold execSnapCapture
  split <;> exact .state rfl

theorem execWdPeriodElapsed_answers (s : State) : Answers (execWdPeriodElapsed s) := by
  unfold execWdPeriodElapsed
  exact .ite (.state rfl) (.state rfl)

theorem execPinTestBaselineDone_answers a b (s : State) : Answers (execPinTestBaselineDone a b s) := by
  unfold execPinTestBaselineDone
  exact .ite (.state rfl) (.state rfl)

theorem execPinTestRecoveryEnd_answers (s : State) : Answers (execPinTestRecoveryEnd s) := by
  unfold execPinTestRecoveryEnd
  exact .ite (.state rfl) (.state rfl)

theorem execImpRoundStart_answers (s : State) : Answers (execImpRoundStart s) := by
  unfold execImpRoundStart
  repeat' first | exact .state rfl | apply Answers.ite | split

theorem execImpSettleEnd_answers a (s : State) : Answers (execImpSettleEnd a s) := by
  unfold execImpSettleEnd
  exact .ite (.inr rfl) (.state rfl)

theorem execImpSlot_answers a b c (s : State) : Answers (execImpSlot a b c s) := by
  unfold execImpSlot
  exact .ite (.inr rfl) (.state rfl)

theorem execMonitorStateChange_answers a (s : State) : Answers (execMonitorStateChange a s) := by
  unfold execMonitorStateChange
  exact .ite (.state rfl) (.state rfl)

theorem execMonitorSampleTick_answers a (s : State) : Answers (execMonitorSampleTick a s) := by
  unfold execMonitorSampleTick
  exact .ite (.inr rfl) (.state rfl)

theorem execLinkLos_answers a (s : State) : Answers (execLinkLos a s) := by
  unfold execLinkLos
  exact .ite (.state rfl) (.state rfl)

theorem execLinkLosClear_answers a (s : State) : Answers (execLinkLosClear a s) := by
  unfold execLinkLosClear
  exact .ite (.state rfl) (.state rfl)

theorem execLinkAlignLoss_answers a b (s : State) : Answers (execLinkAlignLoss a b s) := by
  unfold execLinkAlignLoss
  exact .ite (.state rfl) (.state rfl)

theorem execLinkAlignRegain_answers a (s : State) : Answers (execLinkAlignRegain a s) := by
  unfold execLinkAlignRegain
  exact .ite (.state rfl) (.state rfl)

theorem execLinkWake_answers a (s : State) : Answers (execLinkWake a s) := by
  unfold execLinkWake
  exact .ite (.state rfl) (.state rfl)

theorem execWakeRelay_answers a (s : State) : Answers (execWakeRelay a s) := by
  unfold execWakeRelay
  exact .ite (.state rfl) (.state rfl)

theorem execTrainOpenReceive_answers a (s : State) : Answers (execTrainOpenReceive a s) := by
  unfold execTrainOpenReceive
  exact .ite (.state rfl) (.state rfl)

theorem execInsertBufferDrain_answers (s : State) : Answers (execInsertBufferDrain s) := by
  unfold execInsertBufferDrain
  exact .ite (.state rfl) (.state rfl)

theorem execTrainEnd_answers a (s : State) : Answers (execTrainEnd a s) := by
  unfold execTrainEnd
  exact .ite (.state rfl) (.state rfl)

theorem execRingTimeout_answers a (s : State) : Answers (execRingTimeout a s) := by
  unfold execRingTimeout
  exact .ite (.state rfl) (.state rfl)

theorem execRemoteRead_answers a (s : State) : Answers (execRemoteRead a s) := by
  unfold execRemoteRead
  exact .ite (.state rfl) (.state rfl)

theorem execRemoteWrite_answers a (s : State) : Answers (execRemoteWrite a s) := by
  unfold execRemoteWrite
  exact .ite (.state rfl) (.state rfl)

theorem execEchoAnswer_answers a b c (s : State) : Answers (execEchoAnswer a b c s) := by
  unfold execEchoAnswer
  repeat' first | exact .state rfl | apply Answers.ite

theorem execBreakFrame_answers a b (s : State) : Answers (execBreakFrame a b s) := by
  unfold execBreakFrame
  repeat' first | exact .state rfl | apply Answers.ite | split

theorem execMend_answers a b (s : State) : Answers (execMend a b s) := by
  unfold execMend
  exact .ite (.state rfl) (.state rfl)

theorem execReform_answers a (s : State) : Answers (execReform a s) := by
  unfold execReform
  exact .ite (.state rfl) (.state rfl)

theorem execAdd_answers a (s : State) : Answers (execAdd a s) := by
  unfold execAdd
  exact engRun_answers ..

theorem execAddi_answers a (s : State) : Answers (execAddi a s) := by
  unfold execAddi
  exact engRun_answers ..

theorem execSub_answers a (s : State) : Answers (execSub a s) := by
  unfold execSub
  exact engRun_answers ..

theorem execCmp_answers a (s : State) : Answers (execCmp a s) := by
  unfold execCmp
  exact engRun_answers ..

theorem execCmpi_answers a (s : State) : Answers (execCmpi a s) := by
  unfold execCmpi
  exact engRun_answers ..

theorem execMul_answers a (s : State) : Answers (execMul a s) := by
  unfold execMul
  exact engRun_answers ..

theorem execMulh_answers a (s : State) : Answers (execMulh a s) := by
  unfold execMulh
  exact engRun_answers ..

theorem execDiv_answers a (s : State) : Answers (execDiv a s) := by
  unfold execDiv
  exact engRun_answers ..

theorem execDivu_answers a (s : State) : Answers (execDivu a s) := by
  unfold execDivu
  exact engRun_answers ..

theorem execAndE_answers a (s : State) : Answers (execAndE a s) := by
  unfold execAndE
  exact engRun_answers ..

theorem execOrE_answers a (s : State) : Answers (execOrE a s) := by
  unfold execOrE
  exact engRun_answers ..

theorem execXor_answers a (s : State) : Answers (execXor a s) := by
  unfold execXor
  exact engRun_answers ..

theorem execAndi_answers a (s : State) : Answers (execAndi a s) := by
  unfold execAndi
  exact engRun_answers ..

theorem execOri_answers a (s : State) : Answers (execOri a s) := by
  unfold execOri
  exact engRun_answers ..

theorem execXori_answers a (s : State) : Answers (execXori a s) := by
  unfold execXori
  exact engRun_answers ..

theorem execShl_answers a (s : State) : Answers (execShl a s) := by
  unfold execShl
  exact engRun_answers ..

theorem execShr_answers a (s : State) : Answers (execShr a s) := by
  unfold execShr
  exact engRun_answers ..

theorem execSar_answers a (s : State) : Answers (execSar a s) := by
  unfold execSar
  exact engRun_answers ..

theorem execSext_answers a (s : State) : Answers (execSext a s) := by
  unfold execSext
  exact engRun_answers ..

theorem execMovi_answers a (s : State) : Answers (execMovi a s) := by
  unfold execMovi
  exact engRun_answers ..

theorem execMovt_answers a (s : State) : Answers (execMovt a s) := by
  unfold execMovt
  exact engRun_answers ..

theorem execLdw_answers a (s : State) : Answers (execLdw a s) := by
  unfold execLdw
  exact engRun_answers ..

theorem execLdh_answers a (s : State) : Answers (execLdh a s) := by
  unfold execLdh
  exact engRun_answers ..

theorem execLdb_answers a (s : State) : Answers (execLdb a s) := by
  unfold execLdb
  exact engRun_answers ..

theorem execStw_answers a (s : State) : Answers (execStw a s) := by
  unfold execStw
  exact engRun_answers ..

theorem execSth_answers a (s : State) : Answers (execSth a s) := by
  unfold execSth
  exact engRun_answers ..

theorem execStb_answers a (s : State) : Answers (execStb a s) := by
  unfold execStb
  exact engRun_answers ..

theorem execSwap_answers a (s : State) : Answers (execSwap a s) := by
  unfold execSwap
  exact engRun_answers ..

theorem execLdp_answers a (s : State) : Answers (execLdp a s) := by
  unfold execLdp
  exact engRun_answers ..

theorem execBranch_answers a (s : State) : Answers (execBranch a s) := by
  unfold execBranch
  exact engRun_answers ..

theorem execBr_answers a (s : State) : Answers (execBr a s) := by
  unfold execBr
  exact engRun_answers ..

theorem execCall_answers a (s : State) : Answers (execCall a s) := by
  unfold execCall
  exact engRun_answers ..

theorem execCallr_answers a (s : State) : Answers (execCallr a s) := by
  unfold execCallr
  exact engRun_answers ..

theorem execDbnz_answers a (s : State) : Answers (execDbnz a s) := by
  unfold execDbnz
  exact engRun_answers ..

theorem execTbr_answers a (s : State) : Answers (execTbr a s) := by
  unfold execTbr
  exact engRun_answers ..

theorem execWph_answers a (s : State) : Answers (execWph a s) := by
  unfold execWph
  exact engRun_answers ..

theorem execWtb_answers a (s : State) : Answers (execWtb a s) := by
  unfold execWtb
  exact engRun_answers ..

theorem execWev_answers a (s : State) : Answers (execWev a s) := by
  unfold execWev
  exact engRun_answers ..

theorem execPoll_answers a (s : State) : Answers (execPoll a s) := by
  unfold execPoll
  exact engRun_answers ..

theorem execSig_answers a (s : State) : Answers (execSig a s) := by
  unfold execSig
  exact engRun_answers ..

theorem execHsig_answers a (s : State) : Answers (execHsig a s) := by
  unfold execHsig
  exact engRun_answers ..

theorem execKick_answers a (s : State) : Answers (execKick a s) := by
  unfold execKick
  exact engRun_answers ..

theorem execEndE_answers a (s : State) : Answers (execEndE a s) := by
  unfold execEndE
  exact engRun_answers ..

theorem execRegr_answers a (s : State) : Answers (execRegr a s) := by
  unfold execRegr
  split <;> exact .state rfl

theorem execRegw_answers a (s : State) : Answers (execRegw a s) := by
  unfold execRegw
  exact engRun_answers ..

theorem execMrd_answers a (s : State) : Answers (execMrd a s) := by
  unfold execMrd
  exact engRun_answers ..

theorem execMreq_answers a (s : State) : Answers (execMreq a s) := by
  unfold execMreq
  exact engRun_answers ..

theorem execXfrBalPrepare_answers a (s : State) : Answers (execXfrBalPrepare a s) := by
  unfold execXfrBalPrepare
  exact engRun_answers ..

theorem execXfrBalCommit_answers a (s : State) : Answers (execXfrBalCommit a s) := by
  unfold execXfrBalCommit
  exact engRun_answers ..

theorem execXfrBalCancel_answers a (s : State) : Answers (execXfrBalCancel a s) := by
  unfold execXfrBalCancel
  exact engRun_answers ..

theorem execXfrBalStop_answers a (s : State) : Answers (execXfrBalStop a s) := by
  unfold execXfrBalStop
  exact engRun_answers ..

theorem execXfrImpPrepare_answers a (s : State) : Answers (execXfrImpPrepare a s) := by
  unfold execXfrImpPrepare
  exact engRun_answers ..

theorem execXfrImpCommit_answers a (s : State) : Answers (execXfrImpCommit a s) := by
  unfold execXfrImpCommit
  exact engRun_answers ..

theorem execXfrImpAbort_answers a (s : State) : Answers (execXfrImpAbort a s) := by
  unfold execXfrImpAbort
  exact engRun_answers ..

theorem execFsnd_answers a (s : State) : Answers (execFsnd a s) := by
  unfold execFsnd
  exact engRun_answers ..

theorem execFrameSent_answers a (s : State) : Answers (execFrameSent a s) := by
  unfold execFrameSent
  exact .ite (.state rfl) (.state rfl)

theorem execFrcv_answers a (s : State) : Answers (execFrcv a s) := by
  unfold execFrcv
  exact engRun_answers ..

theorem execLog_answers a (s : State) : Answers (execLog a s) := by
  unfold execLog
  exact engRun_answers ..

theorem execCrc_answers a (s : State) : Answers (execCrc a s) := by
  unfold execCrc
  exact engRun_answers ..

theorem execHsFlushAge_answers a (s : State) : Answers (execHsFlushAge a s) := by
  unfold execHsFlushAge
  exact .ite (.state rfl) (.state rfl)

theorem execHsLoadDone_answers a (s : State) : Answers (execHsLoadDone a s) := by
  unfold execHsLoadDone
  exact .ite (.inr rfl) (.state rfl)

theorem execThermalSample_answers a (s : State) : Answers (execThermalSample a s) := by
  unfold execThermalSample
  exact .ite (.state rfl) (.state rfl)

theorem execCalSlotPhaseEnd_answers a (s : State) : Answers (execCalSlotPhaseEnd a s) := by
  unfold execCalSlotPhaseEnd
  exact .ite (.inr rfl) (.state rfl)

theorem execSupplySag_answers a (s : State) : Answers (execSupplySag a s) := by
  unfold execSupplySag
  exact .ite (.state rfl) (.state rfl)

theorem execBootStepComplete_answers a b c d f (s : State) : Answers (execBootStepComplete a b c d f s) := by
  unfold execBootStepComplete
  exact .ite (.inr rfl) (.state rfl)

theorem execHostWriteFrame_answers a b c (s : State) : Answers (execHostWriteFrame a b c s) := by
  unfold execHostWriteFrame
  exact .ite (.inr rfl) (.state rfl)

theorem execHostReadFrame_answers a (s : State) : Answers (execHostReadFrame a s) := by
  unfold execHostReadFrame
  exact .ite (.inr rfl) (.state rfl)

theorem execHostFrameCut_answers a b c (s : State) : Answers (execHostFrameCut a b c s) := by
  unfold execHostFrameCut
  exact .ite (.state rfl) (.inr rfl)

theorem execDbgFrame_answers a b c (s : State) : Answers (execDbgFrame a b c s) := by
  unfold execDbgFrame
  exact .ite (.inr rfl) (.state rfl)

theorem execComparatorStateChange_answers a b (s : State) : Answers (execComparatorStateChange a b s) := by
  unfold execComparatorStateChange
  repeat' first | exact .state rfl | apply Answers.ite

/-- Every command answers so. -/
theorem exec_answers (s : State) (i : Instr) : Answers (exec i s) := by
  cases i
  case instantsWindowClose => exact execInstantsWindowClose_answers ..
  case filterOutput => exact execFilterOutput_answers ..
  case auxScanValue => exact execAuxScanValue_answers ..
  case secSlotComplete => exact execSecSlotComplete_answers ..
  case snapCapture => exact execSnapCapture_answers ..
  case wdPeriodElapsed => exact execWdPeriodElapsed_answers ..
  case pinTestBaselineDone => exact execPinTestBaselineDone_answers ..
  case pinTestRecoveryEnd => exact execPinTestRecoveryEnd_answers ..
  case impRoundStart => exact execImpRoundStart_answers ..
  case impSettleEnd => exact execImpSettleEnd_answers ..
  case impSlot => exact execImpSlot_answers ..
  case monitorStateChange => exact execMonitorStateChange_answers ..
  case monitorSampleTick => exact execMonitorSampleTick_answers ..
  case linkLos => exact execLinkLos_answers ..
  case linkLosClear => exact execLinkLosClear_answers ..
  case linkAlignLoss => exact execLinkAlignLoss_answers ..
  case linkAlignRegain => exact execLinkAlignRegain_answers ..
  case linkWake => exact execLinkWake_answers ..
  case wakeRelay => exact execWakeRelay_answers ..
  case trainOpenReceive => exact execTrainOpenReceive_answers ..
  case insertBufferDrain => exact execInsertBufferDrain_answers ..
  case trainEnd => exact execTrainEnd_answers ..
  case ringTimeout => exact execRingTimeout_answers ..
  case remoteRead => exact execRemoteRead_answers ..
  case remoteWrite => exact execRemoteWrite_answers ..
  case echoAnswer => exact execEchoAnswer_answers ..
  case breakFrame => exact execBreakFrame_answers ..
  case mend => exact execMend_answers ..
  case reform => exact execReform_answers ..
  case add => exact execAdd_answers ..
  case addi => exact execAddi_answers ..
  case sub => exact execSub_answers ..
  case cmp => exact execCmp_answers ..
  case cmpi => exact execCmpi_answers ..
  case mul => exact execMul_answers ..
  case mulh => exact execMulh_answers ..
  case div => exact execDiv_answers ..
  case divu => exact execDivu_answers ..
  case andE => exact execAndE_answers ..
  case orE => exact execOrE_answers ..
  case xor => exact execXor_answers ..
  case andi => exact execAndi_answers ..
  case ori => exact execOri_answers ..
  case xori => exact execXori_answers ..
  case shl => exact execShl_answers ..
  case shr => exact execShr_answers ..
  case sar => exact execSar_answers ..
  case sext => exact execSext_answers ..
  case movi => exact execMovi_answers ..
  case movt => exact execMovt_answers ..
  case ldw => exact execLdw_answers ..
  case ldh => exact execLdh_answers ..
  case ldb => exact execLdb_answers ..
  case stw => exact execStw_answers ..
  case sth => exact execSth_answers ..
  case stb => exact execStb_answers ..
  case swap => exact execSwap_answers ..
  case ldp => exact execLdp_answers ..
  case branch => exact execBranch_answers ..
  case br => exact execBr_answers ..
  case call => exact execCall_answers ..
  case callr => exact execCallr_answers ..
  case dbnz => exact execDbnz_answers ..
  case tbr => exact execTbr_answers ..
  case wph => exact execWph_answers ..
  case wtb => exact execWtb_answers ..
  case wev => exact execWev_answers ..
  case poll => exact execPoll_answers ..
  case sig => exact execSig_answers ..
  case hsig => exact execHsig_answers ..
  case kick => exact execKick_answers ..
  case endE => exact execEndE_answers ..
  case regr => exact execRegr_answers ..
  case regw => exact execRegw_answers ..
  case mrd => exact execMrd_answers ..
  case mreq => exact execMreq_answers ..
  case xfrBalPrepare => exact execXfrBalPrepare_answers ..
  case xfrBalCommit => exact execXfrBalCommit_answers ..
  case xfrBalCancel => exact execXfrBalCancel_answers ..
  case xfrBalStop => exact execXfrBalStop_answers ..
  case xfrImpPrepare => exact execXfrImpPrepare_answers ..
  case xfrImpCommit => exact execXfrImpCommit_answers ..
  case xfrImpAbort => exact execXfrImpAbort_answers ..
  case fsnd => exact execFsnd_answers ..
  case frameSent => exact execFrameSent_answers ..
  case frcv => exact execFrcv_answers ..
  case log => exact execLog_answers ..
  case crc => exact execCrc_answers ..
  case hsFlushAge => exact execHsFlushAge_answers ..
  case hsLoadDone => exact execHsLoadDone_answers ..
  case thermalSample => exact execThermalSample_answers ..
  case calSlotPhaseEnd => exact execCalSlotPhaseEnd_answers ..
  case supplySag => exact execSupplySag_answers ..
  case bootStepComplete => exact execBootStepComplete_answers ..
  case hostWriteFrame => exact execHostWriteFrame_answers ..
  case hostReadFrame => exact execHostReadFrame_answers ..
  case hostFrameCut => exact execHostFrameCut_answers ..
  case dbgFrame => exact execDbgFrame_answers ..
  case comparatorStateChange => exact execComparatorStateChange_answers ..
  all_goals exact .state rfl

end Sys2Proof.Machine
end

