-- ==== Sys2Proof/Laws/Codeword.lean ====
section
/-!
SUPPORT. The six PARITY bytes of a message make it a codeword: its syndromes are zero, and the decoder gives it back with
nothing corrected (R212).
-/
namespace Sys2Proof.Machine

theorem xor_cancel (x y z : Byte) : x ^^^ y = (x ^^^ z) ^^^ (y ^^^ z) := by
  rw [show (x ^^^ z) ^^^ (y ^^^ z) = (x ^^^ y) ^^^ (z ^^^ z) by ac_rfl, BitVec.xor_self, BitVec.xor_zero]

theorem gfDouble_xor (a b : Byte) : gfDouble (a ^^^ b) = gfDouble a ^^^ gfDouble b := by
  unfold gfDouble
  have h : (a ^^^ b).getLsbD 7 = (a.getLsbD 7 ^^ b.getLsbD 7) := by simp
  rw [h, BitVec.shiftLeft_xor_distrib]
  cases a.getLsbD 7 <;> cases b.getLsbD 7
  · rfl
  · exact BitVec.xor_assoc ..
  · change _ = (a <<< 1 ^^^ 0x1D#8) ^^^ b <<< 1
    ac_rfl
  · exact xor_cancel ..

/-- The product by bits of the second factor, as the loop builds it, is additive in the first. -/
theorem gfMul_loop (b : Byte) (l : List Nat) (p q : Byte × Byte) :
    l.foldl (fun (p : Byte × Byte) i => (if b.getLsbD i then p.1 ^^^ p.2 else p.1, gfDouble p.2)) (p.1 ^^^ q.1, p.2 ^^^ q.2) =
      let f := fun (p : Byte × Byte) i => (if b.getLsbD i then p.1 ^^^ p.2 else p.1, gfDouble p.2)
      ((l.foldl f p).1 ^^^ (l.foldl f q).1, (l.foldl f p).2 ^^^ (l.foldl f q).2) := by
  induction l generalizing p q with
  | nil => rfl
  | cons i l ih =>
    simp only [List.foldl_cons]
    rw [← ih]
    congr 1
    by_cases h : b.getLsbD i = true
    · simp only [h, if_true, gfDouble_xor]
      congr 1
      ac_rfl
    · simp only [h, if_false, gfDouble_xor, Bool.false_eq_true]

/-- Multiplication distributes over the sum of the field. -/
theorem gfMul_xor (a b x : Byte) : gfMul (a ^^^ b) x = gfMul a x ^^^ gfMul b x := by
  unfold gfMul
  rw [show ((0 : Byte), a ^^^ b) = (0 ^^^ 0, a ^^^ b) from rfl]
  exact congrArg Prod.fst (gfMul_loop x (List.range 8) (0, a) (0, b))

theorem gfMul_zero (x : Byte) : gfMul 0 x = 0 := by
  have h := gfMul_xor 0 0 x
  rw [show (0 : Byte) ^^^ 0 = 0 from rfl, BitVec.xor_self] at h
  exact h

/-- The value a word of six bytes adds to what came before it. -/
def gfShift6 (a x : Byte) : Byte := gfMul (gfMul (gfMul (gfMul (gfMul (gfMul a x) x) x) x) x) x

theorem gfShift6_xor (a b x : Byte) : gfShift6 (a ^^^ b) x = gfShift6 a x ^^^ gfShift6 b x := by
  simp only [gfShift6, gfMul_xor]

theorem gfShift6_mul (a x : Byte) : gfShift6 (gfMul a x) x = gfMul (gfShift6 a x) x := rfl

/-- Six bytes after a value. -/
theorem eval_six (c x a0 a1 a2 a3 a4 a5 : Byte) :
    [a0, a1, a2, a3, a4, a5].foldl (fun a b => gfMul a x ^^^ b) c = gfShift6 c x ^^^ rsEval [a0, a1, a2, a3, a4, a5] x := by
  simp only [List.foldl, rsEval, gfShift6, gfMul_xor, gfMul_zero]
  rw [show (0 : Byte) ^^^ gfMul (gfMul (gfMul (gfMul (gfMul a0 x) x) x) x) x = _ from BitVec.zero_xor]
  ac_rfl

/-- A byte is the sum of its two halves. -/
theorem byte_halves (b : Byte) : b = BitVec.ofNat 8 (b.toNat / 16 * 16) ^^^ BitVec.ofNat 8 (b.toNat % 16) := by
  revert b
  decide

theorem gen_additive (a b x : Byte) :
    rsEval (rsGen.map (gfMul (a ^^^ b))) x = rsEval (rsGen.map (gfMul a)) x ^^^ rsEval (rsGen.map (gfMul b)) x := by
  simp only [rsGen, List.map, rsEval, List.foldl, gfMul_xor, gfMul_zero]
  rw [show (0 : Byte) = 0 ^^^ 0 from rfl]
  ac_rfl

/-- The generator's roots are the first six powers of α: a feedback byte at the register's inputs is worth x^6 there. -/
theorem gen_root (j : Nat) (hj : j < 6) (fb : Byte) : rsEval (rsGen.map (gfMul fb)) (alphaPow j) = gfShift6 fb (alphaPow j) := by
  have low : ∀ j, j < 6 → ∀ n, n < 16 → rsEval (rsGen.map (gfMul (BitVec.ofNat 8 n))) (alphaPow j) =
      gfShift6 (BitVec.ofNat 8 n) (alphaPow j) := by decide +kernel
  have high : ∀ j, j < 6 → ∀ n, n < 16 → rsEval (rsGen.map (gfMul (BitVec.ofNat 8 (n * 16)))) (alphaPow j) =
      gfShift6 (BitVec.ofNat 8 (n * 16)) (alphaPow j) := by decide +kernel
  rw [byte_halves fb, gen_additive, gfShift6_xor, high j hj _ (by have := fb.isLt; omega), low j hj _ (by omega)]

theorem eval_zip (x a0 a1 a2 a3 a4 a5 b0 b1 b2 b3 b4 b5 : Byte) :
    rsEval [a0 ^^^ b0, a1 ^^^ b1, a2 ^^^ b2, a3 ^^^ b3, a4 ^^^ b4, a5 ^^^ b5] x =
      rsEval [a0, a1, a2, a3, a4, a5] x ^^^ rsEval [b0, b1, b2, b3, b4, b5] x := by
  simp only [rsEval, List.foldl, gfMul_xor, gfMul_zero]
  rw [show (0 : Byte) = 0 ^^^ 0 from rfl]
  ac_rfl

/-- One step of the encoder, as the word's value sees it. -/
theorem step_eval (j : Nat) (hj : j < 6) (r : List Byte) (hr : r.length = 6) (d : Byte) :
    rsEval (rsStep r d) (alphaPow j) = gfMul (rsEval r (alphaPow j)) (alphaPow j) ^^^ gfShift6 d (alphaPow j) := by
  match r, hr with
  | [r0, r1, r2, r3, r4, r5], _ =>
    have h : rsEval (rsStep [r0, r1, r2, r3, r4, r5] d) (alphaPow j) =
        rsEval [r1, r2, r3, r4, r5, 0] (alphaPow j) ^^^ rsEval (rsGen.map (gfMul (d ^^^ r0))) (alphaPow j) := eval_zip ..
    rw [h, gen_root j hj, gfShift6_xor]
    simp only [rsEval, List.foldl, gfMul_xor, gfMul_zero, gfShift6]
    rw [show (0 : Byte) = 0 ^^^ 0 from rfl]
    ac_rfl

theorem step_length (r : List Byte) (hr : r.length = 6) (d : Byte) : (rsStep r d).length = 6 := by
  simp [rsStep, hr, rsGen]

/-- The word's value and its parity's cancel. -/
theorem parity_cancels (j : Nat) (hj : j < 6) (m : List Byte) (c : Byte) (r : List Byte) (hr : r.length = 6)
    (h : gfShift6 c (alphaPow j) = rsEval r (alphaPow j)) :
    gfShift6 (m.foldl (fun a b => gfMul a (alphaPow j) ^^^ b) c) (alphaPow j) = rsEval (m.foldl rsStep r) (alphaPow j) ∧
      (m.foldl rsStep r).length = 6 := by
  induction m generalizing c r with
  | nil => exact ⟨h, hr⟩
  | cons d m ih =>
    refine ih _ _ (step_length r hr d) ?_
    rw [step_eval j hj r hr, gfShift6_xor, gfShift6_mul, h]

/-- The syndromes of a message with its parity are zero. -/
theorem parity_root (j : Nat) (hj : j < 6) (m : List Byte) : rsEval (m ++ rsParity m) (alphaPow j) = 0 := by
  obtain ⟨h, hl⟩ := parity_cancels j hj m 0 [0, 0, 0, 0, 0, 0] rfl (by revert j; decide +kernel)
  unfold rsParity
  generalize m.foldl rsStep [0, 0, 0, 0, 0, 0] = r at h hl
  match r, hl with
  | [r0, r1, r2, r3, r4, r5], _ =>
    rw [rsEval, List.foldl_append, eval_six, h, BitVec.xor_self]
    rfl

/-- The decoder takes a message with its parity as it is. -/
theorem rsDecode_parity (m : List Byte) : rsDecode (m ++ rsParity m) = some (m ++ rsParity m, 0) := by
  have h : (rsSyndromes (m ++ rsParity m)).all (· == 0) = true := by
    simp only [rsSyndromes, List.all_map, List.all_eq_true, List.mem_range]
    intro j hj
    exact decide_eq_true (parity_root j hj m)
  simp only [rsDecode, h, if_true]

end Sys2Proof.Machine
end

