-- ==== Sys2Proof/Laws/Engine.lean ====
section
/-!
SUPPORT. An engine's instruction: what `engInstr`, `engRun` and `engAlu` answer at an engine that runs.
-/
namespace Sys2Proof.Machine

@[simp] theorem set_st (x : Eng) (i : Nat) (v : Word) : (x.set i v).st = x.st := by unfold Eng.set; split <;> rfl
@[simp] theorem set_pc (x : Eng) (i : Nat) (v : Word) : (x.set i v).pc = x.pc := by unfold Eng.set; split <;> rfl
@[simp] theorem set_page (x : Eng) (i : Nat) (v : Word) : (x.set i v).page = x.page := by unfold Eng.set; split <;> rfl
@[simp] theorem set_instrs (x : Eng) (i : Nat) (v : Word) : (x.set i v).instrs = x.instrs := by unfold Eng.set; split <;> rfl
@[simp] theorem set_haltReq (x : Eng) (i : Nat) (v : Word) : (x.set i v).haltReq = x.haltReq := by unfold Eng.set; split <;> rfl
@[simp] theorem set_stepping (x : Eng) (i : Nat) (v : Word) : (x.set i v).stepping = x.stepping := by unfold Eng.set; split <;> rfl
@[simp] theorem set_passBp (x : Eng) (i : Nat) (v : Word) : (x.set i v).passBp = x.passBp := by unfold Eng.set; split <;> rfl
@[simp] theorem set_latch (x : Eng) (i : Nat) (v : Word) : (x.set i v).latch = x.latch := by unfold Eng.set; split <;> rfl
@[simp] theorem set_wait (x : Eng) (i : Nat) (v : Word) : (x.set i v).wait = x.wait := by unfold Eng.set; split <;> rfl
@[simp] theorem set_prog (x : Eng) (i : Nat) (v : Word) : (x.set i v).prog = x.prog := by unfold Eng.set; split <;> rfl
@[simp] theorem set_c (x : Eng) (i : Nat) (v : Word) : (x.set i v).c = x.c := by unfold Eng.set; split <;> rfl
@[simp] theorem set_z (x : Eng) (i : Nat) (v : Word) : (x.set i v).z = x.z := by unfold Eng.set; split <;> rfl
@[simp] theorem set_n (x : Eng) (i : Nat) (v : Word) : (x.set i v).n = x.n := by unfold Eng.set; split <;> rfl
@[simp] theorem set_v (x : Eng) (i : Nat) (v : Word) : (x.set i v).v = x.v := by unfold Eng.set; split <;> rfl

/-- A write to G0 leaves the engine as it is. -/
@[simp] theorem set_zero (x : Eng) (v : Word) : x.set 0 v = x := rfl

@[simp] theorem retired_st (x : Eng) (pc : Nat) : (x.retired pc).st = x.st := rfl
@[simp] theorem retired_haltReq (x : Eng) (pc : Nat) : (x.retired pc).haltReq = x.haltReq := rfl
@[simp] theorem retired_stepping (x : Eng) (pc : Nat) : (x.retired pc).stepping = x.stepping := rfl

/-- A completed instruction of an engine that nothing stops. -/
theorem engComplete_retire (s : State) (e : Engine) (x : Eng) (pc : Nat) (hst : x.st = .running)
    (hh : x.haltReq = false) (hs : x.stepping = false) (hr : s.engRun e = true) :
    engComplete (s.setEng e x) e pc = retire s e x pc := by
  have hset (y z : Eng) : (s.setEng e y).setEng e z = s.setEng e z := by cases e <;> rfl
  have hrun : (s.setEng e (x.retired pc)).engRun e = true := by simpa [State.engRun] using hr
  simp only [engComplete, setEng_eng_same, hset]
  change engBoundary (s.setEng e (x.retired pc)) e = _
  simp [engBoundary, retire, hrun, hst, hh, hs]

/-- The instruction at PC runs: the body's next state completes it. -/
theorem engInstr_next {s u : State} {e : Engine} {w : Word} {op : Nat} {pick : Word → Bool} {body : Word → Eng → EngOut}
    (h : Runs s e w) (hop : wOp w = op) (hr : opReserved op = false) (hp : pick w = true)
    (hb : body w (s.eng e) = .next u) :
    engInstr s e op pick body = (none, engComplete u e ((s.eng e).pc + 1)) := by
  subst hop
  simp [engInstr, h.running, h.noBreak, h.parity, h.word, hr, hp, hb]

theorem engInstr_jump {s u : State} {e : Engine} {w : Word} {op pc : Nat} {pick : Word → Bool} {body : Word → Eng → EngOut}
    (h : Runs s e w) (hop : wOp w = op) (hr : opReserved op = false) (hp : pick w = true)
    (hb : body w (s.eng e) = .jump u pc) : engInstr s e op pick body = (none, engComplete u e pc) := by
  subst hop
  simp [engInstr, h.running, h.noBreak, h.parity, h.word, hr, hp, hb]

theorem engInstr_waits {s u : State} {e : Engine} {w : Word} {op : Nat} {pick : Word → Bool} {body : Word → Eng → EngOut}
    (h : Runs s e w) (hop : wOp w = op) (hr : opReserved op = false) (hp : pick w = true)
    (hb : body w (s.eng e) = .waits u) : engInstr s e op pick body = (none, waitHalts u e) := by
  subst hop
  simp [engInstr, h.running, h.noBreak, h.parity, h.word, hr, hp, hb]

theorem engInstr_fault {s : State} {e : Engine} {w : Word} {op c : Nat} {pick : Word → Bool} {body : Word → Eng → EngOut}
    (h : Runs s e w) (hop : wOp w = op) (hr : opReserved op = false) (hp : pick w = true)
    (hb : body w (s.eng e) = .fault c) : engInstr s e op pick body = (some c, s) := by
  subst hop
  simp [engInstr, h.running, h.noBreak, h.parity, h.word, hr, hp, hb]

/-- An instruction that changes only the engine's record. -/
theorem engRun_next {s : State} {e : Engine} {w : Word} {op : Nat} {pick : Word → Bool} {body : Word → Eng → EngOut} {y : Eng}
    (h : Runs s e w) (hop : wOp w = op) (hr : opReserved op = false) (hp : pick w = true)
    (hb : body w (s.eng e) = engNext s e y) (hst : y.st = .running) (hh : y.haltReq = false) (hs : y.stepping = false) :
    engRun s e op pick body = .next (settle (retire s e y ((s.eng e).pc + 1))) := by
  rw [engRun, engInstr_next h hop hr hp hb]
  simp only [engComplete_retire s e y _ hst hh hs h.run]
  rfl

theorem engRun_fault {s : State} {e : Engine} {w : Word} {op c : Nat} {pick : Word → Bool} {body : Word → Eng → EngOut}
    (h : Runs s e w) (hop : wOp w = op) (hr : opReserved op = false) (hp : pick w = true)
    (hb : body w (s.eng e) = .fault c) : engRun s e op pick body = doneRails (engineFault s e c) := by
  rw [engRun, engInstr_fault h hop hr hp hb]

theorem engAlu_next {s : State} {e : Engine} {w : Word} {op : Nat} {ok : Word → Bool} {f : Word → Eng → Eng}
    (h : Runs s e w) (hop : wOp w = op) (hr : opReserved op = false) (hok : ok w = true)
    (hst : (f w (s.eng e)).st = .running) (hh : (f w (s.eng e)).haltReq = false) (hs : (f w (s.eng e)).stepping = false) :
    engAlu s e op ok f = .next (settle (retire s e (f w (s.eng e)) ((s.eng e).pc + 1))) :=
  engRun_next (y := f w (s.eng e)) h hop hr rfl (by simp [hok]) hst hh hs

end Sys2Proof.Machine
end

