-- ==== Sys2Proof/Tests/Slice0.lean ====
section
/-!
SUPPORT. Tests: ill-formed commands are refused, single steps give what the spec's tables and examples state, and every
statement's hypotheses are met by a small state (a theorem `witness_<statement>` each, one part for each clause).
-/
namespace Sys2Proof.Tests

open Sys2Proof.Machine

/-! ### Engines -/

/-- After reset, with an engine RUNNING before one word, its registers given. -/
def engAt (e : Engine) (w : Word) (g : Sparse Word) : State :=
  (State.reset.setEng e { st := .running, g := g, prog := [(0, w)] }).setFlag (Fld.ENG_CTL_RUN e.idx) true

theorem runs_engAt (e : Engine) (w : Word) (g : Sparse Word) : Runs (engAt e w g) e w := by
  have hb : (engAt e 0 []).atBreakpoint e = false := by cases e <;> decide
  have hr : (engAt e 0 []).engRun e = true := by cases e <;> decide
  cases e
  all_goals exact ⟨rfl, hb, rfl, rfl, hr, rfl, rfl⟩

/-- A word of the R format, of the I format, and of the formats with a function field. -/
def wordR (op rd ra rb sh : Nat) : Word := BitVec.ofNat 32 (op * 2 ^ 26 + rd * 2 ^ 22 + ra * 2 ^ 18 + rb * 2 ^ 14 + sh)
def wordI (op rd ra imm : Nat) : Word := BitVec.ofNat 32 (op * 2 ^ 26 + rd * 2 ^ 22 + ra * 2 ^ 18 + imm)

/-- The engine runs the word of an R-format instruction whose unused fields are 0. -/
def runsR (e : Engine) (g : Sparse Word) (w : Word) (op : Nat) : Prop :=
  Runs (engAt e w g) e w ∧ wOp w = op ∧ okR w = true ∧ wSh w = 0

def runsI (e : Engine) (g : Sparse Word) (w : Word) (op : Nat) : Prop := Runs (engAt e w g) e w ∧ wOp w = op

theorem runsI_of {e : Engine} {g : Sparse Word} {w : Word} {op : Nat} (h : wOp w = op) : runsI e g w op := ⟨runs_engAt e w g, h⟩
theorem runsR_of {e : Engine} {g : Sparse Word} {w : Word} {op : Nat} (h : wOp w = op ∧ okR w = true ∧ wSh w = 0) :
    runsR e g w op := ⟨runs_engAt e w g, h⟩

theorem witness_EngineAdditionAndComparison :
    runsR .sweep [] (wordR 1 3 1 2 0) 1 ∧ runsI .node [] (wordI 2 3 1 0x20000) 2 ∧ runsR .rail [] (wordR 3 3 1 2 0) 3 ∧
    (runsR .sweep [] (wordR 4 0 1 2 0) 4 ∧ wRd (wordR 4 0 1 2 0) = 0) ∧
    (runsI .sweep [] (wordI 5 0 1 7) 5 ∧ wRd (wordI 5 0 1 7) = 0) :=
  ⟨runsR_of (by decide), runsI_of (by decide), runsR_of (by decide), ⟨runsR_of (by decide), by decide⟩,
    runsI_of (by decide), by decide⟩

/-- Divisors that are not 0, and the divisor 0 of a register never written. -/
theorem witness_EngineMultiplyAndDivide :
    let g : Sparse Word := [(1, 0x80000000#32), (2, 0xFFFFFFFF#32)]
    runsR .sweep g (wordR 6 3 1 2 0) 6 ∧ runsR .sweep g (wordR 7 3 1 2 0) 7 ∧
    (runsR .sweep g (wordR 8 3 1 2 0) 8 ∧ ((engAt .sweep (wordR 8 3 1 2 0) g).eng .sweep).get 2 ≠ 0) ∧
    (runsR .sweep g (wordR 9 3 1 2 0) 9 ∧ ((engAt .sweep (wordR 9 3 1 2 0) g).eng .sweep).get 2 ≠ 0) ∧
    (runsR .sweep g (wordR 8 3 1 4 0) 8 ∧ ((engAt .sweep (wordR 8 3 1 4 0) g).eng .sweep).get 4 = 0) ∧
    (runsR .sweep g (wordR 9 3 1 4 0) 9 ∧ ((engAt .sweep (wordR 9 3 1 4 0) g).eng .sweep).get 4 = 0) :=
  ⟨runsR_of (by decide), runsR_of (by decide), ⟨runsR_of (by decide), by decide⟩, ⟨runsR_of (by decide), by decide⟩,
    ⟨runsR_of (by decide), by decide⟩, runsR_of (by decide), by decide⟩

theorem witness_EngineLogicAndMoves :
    runsR .node [] (wordR 0x0A 3 1 2 0) 0x0A ∧ runsR .node [] (wordR 0x0B 3 1 2 0) 0x0B ∧ runsR .node [] (wordR 0x0C 3 1 2 0) 0x0C ∧
    runsI .node [] (wordI 0x0D 3 1 0x3FFFF) 0x0D ∧ runsI .node [] (wordI 0x0E 3 1 0x3FFFF) 0x0E ∧
    runsI .node [] (wordI 0x0F 3 1 0x3FFFF) 0x0F ∧
    (runsI .node [] (wordR 0x13 3 1 0 31) 0x13 ∧ okR (wordR 0x13 3 1 0 31) = true ∧ wRb (wordR 0x13 3 1 0 31) = 0) ∧
    (runsI .node [] (wordI 0x14 3 0 0xFFFF) 0x14 ∧ okM (wordI 0x14 3 0 0xFFFF) = true) ∧
    (runsI .node [] (wordI 0x15 3 0 0xFFFF) 0x15 ∧ okM (wordI 0x15 3 0 0xFFFF) = true) :=
  ⟨runsR_of (by decide), runsR_of (by decide), runsR_of (by decide), runsI_of (by decide), runsI_of (by decide),
    runsI_of (by decide), ⟨runsI_of (by decide), by decide⟩, ⟨runsI_of (by decide), by decide⟩, runsI_of (by decide), by decide⟩

theorem witness_EngineShifts :
    (runsI .rail [] (wordR 0x10 3 1 0 0) 0x10 ∧ okR (wordR 0x10 3 1 0 0) = true) ∧
    (runsI .rail [] (wordR 0x11 3 1 0 31) 0x11 ∧ okR (wordR 0x11 3 1 0 31) = true) ∧
    (runsI .rail [] (wordR 0x12 3 1 0 31) 0x12 ∧ okR (wordR 0x12 3 1 0 31) = true) :=
  ⟨⟨runsI_of (by decide), by decide⟩, ⟨runsI_of (by decide), by decide⟩, runsI_of (by decide), by decide⟩

/-- The sweep engine at the last bytes of its banks, the node engine at the last word of bank 7. -/
def lastBytes (w : Word) (n : Nat) : Prop :=
  let s := engAt .sweep w []
  Runs s .sweep w ∧ noWatch s .sweep = true ∧ ((s.eng .sweep).get (wRa w) + (wImm w).signExtend 32).toNat = 0x20000 - n ∧
  bankAllowed .sweep (0x20000 - n) = true ∧ (0x20000 - n) % n = 0 ∧ s.dataBad (0x20000 - n) n = false

theorem witness_EngineLoads :
    (lastBytes (wordI 0x18 3 0 0x1FFFC) 4 ∧ wOp (wordI 0x18 3 0 0x1FFFC) = 0x18) ∧
    (lastBytes (wordI 0x19 3 0 0x1FFFE) 2 ∧ wOp (wordI 0x19 3 0 0x1FFFE) = 0x19) ∧
    (lastBytes (wordI 0x1A 3 0 0x1FFFF) 1 ∧ wOp (wordI 0x1A 3 0 0x1FFFF) = 0x1A) ∧
    (runsI .node [] (wordI 0x1F 3 0 8191) 0x1F ∧ noWatch (engAt .node (wordI 0x1F 3 0 8191) []) .node = true ∧
      ((engAt .node (wordI 0x1F 3 0 8191) []).eng .node).wordBad 8191 = false) :=
  ⟨⟨⟨runs_engAt .., by decide⟩, by decide⟩, ⟨⟨runs_engAt .., by decide⟩, by decide⟩, ⟨⟨runs_engAt .., by decide⟩, by decide⟩,
    runsI_of (by decide), by decide⟩

theorem witness_EngineStores :
    (lastBytes (wordI 0x1B 3 0 0x1FFFC) 4 ∧ wOp (wordI 0x1B 3 0 0x1FFFC) = 0x1B) ∧
    (lastBytes (wordI 0x1C 3 0 0x1FFFE) 2 ∧ wOp (wordI 0x1C 3 0 0x1FFFE) = 0x1C) ∧
    (lastBytes (wordI 0x1D 3 0 0x1FFFF) 1 ∧ wOp (wordI 0x1D 3 0 0x1FFFF) = 0x1D) ∧
    (let w := wordI 0x1E 3 1 0
     let s := engAt .node w [(1, 0x3FFFC#32)]
     Runs s .node w ∧ wOp w = 0x1E ∧ noWatch s .node = true ∧ ((s.eng .node).get 1).toNat = 0x3FFFC ∧ s.dataBad 0x3FFFC 4 = false) :=
  ⟨⟨⟨runs_engAt .., by decide⟩, by decide⟩, ⟨⟨runs_engAt .., by decide⟩, by decide⟩, ⟨⟨runs_engAt .., by decide⟩, by decide⟩,
    runs_engAt .., by decide⟩

/-- Just past the sweep engine's banks, and at an odd address in them. -/
theorem witness_EngineAddressFaults :
    let g : Sparse Word := [(1, 0x20000#32)]
    (∀ op ∈ [0x18, 0x19, 0x1A, 0x1B, 0x1C, 0x1D], wOp (wordI op 3 1 0) = op ∧
      Runs (engAt .sweep (wordI op 3 1 0) g) .sweep (wordI op 3 1 0) ∧
      bankAllowed .sweep (((engAt .sweep (wordI op 3 1 0) g).eng .sweep).get 1).toNat = false) ∧
    (∀ p ∈ [(0x18, 4), (0x19, 2), (0x1B, 4), (0x1C, 2)], wOp (wordI p.1 3 0 1) = p.1 ∧ bankAllowed .sweep 1 = true ∧ 1 % p.2 ≠ 0) ∧
    (wOp (wordI 0x1E 3 1 0) = 0x1E ∧ Runs (engAt .sweep (wordI 0x1E 3 1 0) g) .sweep (wordI 0x1E 3 1 0) ∧ 0x20000 < 0x38000) := by
  refine ⟨fun op h => ?_, by decide, by decide, runs_engAt .., by decide⟩
  refine ⟨?_, runs_engAt .., ?_⟩ <;> (revert op; decide)

theorem witness_EngineBranches :
    let g : Sparse Word := [(1, 8191#32)]
    (∀ k, k < 15 → runsI .rail g (wordI 0x20 k 0 8191) 0x20 ∧ okB (wordI 0x20 k 0 8191) = true ∧ wRa (wordI 0x20 k 0 8191) = 0) ∧
    (runsI .rail g (wordI 0x21 14 1 0) 0x21 ∧ okB (wordI 0x21 14 1 0) = true) ∧
    (runsI .rail g (wordI 0x22 0 0 8191) 0x22 ∧ okB (wordI 0x22 0 0 8191) = true) ∧
    (runsI .rail g (wordI 0x23 0 1 0) 0x23 ∧ okB (wordI 0x23 0 1 0) = true ∧
      ((engAt .rail (wordI 0x23 0 1 0) g).eng .rail).get 1 = 8191#32) ∧
    (runsI .rail g (wordI 0x24 1 0 8191) 0x24 ∧ okB (wordI 0x24 1 0 8191) = true) := by
  refine ⟨fun k h => ⟨⟨runs_engAt .., ?_⟩, ?_⟩, ⟨runsI_of (by decide), by decide⟩, ⟨runsI_of (by decide), by decide⟩,
    ⟨runsI_of (by decide), by decide⟩, runsI_of (by decide), by decide⟩ <;> (revert k; decide)

/-- An engine in a wait. -/
def waitAt (e : Engine) (v : Wait) (latch : Word) : State :=
  (State.reset.setEng e { st := .waiting, wait := some v, latch := latch }).setFlag (Fld.ENG_CTL_RUN e.idx) true

/-- The engine waits for this and nothing stops it. -/
def waitsAt (e : Engine) (v : Wait) (latch : Word) (k : WaitKind) (met : Bool) : Prop :=
  let s := waitAt e v latch
  let x := s.eng e
  x.st = .waiting ∧ x.wait = some v ∧ s.engRun e = true ∧ x.haltReq = false ∧ x.stepping = false ∧ s.waitMet x v = met ∧ v.kind = k

def wait (k : WaitKind) (latched : Bool) (limit : Nat) : Wait :=
  { kind := k, target := 0, mask := 2, rd := 3, limit := limit, done := false, late := false, latched := latched }

theorem witness_EngineWaits :
    let g : Sparse Word := [(1, 1#32)]
    let ok (w : Word) (op : Nat) : Prop := runsI .sweep g w op ∧ okW w = true ∧ wRb w = 0
    (ok (wordR 0x28 3 1 0 0) 0x28 ∧ wRd (wordR 0x28 3 1 0 0) ≠ wRa (wordR 0x28 3 1 0 0)) ∧ ok (wordR 0x29 3 1 0 0) 0x29 ∧
    (runsI .sweep g (wordR 0x2A 3 1 2 0) 0x2A ∧ okW (wordR 0x2A 3 1 2 0) = true) ∧
    (ok (wordR 0x2B 3 1 0 0) 0x2B ∧ ((engAt .sweep (wordR 0x2B 3 1 0 0) g).eng .sweep).latch = 0) ∧
    (let s := State.reset.setEng .sweep { st := .running, g := g, latch := 3, prog := [(0, wordR 0x2B 3 1 0 0)] }
     let t := s.setFlag (Fld.ENG_CTL_RUN 0) true
     Runs t .sweep (wordR 0x2B 3 1 0 0) ∧ (t.eng .sweep).latch &&& (t.eng .sweep).get 1 ≠ 0) ∧
    (ok (wordR 0x2C 3 1 0 0) 0x2C ∧ wRt (wordR 0x2C 3 1 0 0) = 0) ∧
    waitsAt .node (wait .event false 0) 2 .event true ∧ waitsAt .node (wait .phase true 0) 0 .phase true ∧
    waitsAt .node (wait .timebase true 0) 0 .timebase true ∧ waitsAt .node (wait .event false 1) 0 .event false := by
  refine ⟨⟨⟨runsI_of ?_, ?_⟩, ?_⟩, ⟨runsI_of ?_, ?_⟩, ⟨runsI_of ?_, ?_⟩, ⟨⟨runsI_of ?_, ?_⟩, ?_⟩, ⟨?_, ?_⟩,
    ⟨⟨runsI_of ?_, ?_⟩, ?_⟩, ?_, ?_, ?_, ?_⟩
  all_goals first
    | decide
    | (constructor <;> decide)

theorem witness_EngineControlInstructions :
    let ok (w : Word) (op fn : Nat) : Prop := runsI .rail [] w op ∧ wRd w = 0 ∧ wRa w = 0 ∧ wRb w = 0 ∧ w.toNat % 16384 = fn
    (ok (wordI 0x30 0 0 7) 0x30 7 ∧ 7 < 12 ∧ 7 / 4 ≠ Engine.rail.idx) ∧ ok (wordI 0x31 0 0 15) 0x31 15 ∧
    (∀ n ∈ [0, 1], let s := (engAt .rail (wordI 0x32 0 0 0) []).setFld (Fld.ENG_CTL_WDT 2) n
     Runs s .rail (wordI 0x32 0 0 0) ∧ s.fld (Fld.ENG_CTL_WDT 2) = n) ∧
    ok (wordI 0x33 0 0 0) 0x33 0 := by
  refine ⟨⟨⟨runsI_of ?_, ?_⟩, ?_⟩, ⟨runsI_of ?_, ?_⟩, fun n h => ⟨?_, ?_⟩, runsI_of ?_, ?_⟩
  case refine_6 => constructor <;> (revert n; decide)
  all_goals first
    | decide
    | (revert n; decide)

theorem witness_EngineRegisterAndMeasurementCalls :
    let ok (g : Sparse Word) (w : Word) (op : Nat) : Prop := runsI .node g w op
    (ok [] (wordI 0x38 3 0 0x1FFF) 0x38 ∧ (engAt .node (wordI 0x38 3 0 0x1FFF) []).bus = []) ∧
    (ok [] (wordI 0x39 3 0 0x0AFF) 0x39 ∧ regOwner 0x0AFF = some .node) ∧
    (ok [] (wordI 0x39 3 0 0x0B00) 0x39 ∧ regOwner 0x0B00 ≠ some .node) ∧
    (let w := wordI 0x3A 3 1 (2 * 2 ^ 14 + 31)
     let s := engAt .node w [(2, 0x20000#32)]
     ok [(2, 0x20000#32)] w 0x3A ∧ ((s.eng .node).get (wRb w)).toNat = 0x20000 ∧ bufferFault .node 0x20000 128 = none ∧
     ((s.eng .node).get (wRa w)).toNat + 32 ≤ (s.mrdSource 0).2.2 ∧ noWatch s .node = true) ∧
    (let w := wordI 0x3B 3 0 0
     let s := { engAt .node w [] with mode := .standby }
     Runs s .node w ∧ wOp w = 0x3B ∧ s.reqAccepted = true) ∧
    (ok [] (wordI 0x3B 3 0 0) 0x3B ∧ (engAt .node (wordI 0x3B 3 0 0) []).mode = .boot) ∧
    (let w := wordI 0x34 3 1 (2 * 2 ^ 14 + 2)
     let s := engAt .node w [(1, 0x20000#32), (2, 8192#32)]
     ok [(1, 0x20000#32), (2, 8192#32)] w 0x34 ∧ wFn w < 3 ∧ ((s.eng .node).get (wRb w)).toNat = 8192 ∧
     spanAllowed .node ((s.eng .node).get (wRa w)).toNat 8192 = true ∧ s.dataBad ((s.eng .node).get (wRa w)).toNat 8192 = false ∧ noWatch s .node = true) := by
  refine ⟨⟨runsI_of ?_, ?_⟩, ⟨runsI_of ?_, ?_⟩, ⟨runsI_of ?_, ?_⟩, ⟨runsI_of ?_, ?_⟩, ⟨?_, ?_⟩, ⟨runsI_of ?_, ?_⟩, runsI_of ?_, ?_⟩
  all_goals first
    | decide
    | (constructor <;> decide)

/-- Each of the seven functions at the NODE engine and at another; a balancer with a plan prepared, and an impedance unit
with one. -/
theorem witness_EngineTransferCalls :
    (∀ fn ∈ [1, 2, 3, 4, 5, 6, 7], ∀ e ∈ [Engine.node, .rail], wOp (wordI 0x3C 3 0 fn) = 0x3C ∧ wFn (wordI 0x3C 3 0 fn) = fn ∧
      wRa (wordI 0x3C 3 0 fn) = 0 ∧ wRb (wordI 0x3C 3 0 fn) = 0 ∧ Runs (engAt e (wordI 0x3C 3 0 fn) []) e (wordI 0x3C 3 0 fn)) ∧
    (engAt .node (wordI 0x3C 3 0 2) []).balStage ≠ stagePrepared := by
  refine ⟨fun fn h e _ => ⟨?_, ?_, ?_, ?_, runs_engAt ..⟩, by decide⟩ <;> (revert fn; decide)

/-- A descriptor of a RESPONSE of 8 bytes, a record of 8 bytes, and queues with an entry. -/
def recordBytes : Sparse Byte := [(0x20000, 8), (0x20008, 4), (0x20009, 8)]

theorem witness_EngineFramesAndRecords :
    (let w := wordI 0x3D 3 1 0
     let s := { engAt .node w [(1, 0x20008#32)] with dmem := recordBytes }
     Runs s .node w ∧ noWatch s .node = true ∧ wOp w = 0x3D ∧ wRb w = 0 ∧ s.fsndFault .node 0x20008 = none ∧ s.fsndRefuses .node 4 8 0 false = 0) ∧
    (let w := wordI 0x3E 3 1 0
     let s := (engAt .node w []).setEng .node { st := .running, g := [(1, 0x20000#32)], prog := [(0, w)], recvQ := [[1, 2]] }
     Runs s .node w ∧ wOp w = 0x3E ∧ bufferFault .node 0x20000 256 = none ∧ (s.eng .node).recvQ ≠ []) ∧
    (runsI .node [(1, 0x20000#32)] (wordI 0x3E 3 1 0) 0x3E ∧
      ((engAt .node (wordI 0x3E 3 1 0) [(1, 0x20000#32)]).eng .node).recvQ = []) ∧
    (let w := wordI 0x3F 3 1 2
     let s := engAt .node w [(1, 0x20000#32)]
     let t := { s with dmem := recordBytes, hs := { s.hs with on := true, filling := [none, none, some { tier := 2 }] } }.setFld
       Fld.NODE_ROLE_ROLE 1
     Runs t .node w ∧ noWatch t .node = true ∧ wOp w = 0x3F ∧ wFn w < 3 ∧ t.logFault .node 0x20000 = none ∧ t.storeOn = true ∧
       t.hs.filling.getD 2 none = some { tier := 2 } ∧ fromLe (t.dbytes 0x20000 2) = 8) ∧
    (let w := wordI 0x3F 3 1 0
     let s := { engAt .node w [(1, 0x20000#32)] with dmem := recordBytes }
     Runs s .node w ∧ wOp w = 0x3F ∧ s.logFault .node 0x20000 = none ∧ s.storeOn = false) ∧
    (let s := State.reset.setEng .node { sendQ := [{ type := 4, dst := 0, tag := false, payload := [] }] }
     let t := ({ s with mode := .active, link := { s.link with respLeft := 1 } }.setFlag Fld.NODE_NUM_NUMBERED true).setFlag
       (Fld.LP_CTL_EN 0) true
     let u := setDir t 0 1
     u.linkOn = true ∧ u.isRoot = false ∧ u.numbered = true ∧ modeInserts u.mode = true ∧ u.half = 0 ∧ u.portOn u.insertPort = true ∧
       u.dir u.insertPort ≠ 0 ∧ u.oldestResponse { type := 4, dst := 0, tag := false, payload := [] } = true ∧
       u.flag Fld.MEMB_EXCLUDED = false) ∧
    (let s := State.reset.setEng .sweep { sendQ := [{ type := 3, dst := 1, tag := false, payload := [] }] }
     let t := ({ s with mode := .active, tree := { s.tree with binding := [(1, [0, 0, 0, 0, 0, 0x0300, 0, 0])] } }).setFld
       Fld.NODE_ROLE_ROLE 2
     t.isRoot = true ∧ t.route 1 = some 0 ∧ (t.ring 0).speaks = true ∧
       t.laneRoom 0 (engFrame t { type := 3, dst := 1, tag := false, payload := [] }).1 = true) := by
  refine ⟨⟨?_, ?_⟩, ⟨?_, ?_⟩, ⟨runsI_of ?_, ?_⟩, ⟨?_, ?_⟩, ⟨?_, ?_⟩, ?_, ?_⟩
  all_goals first
    | decide
    | (constructor <;> decide)

theorem witness_EngineSupervision :
    (let s := engAt .node 0 []
     s.fld (Fld.ENG_CTL_WDT 1) ≠ 0 ∧ (s.eng .node).st = .running ∧ s.engRun .node = true) ∧
    (let s := waitAt .node (wait .event false 0) 0
     s.fld (Fld.ENG_CTL_WDT 1) ≠ 0 ∧ (s.eng .node).st = .waiting ∧ s.engRun .node = true) ∧
    (let s := { State.reset.setFlag (Fld.ENG_CTL_RUN 2) false with mode := .safe }
     s.engRun .rail = false ∧ modeAsleep s.mode = false ∧ s.mode ≠ .boot ∧ s.st.engFail = false ∧ ∀ t ∈ s.st.cur, 7 < t ∧ t ≠ 11) ∧
    (let s := { State.reset with sw := some { profile := 7 } }
     s.sw = some { profile := 7 } ∧ (s.eng .sweep).staged = false ∧ (s.eng .sweep).page ≤ 1) ∧
    (0x8000#16).getLsbD (4 * Engine.rail.idx + 7) = true := by
  refine ⟨?_, ?_, ?_, ?_, ?_⟩ <;> decide

theorem witness_DebugAccess :
    State.reset.dbgOpen = false ∧
    (let s := { State.reset with dbgKeyArmed := true, timers := [(.dbgKey, 0)], now := 8000, mode := .update }
     s.dbgOpen = false ∧ (s.timers.find? fun p => p.1 == .dbgKey) = some (.dbgKey, 0) ∧ s.now ≤ 0 + 8000) ∧
    (∀ st ∈ [EngState.running, .waiting, .halted],
      let s := { (State.reset.setEng .rail { st := st }).setFld (Fld.ENG_GSEL_REG 2) 15 with dbgOpen := true }
      s.dbgOpen = true ∧ (s.eng .rail).st = st ∧ s.rail.seq.issued = false ∧ s.fld (Fld.ENG_GSEL_REG 2) = 15) := by
  refine ⟨?_, ?_, ?_⟩ <;> decide

/-! ### Registers, the host port and remote access -/

/-- Some row of the map is WO, and its first address is one of its series. -/
theorem witness_WriteOnlyFieldsReadZero :
    ∃ r ∈ mapRows, r.acc = .wo ∧ inSeries r.base r.count r.stride r.base = true ∧ r.lo ≤ r.hi := by decide

theorem witness_RegisterWritesAndBus :
    (0x0100 ≤ (0x0100#15).toNat ∧ (0x0100#15).toNat ≤ 0x01FF) ∧ (0x0100 ≤ (0x01FF#15).toNat ∧ (0x01FF#15).toNat ≤ 0x01FF) ∧
    (0x1A00 ≤ (0x1FFF#15).toNat ∧ (0x1FFF#15).toNat ≤ 0x1FFF) ∧
    (let b : BusWrite := { source := none, addr := 0x01FF, value := 0xFFFF }
     let s := { State.reset with bus := [b] }
     s.bus = [b] ∧ plainSpan b.addr 1 = true) ∧ State.reset.bus = [] := by decide

set_option maxRecDepth 4000 in
/-- Two registers at the end of 0x0100 to 0x01FF, all of them, a word with its check byte wrong, and 0x3F01 to 0x4000. -/
theorem witness_HostPortFrames :
    (modeAsleep State.reset.mode = false ∧ State.reset.hostWait = []) ∧
    (let c := 0x01FE0119#32
     cmdRead c = false ∧ [1#16, 2#16].length = cmdCount c ∧ cmdGood c = true ∧ 0x0100 ≤ cmdAddr c ∧
       cmdAddr c + cmdCount c ≤ 0x0200 ∧ frameCrc [1, 2] ≠ 0) ∧
    (let c := 0x8100FFE8#32
     cmdRead c = true ∧ cmdGood c = true ∧ cmdAddr c = 0x0100 ∧ cmdAddr c + cmdCount c = 0x0200) ∧
    (let c := 0x01FE0118#32
     cmdRead c = false ∧ [1#16, 2#16].length = cmdCount c ∧ cmdGood c = false) ∧
    (let c := 0x3F01FF97#32
     cmdRead c = false ∧ cmdGood c = true ∧ cmdAddr c + cmdCount c = 0x4001) ∧
    (let f : HostFrame := { path := .qspi, cmd := 0x01FE0119, words := [1, 2] }
     f.path = .qspi ∧ f.cut = false ∧ cmdRead f.cmd = false) := by
  refine ⟨?_, ?_, ?_, ?_, ?_, ?_⟩ <;> decide

set_option maxRecDepth 4000 in
theorem witness_DebugPortAndEngineWindow :
    (let c := 0x01FE0119#32
     cmdGood c = true ∧ 0x0100 ≤ cmdAddr c ∧ cmdAddr c + cmdCount c ≤ 0x1400 ∧ cmdRead c = false ∧ 2 = cmdCount c) ∧
    (let c := 0x8100FFE8#32
     cmdGood c = true ∧ 0x0100 ≤ cmdAddr c ∧ cmdAddr c + cmdCount c ≤ 0x1400 ∧ cmdRead c = true) ∧
    (State.reset.fld Fld.WIN_ENG_SPACE = 0 ∧ State.reset.st.cur ≠ some 2 ∧ State.reset.st.cur ≠ some 3) := by
  refine ⟨?_, ?_, ?_⟩ <;> decide

/-- A root with node 1 at position 1 of its ring, present or not. -/
def rootWith (info : Half) : State :=
  { State.reset with mode := .active, tree := { State.reset.tree with binding := [(1, [0, 0, 0, 0, 0, info, 0, 0])] } }.setFld
    Fld.NODE_ROLE_ROLE 2

/-- With the remote window's registers set: destination, length and first address. -/
def remoteAt (s : State) (dst len first : Nat) : State :=
  ((s.setFld Fld.RMT_NODE_NODE dst).setFld Fld.RMT_LEN_COUNT len).setRegN Reg.RMT_ADDR first

theorem witness_RemoteAccessByTheHost :
    (let s := remoteAt (rootWith 0x0301) 0 112 0x0190
     s.isRoot = true ∧ s.fld Fld.RMT_STATUS_STATE ≠ 1 ∧ s.rmtBcast = false ∧ s.rmtNode = 0 ∧ s.rmtLen = 112 ∧
       0x0100 ≤ s.rmtFirst ∧ s.rmtFirst + s.rmtLen = 0x0200) ∧
    (let s := remoteAt (rootWith 0x0301) 1 112 0x3F90
     s.rmtBcast = false ∧ s.rmtNode = 1 ∧ s.rmtLen = 112 ∧ s.rmtFirst + s.rmtLen = 0x4000 ∧ eValid (s.entry 1) = true ∧
       ePresent (s.entry 1) = true ∧ s.route 1 = some 0) ∧
    (let s := remoteAt (rootWith 0x0101) 1 1 0
     s.rmtNode = 1 ∧ s.rmtLen = 1 ∧ ePresent (s.entry 1) = false) ∧
    (remoteAt (rootWith 0x0101) 1 0 0).rmtLen = 0 ∧
    (let s := (rootWith 0x0101).setFld Fld.RMT_STATUS_STATE 1
     let t := { s with tree := { s.tree with remoteSweeps := 0xFFFF } }
     t.isRoot = true ∧ t.fld Fld.RMT_STATUS_STATE = 1 ∧ t.tree.remoteRings = [] ∧
       t.fld Fld.TREE_CTL_REM_TO ≤ t.tree.remoteSweeps) := by
  refine ⟨?_, ?_, ?_, ?_, ?_⟩ <;> decide

/-! ### Acquisition, sense wires, impedance, balancing, transactions -/

/-- In STANDBY with a conversion on request of the main path running, in instants or filter mode. -/
def converting (mode : Nat) : State :=
  { State.reset with mode := .standby, acq := { State.reset.acq with powered := true, req := .measuring, mode := mode } }

def withAcq (s : State) (f : Acq → Acq) : State := { s with acq := f s.acq }

theorem witness_AcquisitionAndRequests :
    ((converting 1).measuring = true ∧ (converting 1).acq.mode = 1 ∧ ∀ e ∈ simEps, (converting 1).mainInService e = true ∧
      (converting 1).reachesSlot e = false ∧
      ((converting 1).chan e).windows + 1 < (converting 1).blockK) ∧
    ((converting 2).measuring = true ∧ (converting 2).acq.mode = 2 ∧ epIsAux 31 = false ∧ (converting 2).mainInService 31 = true ∧
      (converting 2).fedLast 31 = false) ∧
    (let s := withAcq (converting 1) fun a => { a with auxInput := 5 }
     s.measuring = true ∧ s.acq.auxInput < 6 ∧ s.acq.eff.auxEn.getLsbD s.acq.auxInput = true ∧
       s.mainInService (24 + s.acq.auxInput) = true ∧ s.fedLast (24 + s.acq.auxInput) = false) ∧
    (let s := withAcq State.reset fun a => { a with test := [31], sched := true }
     s.sarTest false = false ∧ s.acq.sched = true ∧ s.secServed 31 = true ∧ sarOf 31 = false) ∧
    (let s := { withAcq State.reset fun a => { a with slotB := 15, sched := true } with mode := .active }
     s.sarTest true = false ∧ s.acq.reqSec = false ∧ s.acq.sched = true ∧ s.acq.slotB < 16 ∧
       s.epUnused ((sarEps true).getD s.acq.slotB 0) = false) ∧
    (∀ m ∈ [Mode.standby, .selftest, .safe], ({ State.reset with mode := m }).reqAccepted = true) ∧
    (converting 1).reqBusy = true ∧ (withAcq State.reset fun a => { a with req := .powering }).acq.req = .powering ∧
    (let s := withAcq (converting 1) fun a => { a with
       eff := { a.eff with auxEn := 0 }, chans := (List.range 24 ++ [30, 31]).map fun e => (e, { fresh := true, settled := true, forReq := true }) }
     s.reqComplete = true) ∧
    (snapGroup 0x0208 = some (0x0208, 3) ∧ snapGroup 0x0A88 = some (0x0A88, 48)) := by
  refine ⟨?_, ?_, ?_, ?_, ?_, ?_, ?_, ?_, ?_, ?_⟩ <;> decide

/-- The wire diagnostics in a phase of a test of a pin. -/
def pinTest (ph : PullPhase) (pin : Nat) : State :=
  { State.reset with mode := .active, wd := { State.reset.wd with phase := ph, pin := pin, queue := [(24, true)] } }

theorem witness_WireDiagnostics :
    (State.reset.blockless = false ∧ State.reset.wd.scan = false ∧ State.reset.wd.phase = .idle ∧ State.reset.cells = 24) ∧
    ({ State.reset with wd := { State.reset.wd with scan := true } }).wd.scan = true ∧
    ((24#5).toNat ≤ 24 ∧ 24 < (25#5).toNat ∧ ∀ p ∈ State.reset.wd.queue, p.1 ≠ 24) ∧
    (let s := { State.reset with timers := [(.wdPeriod, 0)] }
     s.regN Reg.WD_PERIOD ≠ 0 ∧ s.running .wdPeriod = true ∧ s.blockless = false ∧ s.wd.scan = false) ∧
    ((pinTest .idle 0).wd.phase = .idle ∧ (pinTest .idle 0).nextPin = some (24, true)) ∧
    (∀ ph ∈ [PullPhase.baseline, .pulling, .reading, .recovery], (pinTest ph 24).wd.phase = ph ∧ ph ≠ .idle ∧ (pinTest ph 24).wd.pin < 25) := by
  refine ⟨?_, ?_, ?_, ?_, ?_, ?_⟩ <;> decide

/-- A plan of one point at 0.1 Hz in a round long enough, in a mode, with a state of the unit. -/
def impPlan : ImpPlan := { ctl := 0x82A0, plan := 0x1040, fstart := 100, tmin := 200, mask := 1, start := 1, round := 2 ^ 32 - 1 }

def impAt (m : Mode) (state : Nat) : State :=
  let s := (State.reset.setReg Reg.IMP_PLAN 0x1040).setPair Reg.IMP_ROUND_LO Reg.IMP_ROUND_HI (2 ^ 32 - 1)
  { s with mode := m, imp := { s.imp with plan := some impPlan, begun := true } }.setFld Fld.IMP_STATUS_STATE state

set_option maxRecDepth 4000 in
theorem witness_ImpedancePlanCommands :
    (let s := impAt .active impIdle
     s.impRegs.inRange = true ∧ roundLongEnough s.impRegs.round s.tb.period s.impRegs.need = true ∧ s.mode = .active ∧
       s.impState ≠ impRunning ∧ s.impRegs.mask % 2 ^ s.cells ≠ 0) ∧
    (let s := impAt .standby impIdle
     s.impRegs.inRange = true ∧ roundLongEnough s.impRegs.round s.tb.period s.impRegs.need = true ∧ s.mode = .standby) ∧
    (let s := { impAt .active impPrepared with tb := { State.reset.tb with cycle := 1 } }
     s.imp.plan = some impPlan ∧ s.impState = impPrepared ∧ s.tb.value = impPlan.start * 65536) ∧
    (let s := { impAt .active impPrepared with tb := { State.reset.tb with cycle := 2 } }
     s.impState = impPrepared ∧ impPlan.start * 65536 < s.tb.value) ∧
    (let s := impAt .spectrum impRunning
     s.imp.plan = some impPlan ∧ s.imp.begun = true ∧ s.impState = impRunning) := by
  refine ⟨?_, ?_, ?_, ?_, ?_⟩ <;> decide

/-- A point of the plan in progress, its one cell before a number of slots. -/
def impPoint (integrating : Bool) (slots : Nat) : State :=
  let s := impAt .spectrum impRunning
  { s with imp := { s.imp with inRound := true, inPoint := true, integrating := integrating, corr := [{ cell := 0, slots := slots }], phase := 2 ^ 40 } }

theorem witness_ImpedanceRounds :
    (let s := { impAt .active impRunning with tb := { State.reset.tb with cycle := 1, prevAcc := 0xFFFFFFFFFFFF } }
     s.imp.plan = some impPlan ∧ s.roundDue impPlan = true) ∧
    ((impPoint false 0).imp.plan = some impPlan ∧ (impPoint false 0).imp.inPoint = true ∧ (impPoint false 0).imp.integrating = false) ∧
    ((impPoint true 0).imp.integrating = true ∧ 0 < impPlan.ni 0 * impPlan.s 0) ∧
    (impPoint true (impPlan.ni 0 * impPlan.s 0)).pointComplete impPlan = true ∧ (impPoint true 0).imp.inRound = true := by
  refine ⟨?_, ?_, ?_, ?_, ?_⟩ <;> decide

/-- In ACTIVE with EN set and cell 0 asking for 10 mA. -/
def balancing (m : Mode) (stage : Nat) : State :=
  ({ State.reset.setReg (Reg.BAL_SP 0) 0x4001 with mode := m }.setFlag Fld.BAL_CTL_EN true).setFld Fld.BAL_STATUS_STAGE stage

theorem balancing_allowed : BalancePlanAllowed (balancing .active stageNone) := by
  constructor
  · decide
  · decide
  · decide
  · decide
  · exact ⟨0, by decide⟩

theorem witness_BalancePlanCommands :
    (BalancePlanAllowed (balancing .active stageNone) ∧ sparseGet (balancing .active stageNone).txn none 1 = none) ∧
    (let s := balancing .standby stageNone
     (∀ k, k < 24 → spSet (s.planRegs.sp.getD k 0) ≤ s.fld Fld.BAL_IMAX_IMAX ∧ spDir (s.planRegs.sp.getD k 0) ≠ 3 ∧
       (spDir (s.planRegs.sp.getD k 0) ≠ 0 → k < s.cells)) ∧ s.mode = .standby) ∧
    (balancing .active stagePrepared).balStage = stagePrepared ∧ (balancing .active stageCommitted).balStage ≠ stageNone ∧
    (let s := { State.reset with bal := { State.reset.bal with running := some { sp := [], bud := [], limit := 0 } }, timers := [(.balPlan, 0)] }
     s.bal.running.isSome = true ∧ s.running .balPlan = true) := by
  refine ⟨⟨balancing_allowed, ?_⟩, ?_, ?_, ?_, ?_⟩ <;> decide

theorem witness_BalancePeriodsAndTrips :
    (List.replicate 24 (-1 : Int)).length = 24 ∧
    (let s := { State.reset with trimsLoaded := true }
     s.isInService 3 = true ∧ s.fld (Fld.BAL_GRP_TRIPS 3) < 255) ∧
    (let s := { State.reset with bal := { State.reset.bal with groups := [{}, {}, {}, { off := true }] } }
     (s.balGrp 3).off = true ∧ (s.balGrp 3).hold = 0) := by
  refine ⟨?_, ?_, ?_⟩ <;> decide

/-- A unicast frame of a type with the tag of session key 0 in generation 0, under the pair of reset. -/
def taggedOf (type : Nat) (body : List Byte) : Frame :=
  { type := type, src := 0, dst := 1, seq := 0, flags := 2
    payload := body ++ makeTag 0#128 (tagString type (body.length + 8) 0 1 0 0 1 0 body) }

abbrev taggedFrame : List Byte → Frame := taggedOf 3

/-- The tag of such a frame is good at a node that holds that session and has seen no tag yet. -/
theorem taggedOf_good (s : State) (type : Nat) (body : List Byte) (hk : s.keys.session = some 0#128) (hg : s.keys.kgen = 0)
    (hp : s.keys.pairs = [(0, 0)]) (hs : s.keys.seen = []) : (checkTag s (taggedOf type body)).1 = .good := by
  have ht8 (str : List Byte) : (makeTag 0#128 str).length = 8 := rfl
  have hl : (taggedOf type body).payload.length = body.length + 8 := by simp [taggedOf, ht8]
  have hbody : tagBody (taggedOf type body) = body := by simp [tagBody, hl]; simp [taggedOf]
  have htag : tagOf (taggedOf type body) = makeTag 0#128 (tagString type (body.length + 8) 0 1 0 0 1 0 body) := by
    simp [tagOf, hl]; simp [taggedOf]
  have ht : tagFor (taggedOf type body) 0#128 1 0 (0, 0) = tagOf (taggedOf type body) := by
    rw [htag, tagFor, hbody, hl]; rfl
  have hb : (taggedOf type body).bcast = false := by change (1#16).getLsbD 13 = false; decide
  have hf : (taggedOf type body).tagged = true := by change (2#8).getLsbD 1 = true; decide
  have hq : s.tagPair (taggedOf type body) = some (0, 0) := by
    simp [State.tagPair, State.tagKeys, hk, hg, hp, hl, hb, hf, ht]
  simp [checkTag, hq, hs]

theorem taggedFrame_good (s : State) (body : List Byte) (hk : s.keys.session = some 0#128) (hg : s.keys.kgen = 0)
    (hp : s.keys.pairs = [(0, 0)]) (hs : s.keys.seen = []) : (checkTag s (taggedFrame body)).1 = .good :=
  taggedOf_good s 3 body hk hg hp hs

/-- A node in ACTIVE with that session. -/
def inSession : State := { balancing .active stageNone with keys := { State.reset.keys with session := some 0#128 } }

/-- A transaction command: OP, SUBSYS, ID 5, ACT 1. -/
def txnFrame (op sub : Byte) : Frame := taggedFrame [op, sub, 5, 0, 1, 0, 0, 0]

def txnAt (x : TxnStage) : State := { inSession with txn := [(1, some x)] }

theorem witness_Transactions :
    (∀ op ∈ [(1 : Byte), 2, 3, 4, 5, 6], TxnFrame (txnFrame op 1) op.toNat 1 5 1 ∧ (checkTag inSession (txnFrame op 1)).1 = .good) ∧
    (inSession.txnStage 1 = none ∧ BalancePlanAllowed inSession) ∧
    (let s := txnAt { id := 5, expiry := 1 }
     s.txnStage 1 = some { id := 5, expiry := 1 } ∧ (checkTag s (txnFrame 1 1)).1 = .good ∧
       (checkTag s (txnFrame 2 1)).1 = .good ∧ sweepAfter 1 s.sweepNum = true) ∧
    (let s := (txnAt { id := 5, expiry := 1 }).setRegN Reg.SWEEP_NUM 1
     s.txnStage 1 = some { id := 5, expiry := 1 } ∧ (checkTag s (txnFrame 2 1)).1 = .good ∧ sweepAfter 1 s.sweepNum = false) ∧
    (let s := txnAt { id := 5, expiry := 1, act := some 1, active := true }
     s.txnStage 1 = some { id := 5, expiry := 1, act := some 1, active := true } ∧ (checkTag s (txnFrame 4 1)).1 = .good ∧
       (checkTag s (txnFrame 5 1)).1 = .good) ∧
    ((checkTag State.reset { txnFrame 1 1 with flags := 0 }).1 = .bad ∧ TxnFrame { txnFrame 1 1 with flags := 0 } 1 1 5 1) ∧
    (let s := ((State.reset.setFld Fld.NODE_ROLE_ROLE 2).setFld Fld.TXN_CTL_SUBSYS 1).setFld Fld.TXN_CTL_SCOPE 1
     let t := { s with txnTargets := [1] }
     t.isRoot = true ∧ t.txnPhase = phIdle ∧ t.fld Fld.TXN_CTL_SUBSYS = 1 ∧ 0 ∉ t.txnScope) ∧
    (let s := State.reset.setFld Fld.TXN_STATUS_PHASE phPreparing
     s.txnPhase = phPreparing ∧ s.rootTxn.committed = false ∧ s.rootTxn.rollbackSent = false ∧ 0 ∉ s.rootTxn.prepAck ∧
       0 ∉ s.rootTxn.activeMap) := by
  have good (s : State) (op : Byte) (hk : s.keys = inSession.keys) : (checkTag s (txnFrame op 1)).1 = .good :=
    taggedFrame_good s _ (by rw [hk]; rfl) (by rw [hk]; rfl) (by rw [hk]; rfl) (by rw [hk]; rfl)
  have frame (op : Byte) (n : Nat) (h : op.toNat = n) : TxnFrame (txnFrame op 1) n 1 5 1 :=
    ⟨by change 8 ≤ 16; decide, by subst h; exact Nat.add_zero _, rfl, rfl, rfl, by decide⟩
  refine ⟨fun op _ => ⟨frame op _ rfl, good _ _ rfl⟩, ⟨rfl, ?_⟩, ⟨rfl, good _ _ rfl, good _ _ rfl, by decide⟩,
    ⟨rfl, good _ _ rfl, by decide⟩, ⟨rfl, good _ _ rfl, good _ _ rfl⟩, ⟨rfl, ?_⟩, by decide, by decide⟩
  · exact ⟨balancing_allowed.cells, .inl rfl, balancing_allowed.enabled, balancing_allowed.groups, balancing_allowed.asks⟩
  · exact ⟨by change 8 ≤ 16; decide, rfl, rfl, rfl, rfl, by decide⟩

/-! ### The timebase, compare units, generators, monitors -/

/-- A node that takes PHASE_IN, in a lock state, its timebase given. -/
def phaseAt (state : Nat) (tb : Timebase) : State := { State.reset with tb := { tb with src := 1 } }.setFld Fld.TB_STATUS_STATE state

/-- A root in ACTIVE with its ring ports transmitting. -/
def rootActive : State := setDir (rootWith 0x0301) 0 1

theorem witness_TheTimebase :
    State.reset.tbSource ≠ 1 ∧
    (let s := phaseAt tbLocked {}
     s.tbSource = 1 ∧ s.tbState = tbLocked ∧ withinPull s.pull s.tb.period (16 * 8800) = true ∧
       withinPull s.pull s.tb.period (16 * 8801) = false ∧ s.tb.rejected.length < 3) ∧
    (let s := phaseAt tbLocked { rejected := [9000, 9000, 9000] }
     s.tbState = tbLocked ∧ 3 ≤ s.tb.rejected.length ∧
       ((9000 :: s.tb.rejected).take 4).Pairwise (fun a b => withinPull s.pull b a = true) ∧
       withinPull s.pull s.tb.period (16 * 9000) = false) ∧
    (let s := phaseAt tbFree { goodIntervals := 1, lastInterval := some 1600 }
     s.freeRunning = true ∧ s.tb.goodIntervals = 1 ∧ s.tb.lastInterval = some 1600 ∧ withinPull s.pull 1600 1760 = true) ∧
    (∀ st ∈ [tbLocked, tbAcquire], (phaseAt st { missCount := 4 }).tbState = st ∧
      (phaseAt st { missCount := 4 }).fld Fld.TB_CTL_MISS ≤ (phaseAt st { missCount := 4 }).tb.missCount) ∧
    (∀ v ∈ [false, true], let r := { State.reset with mode := .active }.setFlag Fld.MS_STATUS_LAT_VALID v
     let s := r.setFld Fld.TB_STATUS_STATE tbLocked
     s.linkOn = true ∧ (s.isHub && s.tb.localDom) = false ∧ s.flag Fld.MS_STATUS_LAT_VALID = v ∧ s.tbSource = 2 ∧ s.tbState = tbLocked) ∧
    (rootActive.isRoot = true ∧ State.reset.isRoot = false ∧ rootActive.heads 0 = true ∧ rootActive.linkOn = true ∧
      rootActive.inHalves 0 = false ∧ rootActive.portOn (txPort 0) = true ∧ rootActive.dir (txPort 0) ≠ 0) := by
  refine ⟨?_, ?_, ?_, ?_, ?_, ?_, ?_⟩ <;> decide

/-- Unit 7 enabled in a mode, armed and late, its flag set. -/
def compareAt (ctl : Half) : State :=
  { (State.reset.setReg (Reg.CMP_CTL 7) ctl).setBits Reg.CMP_FLAGS 0x80 with tb := { State.reset.tb with armed := 0x80, late := 0x80 } }

theorem witness_CompareUnitsAndGenerators :
    (let s := compareAt 0x0001
     s.cmpEn 7 = true ∧ s.cmpAbs 7 = false) ∧
    (let s := compareAt 0x0033
     s.cmpEn 7 = true ∧ s.cmpAbs 7 = true ∧ s.cmpFires 7 = true ∧ (s.reg Reg.CMP_FLAGS).getLsbD 7 = true) ∧
    ((2#16).getLsbD 0 = false ∧ (2#16).getLsbD 1 = true) ∧ State.reset.cmpFires 7 = false ∧
    (let s := (State.reset.setReg (Reg.PG_CTL 3) 1).setReg (Reg.PG_FALL 3) 1
     genEn (s.reg (Reg.PG_CTL 3)) = true ∧ genTrig (s.reg (Reg.PG_CTL 3)) = false ∧ genTickDomain (s.reg (Reg.PG_CTL 3)) = false ∧
       s.quietOn = false ∧ (s.reg (Reg.PG_RISE 3)).toNat < (s.reg (Reg.PG_FALL 3)).toNat) := by
  refine ⟨?_, ?_, ?_, ?_, ?_⟩ <;> decide

/-- Monitor 28, a cell's, enabled with IRQ = 1 in a mode, sampled or not, settled or not, its comparator ABOVE. -/
def monitorAt (m : Mode) (sampled settled : Bool) : State :=
  let s := ((State.reset.setFlag (Fld.MON_CTL_EN 28) true).setFlag (Fld.MON_CTL_SAMPLED 28) sampled).setFlag (Fld.MON_CTL_IRQ 28) true
  { s with mode := m, mon := { s.mon with comp := [(28, .above)], settled := if settled then [28] else [] } }

theorem witness_WindowMonitors :
    (∀ settled ∈ [true, false], let s := monitorAt .active false settled
     s.monActive 28 = true ∧ s.monSampled 28 = false ∧ s.monSettled 28 = settled ∧ s.monReported 28 ≠ s.monComp 28) ∧
    (let s := monitorAt .active true true
     (List.replicate 41 (90000000 : Int)).length = 41 ∧ s.monActive 28 = true ∧ s.monSampled 28 = true ∧ s.monSettled 28 = true) ∧
    (let s := { monitorAt .active true true with mon := { (monitorAt .active true true).mon with run := [(28, .above, 0)] } }
     (s.mon.run.find? fun p => p.1 == 28) = some (28, .above, 0) ∧ s.monDecide 28 90000000 = .above ∧ s.monReported 28 = .inside) ∧
    (let s := (monitorAt .watch true true).setFld Fld.CMP_SAMPLE_SCM1 0
     s.monSampled 28 = true ∧ s.flag (Fld.MON_CTL_IRQ 28) = true ∧ s.fld Fld.CMP_SAMPLE_SCM1 = 0 ∧
       s.monDecide 28 90000000 = .above ∧ s.monReported 28 = .inside) ∧
    (let s := State.reset
     monWindowOk 40 1023 (s.fld (Fld.MON_LO_CODE 40)) (s.fld (Fld.MON_CTL_HYST 40)) = true ∧
     monWindowOk 40 (s.fld (Fld.MON_LO_CODE 40)) (s.fld (Fld.MON_LO_CODE 40)) (s.fld (Fld.MON_CTL_HYST 40)) = false ∧
     monWindowOk 40 (s.fld (Fld.MON_HI_CODE 40)) 0 (s.fld (Fld.MON_CTL_HYST 40)) = true) := by
  refine ⟨?_, ?_, ?_, ?_, ?_⟩ <;> decide

/-! ### The link, rings, the tree -/

/-- Member 5 of ring 0 at position 3, awake, A0 downstream and A1 upstream. -/
def memberAt (half : Nat) : State :=
  let s := ({ State.reset with mode := .active }.setFlag Fld.NODE_NUM_NUMBERED true).setFld Fld.NODE_NUM_NODE 5
  let s := (((s.setFld Fld.MEMB_POS 3).setFld Fld.MEMB_HALF half).setFld (Fld.LP_STATUS_DIR 0) 1).setFld (Fld.LP_STATUS_DIR 1) 2
  { s with keys := { s.keys with session := some 0#128 } }

/-- A COMMAND of the root for an engine of node 5, and its bytes under epoch 0. -/
def engineCommand : Frame := { type := 3, src := 0, dst := 5, seq := 2047, flags := 0, payload := [0xC0, 0, 0, 0] }

/-- A MEASURE frame of node 1. -/
def measureFrame : Frame := { type := 2, src := 1, dst := 0, seq := 0, flags := 0, payload := List.replicate 112 0 }

/-- A root whose ring is open for nodes 1 and 2. -/
def rootOpen : State :=
  let s := rootActive.setFld (Fld.LP_STATUS_DIR 1) 2
  { s with rings := [{ isOpen := true, train := true, expected := [1, 2], enumStep := 1, members := [{ factory := 1, node := some 1, pos := 1 }] }] }

def framePasses (s : State) (f : Frame) : Prop :=
  let bs := sealFrame f (s.epoch 0)
  parseFrame bs = f ∧ 18 ≤ bs.length ∧ rsDecode bs = some (bs, 0) ∧ leAt bs 1 1 = bs.length - 18 ∧ crcGood (s.epoch 0) bs = true ∧
  lenAllowed f.type f.payload.length = true

/-- A sealed frame passes every check, if its bytes parse to it and say its length. -/
theorem framePasses_of (s : State) (f : Frame) (hl : lenAllowed f.type f.payload.length = true)
    (hp : ∀ c q : List Byte, c.length = 4 → q.length = 6 → parseFrame (frameBody f ++ c ++ q) = f ∧
      leAt (frameBody f ++ c ++ q) 1 1 = f.payload.length) : framePasses s f := by
  have hb : (frameBody f).length = f.payload.length + 8 := by simp [frameBody, leBytes]
  have hq (m : List Byte) : (rsParity m).length = 6 :=
    (parity_cancels 0 (by decide) m 0 [0, 0, 0, 0, 0, 0] rfl (by decide)).2
  let x := crc32 (crcSeed (s.epoch 0) f.src f.seq) (frameBody f)
  have hc : (leBytes 4 x.toNat).length = 4 := rfl
  have he : sealFrame f (s.epoch 0) = frameBody f ++ leBytes 4 x.toNat ++ rsParity (frameBody f ++ leBytes 4 x.toNat) := rfl
  obtain ⟨h1, h2⟩ := hp (leBytes 4 x.toNat) (rsParity (frameBody f ++ leBytes 4 x.toNat)) hc (hq _)
  have hn : (sealFrame f (s.epoch 0)).length = f.payload.length + 18 := by
    rw [he]; simp only [List.length_append, hb, hc, hq]
  have hx : fromLe (leBytes 4 x.toNat) = x.toNat := by
    have := x.isLt
    simp [leBytes, fromLe]
    omega
  refine ⟨by rw [he]; exact h1, by rw [hn]; omega, rsDecode_parity _, by rw [he, h2, ← he, hn]; rfl, ?_, hl⟩
  have hm : (sealFrame f (s.epoch 0)).length - 10 = (frameBody f).length := by rw [hn, hb]; omega
  have ht : (sealFrame f (s.epoch 0)).take (frameBody f).length = frameBody f := by
    rw [he, List.append_assoc, List.take_left']; rfl
  have hv : leAt (sealFrame f (s.epoch 0)) (frameBody f).length 4 = x.toNat := by
    rw [leAt, slice, he, List.append_assoc, List.drop_left' rfl, List.take_left' hc, hc]
    simpa using hx
  have hf : parseFrame (sealFrame f (s.epoch 0)) = f := by rw [he]; exact h1
  simp only [crcGood, hm, ht, hv, hf, x, beq_self_eq_true]

theorem engineCommand_passes : framePasses (memberAt 0) engineCommand := by
  refine framePasses_of _ _ (by decide) fun c q hc hq => ?_
  match c, q, hc, hq with
  | [c0, c1, c2, c3], [q0, q1, q2, q3, q4, q5], _, _ =>
    exact ⟨by simp [parseFrame, engineCommand, frameBody, leAt, slice, fromLe, leBytes], rfl⟩

theorem measureFrame_passes : framePasses rootOpen measureFrame := by
  refine framePasses_of _ _ (by decide) fun c q hc hq => ?_
  match c, q, hc, hq with
  | [c0, c1, c2, c3], [q0, q1, q2, q3, q4, q5], _, _ =>
    exact ⟨by simp [parseFrame, measureFrame, frameBody, leAt, slice, fromLe, leBytes], rfl⟩

set_option maxRecDepth 4000 in
theorem witness_LinkFramesAtAPort :
    (State.reset.listens 1 = false ∧ (memberAt 0).listens 1 = true ∧ (memberAt 0).takesIn 0 [] = false ∧
      (memberAt 0).takesIn 0 (frameBody engineCommand) = true) ∧
    ((memberAt 0).takesIn 0 [0, 0, 0, 0, 5, 0] = true ∧ [0, 0, 0, 0, 5, 0].length < 18) ∧
    (let bs : List Byte := [0, 0, 0, 0, 5, 0, 0, 0, 0, 0, 0, 0, 0, 0, 0, 1, 2, 3]
     (memberAt 0).takesIn 0 bs = true ∧ rsDecode bs = none ∧ crcGood ((memberAt 0).epoch 0) bs = false) ∧
    (framePasses (memberAt 0) engineCommand ∧ (memberAt 0).heads 0 = false ∧ engineCommand.bcast = false ∧
      (memberAt 0).numbered = true ∧ engineCommand.dstNode = (memberAt 0).nodeNum ∧ (memberAt 0).inWindow 0 engineCommand = true ∧
      engineCommand.type = tyCommand ∧ (memberAt 0).engNode.recvQ.length < 8) ∧
    (let s := { memberAt 0 with link := { (memberAt 0).link with windows := [(0, 2048)] } }
     s.inWindow 0 engineCommand = false) ∧
    (framePasses rootOpen measureFrame ∧ rootOpen.listens 1 = true ∧ rootOpen.isRoot = true ∧ rootOpen.inWindow 0 measureFrame = true ∧
      measureFrame.type = tyMeasure ∧ (rootOpen.ring 0).isOpen = true ∧ rootOpen.flag Fld.KEY_CTL_MTAG_REQ = false ∧
      ∃ m ∈ (rootOpen.ring 0).expected, m ≠ 1 ∧ m ∉ (rootOpen.ring 0).got) ∧
    ((memberAt 0).passes 1 = true ∧ (memberAt 0).portOn 0 = true) := by
  refine ⟨?_, ?_, ?_, ⟨engineCommand_passes, ?_⟩, ?_, ⟨measureFrame_passes, ?_⟩, ?_⟩
  · decide
  · decide
  · decide +kernel
  · decide
  · decide
  · decide
  · decide

theorem witness_LinkSignals :
    (let s := rootActive.setFld (Fld.RNG_STATUS_STATE 0) 2
     s.linkOn = true ∧ s.heads 0 = true ∧ s.portOn 1 = true ∧ s.rngState 0 = 2) ∧
    ((memberAt 0).linkOn = true ∧ (memberAt 0).heads 0 = false ∧ (memberAt 0).portOn 1 = true ∧
      (memberAt 0).flag Fld.MEMB_EXCLUDED = false ∧ (memberAt 0).half = 0 ∧ (memberAt 0).dir 1 = 2) ∧
    (∀ m ∈ [Mode.ship, .watch], ({ State.reset with mode := m }).linkOn = false) ∧
    (let s := { State.reset with link := { State.reset.link with wakePort := some 1 } }
     s.mode = .boot ∧ s.link.wakePort = some 1) := by
  refine ⟨?_, ?_, ?_, ?_⟩ <;> decide

theorem witness_TrainsAndRetransmission :
    ((memberAt 0).heads 0 = false ∧ (memberAt 0).linkOn = true ∧ (memberAt 0).flag Fld.MEMB_EXCLUDED = false ∧ (memberAt 0).half = 0 ∧
      (memberAt 0).numbered = true ∧ modeInserts (memberAt 0).mode = true ∧ (memberAt 0).link.measureSent = false) ∧
    (let s := { memberAt 0 with link := { (memberAt 0).link with insertion := [measureFrame] } }
     s.heads 0 = false ∧ s.linkOn = true ∧ s.link.insertion = measureFrame :: [] ∧ s.flag Fld.MEMB_EXCLUDED = false ∧
       (s.setFlag Fld.MEMB_EXCLUDED true).flag Fld.MEMB_EXCLUDED = true) ∧
    (let f : Frame := { engineCommand with payload := [0, 0, 2, 0] }
     let s := { memberAt 0 with link := { (memberAt 0).link with measure := some (0, measureFrame) } }
     f.bcast = false ∧ f.dstNode = s.nodeNum ∧ leAt f.payload 2 1 = 2 ∧ s.link.measure = some (leAt f.payload 0 2, measureFrame) ∧
       s.flag Fld.KEY_CTL_MTAG = false) ∧
    (rootOpen.heads 0 = true ∧ (rootOpen.ring 0).train = true ∧ (rootOpen.ring 0).isOpen = true ∧ rootOpen.inHalves 0 = false ∧
      (rootOpen.ring 0).taken = false ∧ (rootActive.ring 0).isOpen = false) := by
  refine ⟨?_, ?_, ?_, ?_⟩ <;> decide

/-- REMOTE READ and WRITE of one register, at 0x01FF, and of two from 0x3FFF. -/
def remoteCommand (payload : List Byte) : Frame := { type := 3, src := 0, dst := 5, seq := 0, flags := 0, payload := payload }

theorem witness_NodeServesRemoteAccess :
    ((memberAt 0).isRoot = false ∧ (memberAt 0).linkOn = true) ∧
    (let f := remoteCommand [0x10, 1, 0xFF, 1]
     remoteShape f = true ∧ f.bcast = false ∧ leAt f.payload 0 1 = 0x10 ∧ leAt f.payload 2 2 + leAt f.payload 1 1 = 0x0200) ∧
    (let f := remoteCommand [0x10, 2, 0xFF, 0x3F]
     remoteShape f = true ∧ leAt f.payload 2 2 + leAt f.payload 1 1 = 0x4001) ∧
    (let f := taggedFrame [0x11, 1, 0xFF, 1, 0xFF, 0xFF]
     remoteShape f = true ∧ f.bcast = false ∧ leAt f.payload 0 1 = 0x11 ∧ leAt f.payload 2 2 + leAt f.payload 1 1 = 0x0200 ∧
       (checkTag (memberAt 0) f).1 = .good) ∧
    (let f := remoteCommand ([0x11, 1, 0xFF, 1, 0xFF, 0xFF] ++ List.replicate 8 0)
     remoteShape f = true ∧ leAt f.payload 0 1 = 0x11 ∧ (checkTag (memberAt 0) f).1 = .bad) := by
  refine ⟨by decide, by decide, by decide, ⟨rfl, ?_, rfl, rfl, ?_⟩, by decide⟩
  · change (1#16).getLsbD 13 = false; decide
  · exact taggedFrame_good _ _ rfl rfl rfl rfl

/-- A RING_CTL frame of the head to every member. -/
def control (payload : List Byte) : Frame := { type := 8, src := 0, dst := 0x2000, seq := 0, flags := 0, payload := payload }

/-- The number eight bytes spell, lowest first, is the number they were made of. -/
theorem leBytes_eight (x : Nat) (h : x < 2 ^ 64) (a : Byte) (rest : List Byte) : leAt (a :: leBytes 8 x ++ rest) 1 8 = x := by
  simp [leAt, slice, leBytes, fromLe]
  omega

theorem witness_Enumeration :
    ((memberAt 0).takesControl (control [1, 0, 0, 0]) 0x01 = true ∧ (memberAt 0).takesControl (control [3, 0, 0, 0]) 0x03 = true ∧
      (memberAt 0).portOn 1 = true ∧ (memberAt 0).dir 1 = 2) ∧
    (rootOpen.headTakes 0 (control [2]) 0x02 = true ∧ (rootOpen.ring 0).enumStep ≠ 0 ∧ (rootOpen.ring 0).enumStep < 4 ∧
      rootOpen.heads 0 = true) ∧
    ((memberAt 0).heads 0 = false ∧ (memberAt 0).linkOn = true ∧ { control (List.replicate 8 0) with type := 7 }.type = tyEcho) ∧
    (let f := control (4 :: leBytes 8 factory ++ [5, 0, 3, 0])
     (memberAt 0).takesControl f 0x04 = true ∧ leAt f.payload 1 8 = factory) ∧
    (let f := control (4 :: leBytes 8 (if factory = 0 then 1 else 0) ++ [5, 0, 3, 0])
     (memberAt 0).takesControl f 0x04 = true ∧ leAt f.payload 1 8 ≠ factory) ∧
    (rootActive.mayHead 0 = true ∧ rootActive.rngState 0 ≠ 3 ∧ rootActive.rngState 0 ≠ 4) := by
  have takes (rest : List Byte) : (memberAt 0).takesControl (control (4#8 :: rest)) 0x04 = true := by
    have h1 : (memberAt 0).linkOn = true := by decide
    have h2 : (memberAt 0).heads 0 = false := by decide
    have h3 : (memberAt 0).fromHead (control (4#8 :: rest)) = true := by
      change (!(memberAt 0).numbered || 0 == (memberAt 0).fld Fld.MEMB_HEAD_HEAD) = true; decide
    have h4 : leAt (control (4#8 :: rest)).payload 0 1 = 4 := rfl
    simp [State.takesControl, h1, h2, h3, h4]
  refine ⟨by decide, by decide, by decide, ⟨takes _, ?_⟩, ⟨takes _, ?_⟩, by decide⟩
  · exact leBytes_eight _ Config.factoryNumber.isLt _ _
  · have h := leBytes_eight (if factory = 0 then 1 else 0) (by split <;> decide) 4 [5, 0, 3, 0]
    change leAt (4 :: leBytes 8 (if factory = 0 then 1 else 0) ++ [5, 0, 3, 0]) 1 8 ≠ factory
    rw [h]; split <;> omega

/-- A root's ring of four members in a state, in halves after position 2. -/
def ringAt (state : Nat) : State :=
  let m (n : Nat) : Member := { factory := n, node := some n, pos := n }
  { rootActive with mode := .service, rings := [{ members := [m 1, m 2, m 3, m 4], endA := 2, endB := 3 }] }.setFld
    (Fld.RNG_STATUS_STATE 0) state

theorem witness_BreaksAndHalves :
    (let f : Frame := { control [5, 0, 0, 0] with src := 4 }
     (ringAt 2).headTakes 0 f 0x05 = true ∧ ((ringAt 2).memberOf 0 4).isSome = true ∧ (ringAt 2).rngState 0 = 2) ∧
    ((memberAt 0).takesControl (control [6, 1, 2, 3, 0, 0, 1]) 0x06 = true ∧ leAt [6, 1, 2, 3, 0, 0, 1] 2 1 = 2) ∧
    ((memberAt 1).half ≠ 0 ∧ (memberAt 2).half = 2) ∧
    ((ringAt 3).linkOn = true ∧ (ringAt 3).heads 0 = true ∧ (ringAt 3).rngState 0 = 3 ∧ 0 < ((ringAt 3).ring 0).endA ∧
      ((ringAt 3).ring 0).endB ≤ ((ringAt 3).ring 0).members.length ∧ (ringAt 3).mayHead 0 = true) ∧
    (let s := ((memberAt 2).setFlag Fld.MEMB_END true).setFlag (Fld.LP_STATUS_ALIGNED 1) true
     s.linkOn = true ∧ s.heads 0 = false ∧ s.half = 2 ∧ s.flag Fld.MEMB_END = true ∧ s.flag (Fld.LP_STATUS_ALIGNED 1) = true) ∧
    (∀ auto ∈ [false, true], let s := (ringAt 3).setFlag (Fld.RNG_CTL_MEND_AUTO 0) auto
     s.headTakes 0 (control [7, 0, 0, 0]) 0x07 = true ∧ s.flag (Fld.RNG_CTL_MEND_AUTO 0) = auto ∧ s.rngState 0 = 3 ∧
       (s.ring 0).taken = false) ∧
    (memberAt 1).takesControl (control [8, 1, 1, 0]) 0x08 = true ∧
    ((ringAt 2).mode = .service ∧ (1#6).toNat = 1 ∧ (4#6).toNat ≤ ((ringAt 2).ring 0).members.length) := by
  refine ⟨?_, ?_, ?_, ?_, ?_, ?_, ?_, ?_⟩ <;> decide

theorem witness_TreeServices :
    ((memberAt 0).takesControl (control [9, 0, 0, 0]) 0x09 = true ∧ (memberAt 0).isRoot = false ∧ modeAsleep (memberAt 0).mode = false ∧
      (memberAt 0).mode ≠ .boot) ∧
    (∀ safe ∈ [false, true], let s := (memberAt 0).setFlag Fld.HB_NODE_HB_SAFE safe
     s.isRoot = false ∧ s.mode ≠ .boot ∧ s.flag Fld.HB_NODE_HB_SAFE = safe ∧ s.mc.shutdown = none) ∧
    (rootActive.isRoot = true ∧ rootActive.linkOn = true ∧ rootActive.mode ≠ .boot) ∧
    (let f := taggedFrame [0x30, 9, 0]
     let s := (((memberAt 0).setFlag Fld.TKO_CTL_EN true).setFld Fld.TKO_CTL_FOR 9).setFlag Fld.NODE_ROLE_LANE1_WIRED true
     s.mayTake 9 = true ∧ (memberAt 0).mayTake 9 = false ∧ leAt f.payload 1 2 % 8192 = 9 ∧ f.payload.length = 11 ∧
       (checkTag s f).1 = .good ∧ (checkTag (memberAt 0) f).1 = .good) ∧
    (let f := taggedFrame [0x31, 9, 0]
     let s := { memberAt 0 with ms := { (memberAt 0).ms with holds := some 9 } }
     leAt f.payload 0 1 = 0x31 ∧ f.payload.length = 11 ∧ (checkTag s f).1 = .good ∧ s.ms.holds = some 9) ∧
    (∀ left ∈ [0, 1], let s := { rootActive with hs := { rootActive.hs with on := true, ckptLeft := left } }
     s.isRoot = true ∧ s.storeOn = true ∧ s.hs.ckptLeft = left) ∧
    (let s := { rootActive with mode := .service }.setRegN Reg.BIND_SEL 1
     s.isRoot = true ∧ s.regN Reg.BIND_SEL % 8192 ≠ 0) ∧
    (let f := taggedOf 9 [8, 3, 0xFF, 0xFF, 0xFF, 0xFF]
     let s := { memberAt 0 with mode := .update }
     f.type = tyBulk ∧ s.heads 0 = false ∧ tagBody f = [8, 3, 0xFF, 0xFF, 0xFF, 0xFF] ∧ (checkTag s f).1 = .good ∧
       s.fld Fld.PROF_STATUS_ACTIVE ≠ 7) := by
  have good (s : State) (type : Nat) (body : List Byte) (hk : s.keys = (memberAt 0).keys) : (checkTag s (taggedOf type body)).1 = .good :=
    taggedOf_good s type body (by rw [hk]; rfl) (by rw [hk]; rfl) (by rw [hk]; rfl) (by rw [hk]; rfl)
  refine ⟨by decide, by decide, by decide, ⟨by decide, by decide, rfl, rfl, good _ 3 _ rfl, good _ 3 _ rfl⟩, ⟨rfl, rfl, good _ 3 _ rfl, rfl⟩,
    by decide, by decide, ⟨rfl, by decide, rfl, good _ 9 _ rfl, by decide⟩⟩

theorem witness_SweepStarts :
    (∀ o ∈ [false, true], let s := { rootActive with tree := { rootActive.tree with sweepOpen := o } }.setFlag Fld.TREE_CTL_SWEEP_EN true
     s.isRoot = true ∧ s.flag Fld.TREE_CTL_SWEEP_EN = true ∧ s.tree.sweepOpen = o ∧ modeAsleep s.mode = false ∧ s.mode ≠ .boot) ∧
    (State.reset.isRoot = false ∧ modeAsleep State.reset.mode = false ∧ State.reset.mode = .boot) ∧
    (let s := { State.reset with timers := [(.sweepLapse, 0)] }
     s.isRoot = false ∧ s.running .sweepLapse = true) := by
  refine ⟨?_, ?_, ?_⟩ <;> decide


/-! ### The history store, the flash, the rails -/

/-- A hub with a store of 2^10 blocks on, its writes permitted or not, in a mode. -/
def storeOn (m : Mode) (permitted : Bool) : State :=
  let s := { State.reset with mode := m, hs := { State.reset.hs with on := true, work := { blkLog2 := 10 } } }.setFld Fld.NODE_ROLE_ROLE 1
  { s with fla := { s.fla with supplyIf := permitted, supplyNand := permitted, holdIf := permitted, holdNand := permitted } }.setFlag
    Fld.TH_STATUS_WRITE_OK permitted

def withHs (s : State) (f : Store → Store) : State := { s with hs := f s.hs }

def withFla (s : State) (f : Flash → Flash) : State := { s with fla := f s.fla }

/-- An event page's buffer of one record. -/
def buffer : PageBuf := { tier := 2, data := [1, 2, 3], nrec := 1 }

/-- A page as read whose bytes before META0 are zeros. -/
def pageRead (m0 m1 : List Byte) : List Byte := List.replicate 4256 0 ++ m0 ++ m1 ++ List.replicate 32 0

theorem pageRead_meta (m0 m1 : List Byte) (h0 : m0.length = 32) (h1 : m1.length = 32) :
    (pageRead m0 m1).length = 4352 ∧ pageMeta (pageRead m0 m1) 0 = m0 ∧ pageMeta (pageRead m0 m1) 1 = m1 ∧
      pageMeta (pageRead m0 m1) 2 = List.replicate 32 0 := by
  have h : ∀ k, pageMeta (pageRead m0 m1) k = slice (m0 ++ (m1 ++ List.replicate 32 0)) (32 * k) 32 := by
    intro k
    unfold pageMeta slice pageRead
    rw [List.append_assoc, List.append_assoc, ← List.drop_drop, List.drop_left' (List.length_replicate ..)]
  refine ⟨by simp only [pageRead, List.length_append, List.length_replicate, h0, h1], ?_, ?_, ?_⟩ <;> rw [h]
  · simp only [slice, Nat.mul_zero, List.drop_zero, List.take_left' h0, h0, Nat.sub_self, List.replicate_zero, List.append_nil]
  · simp only [slice, Nat.mul_one, List.drop_left' h0, List.take_left' h1, h1, Nat.sub_self, List.replicate_zero, List.append_nil]
  · simp only [slice, show 32 * 2 = 32 + 32 from rfl, ← List.drop_drop, List.drop_left' h0, List.drop_left' h1,
      List.take_replicate, List.length_replicate, Nat.min_self, Nat.sub_self, List.replicate_zero, List.append_nil]

/-- A read page: META0 passes, or META0 fails and META1 passes, or all fail. -/
theorem witness_HistoryStoreOrders_read :
    let m := metaBytes { tier := 0, data := [7] } 8192
    (∀ l ∈ [pageRead m m, pageRead (List.replicate 32 0) m, pageRead (List.replicate 32 0) (List.replicate 32 0)],
      l.length = 4352) ∧
    metaGood 8192 (pageMeta (pageRead m m) 0) = true ∧
    metaGood 8192 (pageMeta (pageRead (List.replicate 32 0) m) 0) = false ∧
    metaGood 8192 (pageMeta (pageRead (List.replicate 32 0) m) 1) = true ∧
    (∀ k, k < 3 → metaGood 8192 (pageMeta (pageRead (List.replicate 32 0) (List.replicate 32 0)) k) = false) := by
  have z : (List.replicate 32 (0 : Byte)).length = 32 := rfl
  have w : (metaBytes { tier := 0, data := [7] } 8192).length = 32 := by decide +kernel
  have gz : metaGood 8192 (List.replicate 32 0) = false := by decide +kernel
  have gm : metaGood 8192 (metaBytes { tier := 0, data := [7] } 8192) = true := by decide +kernel
  obtain ⟨a1, a2, -, -⟩ := pageRead_meta _ _ w w
  obtain ⟨b1, b2, b3, -⟩ := pageRead_meta _ _ z w
  obtain ⟨c1, c2, c3, c4⟩ := pageRead_meta _ _ z z
  refine ⟨?_, by rw [a2]; exact gm, by rw [b2]; exact gz, by rw [b3]; exact gm, ?_⟩
  · simp only [List.forall_mem_cons, List.not_mem_nil, false_imp_iff, implies_true, and_true]
    exact ⟨a1, b1, c1⟩
  · intro k hk
    obtain rfl | rfl | rfl : k = 0 ∨ k = 1 ∨ k = 2 := by omega
    · rw [c2]; exact gz
    · rw [c3]; exact gz
    · rw [c4]; exact gz

/-- The generator of R323 has the roots α^1 to α^16, and R324's order of bits: the first bit of a symbol is its bit 9. -/
theorem test_nand_code :
    nandGen.length = 16 ∧
    (∀ i ∈ List.range 16, (let x := (List.range (i + 1)).foldl (fun a _ => nandDouble a) (1 : BitVec 10)
      (1 :: nandGen).foldl (fun a c => nandMul a x ^^^ c) 0 = 0)) ∧
    bitSymbols 2 (bitString [0x80, 0x41, 0xFF]) = [0x201#10, 0x01F#10] := by decide +kernel

theorem witness_HistoryStoreOrders :
    (∀ later ∈ [8000, 8001], let s := { withHs (storeOn .service true) fun h => { h with keyAt := some 0 } with now := later }
     s.mode = .service ∧ s.hs.keyAt = some 0) ∧
    State.reset.mode ≠ .service ∧ State.reset.flag Fld.HS_STATUS_KEY_OPEN = false ∧
    (let s := (storeOn .service true).setFlag Fld.HS_STATUS_KEY_OPEN true
     s.flag Fld.HS_STATUS_KEY_OPEN = true ∧ s.storeOn = true ∧ (s.hs.marks.filter (· < 16)).length ≤ 8 ∧
       8 < ((withHs s fun h => { h with marks := List.range 9 }).hs.marks.filter (· < 16)).length) ∧
    (let s := withHs (storeOn .active true) fun h => { h with filling := [none, none, some buffer] }
     s.regN (Reg.HS_T_FLUSH (2 : Fin 3)) ≠ 0 ∧ s.hs.filling.getD (2 : Fin 3) none = some buffer ∧
       (s.setRegN (Reg.HS_T_FLUSH 2) 0).regN (Reg.HS_T_FLUSH 2) = 0) ∧
    (let s := storeOn .active true
     s.storeOn = true ∧ s.hs.load = none ∧ s.heldPage (s.fld Fld.HS_RD_TIER_TIER) (s.pair Reg.HS_RD_SEQ_LO Reg.HS_RD_SEQ_HI) = none) ∧
    (let s := withHs (storeOn .active true) fun h => { h with pages := [(8192, { tier := 0 })] }
     s.storeOn = true ∧ s.hs.load = none ∧
       s.heldPage (s.fld Fld.HS_RD_TIER_TIER) (s.pair Reg.HS_RD_SEQ_LO Reg.HS_RD_SEQ_HI) = some (8192, { tier := 0 })) ∧
    (let s := withHs (storeOn .active true) fun h => { h with load := some (0, 0), pages := [(8192, { tier := 0, data := [7] })] }
     s.hs.load = some (0, 0) ∧
       s.heldPage 0 0 = some (8192, { tier := 0, data := [7] }) ∧ s.nandTested = false ∧ s.nandPrograms = false ∧
       (withHs s fun h => { h with op := some (.page buffer) }).nandPrograms = true ∧ s.hostWait = [] ∧ [(7 : Byte)].length ≤ 4096) ∧
    State.reset.isRoot = false ∧
    (∀ h ∈ [false, true], let s := { rootActive with hs := (storeOn .active true).hs }.setEng .sweep { st := .running }
     s.presetRecords = true ∧ s.hs.filling.getD (if h then 1 else 0) none = none ∧ s.buffersUsed < 8) := by
  refine ⟨?_, ?_, ?_, ?_, ?_, ?_, ?_, ⟨rfl, ?_, ?_, rfl, ?_⟩, ?_, ?_⟩ <;> decide

theorem witness_StoreAndFlashWrites :
    (storeOn .active true).storeOn = true ∧
    (let s := withHs (storeOn .active true) fun h => { h with full := [buffer] }
     s.hs.op = none ∧ s.nandPermitted = true ∧ s.hs.load = none ∧ s.nandTested = false ∧ s.hs.copies = [] ∧ s.nextBuffer = some buffer) ∧
    (let s := withHs (storeOn .active true) fun h => { h with copies := [(8192, { tier := 0 })] }
     s.hs.op = none ∧ s.nandPermitted = true ∧ s.hs.load = none ∧ s.hs.copies = (8192, { tier := 0 }) :: [] ∧ s.hs.renew = [] ∧
       (withHs s fun h => { h with renew := [16] }).hs.renew.head? = some 16) ∧
    (∀ left ∈ [1, 33], let s := withHs (storeOn .active true) fun h => { h with ckptLeft := left }
     s.hs.copies = [] ∧ s.nextBuffer = none ∧ 0 < s.hs.ckptLeft ∧ s.placeReady 3 = true) ∧
    (let s := withHs (storeOn .active true) fun h => { h with pages := [(1280, { tier := 2 })] }
     s.hs.op = none ∧ s.nandPermitted = true ∧ s.nandTested = false ∧ [2, 0, 1, 3].findSome? s.eraseNeeded = some 20) ∧
    ((storeOn .active false).nandPermitted = false ∧
      (withHs (storeOn .active true) fun h => { h with op := some (.checkpoint { tier := 3 } {}) }).hs.op.isSome = true) ∧
    (let s := withHs (storeOn .active true) fun h => { h with op := some (.page buffer) }
     s.hs.op = some (.page buffer) ∧ (4 ≤ 4) ∧ buffer.tier < 3 ∧ s.spares ≠ [] ∧
       (withHs s fun h => { h with work := { h.work with poolUsed := 1024 } }).spares = []) ∧
    (withHs (storeOn .active true) fun h => { h with op := some (.copy 8192 { tier := 0 }) }).hs.op = some (.copy 8192 { tier := 0 }) ∧
    (∀ left ∈ [1, 33], let s := withHs (storeOn .active true) fun h => { h with op := some (.checkpoint { tier := 3 } {}), ckptLeft := left }
     s.hs.op = some (.checkpoint { tier := 3 } {}) ∧ s.hs.ckptLeft = left ∧ s.physical (s.placeBlock 3 (s.nextPlace 3)) ∉ ({} : Checkpoint).bad) ∧
    (withHs (storeOn .active true) fun h => { h with op := some (.erase 20) }).hs.op = some (.erase 20) ∧
    (∀ op ∈ [FlashOp.erase 0, .program 1 2], let s := withFla (storeOn .active true) fun x => { x with ops := [op], cur := some .fflClear }
     s.fla.ops = op :: [] ∧ s.fla.cur.isSome = true ∧ s.fla.busy = false ∧ s.flashPermitted = true) ∧
    (∀ op ∈ [FlashOp.erase 0, .program 1 2], let s := withFla (storeOn .active true) fun x =>
       { x with ops := [op, .erase 1], cur := some .fflClear, busy := true }
     s.fla.busy = true ∧ s.fla.ops = op :: [.erase 1] ∧ [FlashOp.erase 1] ≠ [] ∧ s.fla.cur.any isUpdate = false) ∧
    State.reset.fla.pending.any (·.1) = false ∧
    (withFla State.reset fun x => { x with pending := [(true, [])] }).fla.pending.any (·.1) = true := by
  refine ⟨?_, ?_, ?_, ?_, ?_, ?_, ?_, ?_, ?_, ?_, ?_, ?_, ?_, ?_⟩ <;> decide

/-- Rail 11 of a type in a state, its monitor enabled and INSIDE, in a mode. -/
def railAt (m : Mode) (type st : Nat) : State :=
  let s := { State.reset with mode := m }.setFlag (Fld.RAIL_CFG_SENSE 11) true
  ((s.setFlag (Fld.MON_CTL_EN 15) true).setFld (Fld.RAIL_CFG_TYPE 11) type).setFld (Fld.RAIL_STAT_STATE 11) st

def withRail (s : State) (f : Rails → Rails) : State := { s with rail := f s.rail }

theorem witness_RailRequests :
    ((12 ≤ 15) ∧ State.reset.railType 11 = 0) ∧
    (let s := (railAt .active 1 rsOff).setFld Fld.SEQ_STATUS_SEQ 1
     s.railType 11 ≠ 0 ∧ s.overBudget 11 = false ∧ s.fld Fld.SEQ_STATUS_SEQ ≠ 0) ∧
    (∀ st ∈ [rsOff, rsWait, rsRamping, rsGood, rsHoldOn, rsDischarge, rsOut, rsRetry], let s := railAt .active 1 st
     s.railSt 11 = st ∧ s.railType 11 ≠ 0 ∧ s.fld Fld.SEQ_STATUS_SEQ = 0 ∧ s.groupHolds 11 = false ∧ modeAsleep s.mode = false ∧
       s.overBudget 11 = false ∧ s.railMon 11 = .inside ∧ st ≠ rsLocked) ∧
    (let s := railAt .safe 1 rsOff
     s.mode = .safe ∧ s.flag (Fld.RAIL_CFG_SAFE_OFF 11) = false) ∧
    (let s := (railAt .active 2 rsGood).setFld (Fld.RAIL_DWELL_MIN_ON 11) 1
     s.minOnLeft 11 = true ∧ { s with now := tenth }.minOnLeft 11 = false) ∧
    (∀ st ∈ [rsLocked, rsRetry], (railAt .active 2 st).railSt 11 = st ∧ (railAt .active 2 st).overBudget 11 = false ∧
      (railAt .active 2 st).railModeRefuses 11 true = false) ∧
    (let s := withRail (railAt .active 1 rsWait) fun r => { r with queue := [11, 3] }
     s.rail.queue = 11 :: [3] ∧ s.railFits 11 = true ∧ ((s.setRegN Reg.RAIL_BUDGET 9).setFld (Fld.RAIL_INRUSH_INRUSH 11) 10).railFits 11 = false) ∧
    (let s := withRail (railAt .active 1 rsWait) fun r => { r with rails := [(3, { offReady := true }), (11, { granted := true })] }
     (s.railOf 11).granted = true ∧ (s.railOf 3).granted = false ∧ (s.railOf 3).offReady = true ∧ (s.railOf 4).offReady = false) ∧
    (let s := { withRail (railAt .active 1 rsRamping) fun r => { r with rails := [(11, { insideAt := some 0 })] } with now := 80000 }
     s.railSt 11 = rsRamping ∧ s.railWatched 11 = true ∧ s.railMon 11 = .inside ∧ (s.railOf 11).insideAt = some 0 ∧
       0 + 8000 * (s.setFld (Fld.RAIL_INRUSH_PG_DEB 11) 10).fld (Fld.RAIL_INRUSH_PG_DEB 11) ≤ s.now ∧
       s.now < 0 + 8000 * (s.setFld (Fld.RAIL_INRUSH_PG_DEB 11) 11).fld (Fld.RAIL_INRUSH_PG_DEB 11)) ∧
    (let s := ((railAt .active 2 rsGood).setBits Reg.RAIL_ON 0x800).setRegN (Reg.RAIL_MAXON 11) 1
     s.railLoad 11 = true ∧ s.ren 11 = true ∧ s.regN (Reg.RAIL_MAXON 11) ≠ 0) := by
  refine ⟨?_, ?_, ?_, ?_, ?_, ?_, ?_, ?_, ?_, ?_⟩ <;> decide

/-- DAC 1 drives rail 11 of 1 V with a gain of 16 codes a step. -/
def marginAt : State :=
  { State.reset with
    mode := .active
    regs := [(Reg.MON_CTL 15, 1), (Reg.MON_HI 15, 1023), (Reg.MON_LO 15, 0), (Reg.RAIL_CFG 11, 0x4100), (Reg.RAIL_NOM 11, 1000),
      (Reg.RAIL_STAT 11, 3), (Reg.MRG_CTL 1, 0x8B00), (Reg.MRG_GAIN 1, 16), (Reg.MRG_CODE 1, 0x8800)] }

theorem witness_RailFaultsAndMargins :
    (∀ st ∈ [rsRamping, rsDischarge], let s := railAt .active 1 st
     s.pgReached 11 = false ∧ s.railWatched 11 = true ∧ s.fld Fld.SEQ_STATUS_SEQ = 0 ∧ s.rail.group.settling = false ∧ s.railSt 11 = st ∧ s.railLoad 11 = false ∧ s.railMon 11 ≠ .below ∧
       4 ∉ (s.railOf 11).raised ∧ s.mc.shutdown = none ∧ s.tableError 64 = none) ∧
    (∀ act ∈ [0, 1, 2, 3], ((railAt .active 1 rsRamping).setFld (Fld.RAIL_CFG_ACT 11) act).fld (Fld.RAIL_CFG_ACT 11) = act) ∧
    (let s := ((railAt .active 2 rsRamping).setFld (Fld.RAIL_CFG_ACT 11) 1).setFld (Fld.RAIL_RST_RST_MAX 11) 1
     s.fld (Fld.RAIL_CFG_ACT 11) = 1 ∧ s.railLoad 11 = true ∧ (s.recentRestarts 11).length < s.fld (Fld.RAIL_RST_RST_MAX 11) ∧
       let t := withRail s fun r => { r with rails := [(11, { restarts := [0] })] }
       t.fld (Fld.RAIL_RST_RST_MAX 11) ≤ (t.recentRestarts 11).length) ∧
    (∀ d : Fin 12, State.reset.railSt d = rsOff) ∧
    (marginAt.fld (Fld.MRG_NEUTRAL_NEUTRAL 1) = 2048 ∧ marginAt.regI (Reg.MRG_GAIN 1) = 16 ∧
      ∀ x ∈ [((0 : BitVec 16), (0 : Int)), (100, 100), (156, -100)], signedByte (x.1.toNat % 256) = x.2 ∧ x.2 * 16 % 16 ≠ 8 ∧
        0 ≤ 2048 + (x.2 * 16 + 8) / 16 ∧ 2048 + (x.2 * 16 + 8) / 16 ≤ 4095 ∧ -100 ≤ x.2 ∧ x.2 ≤ 100 ∧ marginAt.marginInWindow 1 x.2 = true) ∧
    State.reset.marginInWindow 1 0 = false ∧
    (marginAt.flag (Fld.MRG_CODE_DRIVEN 1) = true ∧ marginAt.flag (Fld.MRG_CODE_DRIVEN 0) = false ∧
      (marginAt.setFld (Fld.MRG_CTL_SLEW 1) 3).fld (Fld.MRG_CTL_SLEW 1) ≠ 0) ∧
    (let s := ((railAt .active 1 rsOff).setFld Fld.RGRP_MASK_BITS 0x800).setFld Fld.RGRP_STATE_BITS 0x800
     s.groupError = 0 ∧ (s.setFld Fld.RGRP_MASK_BITS 0).fld Fld.RGRP_MASK_BITS = 0 ∧ s.mode = .active ∧
       (s.setFld Fld.RGRP_STATUS_STAGE 1).fld Fld.RGRP_STATUS_STAGE = 1 ∧ (s.setFld Fld.RGRP_STATUS_STAGE 2).fld Fld.RGRP_STATUS_STAGE = 2) ∧
    (State.reset.railType 11 = 0 ∧ (railAt .active 1 rsOff).railType 11 ≠ 0) := by
  refine ⟨?_, ?_, ?_, ?_, ?_, ?_, ?_, ?_, ?_⟩ <;> decide

/-- A sequence at its first step, which is the word, with rail 11 in a state. -/
def seqAt (kind : Nat) (w : Word) (issued : Bool) (st : Nat) : State :=
  let s := ((railAt .active 1 st).setFld Fld.SEQ_STATUS_SEQ kind).setFld Fld.SEQ_STEP_STEP (64 * (kind - 1))
  withRail s fun r => { r with tables := [(64 * (kind - 1), w)], seq := { issued := issued } }

theorem witness_RailSequences :
    (State.reset.mc.shutdown = none ∧ State.reset.fld Fld.SEQ_STATUS_SEQ = 0 ∧ State.reset.fld Fld.RGRP_STATUS_STAGE = 0 ∧
      State.reset.tableError 0 = none ∧ State.reset.tableError 64 = none) ∧
    (let s := withRail State.reset fun r => { r with tables := [(0, 1), (64, 1)] }
     s.tableError 0 = some (0, 1) ∧ s.tableError 64 = some (64, 1)) ∧
    (∀ stage ∈ [1, 2], (State.reset.setFld Fld.RGRP_STATUS_STAGE stage).fld Fld.RGRP_STATUS_STAGE = stage) ∧
    (∀ kind ∈ [1, 2], (seqAt kind 0 false rsOff).fld Fld.SEQ_STATUS_SEQ = kind) ∧
    (let s := seqAt 1 0x1B000000 false rsOff
     s.stepReady 1 = true ∧ stepRail s.seqWord = 11 ∧ s.railType 11 ≠ 0 ∧ s.overBudget 11 = false ∧ s.railModeRefuses 11 true = false ∧
       s.railSt 11 = rsOff ∧ s.rail.seq.thenDown = false ∧ (s.setFlag Fld.RAIL_CTL_DOWN_ON_FAIL false).flag Fld.RAIL_CTL_DOWN_ON_FAIL = false ∧
       (seqAt 1 0x1B000000 false rsLocked).railSt 11 = rsLocked) ∧
    (∀ kind ∈ [1, 2], let s := seqAt kind 0x2B000000 false rsGood
     s.stepReady 2 = true ∧ stepRail s.seqWord = 11 ∧ s.railModeRefuses 11 false = false ∧ s.railSt 11 = rsGood ∧
       s.flag Fld.RAIL_CTL_ALIGN = false ∧ s.minOnLeft 11 = false) ∧
    ((seqAt 1 0x25000000 false rsGood).stepReady 2 = true ∧ (seqAt 1 0x25000000 false rsGood).railType 5 = 0) ∧
    (seqAt 1 0x3B000001 false rsGood).stepReady 3 = true ∧ (seqAt 1 0x40000001 false rsGood).stepReady 4 = true ∧
    (let s := { marginAt with rail := (seqAt 1 0x5B010000 false rsGood).rail }.setFld Fld.SEQ_STATUS_SEQ 1
     let m := stepArgSigned s.seqWord
     s.stepReady 5 = true ∧ s.railDac (stepRail s.seqWord) = some 1 ∧ m = 1 ∧ m * s.regI (Reg.MRG_GAIN 1) % 16 ≠ 8 ∧
       s.marginInWindow 1 m = true ∧ (seqAt 1 0x5B010000 false rsGood).railDac 11 = none) ∧
    (∀ kind ∈ [1, 2], (seqAt kind 0 false rsGood).stepReady 0 = true) ∧
    (let s := seqAt 2 0x40000001 true rsGood
     s.rail.seq.issued = true ∧ s.seqMoves = true ∧ stepOp s.seqWord = 4 ∧ s.fld Fld.SEQ_STEP_STEP < 127) ∧
    (∀ kind ∈ [1, 2], let s := seqAt kind 0x3B000001 true rsGood
     s.fld Fld.SEQ_STATUS_SEQ = kind ∧ s.rail.seq.issued = true ∧ stepOp s.seqWord = 3 ∧ stepTime s.seqWord ≠ 0 ∧
       stepTime (seqAt kind 0x3B000000 true rsGood).seqWord = 0) ∧
    (seqAt 1 0 false rsOff).rail.seq.issued = false := by
  refine ⟨?_, ?_, ?_, ?_, ?_, ?_, ?_, ?_, ?_, ?_, ?_, ?_, ?_, ?_⟩ <;> decide

/-! ### The thermal supervisor, calibration, self-test, keys -/

def withTh (s : State) (f : Thermal → Thermal) : State := { s with th := f s.th }

/-- A node in a mode whose power-up evaluation is over or not. -/
def thermalAt (m : Mode) (init : Bool) : State := { State.reset with mode := m }.setFlag Fld.TH_STATUS_INIT init

theorem witness_ThermalSupervisor :
    (∀ m ∈ [Mode.off, .ship, .watch], modeAsleep (thermalAt m false).mode = true) ∧
    (let s := withTh (thermalAt .active false) fun t => { t with up := [7, 7, 7] }
     modeAsleep s.mode = false ∧ s.mode ≠ .selftest ∧ s.flag Fld.TH_STATUS_SENSOR_FAIL = false ∧ s.th.sensorTest = false ∧
       s.suspect = false ∧ s.flag Fld.TH_STATUS_INIT = false ∧ (∀ k, k < 3 → s.levelRelease k ≤ s.levelEntry k) ∧
       s.levelEntry 0 ≤ s.levelEntry 1 ∧ s.levelEntry 1 ≤ s.levelEntry 2 ∧ s.mc.shutdown = none ∧
       ∀ k, k < 3 → s.levelEntry k ≤ 1500 ∧ 7 ≤ s.th.up.getD k 0 ∧ s.level k = false) ∧
    (let s := withTh (thermalAt .active false) fun t => { t with down := [7, 7, 7] }
     ∀ k, k < 3 → (1249 : Int) < s.levelRelease k ∧ 7 ≤ s.th.down.getD k 0) ∧
    ((-550 : Int) ≤ -550 ∧ (1750 : Int) ≤ 1750 ∧ State.reset.levelRelease 0 ≤ 1250 ∧ 1250 < State.reset.levelEntry 0) ∧
    (∀ n ∈ [6, 7], let s := withTh (thermalAt .boot true) fun t => { t with initCount := n, initSum := 9000 }
     s.flag Fld.TH_STATUS_INIT = true ∧ s.suspect = false ∧ s.th.initCount = n ∧
       8 * s.levelRelease 2 ≤ s.th.initSum + 1800 ∧ s.th.initSum + 1799 < 8 * s.levelRelease 2 ∧
       8 * s.levelEntry 0 ≤ s.th.initSum + 1750) ∧
    (let s := withTh (thermalAt .active false) fun t => { t with outside := 7 }
     7 ≤ s.th.outside ∧ s.flag Fld.TH_STATUS_SENSOR_FAIL = false ∧ (-551 : Int) < -550 ∧ (1750 : Int) < 1751) ∧
    State.reset.boardNtcs = [] ∧
    (let s := (State.reset.setReg Reg.TH_BOARD 1).setReg (Reg.TH_NTC_T 0) 250
     (s.setFld (Fld.EP_HI_STATUS 24) stOk).boardNtcs = [250] ∧ (s.setFlag Fld.TH_CTL_LOCAL_EN false).flag Fld.TH_CTL_LOCAL_EN = false) ∧
    (let s := { rootActive with tree := { rootActive.tree with binding := [(8191, [0, 0, 0, 0, 0, 0x100, 0, 0])] } }
     s.isRoot = true ∧ eValid (s.entry 8191) = true) ∧ State.reset.isRoot = false := by
  refine ⟨?_, ?_, ?_, ?_, ?_, ?_, ?_, ?_, ?_, ?_⟩ <;> decide

def withCal (s : State) (f : Cal → Cal) : State := { s with cal := f s.cal }

/-- A slot of a group in a step, in a mode. -/
def slotAt (m : Mode) (group step : Nat) : State :=
  withCal (thermalAt m false) fun c => { c with running := step != 0, due := step == 0, group := group, step := step }

set_option maxRecDepth 4000 in
theorem witness_CalibrationRuns :
    (∀ x ∈ [(101 : Int), 100], let s := withTh ((State.reset.setFlag Fld.CAL_CTL_TEMP_EN true).setFld Fld.CAL_CTL_TRIG 10) (fun t =>
       { t with eff := some x })
     modeAsleep s.mode = false ∧ s.flag Fld.CAL_CTL_TEMP_EN = true ∧ s.th.eff = some x ∧ s.cal.due = false ∧ s.cal.running = false ∧
       (x = 101 → 10 * s.fld Fld.CAL_CTL_TRIG < (x - s.regI Reg.CAL_LAST_TJ).natAbs) ∧
       (x = 100 → (x - s.regI Reg.CAL_LAST_TJ).natAbs ≤ 10 * s.fld Fld.CAL_CTL_TRIG)) ∧
    (let s := { (State.reset.setFlag Fld.CAL_CTL_SCHED_EN true).setReg Reg.CAL_PERIOD 1 with timers := [(.calSched, 0), (.calRetry, 0)] }
     s.running .calSched = true ∧ s.running .calRetry = true ∧ s.flag Fld.CAL_CTL_SCHED_EN = true ∧ s.regN Reg.CAL_PERIOD ≠ 0) ∧
    ((slotAt .active 0 0).cal.due = true ∧ (slotAt .active 0 2).cal.running = true ∧ (slotAt .active 0 0).cal.running = false) ∧
    (∀ m ∈ [Mode.active, .balance, .service, .standby], (thermalAt m false).sweepsRun = false ∧
      { thermalAt m false with timers := [(.sweepLapse, 0)] }.sweepsRun = true) ∧
    (∀ step ∈ [2, 6], (slotAt .active 0 step).cal.running = true ∧ (slotAt .active 0 step).cal.step ≠ 0) ∧
    (withCal State.reset fun c => { c with running := true }).cal.step = 0 ∧
    (∀ g ∈ [0, 3], let s := slotAt .active g 0
     s.calMayStart = true ∧ s.calPullWait g = false ∧ s.calTestWait g = false ∧ g < 4) ∧
    (let s := { slotAt .active 0 0 with wd := { State.reset.wd with phase := .pulling, pin := 1 } }
     s.calMayStart = true ∧ s.calPullWait 0 = true) ∧
    (∀ g ∈ [0, 1, 2, 3], (List.replicate (groupTrims g).length (0 : Int)).length = (groupTrims g).length) ∧
    ((∀ t ∈ groupTrims 3, trimAgrees t 3 0 = true) ∧ trimAgrees 0 0 100 = false) ∧
    ((slotAt .active 2 6).cal.group < 3 ∧ (slotAt .active 2 6).cal.abort = false ∧ (slotAt .active 3 6).cal.abort = false ∧ (slotAt .active 3 6).calResult = 0 ∧
      (slotAt .active 3 6).acq.refFallback = false ∧ (withCal (slotAt .active 3 6) fun c => { c with disagree := true }).cal.disagree = true) ∧
    (∀ step ∈ [0, 3], let s := withCal (State.reset.setFld Fld.CAL_CTL_STEP step) fun c => { c with applying := true, target := [(0, 5)] }
     s.scheduled = false ∧ s.reqBusy = false ∧ s.cal.applying = true ∧ s.fld Fld.CAL_CTL_STEP = step) := by
  refine ⟨?_, ?_, ?_, ?_, ?_, ?_, ?_, ?_, ?_, ?_, ?_, ?_⟩ <;> decide

def withSt (s : State) (f : SelfTest → SelfTest) : State := { s with st := f s.st }

/-- In SELFTEST, or another mode, with a test in progress. -/
def testAt (m : Mode) (t : Nat) : State :=
  withSt ({ State.reset with mode := m }.setFld Fld.ST_STATUS_STATE 1) fun x => { x with cur := some t }

theorem witness_SelfTestRuns :
    (∀ n ∈ [0, 1, 2], let s := withSt (thermalAt .standby false) fun x => { x with keyAt := some 0, failures := n }
     s.mode = .standby ∧ s.flag Fld.ST_STATUS_LOCKOUT = false ∧ s.st.keyAt = some 0 ∧ s.now ≤ 0 + 8000 ∧
       (n < 2 → s.st.failures < 2) ∧ (n = 2 → 2 ≤ s.st.failures)) ∧
    (State.reset.mode ≠ .standby ∧ State.reset.st.keyAt = none ∧ (0x5E1E : BitVec 16) ≠ 0x5E1F ∧
      (State.reset.setFlag Fld.ST_STATUS_LOCKOUT true).flag Fld.ST_STATUS_LOCKOUT = true) ∧
    (let s := { State.reset with timers := [(.stUnlock, 0), (.stLockout, 0)] }
     s.running .stUnlock = true ∧ s.running .stLockout = true) ∧
    State.reset.flag Fld.ST_STATUS_UNLOCKED = false ∧
    (let s := ((thermalAt .standby false).setFlag Fld.ST_STATUS_UNLOCKED true).setReg Reg.ST_SEL 1
     s.flag Fld.ST_STATUS_UNLOCKED = true ∧ s.mode = .standby ∧ s.st.starts = [] ∧ 0 < s.fld Fld.ST_LIMIT_MAX_HOUR ∧
       (s.reg Reg.ST_SEL).getLsbD 0 = true) ∧
    (State.reset.fld Fld.ST_STATUS_STATE = 0 ∧ State.reset.hostWait = []) ∧
    (∀ t ∈ [0, 8], let s := testAt .selftest t
     s.fld Fld.ST_STATUS_STATE ≠ 0 ∧ s.st.cur = some t ∧ t < 9 ∧ s.hostWait = [] ∧ s.mode = .selftest ∧ s.st.marchFail = false) ∧
    (∀ t ∈ List.range 10, let s := testAt .selftest t
     s.st.cur = some t ∧ s.st.left = [] ∧ s.hostWait = [] ∧ s.st.marchFail = false ∧ s.mc.shutdown = none) ∧
    stPatterns 0 0 - 1 < stPatterns 0 0 ∧ Config.testResponse 0 0 + 1 ≠ Config.testResponse 0 0 ∧
    (let s := withSt ((testAt .selftest 8).setFlag Fld.ST_STATUS_LOOP_WAIT true) fun x => { x with port := some 1, tested := [0] }
     s.st.port = some 1 ∧ s.flag Fld.ST_STATUS_LOOP_WAIT = true ∧ s.st.ports = [] ∧ s.st.tested ≠ []) ∧
    (∀ n ∈ [0, 1], let s := withSt ((thermalAt .active false).setFlag Fld.ST_CTL_BG_EN true) fun x => { x with bgNext := n }
     s.flag Fld.ST_CTL_BG_EN = true ∧ s.mode = .active ∧ s.st.bg = none ∧ s.wd.phase = .idle ∧ s.st.bgNext < 2) ∧
    (withSt State.reset fun x => { x with bg := some 0 }).st.bg = some 0 := by
  refine ⟨?_, ?_, ?_, ?_, ?_, ?_, ?_, ?_, ?_, ?_, ?_, ?_, ?_⟩
  on_goal 10 => generalize Config.testResponse 0 0 = x; bv_omega
  all_goals decide

theorem witness_CheckValueUnits :
    (∀ u : Fin 4, (State.reset.cvu u).feed = none) ∧
    (let s := { State.reset with cvus := [{}, {}, {}, { feed := some [1, 2] }] }
     (s.cvu (3 : Fin 4)).feed = some [1, 2] ∧ (s.cvu (3 : Fin 4)).waiting = []) ∧
    (∀ mode ∈ [0, 1, 2], (State.reset.setFld (Fld.CVU_CTL_SEEDMODE (3 : Fin 4)) mode).fld (Fld.CVU_CTL_SEEDMODE (3 : Fin 4)) = mode) ∧
    State.reset.flag (Fld.CVU_CTL_REFIN (0 : Fin 4)) = State.reset.flag (Fld.CVU_CTL_REFOUT (0 : Fin 4)) := by
  refine ⟨?_, ?_, ?_, ?_⟩ <;> decide

def withKeys (s : State) (f : Keys → Keys) : State := { s with keys := f s.keys }

/-- A node whose keys serve, which has accepted a root's certificate or not. -/
def keyed (cert : Option (List Byte)) : State :=
  withKeys ((memberAt 0).setFlag Fld.KEY_STATUS_KEYS_OK true) fun k => { k with rootCert := cert }

theorem takesKey_of (s : State) (body : List Byte) (h1 : s.linkOn = true) (h2 : s.isRoot = false) :
    s.takesKey (taggedFrame (0x44#8 :: body)) 0x44 = true ∧ s.takesKey (taggedFrame (0x47#8 :: body)) 0x47 = true := by
  constructor
  · have h : leAt (taggedFrame (0x44#8 :: body)).payload 0 1 = 0x44 := rfl
    simp [State.takesKey, h1, h2, h]; rfl
  · have h : leAt (taggedFrame (0x47#8 :: body)).payload 0 1 = 0x47 := rfl
    simp [State.takesKey, h1, h2, h]; rfl

/-- The root's session with node 1, whose MEASURE frame is held for its MTAG. -/
def heldAt (key : Option (BitVec 128)) : State :=
  let s := withKeys rootOpen fun k => { k with sessions := [(1, { key := key })] }
  { s with tree := { s.tree with heldMeasures := [measureFrame] } }

/-- An MTAG frame of node 1 with a tag. -/
def mtagFrame (tag : List Byte) : Frame := { measureFrame with payload := [0x48, 0, 0, 0] ++ tag }

set_option maxRecDepth 4000 in
theorem witness_KeysAndAttestation :
    (State.reset.flag Fld.KEY_STATUS_TRNG_FAIL = false ∧
      (State.reset.setFlag Fld.KEY_STATUS_TRNG_FAIL true).flag Fld.KEY_STATUS_TRNG_FAIL = true) ∧
    ((keyed none).keysServe = true ∧ (keyed none).keys.signing = false ∧ State.reset.keysServe = false ∧
      (withKeys State.reset fun k => { k with signing := true }).keys.signing = true) ∧
    (∀ op ∈ [(0x40 : Byte), 0x41, 0x43, 0x45, 0x46, 0x44, 0x47], let s := keyed (some [])
     let f := remoteCommand (op :: List.replicate 19 0)
     s.takesKey f op.toNat = true ∧ s.keys.op ≠ op.toNat ∧ s.keysServe = true ∧ s.keys.rootCert.isSome = true ∧ 20 ≤ f.payload.length ∧
       (checkTag s f).1 = .bad ∧ s.keys.setup.key = none) ∧
    (let f := remoteCommand [0x41]
     (memberAt 0).takesKey f 0x41 = true ∧ (memberAt 0).keysServe = false ∧
       (∀ op ∈ [(0x44 : Byte), 0x47], (memberAt 0).takesKey (remoteCommand (op :: List.replicate 19 0)) op.toNat = true) ∧ (keyed none).takesKey f 0x41 = true ∧
       (keyed none).keys.rootCert = none) ∧
    (∀ w ∈ [false, true], let s := withKeys State.reset fun k => { k with busy := true, awaited := w, op := 0x41 }
     s.keys.busy = true ∧ s.keys.awaited = w ∧ s.keys.op = 0x41) ∧ State.reset.keys.busy = false ∧
    (let s := withKeys (keyed (some [])) fun k => { k with session := none, setup := { key := some 0#128 } }
     let f := taggedFrame (0x44#8 :: List.replicate 27 0)
     s.takesKey f 0x44 = true ∧ s.keys.setup.key = some 0#128 ∧
       (checkTag { s with keys := { s.keys with session := some 0#128, kgen := s.keys.setup.kgen } } f).1 = .good) ∧
    (let s := keyed (some [])
     let f := taggedFrame (0x47#8 :: List.replicate 27 0)
     s.takesKey f 0x47 = true ∧ s.keys.session = some 0#128 ∧ (checkTag s f).1 = .good) ∧
    (let s := rootActive.setFlag Fld.KEY_STATUS_KEYS_OK true
     s.isRoot = true ∧ s.keysServe = true ∧ State.reset.isRoot = false) ∧
    (let s := heldAt (some 0#128)
     let f := mtagFrame (makeTag 0#128 (tagString 2 112 1 0 0 0 1 0 measureFrame.payload))
     s.linkOn = true ∧ s.isRoot = true ∧ s.heads (RingId.avenue).idx = true ∧ leAt f.payload 0 1 = 0x48 ∧
       (s.tree.heldMeasures.find? fun x => x.src == f.src) = some measureFrame ∧ (s.ring (RingId.avenue).idx).isOpen = true ∧
       (s.session f.src.toNat).key = some 0#128 ∧
       (∃ q ∈ s.keys.pairs, makeTag 0#128 (tagString measureFrame.type measureFrame.payload.length f.src.toNat measureFrame.dst.toNat
          q.1 q.2 1 (s.session f.src.toNat).kgen measureFrame.payload) = f.payload.drop 4) ∧
       ∃ x ∈ (s.ring (RingId.avenue).idx).expected, x ≠ f.src.toNat ∧ x ∉ (s.ring (RingId.avenue).idx).got) ∧
    ((heldAt none).session 1).key = none := by
  refine ⟨by decide, by decide, by decide, by decide, by decide, by decide, ⟨(takesKey_of _ _ (by decide) (by decide)).1, rfl, ?_⟩,
    ⟨(takesKey_of _ _ (by decide) (by decide)).2, rfl, ?_⟩, by decide, ⟨by decide, by decide, by decide, rfl, by decide, by decide, by decide, ?_, by decide⟩,
    by decide⟩
  · exact taggedFrame_good _ _ rfl rfl rfl rfl
  · exact taggedFrame_good _ _ rfl rfl rfl rfl
  · exact ⟨(0, 0), by decide, rfl⟩

/-! ### The Alley, modes, resets, profiles -/

/-- A node whose Alley is on, in an exchange at a stage, with a list. -/
def alleyAt (op : Nat) (ptp : Bool) (x : Alley) : State :=
  { (((thermalAt .active false).setFlag Fld.ALY_CTL_EN true).setFlag Fld.ALY_CTL_PTP ptp).setFld Fld.ALY_STATUS_OP op with aly := x }

/-- An ID of a temperature tag, one of a memory tag, and nine bytes of data, with their check bytes. -/
def tagId (family : Byte) : BitVec 64 :=
  let bs : List Byte := [family, 0, 0, 0, 0, 0, 1]
  BitVec.ofNat 64 (fromLe ((bs ++ [alyCheck bs]).reverse))

def tagData : List Byte := [0x12, 0x34, 0, 0, 0, 0, 0, 0] ++ [alyCheck [0x12, 0x34, 0, 0, 0, 0, 0, 0]]

/-- The low times of slots, at the bounds of R443. -/
def slotsOf (bits : List Bool) : List Nat := bits.map fun b => if b then 240 else 1760

theorem slotsOf_slots (bits : List Bool) : Slots (slotsOf bits) bits := by
  simp only [Slots, slotsOf, List.map_map]
  exact List.map_congr_left fun b _ => by cases b <;> rfl

set_option maxRecDepth 8000 in
theorem witness_AlleyWire :
    (∀ f ∈ [(0xA3 : Byte), 0xA1], let s := alleyAt 0 false { list := [(31, some { id := tagId f })] }
     s.alyTag 31 = some { id := tagId f } ∧ (alyFamily (tagId f) = 0xA3 ↔ f = 0xA3)) ∧
    (let s := (((alleyAt 0 false {}).setFlag Fld.ALY_CTL_AUTO true).setFld Fld.ALY_TIME_POLL 1).setFld Fld.ALY_TIME_RESCAN 1
     modeAsleep s.mode = false ∧ s.flag Fld.ALY_CTL_AUTO = true ∧ s.fld Fld.ALY_TIME_POLL ≠ 0 ∧ s.fld Fld.ALY_TIME_RESCAN ≠ 0) ∧
    (State.reset.setFlag Fld.ALY_CTL_AUTO false).flag Fld.ALY_CTL_AUTO = false ∧
    (∀ x ∈ [({ reqScan := true } : Alley), { reqPage := some (31, 7) }, { reqPoll := true }], let s := alleyAt 0 false x
     s.alyRuns = true ∧ s.aly.stage = .idle ∧ s.flag Fld.ALY_CTL_EN = true) ∧
    (∀ op ∈ [1, 3], let s := alleyAt op false { stage := .hail }
     s.alyRuns = true ∧ s.aly.stage = .hail ∧ s.fld Fld.ALY_STATUS_OP = op ∧ s.aly.found = []) ∧
    alyIdGood (tagId 0xA1) = true ∧
    (∀ ptp ∈ [false, true], let s := alleyAt 1 ptp { stage := .hailed }
     s.alyRuns = true ∧ s.aly.stage = .hailed ∧ s.fld Fld.ALY_STATUS_OP = 1 ∧ s.flag Fld.ALY_CTL_PTP = ptp ∧ s.aly.last = none ∧
       s.aly.found = [] ∧ s.aly.passFails = 0) ∧
    (∀ low ∈ [239, 481, 1279, 1761], slotBit low = none) ∧
    (let s := alleyAt 2 false { stage := .hailed, tag := some 31, list := [(31, some { id := tagId 0xA1 })] }
     s.alyRuns = true ∧ s.fld Fld.ALY_STATUS_OP = 2 ∧ s.aly.tag = some 31 ∧ s.alyTag 31 = some { id := tagId 0xA1 } ∧
       s.flag Fld.ALY_CTL_PTP = false ∧ s.aly.retry = false ∧ (alleyAt 2 false { stage := .hailed }).aly.tag = none) ∧
    (let s := alleyAt 2 false { stage := .addressed }
     s.alyRuns = true ∧ s.aly.stage = .addressed ∧ s.fld Fld.ALY_STATUS_OP = 2 ∧ s.aly.tag = none) ∧
    (let s := alleyAt 2 false { stage := .converting, list := [(31, some { id := tagId 0xA1 })] }
     s.aly.stage = .converting ∧ s.alyNext 0 = some 31 ∧ (alleyAt 2 false { stage := .converting }).alyNext 0 = none) ∧
    (let s := alleyAt 2 false { stage := .addressed, tag := some 31, list := [(31, some { id := tagId 0xA1 })] }
     s.aly.tag = some 31 ∧ s.alyTag 31 = some { id := tagId 0xA1 } ∧ tagData.length = 9 ∧ alyDataGood tagData = true ∧
       alyFamily (tagId 0xA1) = 0xA1 ∧ alyFamily (tagId 0xA2) = 0xA2) ∧
    (let s := alleyAt 3 false { stage := .addressed, page := (31, 7) }
     s.alyRuns = true ∧ s.aly.stage = .addressed ∧ s.fld Fld.ALY_STATUS_OP = 3) ∧
    (∀ bits : List Bool, ∃ slots, Slots slots bits) := by
  refine ⟨?_, ?_, ?_, ?_, ?_, ?_, ?_, ?_, ?_, ?_, ?_, ?_, ?_, fun bits => ⟨slotsOf bits, slotsOf_slots bits⟩⟩ <;> decide

def withMc (s : State) (f : ModeCtl → ModeCtl) : State := { s with mc := f s.mc }

theorem witness_ModeRequests :
    (∀ m ∈ [Mode.off, .ship, .watch, .selftest], m ∉ [Mode.standby, .active, .balance, .spectrum, .calibrate, .service, .update, .safe] ∧
      m ≠ .boot) ∧
    (∀ m ∈ [Mode.standby, .active, .balance, .spectrum, .service, .safe], State.reset.reg Reg.SAFE_CAUSE = 0 ∧
      (thermalAt m false).sweepsRun = false ∧ { thermalAt m false with timers := [(.sweepLapse, 0)] }.sweepsRun = true ∧
      (thermalAt m false).mc.shutdown = none) ∧
    ((State.reset.setReg Reg.SAFE_CAUSE 1).reg Reg.SAFE_CAUSE ≠ 0 ∧ (thermalAt .safe false).mode = .safe) ∧
    (∀ m ∈ [Mode.off, .ship, .watch], (withMc (thermalAt .active false) fun x => { x with shutdown := some m }).mc.shutdown = some m) ∧
    State.reset.mode = .boot ∧
    ((State.reset.setFlag Fld.TH_STATUS_SHUT true).flag Fld.TH_STATUS_SHUT = true ∧ State.reset.flag Fld.TH_STATUS_SHUT = false ∧
      (0xF3#16).getLsbD 0 = true ∧ (0xF3#16).getLsbD 1 = true ∧ (0xF3#16).getLsbD 2 = false) ∧
    (let s := withMc (thermalAt .active false) fun x => { x with shutdown := some .ship, writing := true }
     s.mc.shutdown = some .ship ∧ modeAsleep .ship = true ∧ s.mode ≠ .ship ∧ s.mc.writing = true ∧ s.shutdownWritten = true) ∧
    (withHs State.reset fun h => { h with full := [buffer] }).shutdownWritten = false ∧ State.reset.mc.writing = false ∧
    { State.reset with mode := .watch }.mode = .watch := by
  refine ⟨?_, ?_, ?_, ?_, ?_, ?_, ?_, ?_, ?_⟩ <;> decide

/-- At a step of BOOT, under FALLBACK or not. -/
def bootAt (step : Nat) (fallback : Bool) : State :=
  { (State.reset.setFlag Fld.TH_STATUS_INIT false) with bt := { State.reset.bt with step := step, fallback := fallback } }

set_option maxRecDepth 8000 in
theorem witness_ResetsSuppliesAndBoot :
    ({ State.reset with powered := true }.powered = true ∧ { State.reset with powered := false }.powered = false ∧
      State.reset.fla.busy = false ∧ State.reset.hs.op = none) ∧
    ((thermalAt .ship false).mode = .ship ∧ (thermalAt .watch false).mode = .watch ∧ modeAsleep (thermalAt .watch false).mode = true ∧
      modeAsleep State.reset.mode = false ∧ State.reset.mode ≠ .ship ∧ State.reset.mode ≠ .watch) ∧
    ((thermalAt .active false).mode ≠ .boot ∧ (thermalAt .boot true).flag Fld.TH_STATUS_INIT = true) ∧
    (∀ k ∈ [0, 1, 2, 4, 5], (bootAt k false).mode = .boot ∧ (bootAt k false).bt.step = k ∧
      (bootAt k false).flag Fld.TH_STATUS_INIT = false ∧ (bootAt k false).stepPath (k + 1) ≠ 2) ∧
    (bootAt 3 false).bt.step = 3 ∧
    (let s := { (bootAt 15 false).setFld Fld.PROF_STATUS_ACTIVE 1 with
       fla := { State.reset.fla with mem := [(6144, 0x050000000000)] } }
     s.mode = .boot ∧ s.bt.step = 15 ∧ s.reg Reg.SAFE_CAUSE = 0 ∧ s.flag Fld.TH_STATUS_SHUT = false ∧ s.mc.held = none ∧
       (s.profStart (s.fld Fld.PROF_STATUS_ACTIVE), Mode.active) ∈ [(4, Mode.standby), (5, .active), (10, .service)]) ∧
    (bootAt 3 false).bt.fallback = false ∧
    (∀ k ∈ [3, 11], (bootAt k true).mode = .boot ∧ (bootAt k true).bt.fallback = true ∧ 3 ≤ (bootAt k true).bt.step ∧
      (bootAt k true).bt.step < 12 ∧ (bootAt k true).stepPath (k + 1) ≠ 2) := by
  refine ⟨?_, ?_, ?_, ?_, ?_, ?_, ?_, ?_⟩ <;> decide

def withUpd (s : State) (f : Update → Update) : State := { s with upd := f s.upd }

/-- In UPDATE with the unlock open, in a state of the transfer. -/
def updAt (state : Nat) : State :=
  withUpd ({ State.reset with mode := .update }.setFld Fld.UPD_STATUS_STATE state) fun u => { u with unlocked := true, target := 7 }

set_option maxRecDepth 8000 in
theorem witness_ProfilesAndTheirUpdate :
    (let s := thermalAt .service false
     s.profValid (15 : Fin 16) = true ∧ s.fld Fld.PROF_STATUS_ACTIVE ≠ 15 ∧ s.mode ≠ .calibrate ∧ s.mode ≠ .selftest ∧ s.mode ≠ .update ∧
       s.mode = .service ∧ s.sw = none ∧ s.profValid (8 : Fin 16) = false) ∧
    (State.reset.setFld Fld.PROF_STATUS_ACTIVE 15).fld Fld.PROF_STATUS_ACTIVE = 15 ∧
    (updAt 0).mode = .update ∧
    (let s := { thermalAt .active false with fla := { State.reset.fla with mem := [] } }.setFld Fld.NODE_ROLE_ROLE 2
     s.profRole 15 ≠ s.role ∧ s.mode ≠ .service) ∧
    ({ thermalAt .service false with sw := some { profile := 7 } }).sw.isSome = true ∧
    (∀ later ∈ [8000, 8001], let s := { withUpd (updAt 0) fun u => { u with keyAt := some 0 } with now := later }
     s.mode = .update ∧ s.upd.keyAt = some 0) ∧
    (State.reset.mode ≠ .update ∧ State.reset.upd.unlocked = false) ∧
    (∀ p : Fin 8, p.val ≠ 0 → (updAt 0).fld Fld.PROF_STATUS_ACTIVE ≠ p.val) ∧ (updAt 0).fld Fld.PROF_STATUS_ACTIVE = 0 ∧
    (∀ state ∈ [1, 2], ∀ i ∈ [0, 7, 8, 6142], let s := (updAt state).setFld Fld.UPD_OFS_WORD i
     s.upd.unlocked = true ∧ s.fld Fld.UPD_STATUS_STATE = state ∧ s.fld Fld.UPD_OFS_WORD = i ∧ s.updRoom 1 = true ∧ i ∉ s.upd.arrived ∧
       s.updWaiting = []) ∧
    (let s := { updAt 2 with fla := { State.reset.fla with queue := List.replicate 128 (.update [.program 50000 0]) } }
     s.updRoom 1 = false ∧ s.updFlashBusy = true) ∧
    (updAt 2).upd.arrived.length < 6144 ∧ (∃ s : State, s.upd.unlocked = true ∧ s.fld Fld.UPD_STATUS_STATE = 2 ∧
      6144 ≤ s.upd.arrived.length ∧ s.updFlashBusy = true) ∧
    (∀ state ∈ [0, 1, 2, 3, 4, 5], (updAt state).fld Fld.UPD_STATUS_STATE = state) := by
  refine ⟨?_, ?_, ?_, ?_, ?_, ?_, ?_, ?_, ?_, ?_, ?_, ?_, ?_, ?_⟩
  on_goal 13 =>
    refine ⟨{ withUpd (updAt 2) fun u => { u with arrived := List.replicate 6144 0 } with
      fla := { State.reset.fla with queue := [.update [.program 50000 0]] } }, rfl, by decide,
      Nat.le_of_eq (List.length_replicate (n := 6144) (a := 0)).symm, by decide⟩
  all_goals decide

/-! ### The machine as a whole -/

theorem witness_AStepRunsTheFrontCommand : ({ State.reset with pending := [.fflClear, .powerLoss] }).pending = .fflClear :: [.powerLoss] := rfl

theorem witness_AnIdleStepIsOneTick :
    State.reset.pending = [] ∧ (∀ e : Engine, (State.reset.eng e).wait = none) ∧ State.reset.hostWait = [] ∧
      (∀ x ∈ State.reset.rings, x.quietTo = none) ∧ State.reset.st.cur = none ∧ State.reset.st.bgDue = false ∧
      State.reset.st.mirrorWait = [] :=
  ⟨rfl, fun e => by cases e <;> rfl, rfl, by decide, rfl, rfl, rfl⟩

theorem witness_EveryStepShowsTheLevelFlags : ∃ t, step { State.reset with pending := [.fflClear] } = .next t := ⟨_, rfl⟩

theorem witness_AcceptedCommandsComplete :
    State.reset.accepts .fflClear = true ∧ State.reset.accepts (.monitorSampleTick []) = false := by decide

theorem witness_QuietCommandsKeepMemories : quietCommand .fflClear = true ∧ ∃ t, exec .fflClear State.reset = .next t := ⟨rfl, _, rfl⟩

/-! ### Further witnesses: the clauses of the statements at other states -/

/-- Windows up to the K-th, an endpoint out of service, converters a test holds, the reference slot, conversions on request. -/
theorem witness_AcquisitionAndRequests_clauses :
    (List.replicate 26 (0 : Int)).length = 26 ∧
    (let s := withAcq (converting 1) fun a => { a with chans := (List.range 32).map fun e => (e, { windows := 255 }) }
     s.measuring = true ∧ s.acq.mode = 1 ∧ ∀ e ∈ simEps, s.mainInService e = true ∧ s.reachesSlot e = false ∧
       s.blockK ≤ (s.chan e).windows + 1) ∧
    ((withAcq (converting 1) fun a => { a with test := [31] }).mainInService 31 = false ∧ State.reset.measuring = false) ∧
    ((withAcq State.reset fun a => { a with sarATest := true }).sarTest false = true ∧ (pinTest .reading 5).pullUses false = true) ∧
    ((withAcq State.reset fun a => { a with test := [31] }).secServed 31 = true ∧ State.reset.secServed 31 = false) ∧
    (let s := { withAcq State.reset fun a => { a with slotA := 16 } with mode := .active, timers := [(.sweepLapse, 0)] }
     s.sarTest false = false ∧ s.pullUses false = false ∧ s.scheduled = true ∧ s.acq.reqSec = false ∧ s.acq.slotA = 16) ∧
    (State.reset.scheduled = false ∧ State.reset.acq.reqSec = false) ∧
    (let s := withAcq { State.reset with mode := .standby } fun a => { a with reqSec := true }
     s.scheduled = false ∧ s.acq.reqSec = true ∧ s.acq.sarATest = false ∧ s.acq.sarBTest = false ∧
       (s.reqSecNext false).isSome = true ∧ (s.reqSecNext true).isSome = true) ∧
    (State.reset.acq.req ≠ .measuring ∧ ∃ e, e < 32 ∧ ¬ ((converting 1).epUnused e = true ∨ (converting 1).epCal e = true ∨
      (if (converting 1).secServed e = true then ((converting 1).secChan e).forReq = true else ((converting 1).chan e).forReq = true))) ∧
    (snapGroup (0x0600#15).toNat = some (0x0600, 80) ∧ snapGroup (0x0650#15).toNat = some (0x0650, 80) ∧ snapGroup (0#15).toNat = none) := by
  refine ⟨?_, ?_, ?_, ?_, ?_, ?_, ?_, ?_, ⟨?_, 0, ?_⟩, ?_⟩ <;> decide

/-- A test that may start and one that must wait, the end of a scan's last test, an aborted one, no period. -/
theorem witness_WireDiagnostics_clauses :
    ((pinTest .idle 0).wd.queue = (24, true) :: [] ∧ (pinTest .idle 0).pinMayStart 24 = true ∧
      ({ pinTest .idle 0 with mode := .spectrum }).pinMayStart 24 = false) ∧
    ((State.reset.setRegN Reg.WD_PERIOD 0).regN Reg.WD_PERIOD = 0 ∧ State.reset.running .wdPeriod = false) ∧
    (∀ abort ∈ [false, true], let s := { pinTest .recovery 24 with wd := { (pinTest .recovery 24).wd with
        queue := [], scan := true, pinInScan := true, abort := abort } }
     s.wd.phase = .recovery ∧ s.wd.abort = abort ∧ s.wd.queue = [] ∧ s.wd.scan = true ∧ s.wd.pinInScan = true) ∧
    (0 ∉ pinCells 24 24 ∧ 23 ∈ pinCells 24 24) ∧
    (State.reset.setFlag Fld.NODE_ROLE_BLOCKLESS true).blockless = true := by
  refine ⟨?_, ?_, ?_, ?_, ?_⟩ <;> decide

set_option maxRecDepth 4000 in
/-- Once DONE is set in SPECTRUM; the four refusals; no plan. -/
theorem witness_ImpedancePlanCommands_clauses :
    (let s := { impAt .spectrum impIdle with imp := { (impAt .spectrum impIdle).imp with ended := true } }
     s.impRegs.inRange = true ∧ roundLongEnough s.impRegs.round s.tb.period s.impRegs.need = true ∧ s.mode = .spectrum ∧
       s.imp.ended = true ∧ s.impState ≠ impRunning ∧ s.impRegs.mask % 2 ^ s.cells ≠ 0) ∧
    ((impAt .active impIdle).setPair Reg.IMP_FSTART_LO Reg.IMP_FSTART_HI 99).impRegs.inRange = false ∧
    (let s := (impAt .active impIdle).setPair Reg.IMP_ROUND_LO Reg.IMP_ROUND_HI 1
     s.impRegs.inRange = true ∧ roundLongEnough s.impRegs.round s.tb.period s.impRegs.need = false) ∧
    (impAt .active impRunning).impState = impRunning ∧
    (let s := (impAt .active impIdle).setPair Reg.IMP_CELLS_LO Reg.IMP_CELLS_HI 0
     s.impRegs.inRange = true ∧ roundLongEnough s.impRegs.round s.tb.period s.impRegs.need = true ∧ s.mode = .active ∧
       s.impState ≠ impRunning ∧ s.impRegs.mask % 2 ^ s.cells = 0) ∧
    (State.reset.imp.plan = none ∧ State.reset.impState ≠ impPrepared) := by
  refine ⟨?_, ?_, ?_, ?_, ?_, ?_⟩ <;> decide

/-- The tick a round is due and one it is not, the end of the settling and of the integration, the last round. -/
theorem witness_ImpedanceRounds_clauses :
    (State.reset.imp.plan = none ∧ (impAt .active impRunning).roundDue impPlan = false) ∧
    (let s := { impAt .active impRunning with tb := { State.reset.tb with cycle := 1, prevAcc := 0xFFFFFFFFFFFF } }
     let due := (impPlan.start + 0 * impPlan.round) * 65536
     s.impState = impRunning ∧ s.imp.inRound = false ∧ s.imp.next = 0 ∧ 0 < 6 * impPlan.slotCount ∧ due ≤ s.tb.value ∧
       s.mode = .active) ∧
    ((List.replicate 4 (0 : Int)).length = 4 ∧ 0 < 1 * 1 ∧ impPlan.ns * 2 ^ 32 ≤ (impPoint false 0).imp.phase) ∧
    (let s := impPoint true (impPlan.ni 0 * impPlan.s 0)
     s.imp.inPoint = true ∧ s.imp.integrating = true ∧ (impPlan.ns + impPlan.ni 0) * 2 ^ 32 ≤ s.imp.phase ∧ s.imp.point < 32 ∧
       (∀ c ∈ s.imp.corr, c.stop ≠ 0 ∨ c.slots = impPlan.ni 0 * impPlan.s 0) ∧ ∃ c, s.imp.corr = [] ++ c :: [] ∧ c.cell < s.cells) ∧
    ((impPoint true 0).imp.inRound = true ∧ impPlan.npts ≤ 32 ∧ 6 * impPlan.slotCount ≤ (6 * impPlan.slotCount - 1) + 1) := by
  refine ⟨?_, ?_, ?_, ⟨?_, ?_, ?_, ?_, ?_, { cell := 0, slots := impPlan.ni 0 * impPlan.s 0 }, ?_⟩, ?_⟩ <;> decide

/-- A stage a chain transaction holds; the first causes of a refusal; nothing that runs. -/
theorem witness_BalancePlanCommands_clauses :
    (let s := (txnAt { id := 5, expiry := 1 }).setFld Fld.BAL_STATUS_STAGE stagePrepared
     BalancePlanAllowed s ∧ s.balStage ≠ stageNone ∧ s.chainHolds = true) ∧
    (let s := (balancing .active stageNone).setReg (Reg.BAL_SP 23) 0xC001
     spDir (s.planRegs.sp.getD 23 0) = 3) ∧
    (let s := (balancing .active stageNone).setFlag (Fld.BAL_GRP_LOCKED 0) true
     spDir (s.planRegs.sp.getD 0 0) ≠ 0 ∧ s.locked (0 / 6) = true) ∧
    (let s := { State.reset with mode := .active }.setFlag Fld.BAL_CTL_EN true
     s.mode = .active ∧ s.flag Fld.BAL_CTL_EN = true ∧ ∀ k, k < 24 → spDir (s.planRegs.sp.getD k 0) = 0) ∧
    (State.reset.balStage = stageNone ∧ State.reset.balStage ≠ stagePrepared ∧ State.reset.bal.running = none ∧
      State.reset.running .balPlan = false) := by
  refine ⟨⟨⟨?_, ?_, ?_, ?_, 0, ?_⟩, ?_, ?_⟩, ?_, ?_, ?_, ?_⟩ <;> decide

/-- A channel whose B2C or C2B pulse began at tick 100, at a tick. -/
def pulseAt (b2c : Bool) (now : Nat) : State :=
  let s := { balancing .balance stageNone with now := now, trimsLoaded := true }
  s.setBalChan 23 { s.balChan 23 with pulses := [{ b2c := b2c, rise := 100, fall := 200 }] }

/-- A pulse that ended, a crossing outside and within the blanking and at its last tick, a stopped plan, a group on. -/
theorem witness_BalancePeriodsAndTrips_clauses :
    (∀ b ∈ [false, true], ((pulseAt b 210).balChan (23 : Fin 24)).pulses = { b2c := b, rise := 100, fall := 200 } :: []) ∧
    (let s := { balancing .balance stageNone with bal := { (balancing .balance stageNone).bal with
       stopping := true, running := some { sp := List.replicate 24 0x8001, bud := List.replicate 24 5, limit := 0 } } }
     s.bal.running.isSome = true ∧ s.bal.stopping = true ∧ ∀ p, s.bal.running = some p → spDir (p.sp.getD 23 0) ≠ 0 ∧ p.bud.getD 23 0 ≠ 0) ∧
    (let s := pulseAt true 210
     let t := pulseAt true (100 + s.fld (Fld.MON_CTL_BLANK 3) - 1)
     s.isInService 3 = true ∧ s.monRuns 3 = true ∧
       (∀ p ∈ (s.balChan 23).pulses, s.now < p.rise ∨ p.rise + s.fld (Fld.MON_CTL_BLANK 3) ≤ s.now) ∧ 0 < s.fld (Fld.MON_CTL_BLANK 3) ∧
       ∃ p ∈ (t.balChan 23).pulses, p.rise ≤ t.now ∧ t.now < p.rise + t.fld (Fld.MON_CTL_BLANK 3)) ∧
    ((State.reset.balGrp (3 : Fin 4)).off = false ∧
      1 < ({ State.reset with bal := { State.reset.bal with groups := [{ off := true, hold := 2 }] } }.balGrp (0 : Fin 4)).hold) := by
  refine ⟨?_, ⟨?_, ?_, fun p h => ?_⟩, ⟨?_, ?_, ?_, ?_, { b2c := true, rise := 100, fall := 200 }, ?_⟩, ?_⟩
  case refine_4 => cases h; decide
  all_goals decide

/-- A transaction's stage of the other subsystems, active, expired, of another number; the root with nothing to start. -/
theorem witness_Transactions_clauses :
    (∀ sub ∈ [(1 : Byte), 2, 3, 4], ∀ op ∈ [(1 : Byte), 2, 3, 4, 5, 6], leAt (txnFrame op sub).payload 1 1 = sub.toNat ∧
      leAt (txnFrame op sub).payload 0 1 = op.toNat ∧ leAt (txnFrame op sub).payload 2 2 = 5) ∧
    (∀ x ∈ [({ id := 6, expiry := 1 } : TxnStage), { id := 5, expiry := 1, active := true }], (txnAt x).txnStage 1 = some x ∧
      (x.id ≠ 5 ∨ x.active = true)) ∧
    ((balancing .active stageNone).chainHolds = false ∧ (txnAt { id := 5, expiry := 1 }).balStage = 0) ∧
    (let s := { inSession with txn := [(2, some { id := 5, expiry := 1 })], imp := (impAt .active impPrepared).imp }.setFld
       Fld.IMP_STATUS_STATE impPrepared
     s.txnStage 2 = some { id := 5, expiry := 1 } ∧ s.imp.plan = some impPlan ∧ s.impState = impPrepared ∧
       s.tb.value ≤ impPlan.start * 65536 ∧ impPlan.start * 65536 < { s with tb := { s.tb with cycle := 2 } }.tb.value) ∧
    (∀ act ∈ [1, 32767], 1 ≤ (act + 65536 - inSession.sweepNum) % 65536 ∧ (act + 65536 - inSession.sweepNum) % 65536 ≤ 32767) ∧
    (∀ act ∈ [0, 32768], ¬ (1 ≤ (act + 65536 - inSession.sweepNum) % 65536 ∧ (act + 65536 - inSession.sweepNum) % 65536 ≤ 32767)) ∧
    (let s := State.reset.setFld Fld.TXN_STATUS_PHASE phPreparing
     s.txnPhase ≠ phIdle ∧ s.isRoot = false ∧ { s with rootTxn := { s.rootTxn with committed := true } }.rootTxn.committed = true) ∧
    (let s := (txnAt { id := 5, expiry := 1 }).setRegN Reg.SWEEP_NUM 1
     s.txnStage 1 = some { id := 5, expiry := 1 } ∧ sweepAfter 1 s.sweepNum = false) := by
  refine ⟨?_, ?_, ?_, ?_, ?_, ?_, ?_, ?_⟩
  case refine_1 =>
    have h (op sub : Byte) : leAt (txnFrame op sub).payload 1 1 = sub.toNat ∧ leAt (txnFrame op sub).payload 0 1 = op.toNat ∧
        leAt (txnFrame op sub).payload 2 2 = 5 := ⟨Nat.add_zero _, Nat.add_zero _, rfl⟩
    exact fun sub _ op _ => h op sub
  all_goals decide

/-- Edges of the other polarity or too short, the errors that stay, the fifteenth good edge, a Milestone in FREE, a hub's own
domain, values of TB_NOM at the bounds, a SYNC Milestone due and already sent. -/
theorem witness_TheTimebase_clauses :
    (let s := phaseAt tbLocked {}
     s.tbSource = 1 ∧ ∀ x ∈ [({ interval := some 8800, falling := false, before := 4, after := 4 } : PhaseEdge), { interval := none, falling := false, before := 4, after := 4 }], x.falling = s.flag Fld.TB_CTL_EDGE ∧ 4 ≤ x.before ∧
       4 ≤ x.after) ∧
    (let s := phaseAt tbLocked {}
     ∀ x ∈ [({ interval := some 8800, falling := true, before := 4, after := 4 } : PhaseEdge), { interval := some 8800, falling := false, before := 3, after := 4 },
       { interval := some 8800, falling := false, before := 4, after := 3 }],
       ¬ (x.falling = s.flag Fld.TB_CTL_EDGE ∧ 4 ≤ x.before ∧ 4 ≤ x.after)) ∧
    (let s := phaseAt tbAcquire { lastInterval := some 1600, okCount := 15 }
     s.tbState = tbAcquire ∧ s.tb.lastInterval = some 1600 ∧ withinPull s.pull 1600 1600 = true ∧ withinPull s.pull 1600 1599 = true ∧
       s.tb.acqCount ≠ 1 ∧ s.phaseError.natAbs ≤ s.regN Reg.TB_LOCK_THR ∧ 15 ≤ s.tb.okCount) ∧
    (let s := phaseAt tbLocked { cycle := 5, acc := 0x400000000000 }
     8 * s.regN Reg.TB_LOCK_THR < s.phaseError.natAbs) ∧
    (∀ st ∈ [tbFree, tbHoldover], (phaseAt st {}).freeRunning = true ∧ (phaseAt st {}).tb.missCount < (phaseAt st {}).fld Fld.TB_CTL_MISS) ∧
    (let r := { State.reset with mode := .active }.setFlag Fld.MS_STATUS_LAT_VALID true
     let s := r.setFld Fld.TB_STATUS_STATE tbFree
     s.linkOn = true ∧ s.tbSource = 2 ∧ s.flag Fld.MS_STATUS_LAT_VALID = true ∧ s.freeRunning = true) ∧
    (let s := { (State.reset.setFld Fld.NODE_ROLE_ROLE 1) with mode := .active, tb := { State.reset.tb with localDom := true, src := 1 } }
     s.linkOn = true ∧ (s.isHub && s.tb.localDom) = true ∧ s.tbSource ≠ 2) ∧
    (∀ n ∈ [25600, 128000000], ∃ hi lo : BitVec 16, lo.toNat + 65536 * (hi.toNat % 2048) = n) ∧
    ((rootActive.ring 0).syncAt ≠ some 0 ∧ rootActive.tb.cycle = 0 ∧
      ({ rootActive with rings := [{ syncAt := some 0 }] }.ring 0).syncAt = some 0 ∧
      (∀ p ∈ [2 * 0, 2 * 0 + 1], (setDir rootActive 1 2).portOn p = true ∧ (setDir rootActive 1 2).dir p ≠ 0)) := by
  refine ⟨?_, ?_, ?_, ?_, ?_, ?_, ?_, ?_, ?_⟩
  case refine_8 => exact fun n h => ⟨BitVec.ofNat 16 (n / 65536), BitVec.ofNat 16 (n % 65536), by revert n; decide⟩
  all_goals decide

/-- A PHASE unit whose target is crossed, an ABS unit reached in the tick, and generators with equal edges or in the TICK domain. -/
theorem witness_CompareUnitsAndGenerators_clauses :
    (let s := (State.reset.setReg (Reg.CMP_CTL 7) 1).setReg (Reg.CMP_T0 7) 5
     let t := { s with tb := { s.tb with acc := 0xA00000000, prevAcc := 0 } }
     t.cmpEn 7 = true ∧ t.cmpAbs 7 = false ∧ t.tb.done.getLsbD 7 = false ∧ (t.tb.prevValue = 0 ∧ 5 ≤ t.tb.value)) ∧
    (let s := compareAt 0x0003
     let t := { s with tb := { s.tb with cycle := 5, late := 0, target := [(7, 1)] } }
     t.cmpAbs 7 = true ∧ t.tb.armed.getLsbD 7 = true ∧ t.tb.prevValue < 1 ∧ 1 ≤ t.tb.value) ∧
    ((compareAt 0).cmpEn 7 = false ∧ State.reset.acq.qw.on = false ∧ State.reset.acq.qwOld.on = false) ∧
    (let s := State.reset.setReg (Reg.PG_CTL 3) 1
     genEn (s.reg (Reg.PG_CTL 3)) = true ∧ (s.reg (Reg.PG_RISE 3)).toNat = (s.reg (Reg.PG_FALL 3)).toNat) ∧
    (∃ v : BitVec 16, genEn v = true ∧ genTrig v = false ∧ genTickDomain v = true) ∧ ∃ v : BitVec 16, genEn v = true ∧ genTrig v = true := by
  refine ⟨?_, ?_, ?_, ?_, ⟨(List.range 256).map (BitVec.ofNat 16) |>.find? (fun v => genEn v && !genTrig v && genTickDomain v) |>.getD 0, ?_⟩,
    ⟨(List.range 256).map (BitVec.ofNat 16) |>.find? (fun v => genEn v && genTrig v) |>.getD 0, ?_⟩⟩ <;> decide

/-- A change reported at the last tick of its filter and one tick before; a monitor off; one before its power-up. -/
theorem witness_WindowMonitors_clauses :
    (let s := monitorAt .active false true
     let f := s.fld (Fld.MON_CTL_FILT 28)
     s.monReported 28 ≠ s.monComp 28 ∧ sparseGet s.mon.since 0 28 = 0 ∧ 0 + f + 1 ≤ { s with now := f + 1 }.now ∧
       { s with now := f }.now < 0 + f + 1 ∧ ({ s with mon := { s.mon with comp := [] } }.monReported 28 =
         { s with mon := { s.mon with comp := [] } }.monComp 28)) ∧
    ((monitorAt .active true false).monSettled 28 = false ∧ (monitorAt .active true false).monSampled 28 = true ∧
      (monitorAt .active true false).monActive 28 = true) ∧
    ((State.reset.setFlag (Fld.MON_CTL_EN 28) false).monActive 28 = false) ∧
    (let s := { monitorAt .active true true with mon := { (monitorAt .active true true).mon with run := [(28, .above, 0)] } }.setFld Fld.CMP_SAMPLE_SCM1 1
     (s.mon.run.find? fun p => p.1 == 28) = some (28, .above, 0) ∧ 0 < s.fld Fld.CMP_SAMPLE_SCM1) := by
  refine ⟨?_, ?_, ?_, ?_⟩ <;> decide

/-- Aligned changes in the tick the timebase crosses RAIL_PH and in another, a hold that waits for alignment, a rail beyond its
window, and requests that do nothing. -/
theorem witness_RailRequests_clauses :
    (let s := (railAt .active 1 rsGood).setFlag Fld.RAIL_CTL_ALIGN true
     s.flag Fld.RAIL_CTL_ALIGN = true ∧ s.minOnLeft 11 = false ∧ s.groupHolds 11 = false ∧
       crossesPhase (s.regN Reg.RAIL_PH) s.tb.prevValue s.tb.value = false ∧
       (let t := { s with tb := { s.tb with cycle := 5 } }
        crossesPhase (t.regN Reg.RAIL_PH) t.tb.prevValue t.tb.value = true)) ∧
    (∀ b ∈ [false, true], let s := (railAt .active 1 rsHoldOn).setFlag Fld.RAIL_CTL_ALIGN b
     s.railSt 11 = rsHoldOn ∧ s.flag Fld.RAIL_CTL_ALIGN = b) ∧
    (let s := (railAt .active 1 rsHoldOn).setBits (Reg.CMP_BELOW 0) 0x8000
     s.railWatched 11 = true ∧ s.railMon 11 ≠ .inside) ∧
    (State.reset.rail.queue = [] ∧ State.reset.railSt 11 = rsOff ∧ State.reset.railLoad 11 = false) := by
  refine ⟨?_, ?_, ?_, ?_⟩ <;> decide

/-- Ends of a rail's times in other states, and group changes with nothing staged. -/
theorem witness_RailFaultsAndMargins_clauses :
    ((railAt .active 1 rsOff).railSt 11 ≠ rsRamping ∧ (railAt .active 1 rsOff).railSt 11 ≠ rsDischarge ∧
      (railAt .active 1 rsOff).railSt 11 ≠ rsWait) ∧
    (let s := withRail (railAt .active 1 rsDischarge) fun r => { r with rails := [(11, { raised := [4] })] }
     4 ∈ (s.railOf 11).raised) ∧
    (withRail (railAt .active 1 rsWait) fun r => { r with rails := [(11, { granted := true })] }).railOf 11 = { granted := true } ∧
    (State.reset.fld Fld.RGRP_STATUS_STAGE = 0 ∧ State.reset.groupError ≠ 0) ∧
    (let s := withRail (railAt .active 1 rsRamping) fun r => { r with rails := [(11, { insideAt := some 0 })] }
     (s.setFld (Fld.RAIL_INRUSH_PG_DEB 11) 0).pgReached 11 = true) ∧
    (let s := withRail ((railAt .active 1 rsWait).setFld Fld.SEQ_STATUS_SEQ 1) fun r =>
       { r with tables := [(0, 0x1B000001)], seq := { issued := true } }
     s.railSt 11 = rsWait ∧ (s.railOf 11).granted = false ∧ s.fld Fld.SEQ_STATUS_SEQ = 1 ∧ s.rail.seq.issued = true ∧
       stepOp s.seqWord = 1 ∧ stepRail s.seqWord = 11 ∧ stepTime s.seqWord ≠ 0 ∧ s.rail.seq.thenDown = false ∧
       (s.setFlag Fld.RAIL_CTL_DOWN_ON_FAIL false).flag Fld.RAIL_CTL_DOWN_ON_FAIL = false ∧ s.rail.group.settling = false ∧
       s.mc.shutdown = none) := by
  refine ⟨?_, ?_, ?_, ?_, ?_, ?_⟩ <;> decide

/-- A power-down and its last form, and steps that are not their command's. -/
theorem witness_RailSequences_clauses :
    (∀ kind ∈ [2, 3], (State.reset.setFld Fld.SEQ_STATUS_SEQ kind).fld Fld.SEQ_STATUS_SEQ = kind) ∧
    (∀ k ∈ [0, 1, 2, 3, 4, 5], State.reset.stepReady k = false) ∧
    (State.reset.rail.seq.issued = false ∧ State.reset.fld Fld.SEQ_STATUS_SEQ = 0) := by
  refine ⟨?_, ?_, ?_⟩ <;> decide

/-- A slot that waits for a self-test, one that may not start, triggers that are off. -/
theorem witness_CalibrationRuns_clauses :
    (let s := { slotAt .active 0 0 with acq := { State.reset.acq with test := List.range 32 } }
     s.calMayStart = true ∧ s.calTestWait 0 = true) ∧
    State.reset.calMayStart = false ∧ (State.reset.cal.running = false ∧ State.reset.cal.due = false) ∧
    (State.reset.running .calSched = false ∧ State.reset.running .calRetry = false) ∧
    (∀ step ∈ [0, 1, 6], (slotAt .active 0 step).cal.step = step) ∧
    ((slotAt .active 0 5).cal.step ≠ 6 ∧ (slotAt .active 0 5).mode ≠ .calibrate) ∧
    (∀ m ∈ [Mode.spectrum, .safe, .update], (thermalAt m false).mode = m) ∧ State.reset.cal.applying = false := by
  refine ⟨?_, ?_, ?_, ?_, ?_, ?_, ?_, ?_⟩ <;> decide

/-- START while a pin test runs, and the commands in the stages they are not for. -/
theorem witness_SelfTestRuns_clauses :
    (let s := { ((thermalAt .standby false).setFlag Fld.ST_STATUS_UNLOCKED true).setReg Reg.ST_SEL 1 with
       wd := { State.reset.wd with phase := .pulling } }
     s.flag Fld.ST_STATUS_UNLOCKED = true ∧ s.mode = .standby ∧ s.st.starts = [] ∧ 0 < s.fld Fld.ST_LIMIT_MAX_HOUR ∧
       (s.reg Reg.ST_SEL).getLsbD 0 = true ∧ s.wd.phase ≠ .idle) ∧
    (State.reset.running .stUnlock = false ∧ State.reset.running .stLockout = false) ∧
    (State.reset.st.cur = none ∧ State.reset.hostWait = [] ∧ State.reset.st.bg = none ∧ State.reset.st.port = none) ∧
    ((State.reset.setFlag Fld.ST_CTL_BG_EN false).flag Fld.ST_CTL_BG_EN = false) ∧
    (let s := { (thermalAt .active false).setFlag Fld.ST_CTL_BG_EN true with wd := { State.reset.wd with phase := .pulling } }
     s.flag Fld.ST_CTL_BG_EN = true ∧ s.mode = .active ∧ s.st.bg = none ∧ s.wd.phase ≠ .idle) := by
  refine ⟨?_, ?_, ?_, ?_, ?_⟩ <;> decide

set_option maxRecDepth 8000 in
/-- A wire that may not open a slot, stages of other commands, a failed check, PAGE's stages. -/
theorem witness_AlleyWire_clauses :
    (State.reset.alyOpens = false ∧ (State.reset.setFlag Fld.ALY_CTL_EN false).flag Fld.ALY_CTL_EN = false) ∧
    (∀ op ∈ [1, 2, 3], let s := alleyAt op false { stage := .hailed }
     s.alyOpens = true ∧ s.alyQuiet 360 = false ∧ s.aly.stage = .hailed ∧ s.aly.stage ≠ .addressed ∧ s.aly.stage ≠ .hail) ∧
    (let s := alleyAt 0 false {}
     s.aly.reqScan = false ∧ s.aly.reqPage = none ∧ s.aly.reqPoll = false ∧ s.aly.stage ≠ .converting ∧ s.alyTag 31 = none) ∧
    (∀ ptp ∈ [false, true], let s := alleyAt 3 ptp { stage := .hailed, page := (31, 7), list := [(31, some { id := tagId 0xA3 })] }
     s.alyOpens = true ∧ s.fld Fld.ALY_STATUS_OP = 3 ∧ s.flag Fld.ALY_CTL_PTP = ptp ∧ s.alyTag s.aly.page.1 = some { id := tagId 0xA3 }) ∧
    (let s := alleyAt 2 false { stage := .addressed, tag := some 31, list := [(31, some { id := tagId 0xA1 })] }
     s.alyOpens = true ∧ s.aly.retry = false ∧ alyDataGood (List.replicate 8 0 ++ [1]) = false ∧ (List.replicate 8 (0 : Byte) ++ [1]).length = 9) ∧
    (∃ n rest, [239, 240] = n :: rest ∧ slotBit n = none) ∧
    (alleyAt 3 false { stage := .addressed, page := (31, 7) }).alyOpens = true := by
  refine ⟨?_, ?_, ?_, ?_, ?_, ⟨239, [240], rfl, ?_⟩, ?_⟩ <;> decide

/-- Registers whose fields act on nothing else, at both ends of a range, and a node that is not the root. -/
theorem witness_RegisterWritesAndBus_clauses :
    plainSpan (0x01FF#15).toNat 1 = true ∧ State.reset.isRoot = false ∧
    (let b : BusWrite := { source := none, addr := 0x01FF, value := 0xFFFF }
     plainSpan b.addr 1 = true) := by decide

set_option maxRecDepth 4000 in
/-- A node asleep, registers a frame may write, a read that captures nothing, a CRC that fails, a wait that ends. -/
theorem witness_HostPortFrames_clauses :
    (modeAsleep .ship = true ∧ modeAsleep .watch = true ∧ modeAsleep State.reset.mode = false ∧ State.reset.hostWait = []) ∧
    (plainSpan (cmdAddr 0x01FE0119#32) (cmdCount 0x01FE0119#32) = true ∧ cmdGood 0x01FE0119#32 = true ∧
      cmdAddr 0x01FE0119#32 + cmdCount 0x01FE0119#32 ≤ 0x4000) ∧
    (∀ i, i < cmdCount 0x81000185#32 → snapGroup (cmdAddr 0x81000185#32 + i) = none ∧ snapHigh (cmdAddr 0x81000185#32 + i) = none) ∧
    (frameCrc [1, 2] ≠ frameCrc [1, 2] + 1) := by
  refine ⟨?_, ?_, ?_, ?_⟩ <;> decide

set_option maxRecDepth 4000 in
/-- A read within the pins' ranges, engine spaces, the debug fields open at a stopped engine, marches over either memory. -/
theorem witness_DebugPortAndEngineWindow_clauses :
    (∃ cmd, cmdRead cmd = true ∧ cmdGood cmd = true ∧ cmdAddr cmd + cmdCount cmd ≤ 0x0100) ∧
    (∀ e : Engine, (State.reset.setFld Fld.WIN_ENG_SPACE (e.idx + 1)).fld Fld.WIN_ENG_SPACE = e.idx + 1 ∧
      ({ State.reset with dbgOpen := true }).dbgOpen = true ∧ (State.reset.eng e).st = .stopped) ∧
    ((State.reset.setFld Fld.WIN_ENG_PAGE 31).fld Fld.WIN_ENG_PAGE < 32 ∧ 32 ≤ (State.reset.setFld Fld.WIN_ENG_PAGE 32).fld Fld.WIN_ENG_PAGE) ∧
    (testAt .selftest 2).st.cur = some 2 ∧ (testAt .selftest 3).st.cur = some 3 := by
  refine ⟨⟨0x800000A4#32, by decide⟩,
    fun e => ?_, by decide, rfl, rfl⟩
  cases e <;> decide

/-- Node 0's own registers, the root with an access pending, a node VALID without a route, a broadcast. -/
theorem witness_RemoteAccessByTheHost_clauses :
    (let s := remoteAt (rootWith 0x0301) 0 112 0x0190
     plainSpan s.rmtFirst 1 = true ∧ s.rmtFirst + s.rmtLen ≤ 0x2000) ∧
    ((rootWith 0x0301).setFld Fld.RMT_STATUS_STATE 1).fld Fld.RMT_STATUS_STATE = 1 ∧ State.reset.isRoot = false ∧
    (let s := remoteAt (rootWith 0x0301) 2 1 0
     s.rmtNode = 2 ∧ eValid (s.entry 2) = false ∧ s.rmtLen = 1) ∧
    (let s := (remoteAt (rootWith 0x0301) 0 1 0).setFlag Fld.RMT_NODE_BCAST true
     s.rmtBcast = true ∧ s.rmtLen = 1 ∧ 0x4000 < (remoteAt (rootWith 0x0301) 1 112 0x3F91).rmtFirst + 112) := by
  refine ⟨?_, ?_, ?_, ?_, ?_⟩ <;> decide

/-- The last MEASURE frame a ring waits for, one after its close, characters of which four cannot be decoded. -/
theorem witness_LinkFramesAtAPort_clauses :
    (let s := { rootOpen with rings := [{ isOpen := true, expected := [1] }] }
     (s.ring 0).isOpen = true ∧ (s.ring 0).awaits = [] ∧ ¬ ∃ m ∈ (s.ring 0).expected, m ≠ 1 ∧ m ∉ (s.ring 0).got) ∧
    ((rootActive.ring 0).isOpen = false ∧ State.reset.passes 1 = false) ∧
    (let x : PassingFrame := { chars := [none, some 1, none, none, some 2, none, some 3] }
     4 ≤ (x.chars.filter (·.isNone)).length ∧ (memberAt 0).passes 1 = true ∧ (memberAt 0).portOn 0 = true ∧ (memberAt 0).dir 0 = 1) := by
  refine ⟨?_, ?_, ?_⟩ <;> decide

/-- The end of half A's turn, a lane's frames in a hub's queue, what was asked for again, further trains of a ring. -/
theorem witness_TrainsAndRetransmission_clauses :
    ((memberAt 1).half ≠ 0 ∧ (memberAt 1).ms.inbound = false ∧ (memberAt 1).flag Fld.MEMB_END = false ∧
      (memberAt 2).flag Fld.MEMB_EXCLUDED = false) ∧
    ((memberAt 0).insertPort < 2 ∧ (memberAt 0).portOn (memberAt 0).insertPort = true ∧ (memberAt 0).dir (memberAt 0).insertPort ≠ 0 ∧
      (memberAt 0).link.insertion = [] ∧ (memberAt 0).keys.busy = false) ∧
    (∀ sent ∈ [false, true], let s := { memberAt 0 with link := { (memberAt 0).link with hubQueue := [measureFrame], measureSent := sent } }
     s.link.insertion = [] ∧ s.link.hubQueue = measureFrame :: [] ∧
       (s.link.measureSent && !s.link.again && (s.half == 0 || s.ms.inbound)) = sent) ∧
    (let f : Frame := { engineCommand with payload := [0, 0, 4, 0] }
     let s := { memberAt 0 with link := { (memberAt 0).link with response := some measureFrame } }
     leAt f.payload 2 1 = 4 ∧ s.link.response = some measureFrame ∧ s.half = 0) ∧
    (let s := { rootOpen with rings := [{ isOpen := true, train := false, command := true, expected := [1, 2], awaits := [2] }] }
     (s.ring 0).train = false ∧ (s.ring 0).speaks = true ∧ (s.ring 0).isOpen = true ∧ (s.ring 0).expected.Nodup) ∧
    (rootActive.heads 0 = true ∧ (rootActive.ring 0).train = false ∧ State.reset.heads 0 = false) := by
  refine ⟨?_, ?_, ?_, ?_, ?_, ?_⟩ <;> decide

/-- Frames of other kinds, an echo at the port that waits for one, a hub's Lane port, an order while a ring is in halves. -/
theorem witness_Enumeration_clauses :
    ((memberAt 0).takesControl (control [9, 0, 0, 0]) 0x01 = false ∧ rootOpen.headTakes 0 (control [3]) 0x02 = false) ∧
    ((rootActive.ring 0).enumStep = 0) ∧
    (let s := (memberAt 2).setFlag Fld.MEMB_END true
     s.takesControl (control [3, 0, 0, 0]) 0x03 = true ∧ s.half = 2 ∧ s.portOn 0 = true ∧ s.dir 0 ≠ 0 ∧ s.flag Fld.MEMB_END = true) ∧
    (let s := { memberAt 0 with link := { (memberAt 0).link with echo := [(0, 3200)] } }
     s.portOn 0 = true ∧ s.dir 0 ≠ 0 ∧ (∃ x ∈ s.link.echo, x.1 = 0) ∧ s.linkOn = true) ∧
    ((memberAt 0).dir 0 = 1 ∧ (memberAt 0).heads 0 = false ∧ rootActive.heads (0 / 2) = true ∧ (memberAt 0).heads (2 / 2) = false) ∧
    (∀ st ∈ [3, 4], (ringAt st).rngState 0 = st ∧ (ringAt st).mayHead 0 = true) ∧ State.reset.mayHead 0 = false := by
  refine ⟨?_, ?_, ?_, ?_, ⟨by decide, by decide, by decide, by decide⟩, ?_, ?_⟩ <;> decide

/-- Cut-off positions on both sides of the break, halves with no position to give up, nodes the orders do not concern. -/
theorem witness_BreaksAndHalves_clauses :
    (let f (n : BitVec 13) : Frame := { control [5, 0, 0, 0] with src := n }
     ((ringAt 3).memberOf 0 1).isSome = true ∧ (ringAt 3).headTakes 0 (f 1) 0x05 = true ∧ ((ringAt 3).ring 0).endA = 2 ∧
       ((ringAt 3).memberOf 0 4).map (·.pos) = some 4) ∧
    (let s := { ringAt 3 with rings := [{ endA := 0, endB := 5 }] }.setFld (Fld.RNG_STATUS_STATE 0) 3
     (s.ring 0).endA = 0 ∧ (s.ring 0).members.length < (s.ring 0).endB) ∧
    ((memberAt 0).half = 0 ∧ (memberAt 0).takesControl (control [9, 0, 0, 0]) 0x06 = false ∧ rootOpen.headTakes 0 (control [9]) 0x05 = false) ∧
    ((0#6).toNat < 1 ∧ (ringAt 2).mayHead 0 = true ∧ (ringAt 2).rngState 0 ≠ 3) := by
  refine ⟨?_, ?_, ?_, ?_⟩ <;> decide

/-- A root that may not start a sweep, a node asleep, no count of silence. -/
theorem witness_SweepStarts_clauses :
    ((rootActive.setFlag Fld.TREE_CTL_SWEEP_EN false).flag Fld.TREE_CTL_SWEEP_EN = false ∧
      modeAsleep ({ State.reset with mode := .ship }).mode = true ∧ State.reset.running .sweepLapse = false) ∧
    (memberAt 0).mode ≠ .boot := by
  refine ⟨?_, ?_⟩ <;> decide

theorem witness_AnIdleStepIsOneTick_clauses :
    State.reset.link.echo = [] ∧ modeAsleep State.reset.mode = false ∧ modeAsleep .ship = true ∧
    (let s := impPoint true 0
     s.imp.inPoint = true ∧ { s with acq := { s.acq with modClk := { } } }.imp.inPoint = true) := by decide

/-! ### Ill-formed commands are refused -/

/-- One command for each check of WellFormed that its operands do not pass. -/
theorem test_ill_formed_fault : ∀ i ∈ (
  [.instantsWindowClose [], .impSettleEnd [1, 2, 3], .impSlot [1, 2, 3] 1 1, .impSlot [1, 2, 3, 4] 0 1, .impSlot [1, 2, 3, 4] 1 0,
   .monitorSampleTick (List.replicate 40 0),
   .hsLoadDone [], .hostWriteFrame 0x80000000 [1] 0, .hostWriteFrame 0x00000100 [1] 0, .hostReadFrame 0,
   .hostFrameCut none [1] none, .hostFrameCut (some 0) [1, 2] none, .hostFrameCut (some 0) [] (some 0),
   .hostFrameCut (some 0x80000000) [1] none, .dbgFrame 0x80000000 [1] 0, .dbgFrame 0x00000100 [1] 0] : List Instr), i.wf = false ∧ exec i State.reset = .fault .illFormed := by
  simp only [List.forall_mem_cons, List.not_mem_nil, false_imp_iff, implies_true, and_true]
  repeat' constructor

/-- A pass of a calibration slot ends with one result for each trim; a device cannot be found that is not one. -/
theorem test_ill_formed_here :
    (let s := slotAt .active 0 3
     s.accepts (.calSlotPhaseEnd []) = false ∧ exec (.calSlotPhaseEnd []) s = .fault .illFormed) ∧
    (let s := (bootAt 11 false).setFld Fld.NODE_ROLE_ROLE 2
     let i := Instr.bootStepComplete true 0 false false (.blank 9 [])
     s.accepts i = false ∧ exec i s = .fault .illFormed) := by
  exact ⟨⟨by decide, rfl⟩, by decide, rfl⟩

/-! ### Values the spec states -/

def digits : List Byte := [0x31, 0x32, 0x33, 0x34, 0x35, 0x36, 0x37, 0x38, 0x39]

/-- R209 and R317: the check values over "123456789", and over the byte 0x01. -/
theorem test_check_values : crc32 0 digits = 0xCBF43926 ∧ engCheck 1 0 digits = 0x31C3 ∧ engCheck 1 0xFFFF digits = 0x29B1 ∧
    engCheck 2 0 [1] = 0x2F := by decide +kernel

/-- The worked example of R212 to R215. -/
theorem test_parity_example : rsParity [0x01, 0x00] = [0x3D, 0xE5, 0xE1, 0x50, 0x59, 0x31] := by decide +kernel

/-- The command goes on to a state with a property that can be checked. -/
def after (i : Instr) (s : State) (p : State → Bool) : Bool :=
  match exec i s with
  | .next t => p t
  | _ => false

/-- The words the listing of spec/11 encodes: movt g4, 0x0002 makes 0x2_1000 of 0x1000; bmi 3 with N clear and set; dbnz g8
goes on to 12 until g8 is 0; hsig 3 sets bit 3 of ENG_HOSTEVT. -/
theorem test_listing :
    after (.movt .node) (engAt .node 0x55000002 [(4, 0x1000)]) (fun t => (t.eng .node).get 4 == 0x21000) = true ∧
    after (.branch .node) (engAt .node 0x81400003 []) (fun t => (t.eng .node).pc == 1) = true ∧
    after (.dbnz .node) (engAt .node 0x9200000C [(8, 15)]) (fun t => (t.eng .node).pc == 12 && (t.eng .node).get 8 == 14) = true ∧
    after (.dbnz .node) (engAt .node 0x9200000C [(8, 1)]) (fun t => (t.eng .node).pc == 1 && (t.eng .node).get 8 == 0) = true ∧
    after (.hsig .node) (engAt .node 0xC4000003 []) (fun t => t.reg Reg.ENG_HOSTEVT == 8) = true := by decide +kernel

/-- The worked example of R337: at 10 V the NAND device is refused and the flash permitted, at 9 V both are refused, at 12 V
both permitted. -/
def supplied (vstk : Nat) : State := State.reset.setPair (Reg.EP_LO 31) (Reg.EP_HI 31) (vstk / 32)

theorem test_hold_up :
    [9000000, 10000000, 12000000].map (fun v => (holdEnough 220 (supplied v).vstk 560 75 50, holdEnough 220 (supplied v).vstk 560 4 50)) =
      [(false, false), (false, true), (true, true)] := by decide +kernel

/-- R4: a host's write of a W1C register clears the bits written 1 and no other. -/
theorem test_w1c : ((hostWrite .qspi (State.reset.setReg Reg.IRQ_PEND 0x0F00) Reg.IRQ_PEND 0x0500).reg Reg.IRQ_PEND) = 0x0A00 := by
  decide +kernel

end Sys2Proof.Tests
end

section
/-!
The machine's step: the command at the front of the queue, the idle tick, and which commands complete.
-/
namespace Sys2Proof.Machine

/-! ### A step -/

/-- Settles O54: the queue's front is what `step` matches on. -/
theorem aStepRunsTheFrontCommand : Obligations.AStepRunsTheFrontCommand := by
  intro s c rest h
  simp only [step, h]

theorem step_of_idle {s : State} (h : s.pending = []) : step s = .next (settle (idleEffect s)) := by
  simp only [step, h]
  rfl

/-! ### The idle tick where nothing is under way -/

theorem waitTick_of_no_wait {s : State} {e : Engine} (h : (s.eng e).wait = none) : waitTick s e = s := by
  simp only [waitTick, h]

theorem waitsTick_of_no_wait {s : State} (h : ∀ e : Engine, (s.eng e).wait = none) : waitsTick s = s := by
  simp only [waitsTick, State.forEach, engines, List.foldl_cons, List.foldl_nil, waitTick_of_no_wait (h _)]

theorem echoOver_of_no_echo {s : State} (past : Nat × Nat → Bool) (h : s.link.echo = []) : echoOver s past = s := by
  simp only [echoOver, h]

theorem echoesTick_of_no_quiet {s : State} (h : ∀ x ∈ s.rings, x.quietTo = none) : echoesTick s = s := by
  have all : s.rings.all (·.quietTo.isNone) = true := by
    simpa [List.all_eq_true] using h
  simp only [echoesTick, all, if_true]

theorem stAdvance_of_no_test {s : State} (h : s.st.cur = none) : stAdvance s = s := by
  simp only [stAdvance, h]

theorem bgResume_of_not_due {s : State} (h : s.st.bgDue = false) : bgResume s = s := by
  simp [bgResume, h]

theorem mirrorResume_of_no_wait {s : State} (h : s.st.mirrorWait = []) : mirrorResume s = s := by
  simp only [mirrorResume, h, List.filter_nil, State.forEach, List.foldl_nil]
  rw [← h]

theorem hostResume_of_no_wait {s : State} (h : s.hostWait = []) : hostResume s = s := by
  simp only [hostResume, h, List.foldl_nil]
  rw [← h]

/-- The excitation's phase moves at a period of the modulator clock in a point. -/
theorem oscillatorTick_eq (s : State) : oscillatorTick s = { s with
    imp := if s.imp.inPoint = true ∧ s.acq.modClk.pos = 0 then { s.imp with phase := s.imp.phase + s.imp.fw } else s.imp } := by
  by_cases h : s.imp.inPoint = true ∧ s.acq.modClk.pos = 0
  · simp only [oscillatorTick, h, beq_self_eq_true, Bool.and_self, if_true, and_self]
  · have hb : ¬ (s.imp.inPoint && s.acq.modClk.pos == 0) = true := by simpa using h
    rw [oscillatorTick, if_neg hb, if_neg h]

/-- The timebase, the modulator clock and the excitation's phase are all a tick's clocks move, and only awake. -/
theorem timebaseTick_eq (s : State) : timebaseTick s = { s with
    tb := if modeAsleep s.mode = true then s.tb else s.tb.tick
    acq := if modeAsleep s.mode = true then s.acq else { s.acq with modClk := s.acq.modClk.tick }
    imp := if modeAsleep s.mode = false ∧ s.imp.inPoint = true ∧ s.acq.modClk.tick.pos = 0 then
      { s.imp with phase := s.imp.phase + s.imp.fw } else s.imp } := by
  cases h : modeAsleep s.mode
  · simp only [timebaseTick, h, oscillatorTick_eq, Bool.false_eq_true, if_false, true_and]
  · simp only [timebaseTick, h, if_true, Bool.true_eq_false, false_and, if_false]

theorem summaryFree_eq (s : State) : summaryFree s = { s with
    minute := if s.freeRunning = true then { s.minute with free := true } else s.minute
    hour := if s.freeRunning = true then { s.hour with free := true } else s.hour } := by
  cases h : s.freeRunning <;> simp only [summaryFree, h, if_true, Bool.false_eq_true, if_false]

/-- Nothing of the node is under way that a tick would move on: no engine waits, no frame of a host port is held, no echo
is awaited, and no self-test runs or has work waiting. -/
structure Quiet (s : State) : Prop where
  waits : ∀ e : Engine, (s.eng e).wait = none
  frames : s.hostWait = []
  echo : s.link.echo = []
  rings : ∀ x ∈ s.rings, x.quietTo = none
  test : s.st.cur = none
  item : s.st.bgDue = false
  mirror : s.st.mirrorWait = []

/-- A state apart from its clocks and summaries stays quiet, whatever their values. -/
theorem Quiet.of_clocks {s t : State} (h : Quiet s) (hw : ∀ e, t.eng e = s.eng e) (hf : t.hostWait = s.hostWait)
    (hl : t.link = s.link) (hr : t.rings = s.rings) (hs : t.st = s.st) : Quiet t := by
  constructor
  · exact fun e => hw e ▸ h.waits e
  · exact hf ▸ h.frames
  · exact hl ▸ h.echo
  · exact hr ▸ h.rings
  · exact hs ▸ h.test
  · exact hs ▸ h.item
  · exact hs ▸ h.mirror

/-- The parts of a tick that move work on find none in a quiet state. -/
theorem worksTick_of_quiet {s : State} (past : Nat × Nat → Bool) (h : Quiet s) (k : Quiet (summaryFree s)) :
    hostResume (mirrorResume (bgResume (stAdvance (summaryFree (echoesTick (echoOver s past)))))) = summaryFree s := by
  rw [echoOver_of_no_echo past h.echo, echoesTick_of_no_quiet h.rings, stAdvance_of_no_test k.test,
    bgResume_of_not_due k.item, mirrorResume_of_no_wait k.mirror, hostResume_of_no_wait k.frames]

/-- In a quiet state a tick moves the clocks, notes a timebase that runs free, and has the rails judged. -/
theorem idleEffect_of_quiet {s : State} (h : Quiet s) :
    idleEffect s = railsJudge (summaryFree (timebaseTick { s with now := s.now + 1 })) := by
  have clocks : Quiet (timebaseTick { s with now := s.now + 1 }) := by
    rw [timebaseTick_eq]
    exact h.of_clocks (fun e => by cases e <;> rfl) rfl rfl rfl rfl
  have notes : Quiet (summaryFree (timebaseTick { s with now := s.now + 1 })) := by
    rw [summaryFree_eq]
    exact clocks.of_clocks (fun e => by cases e <;> rfl) rfl rfl rfl rfl
  simp only [idleEffect, waitsTick_of_no_wait h.waits]
  rw [worksTick_of_quiet _ clocks notes]

/-- Settles O55: the tick's parts that find nothing to do leave the state as it is. -/
theorem anIdleStepIsOneTick : Obligations.AnIdleStepIsOneTick := by
  intro s idle
  refine ⟨⟨_, step_of_idle idle⟩, fun waits frames echo rings test item mirror => ?_⟩
  refine ⟨summaryFree (timebaseTick { s with now := s.now + 1 }), ?_, ?_⟩
  · rw [step_of_idle idle, idleEffect_of_quiet ⟨waits, frames, echo, rings, test, item, mirror⟩]
  · rw [summaryFree_eq, timebaseTick_eq]
    rfl

end Sys2Proof.Machine
end

section
/-!
Which commands complete: an accepted one answers a next state, the others the fault of their name.
-/
namespace Sys2Proof.Machine

/-! ### What completes -/

/-- The answer is a next state. -/
def Goes (o : Host.Outcome State Fault Refusal) : Prop := ∃ t, o = .next t

theorem Goes.next {o : Host.Outcome State Fault Refusal} {t : State} (h : o = .next t) : Goes o := ⟨t, h⟩

theorem Goes.ite {c : Prop} [Decidable c] {a b : Host.Outcome State Fault Refusal} (h : Goes a) (k : Goes b) :
    Goes (if c then a else b) := by
  split
  · exact h
  · exact k

/-- An instruction that faults stops its engine, not the machine. -/
theorem engRun_goes (s : State) (e : Engine) (op : Nat) (pick : Word → Bool) (body : Word → Eng → EngOut) :
    Goes (engRun s e op pick body) := by
  unfold engRun
  split <;> exact .next rfl

theorem execRegr_goes (e : Engine) (s : State) : Goes (execRegr e s) := by
  unfold execRegr
  split <;> exact .next rfl

theorem execSecSlotComplete_goes (b : Bool) (e : Option (Fin 32)) (x : Int) (s : State) :
    Goes (execSecSlotComplete b e x s) := by
  cases e with
  | none => exact .ite (.next rfl) (.ite (.next rfl) (.ite (.next rfl) (.next rfl)))
  | some e => exact .ite (.next rfl) (.ite (.next rfl) (.next rfl))

theorem execSnapCapture_goes (p : Path) (a : BitVec 15) (s : State) : Goes (execSnapCapture p a s) := by
  unfold execSnapCapture
  split <;> exact .next rfl

theorem execImpRoundStart_goes (s : State) : Goes (execImpRoundStart s) := by
  unfold execImpRoundStart
  split
  · exact .ite (.next rfl) (.next rfl)
  · exact .next rfl

theorem execBreakFrame_goes (r : RingId) (f : Frame) (s : State) : Goes (execBreakFrame r f s) := by
  refine .ite (.next rfl) ?_
  split <;> exact .next rfl

/-! ### Commands with a shape -/

/-- The commands whose operands have a shape to check. -/
def shaped : Instr → Bool
  | .instantsWindowClose _ | .impSettleEnd _ | .impSlot _ _ _ | .monitorSampleTick _ | .hsLoadDone _ => true
  | .hostWriteFrame _ _ _ | .hostReadFrame _ | .hostFrameCut _ _ _ | .dbgFrame _ _ _ => true
  | .calSlotPhaseEnd _ | .bootStepComplete _ _ _ _ _ => true
  | _ => false

/-- Any other command is accepted in every state. -/
theorem accepts_of_not_shaped (s : State) {i : Instr} (h : shaped i = false) : s.accepts i = true := by
  cases i
  case instantsWindowClose | impSettleEnd | impSlot | monitorSampleTick | hsLoadDone | hostWriteFrame | hostReadFrame |
      hostFrameCut | dbgFrame | calSlotPhaseEnd | bootStepComplete => exact absurd h (by simp [shaped])
  all_goals rfl

/-- Any other command completes. -/
theorem exec_goes_of_not_shaped (s : State) {i : Instr} (h : shaped i = false) : Goes (exec i s) := by
  cases i
  case instantsWindowClose | impSettleEnd | impSlot | monitorSampleTick | hsLoadDone | hostWriteFrame | hostReadFrame |
      hostFrameCut | dbgFrame | calSlotPhaseEnd | bootStepComplete => exact absurd h (by simp [shaped])
  case add | addi | sub | cmp | cmpi | mul | mulh | div | divu | andE | orE | xor | andi | ori | xori | shl | shr | sar | sext |
      movi | movt | ldw | ldh | ldb | stw | sth | stb | swap | ldp | branch | br | call | callr | dbnz | tbr | wph | wtb | wev |
      poll | sig | hsig | kick | endE | regw | mrd | mreq | xfrBalPrepare | xfrBalCommit | xfrBalCancel | xfrBalStop |
      xfrImpPrepare | xfrImpCommit | xfrImpAbort | fsnd | frcv | log | crc => exact engRun_goes ..
  case regr => exact execRegr_goes ..
  case secSlotComplete => exact execSecSlotComplete_goes ..
  case snapCapture => exact execSnapCapture_goes ..
  case impRoundStart => exact execImpRoundStart_goes ..
  case breakFrame => exact execBreakFrame_goes ..
  case echoAnswer => exact .ite (.next rfl) (.ite (.next rfl) (.ite (.next rfl) (.next rfl)))
  case comparatorStateChange => exact .ite (.ite (.next rfl) (.next rfl)) (.next rfl)
  case filterOutput | auxScanValue | wdPeriodElapsed | pinTestBaselineDone | pinTestRecoveryEnd | monitorStateChange |
      linkLos | linkLosClear | linkAlignLoss | linkAlignRegain | linkWake | wakeRelay | trainOpenReceive |
      insertBufferDrain | trainEnd | ringTimeout | remoteRead | remoteWrite | mend | reform | frameSent | hsFlushAge |
      thermalSample | supplySag => exact .ite (.next rfl) (.next rfl)
  all_goals exact .next rfl

/-- A command completes where it is accepted and else stops as ill-formed. -/
def Judged (s : State) (i : Instr) : Prop :=
  (s.accepts i = true → Goes (exec i s)) ∧ (s.accepts i = false → exec i s = .fault .illFormed)

/-- A command that checks its shape first and then completes. -/
theorem Judged.of_check {s : State} {i : Instr} {c : Prop} [Decidable c] {b : Host.Outcome State Fault Refusal}
    (he : exec i s = if c then .fault .illFormed else b) (hb : Goes b) (ha : s.accepts i = true ↔ ¬ c) : Judged s i := by
  rw [Judged, he]
  constructor
  · intro h
    rw [if_neg (ha.mp h)]
    exact hb
  · intro h
    rw [if_pos (Decidable.of_not_not (mt ha.mpr (by simp [h])))]

theorem judged_of_shaped (s : State) {i : Instr} (h : shaped i = true) : Judged s i := by
  cases i
  case instantsWindowClose values =>
    exact .of_check rfl (.ite (.next rfl) (.next rfl)) (by simp [State.accepts, Instr.wf, State.takes])
  case impSettleEnd | monitorSampleTick | hsLoadDone | hostWriteFrame | hostReadFrame | dbgFrame =>
    exact .of_check rfl (.next rfl) (by simp [State.accepts, Instr.wf, State.takes])
  case impSlot sums n unit =>
    exact .of_check rfl (.next rfl) (by simp [State.accepts, Instr.wf, State.takes, Nat.pos_iff_ne_zero])
  case hostFrameCut cmd words crc =>
    have fits : s.accepts (.hostFrameCut cmd words crc) = cutFits cmd words crc := Bool.and_true _
    rw [Judged, fits]
    exact ⟨fun ha => .next (if_pos ha), fun ha => if_neg (by simp [ha])⟩
  case calSlotPhaseEnd readings =>
    refine .of_check rfl (.next rfl) ?_
    simp only [State.accepts, Instr.wf, State.takes, Bool.true_and, Bool.or_eq_true, Bool.not_eq_true', Bool.or_eq_false_iff,
      beq_eq_false_iff_ne, beq_iff_eq]
    tauto
  case bootStepComplete keys psel lane1 lane2 nand =>
    refine .of_check rfl (.next rfl) ?_
    simp only [State.accepts, Instr.wf, State.takes, Bool.true_and, Bool.or_eq_true, Bool.not_eq_true', Bool.and_eq_true,
      beq_iff_eq, bne_iff_ne, ← Bool.not_eq_true]
    tauto
  all_goals exact absurd h (by simp [shaped])

/-- Settles O58: only a command with a shape to check can stop, and only where the check fails. -/
theorem acceptedCommandsComplete : Obligations.AcceptedCommandsComplete := by
  intro s i
  cases h : shaped i with
  | true => exact judged_of_shaped s h
  | false =>
    refine ⟨fun _ => exec_goes_of_not_shaped s h, fun ha => ?_⟩
    rw [accepts_of_not_shaped s h] at ha
    contradiction

end Sys2Proof.Machine
end

section
/-!
The register map's rows: no two share a bit, so what a write leaves of a register can be said field by field.
-/
namespace Sys2Proof.Machine

/-! ### Rows apart -/

/-- The last register of a row's series. -/
def MapRow.last (r : MapRow) : Nat := r.base + (r.count - 1) * r.stride

/-- The row's field covers the bit. -/
def MapRow.covers (r : MapRow) (j : Nat) : Bool := decide (r.lo ≤ j) && decide (j ≤ r.hi)

/-- Two rows share no bit: their registers lie apart, alternate, or their fields lie apart. -/
def MapRow.apart (r q : MapRow) : Bool :=
  Nat.blt r.last q.base || (Nat.blt q.last r.base || (Nat.blt r.hi q.lo || (Nat.blt q.hi r.lo ||
    (r.stride == q.stride && !(r.base % r.stride == q.base % r.stride)))))

/-- Every two rows of a list are apart. -/
def allApart : List MapRow → Bool
  | [] => true
  | r :: rest => rest.all r.apart && allApart rest

theorem pairwise_of_allApart : ∀ {l : List MapRow}, allApart l = true → l.Pairwise fun r q => r.apart q = true
  | [], _ => .nil
  | r :: l, h => by
    rw [allApart, Bool.and_eq_true, List.all_eq_true] at h
    exact .cons h.1 (pairwise_of_allApart h.2)

/-- A register of a series is some strides from its first. -/
theorem inSeries_index {b c st a : Nat} (h : inSeries b c st a = true) (hc : 0 < c) : ∃ k, k < c ∧ a = b + k * st := by
  unfold inSeries at h
  split at h
  · exact ⟨0, hc, by simpa using h⟩
  · next hs =>
    simp only [Bool.and_eq_true, decide_eq_true_eq] at h
    obtain ⟨⟨hle, hmod⟩, hlt⟩ := h
    refine ⟨_, hlt, ?_⟩
    rw [Nat.div_mul_cancel (Nat.dvd_of_mod_eq_zero hmod)]
    omega

/-- A register of a series lies between its first and its last, and in step with them. -/
theorem inSeries_bounds {b c st a : Nat} (h : inSeries b c st a = true) (hc : 0 < c) :
    b ≤ a ∧ a ≤ b + (c - 1) * st ∧ a % st = b % st := by
  obtain ⟨k, hk, rfl⟩ := inSeries_index h hc
  exact ⟨Nat.le_add_right .., Nat.add_le_add_left (Nat.mul_le_mul_right st (by omega)) b, Nat.add_mul_mod_self_right ..⟩

/-- The rows of a register, in the map's order. -/
def rowsAt (a : Nat) : List MapRow := mapRows.filter fun r => inSeries r.base r.count r.stride a

theorem mem_rowsAt {a : Nat} {r : MapRow} : r ∈ rowsAt a ↔ r ∈ mapRows ∧ inSeries r.base r.count r.stride a = true :=
  List.mem_filter

/-- Each field has a bit, within 16, and each series lies within 256 registers that begin at a multiple of 256. -/
theorem row_shape : ∀ r ∈ mapRows, r.lo ≤ r.hi ∧ r.hi < 16 ∧ 0 < r.count ∧ r.base / 256 = r.last / 256 := by
  decide +kernel

/-- Rows of the same 256 registers are apart. -/
theorem rows_apart : ∀ p < 64, allApart (mapRows.filter fun r => r.base / 256 == p) = true := by
  decide +kernel

theorem row_base_lt : ∀ r ∈ mapRows, r.base / 256 < 64 := by decide +kernel

theorem row_page {r : MapRow} {a : Nat} (h : r ∈ rowsAt a) : r.base / 256 = a / 256 := by
  obtain ⟨hr, hs⟩ := mem_rowsAt.mp h
  obtain ⟨-, -, hc, hp⟩ := row_shape r hr
  obtain ⟨hlo, hhi, -⟩ := inSeries_bounds hs hc
  have h1 := Nat.div_le_div_right (c := 256) hlo
  have h2 : a / 256 ≤ r.last / 256 := Nat.div_le_div_right hhi
  omega

/-- No two rows of a register cover one bit. -/
theorem rowsAt_apart (a : Nat) : (rowsAt a).Pairwise fun r q => ∀ j, r.covers j = true → q.covers j = false := by
  by_cases hp : a / 256 < 64
  · have sub : rowsAt a = (mapRows.filter fun r => r.base / 256 == a / 256).filter
        fun r => inSeries r.base r.count r.stride a := by
      rw [List.filter_filter]
      refine List.filter_congr fun r hr => ?_
      cases hs : inSeries r.base r.count r.stride a
      · rfl
      · simpa using row_page (mem_rowsAt.mpr ⟨hr, hs⟩)
    have pw : (rowsAt a).Pairwise fun r q => r.apart q = true := by
      rw [sub]
      exact (pairwise_of_allApart (rows_apart _ hp)).filter _
    refine pw.imp_of_mem fun {r q} hr hq hrq j hj => ?_
    obtain ⟨hrm, hrs⟩ := mem_rowsAt.mp hr
    obtain ⟨hqm, hqs⟩ := mem_rowsAt.mp hq
    obtain ⟨rlo, rhi, rmod⟩ := inSeries_bounds hrs (row_shape r hrm).2.2.1
    obtain ⟨qlo, qhi, qmod⟩ := inSeries_bounds hqs (row_shape q hqm).2.2.1
    simp only [MapRow.apart, MapRow.last, MapRow.covers, Nat.blt_eq, Bool.or_eq_true, Bool.and_eq_true, decide_eq_true_eq,
      beq_iff_eq, Bool.not_eq_true', beq_eq_false_iff_ne, Bool.and_eq_false_iff, decide_eq_false_iff_not] at hrq hj ⊢
    rcases hrq with h | h | h | h | ⟨hst, hne⟩
    · omega
    · omega
    · omega
    · omega
    · exact absurd (rmod.symm.trans (hst ▸ qmod)) hne
  · have none : rowsAt a = [] := by
      refine List.eq_nil_iff_forall_not_mem.mpr fun r hr => hp ?_
      rw [← row_page hr]
      exact row_base_lt r (mem_rowsAt.mp hr).1
    rw [none]
    exact .nil

/-! ### The bits of a write -/

/-- The bit of a field after a write: `b` stood there, `v` is written. -/
def takenBit (r : MapRow) (unlocked : Bool) (v : Half) (b : Bool) (j : Nat) : Bool :=
  let x := v.toNat % 2 ^ (r.hi + 1) / 2 ^ r.lo
  let put : Bool := if r.least ≤ x ∧ x ≤ r.most then v.getLsbD j else b
  match r.acc with
  | .rw => put
  | .rl => if unlocked then put else b
  | .w1c => b && !v.getLsbD j
  | _ => b

/-- The value of bits `hi` to `lo`, bit by bit. -/
theorem field_testBit (x : Half) (hi lo i : Nat) :
    (x.toNat % 2 ^ (hi + 1) / 2 ^ lo).testBit i = (decide (i + lo < hi + 1) && x.getLsbD (i + lo)) := by
  rw [Nat.testBit_div_two_pow, Nat.testBit_mod_two_pow, BitVec.testBit_toNat]

theorem BitField.read_eq (f : BitField) (w : Half) : f.read w = w.toNat % 2 ^ (f.hi + 1) / 2 ^ f.lo := by
  apply Nat.eq_of_testBit_eq
  intro i
  rw [BitField.read_getLsbD, field_testBit, Nat.add_comm f.lo i]
  congr 1
  exact decide_eq_decide.mpr (by omega)

theorem mask_shift_getLsbD (r : MapRow) (a j : Nat) (hhi : r.hi < 16) :
    ((⟨a, r.hi, r.lo⟩ : BitField).mask <<< r.lo).getLsbD j = r.covers j := by
  rw [BitVec.getLsbD_shiftLeft, BitField.mask_getLsbD, MapRow.covers, Bool.eq_iff_iff]
  simp only [Bool.and_eq_true, Bool.not_eq_true', decide_eq_true_eq, decide_eq_false_iff_not]
  omega

/-- A field written with what the same bits of `v` hold. -/
theorem write_read_getLsbD (r : MapRow) (a : Nat) (v w : Half) (j : Nat) (hhi : r.hi < 16) :
    ((⟨a, r.hi, r.lo⟩ : BitField).write w ((⟨a, r.hi, r.lo⟩ : BitField).read v)).getLsbD j =
      if r.covers j = true then v.getLsbD j else w.getLsbD j := by
  have same : BitVec.ofNat 16 ((⟨a, r.hi, r.lo⟩ : BitField).read v) = (v >>> r.lo) &&& (⟨a, r.hi, r.lo⟩ : BitField).mask := by
    rw [BitField.read, BitVec.ofNat_toNat, BitVec.setWidth_eq]
  rw [BitField.write, same, BitVec.getLsbD_or, BitVec.getLsbD_and, BitVec.getLsbD_not, mask_shift_getLsbD r a j hhi,
    BitVec.getLsbD_shiftLeft, BitVec.getLsbD_and, BitVec.getLsbD_and, BitVec.getLsbD_ushiftRight, BitField.mask_getLsbD]
  by_cases h16 : j < 16
  · cases hc : r.covers j
    · have off : ¬ (r.lo ≤ j ∧ j - r.lo < r.hi + 1 - r.lo) := by
        simp only [MapRow.covers, Bool.and_eq_false_iff, decide_eq_false_iff_not] at hc
        omega
      by_cases hlo : r.lo ≤ j
      · have : ¬ j - r.lo < r.hi + 1 - r.lo := fun h => off ⟨hlo, h⟩
        simp [h16, this]
      · simp [h16, hlo]
    · simp only [MapRow.covers, Bool.and_eq_true, decide_eq_true_eq] at hc
      have h1 : ¬ j < r.lo := by omega
      have h2 : j - r.lo < r.hi + 1 - r.lo := by omega
      have h3 : j - r.lo < 16 := by omega
      simp [h16, h1, h2, h3, hc.1]
  · simp [h16, BitVec.getLsbD_of_ge _ _ (Nat.le_of_not_lt h16)]

/-- One row's part in a write: the bits of its field are taken, the others stay. -/
theorem fieldTakes_getLsbD (r : MapRow) (u : Bool) (a : Nat) (v w : Half) (j : Nat) (hhi : r.hi < 16) :
    (fieldTakes r u a v w).getLsbD j = if r.covers j = true then takenBit r u v (w.getLsbD j) j else w.getLsbD j := by
  have hput : (if r.least ≤ (⟨a, r.hi, r.lo⟩ : BitField).read v ∧ (⟨a, r.hi, r.lo⟩ : BitField).read v ≤ r.most then
        (⟨a, r.hi, r.lo⟩ : BitField).write w ((⟨a, r.hi, r.lo⟩ : BitField).read v) else w).getLsbD j =
      if r.covers j = true then (if r.least ≤ v.toNat % 2 ^ (r.hi + 1) / 2 ^ r.lo ∧
        v.toNat % 2 ^ (r.hi + 1) / 2 ^ r.lo ≤ r.most then v.getLsbD j else w.getLsbD j) else w.getLsbD j := by
    rw [← BitField.read_eq ⟨a, r.hi, r.lo⟩ v]
    split
    · exact write_read_getLsbD r a v w j hhi
    · exact (ite_self _).symm
  unfold fieldTakes takenBit
  cases r.acc
  case rw => exact hput
  case rl =>
    cases u
    · exact (ite_self _).symm
    · exact hput
  case w1c =>
    change (w &&& ~~~(v &&& ((⟨a, r.hi, r.lo⟩ : BitField).mask <<< r.lo))).getLsbD j = _
    rw [BitVec.getLsbD_and, BitVec.getLsbD_not, BitVec.getLsbD_and, mask_shift_getLsbD r a j hhi]
    by_cases h16 : j < 16
    · cases r.covers j <;> simp [h16]
    · simp [BitVec.getLsbD_of_ge _ _ (Nat.le_of_not_lt h16)]
  case ro | wo | snap => exact (ite_self _).symm

/-- A bit that one row of a list without overlaps covers is that row's; a bit none covers stays. -/
theorem foldl_fieldTakes_getLsbD (u : Bool) (a : Nat) (v : Half) (j : Nat) : ∀ (l : List MapRow) (w : Half),
    (∀ r ∈ l, r.hi < 16) → (l.Pairwise fun r q => ∀ j, r.covers j = true → q.covers j = false) →
    (∀ r ∈ l, r.covers j = true →
      (l.foldl (fun w r => fieldTakes r u a v w) w).getLsbD j = takenBit r u v (w.getLsbD j) j) ∧
    ((∀ r ∈ l, r.covers j = false) → (l.foldl (fun w r => fieldTakes r u a v w) w).getLsbD j = w.getLsbD j)
  | [], w, _, _ => ⟨fun _ h => absurd h List.not_mem_nil, fun _ => rfl⟩
  | q :: l, w, hhi, pw => by
    have hq := fieldTakes_getLsbD q u a v w j (hhi q List.mem_cons_self)
    obtain ⟨hql, pwl⟩ := List.pairwise_cons.mp pw
    obtain ⟨ihc, ihn⟩ := foldl_fieldTakes_getLsbD u a v j l (fieldTakes q u a v w)
      (fun r h => hhi r (List.mem_cons_of_mem q h)) pwl
    refine ⟨fun r hr hc => ?_, fun hn => ?_⟩
    · rcases List.mem_cons.mp hr with rfl | hr
      · rw [List.foldl_cons, ihn fun p hp => hql p hp j hc, hq, if_pos hc]
      · have hqj : q.covers j = false := by
          by_contra hqj
          rw [hql r hr j (by simpa using hqj)] at hc
          contradiction
        rw [List.foldl_cons, ihc r hr hc, hq, hqj, if_neg Bool.false_ne_true]
    · rw [List.foldl_cons, ihn fun r hr => hn r (List.mem_cons_of_mem q hr), hq, hn q List.mem_cons_self,
        if_neg Bool.false_ne_true]

theorem fieldsWritten_eq_rowsAt (u : Bool) (a : Nat) (v old : Half) :
    fieldsWritten u a v old = (rowsAt a).foldl (fun w r => fieldTakes r u a v w) old := by
  rw [rowsAt, List.foldl_filter]
  rfl

/-- What a write of a register leaves of a bit of one of its fields. -/
theorem fieldsWritten_covered {r : MapRow} {a : Nat} (hr : r ∈ rowsAt a) (u : Bool) (v old : Half) {j : Nat}
    (hj : r.covers j = true) : (fieldsWritten u a v old).getLsbD j = takenBit r u v (old.getLsbD j) j := by
  rw [fieldsWritten_eq_rowsAt]
  exact (foldl_fieldTakes_getLsbD u a v j _ old (fun r h => (row_shape r (mem_rowsAt.mp h).1).2.1) (rowsAt_apart a)).1 r hr hj

/-- A bit of no field keeps its value. -/
theorem fieldsWritten_uncovered {a j : Nat} (u : Bool) (v old : Half) (hj : ∀ r ∈ rowsAt a, r.covers j = false) :
    (fieldsWritten u a v old).getLsbD j = old.getLsbD j := by
  rw [fieldsWritten_eq_rowsAt]
  exact (foldl_fieldTakes_getLsbD u a v j _ old (fun r h => (row_shape r (mem_rowsAt.mp h).1).2.1) (rowsAt_apart a)).2 hj

/-- The value of bits `hi` to `lo` of a word. -/
def bitsValue (hi lo : Nat) (x : Half) : Nat := x.toNat % 2 ^ (hi + 1) / 2 ^ lo

theorem bitsValue_congr {hi lo : Nat} {x y : Half} (h : ∀ j, lo ≤ j → j ≤ hi → x.getLsbD j = y.getLsbD j) :
    bitsValue hi lo x = bitsValue hi lo y := by
  apply Nat.eq_of_testBit_eq
  intro i
  rw [bitsValue, bitsValue, field_testBit, field_testBit]
  by_cases hi' : i + lo < hi + 1
  · rw [h (i + lo) (by omega) (by omega)]
  · simp [hi']

/-- What a write leaves of a field, by its access code. -/
theorem bitsValue_fieldsWritten {r : MapRow} {a : Nat} (hr : r ∈ rowsAt a) (u : Bool) (v old : Half) :
    let field := bitsValue r.hi r.lo
    let w := fieldsWritten u a v old
    let takes : Nat := if r.least ≤ field v ∧ field v ≤ r.most then field v else field old
    (r.acc = .rw → field w = takes) ∧ (r.acc = .rl → field w = if u = true then takes else field old) ∧
    (r.acc = .ro ∨ r.acc = .wo ∨ r.acc = .snap → field w = field old) := by
  intro field w takes
  have bit (j : Nat) (h1 : r.lo ≤ j) (h2 : j ≤ r.hi) : w.getLsbD j = takenBit r u v (old.getLsbD j) j :=
    fieldsWritten_covered hr u v old (by simp [MapRow.covers, h1, h2])
  have put (h : ∀ j, r.lo ≤ j → j ≤ r.hi → w.getLsbD j =
      if r.least ≤ field v ∧ field v ≤ r.most then v.getLsbD j else old.getLsbD j) : field w = takes := by
    by_cases hx : r.least ≤ field v ∧ field v ≤ r.most
    · simp only [hx, and_self, if_true] at h
      exact (bitsValue_congr h).trans (if_pos hx).symm
    · simp only [hx, if_false] at h
      exact (bitsValue_congr h).trans (if_neg hx).symm
  refine ⟨fun ha => put fun j h1 h2 => ?_, fun ha => ?_, fun ha => bitsValue_congr fun j h1 h2 => ?_⟩
  · simp only [bit j h1 h2, takenBit, ha]
    rfl
  · cases u
    · exact bitsValue_congr fun j h1 h2 => by simp only [bit j h1 h2, takenBit, ha, Bool.false_eq_true, if_false]
    · exact put fun j h1 h2 => by
        simp only [bit j h1 h2, takenBit, ha]
        rfl
  · rcases ha with ha | ha | ha <;> simp only [bit j h1 h2, takenBit, ha]

/-- A bit written 1 of a W1C field is cleared. -/
theorem fieldsWritten_w1c {r : MapRow} {a j : Nat} (hr : r ∈ rowsAt a) (ha : r.acc = .w1c) (u : Bool) (v old : Half)
    (h1 : r.lo ≤ j) (h2 : j ≤ r.hi) : (fieldsWritten u a v old).getLsbD j = (old.getLsbD j && !v.getLsbD j) := by
  rw [fieldsWritten_covered hr u v old (by simp [MapRow.covers, h1, h2])]
  simp only [takenBit, ha]

end Sys2Proof.Machine
end

section
/-!
What a read of a register shows: the registers kept outside the register file, those a node does not have, and the
write-only fields.
-/
namespace Sys2Proof.Machine

/-! ### Registers kept elsewhere -/

/-- The spans of registers that show state kept outside the register file. -/
def viewSpans : List (Nat × Nat) :=
  [(0x0011, 0x0011), (0x0019, 0x001A), (0x001C, 0x001D), (0x0208, 0x020A), (0x020C, 0x020D), (0x0651, 0x0651),
   (0x0806, 0x0806), (0x0912, 0x0919), (0x0B00, 0x0B7F), (0x0E21, 0x0E23), (0x0E25, 0x0E25), (0x1144, 0x1144),
   (0x1211, 0x1218), (0x1300, 0x137F), (0x1463, 0x1463), (0x1691, 0x1692), (0x16A8, 0x16A9), (0x1790, 0x17AF),
   (0x1898, 0x189B), (0x1911, 0x1918)]

/-- The register may show state kept elsewhere: it lies in such a span, is a word of an engine's or of a check-value
unit's state. -/
def viewed (a : Nat) : Bool :=
  viewSpans.any (fun p => decide (p.1 ≤ a) && decide (a ≤ p.2)) ||
  (decide (0x1400 ≤ a) && decide (a ≤ 0x145F) && a % 32 != 0) ||
  (decide (0x1800 ≤ a) && decide (a ≤ 0x187F) && [9, 10, 13, 14].contains (a % 32))

/-- Any other register shows what the register file holds. -/
theorem view_eq_none (s : State) {a : Nat} (h : viewed a = false) : s.view a = none := by
  simp only [viewed, viewSpans, List.any_cons, List.any_nil, Bool.or_false, Bool.or_eq_false_iff, Bool.and_eq_false_iff,
    decide_eq_false_iff_not, bne_eq_false_iff_eq] at h
  obtain ⟨⟨spans, eng⟩, cvu⟩ := h
  have hc : ¬ (0x1800 ≤ a ∧ a ≤ 0x187F ∧ [9, 10, 13, 14].contains (a % 32) = true) := by
    rintro ⟨h1, h2, h3⟩
    simp [h1, h2] at cvu
    simp at h3
    omega
  unfold State.view
  simp only [Reg.MODE_STATUS, Reg.WD_STATUS, Reg.SEC_STATUS, Reg.PROF_CMD, Reg.PROF_VALID, Reg.PROF_VER_LO, Reg.PROF_VER_HI,
    Reg.TB_PER_LO, Reg.TB_PER_HI, Reg.CAL_MTRIM, Reg.HB_STATUS, Reg.ENG_DBG_STAT, Reg.STEP_LO, Reg.STEP_HI, Reg.MRG_CODE]
  by_cases he : 0x1400 ≤ a ∧ a ≤ 0x145F
  · have off : (a - 0x1400) % 32 = 0 := by omega
    simp (disch := omega) only [if_neg]
    rw [if_pos he, off]
    rfl
  · simp (disch := omega) only [if_neg, hc, if_false]

/-! ### Write-only fields -/

/-- A fold that joins the words of the rows with a property: a bit is in it where one of them has it. -/
theorem foldl_or_getLsbD {α : Type} (p : α → Bool) (f : α → Half) (i : Nat) (l : List α) (m : Half) :
    (l.foldl (fun m r => if p r = true then m ||| f r else m) m).getLsbD i =
      (m.getLsbD i || l.any fun r => p r && (f r).getLsbD i) := by
  induction l generalizing m with
  | nil => simp
  | cons r l ih =>
    rw [List.foldl_cons, ih, List.any_cons]
    cases p r <;> simp [Bool.or_assoc]

/-- The mask of a register holds the bits of its write-only fields. -/
theorem woMask_getLsbD {r : MapRow} {a i : Nat} (hr : r ∈ rowsAt a) (hw : r.acc = .wo) (h1 : r.lo ≤ i) (h2 : i ≤ r.hi) :
    (woMask a).getLsbD i = true := by
  obtain ⟨hm, hs⟩ := mem_rowsAt.mp hr
  have bit := mask_shift_getLsbD r a i (row_shape r hm).2.1
  rw [woMask, foldl_or_getLsbD, Bool.or_eq_true]
  refine .inr (List.any_eq_true.mpr ⟨r, hm, ?_⟩)
  rw [bit]
  simp [hw, hs, MapRow.covers, h1, h2]

/-- A register outside the views shows its stored bits, less those of write-only fields; an absent one shows 0. -/
theorem live_getLsbD_of_not_viewed (s : State) {a i : Nat} (h : viewed a = false) (hm : (woMask a).getLsbD i = true) :
    (s.live a).getLsbD i = false := by
  unfold State.live
  split
  · simp
  · simp [view_eq_none s h, hm]

/-- The registers that hold a write-only field. -/
def woRegs : List Nat :=
  ((mapRows.filter fun r => r.acc == .wo).flatMap fun r => (List.range r.count).map fun k => r.base + k * r.stride).eraseDups

theorem mem_woRegs {r : MapRow} {a : Nat} (hr : r ∈ rowsAt a) (hw : r.acc = .wo) : a ∈ woRegs := by
  obtain ⟨hm, hs⟩ := mem_rowsAt.mp hr
  obtain ⟨k, hk, rfl⟩ := inSeries_index hs (row_shape r hm).2.2.1
  exact List.mem_eraseDups.mpr
    (List.mem_flatMap.mpr ⟨r, List.mem_filter.mpr ⟨hm, by simp [hw]⟩, List.mem_map.mpr ⟨k, List.mem_range.mpr hk, rfl⟩⟩)

/-- They lie in no window and in no SNAP group; apart from PROF_CMD, which reads 0, they show what the register file holds. -/
theorem woRegs_plain : ∀ a ∈ woRegs, (a < 0x2000 ∨ 0x3D00 ≤ a) ∧ snapGroup a = none ∧ snapHigh a = none ∧
    (viewed a = false ∨ a = Reg.PROF_CMD) := by
  decide +kernel

theorem live_woField (s : State) {r : MapRow} {a i : Nat} (hr : r ∈ rowsAt a) (hw : r.acc = .wo) (h1 : r.lo ≤ i) (h2 : i ≤ r.hi) :
    (s.live a).getLsbD i = false := by
  obtain ⟨-, -, -, hv | rfl⟩ := woRegs_plain a (mem_woRegs hr hw)
  · exact live_getLsbD_of_not_viewed s hv (woMask_getLsbD hr hw h1 h2)
  · unfold State.live
    split <;> exact BitVec.getLsbD_zero

/-- Outside the windows and the SNAP groups a host path reads what the register shows, or 0. -/
theorem hostRead_plain (s : State) (p : Path) {a : Nat} (hw : a < 0x2000 ∨ 0x3D00 ≤ a) (hg : snapGroup a = none)
    (hh : snapHigh a = none) : (hostRead s p a).1 = 0 ∨ (hostRead s p a).1 = s.live a := by
  unfold hostRead
  simp (disch := omega) only [if_neg, hg, hh]
  split
  · exact .inl rfl
  · split
    · exact .inl rfl
    · exact .inr rfl

/-- Settles O16: what a host path reads there is 0 or the register as shown, and that masks the write-only fields. -/
theorem writeOnlyFieldsReadZero : Obligations.WriteOnlyFieldsReadZero := by
  intro s p r a i hm hw hs h1 h2
  have hr : r ∈ rowsAt a := mem_rowsAt.mpr ⟨hm, hs⟩
  have shown := live_woField s hr hw h1 h2
  obtain ⟨hwin, hg, hh, -⟩ := woRegs_plain a (mem_woRegs hr hw)
  refine ⟨?_, shown⟩
  rcases hostRead_plain s p hwin hg hh with h | h
  · rw [h]
    exact BitVec.getLsbD_zero
  · rw [h, shown]

end Sys2Proof.Machine
end

section
/-!
A write of a register: the spans whose fields act on nothing else, registers of others, command registers, and the
register bus.
-/
namespace Sys2Proof.Machine

/-! ### Registers that act on nothing -/

/-- The root's own registers lie here, and those of rings a node may head. -/
theorem absent_eq_false (s : State) {a : Nat} (h : a < 0x0B00 ∨ (0x0B8B < a ∧ a < 0x0D40) ∨ (0x0D43 < a ∧ a < 0x1100) ∨
    (0x112F < a ∧ a < 0x1200) ∨ (0x13FF < a ∧ a < 0x3D00)) : s.absent a = false := by
  have hr : ringRegister a = none := if_neg (by omega)
  simp only [State.absent, hr, Option.any_none, Bool.or_false, Bool.and_eq_false_iff, Bool.or_eq_false_iff,
    decide_eq_false_iff_not]
  omega

/-- A register of a plain span takes each field's new value, whichever path the write came by. -/
theorem regWrite_plainSpan (src : WriteSrc) (s : State) {a : Nat} (v : Half) (h : plainSpan a 1 = true) :
    regWrite src s a v = plainWrite s false a v := by
  simp only [plainSpan, plainSpans, List.any_cons, List.any_nil, Bool.or_false, Bool.or_eq_true, Bool.and_eq_true,
    decide_eq_true_eq] at h
  unfold regWrite
  rw [if_neg (by rw [absent_eq_false s (by omega)]; exact Bool.false_ne_true)]
  by_cases h1 : a < 0x0200
  · rw [if_neg (by omega), if_pos h1]
  by_cases h2 : a < 0x0400
  · rw [if_neg (by omega), if_neg h1, if_pos h2]
    unfold writeTimebase
    simp (disch := (simp only [Reg.TB_CTL, Reg.TB_NOM_LO, Reg.TB_NOM_HI, Reg.TREE_TIME_LO, Reg.TREE_TIME_HI, Reg.MS_LAT]; omega)) only [if_neg]
    exact if_neg (by omega)
  by_cases h3 : a < 0x0A00
  · rw [if_neg (by omega), if_neg h1, if_neg h2, if_pos h3]
    unfold writeMeasure
    simp (disch := (simp only [Reg.ACQ_REQ, Reg.WD_PULL, Reg.WD_PERIOD, Reg.WD_CMD, Reg.IMP_CMD]; omega)) only [if_neg]
  by_cases h4 : a < 0x0C00
  · rw [if_neg (by omega), if_neg h1, if_neg h2, if_neg h3, if_pos h4]
    unfold writeBalance
    simp (disch := (simp only [Reg.BAL_CTL, Reg.BAL_TEMP, Reg.BAL_CMD, Reg.BAL_GRP_CLR, Reg.TXN_CMD]; omega)) only [if_neg]
    exact if_neg (by omega)
  · rw [if_neg (by omega), if_neg h1, if_neg h2, if_neg h3, if_neg h4, if_pos (by omega)]

/-- The engines' own readings lie in no plain span. -/
theorem hostWrite_plainSpan {src : WriteSrc} (hd : src ≠ .dbg) (s : State) {a : Nat} (v : Half) (h : plainSpan a 1 = true) :
    hostWrite src s a v = s.setReg a (fieldsWritten false a v (s.reg a)) := by
  have hw : hostWrite src s a v = regWrite src s a v := by
    simp only [plainSpan, plainSpans, List.any_cons, List.any_nil, Bool.or_false, Bool.or_eq_true, Bool.and_eq_true,
      decide_eq_true_eq] at h
    have hn : ¬ Reg.TH_NTC_T 0 ≤ a := by simp only [Reg.TH_NTC_T]; omega
    have hc : a ≠ Reg.RMT_CMD := by simp only [Reg.RMT_CMD]; omega
    rw [hostWrite, if_neg (fun c => hd c.1), if_neg (fun c => hn c.2.1), if_neg (fun c => hc c.1)]
  rw [hw, regWrite_plainSpan src s v h]
  rfl

/-- The host's writes pass the port as they are, but for RMT_CMD. -/
theorem hostWrite_qspi (s : State) {a : Nat} (v : Half) (h : a ≠ Reg.RMT_CMD) : hostWrite .qspi s a v = regWrite .qspi s a v := by
  unfold hostWrite
  rw [if_neg (fun c => WriteSrc.noConfusion c.1), if_neg (fun c => WriteSrc.noConfusion c.1), if_neg (fun c => h c.1)]

/-- The reserved 0x1A00 to 0x1FFF takes nothing. -/
theorem regWrite_reserved (src : WriteSrc) (s : State) {a : Nat} (v : Half) (h1 : 0x1A00 ≤ a) (h2 : a ≤ 0x1FFF) :
    regWrite src s a v = s := by
  unfold regWrite
  rw [if_neg (by rw [absent_eq_false s (by omega)]; exact Bool.false_ne_true)]
  simp (disch := omega) only [if_neg]

/-- The root's registers take nothing at another node. -/
theorem regWrite_root (src : WriteSrc) {s : State} {a : Nat} (v : Half) (hr : s.isRoot = false) (h1 : 0x1200 ≤ a)
    (h2 : a ≤ 0x13FF) : regWrite src s a v = s := by
  have : s.absent a = true := by simp [State.absent, hr, h1, h2]
  rw [regWrite, if_pos this]

/-! ### Commands by their registers -/

/-- A command's register does the command's work when the host writes its bit: both leave the state `u` of one effect. -/
theorem registerWrite_of_effect {s u : State} {a : BitVec 15} {v : BitVec 16} {i : Instr} (hr : a.toNat ≠ Reg.RMT_CMD)
    (hw : regWrite .qspi (busDrain s) a.toNat v = u) (hi : exec i (busDrain s) = .next (settle u)) :
    ∃ u, exec (.registerWrite a v) s = .next (settle (packCheck (railsJudge u))) ∧ exec i (busDrain s) = .next (settle u) :=
  ⟨u, by rw [← hw, ← hostWrite_qspi _ _ hr]; rfl, hi⟩

/-- The registers of commands, the value written, and the command the table has for it. -/
def commandRegs : List (Nat × Nat × Instr) :=
  [(Reg.ACQ_REQ, 1, .acqReqMain), (Reg.ACQ_REQ, 3, .acqReqSecondary), (Reg.WD_CMD, 1, .wdScan), (Reg.WD_CMD, 4, .wdClear),
   (Reg.IMP_CMD, 1, .impPrepare), (Reg.IMP_CMD, 2, .impCommit), (Reg.IMP_CMD, 4, .impAbort), (Reg.BAL_CMD, 1, .balPrepare),
   (Reg.BAL_CMD, 2, .balCommit), (Reg.BAL_CMD, 4, .balCancel), (Reg.BAL_CMD, 8, .balStop), (Reg.TH_CMD, 1, .thClearMax),
   (Reg.TH_CMD, 2, .thClearSuspect), (Reg.CAL_CMD, 1, .calRun), (Reg.CAL_CMD, 4, .calAbort),
   (Reg.LINK_CMD, 1, .linkClearCounters), (Reg.HS_CMD, 1, .hsFlush), (Reg.HS_CMD, 2, .hsFormat),
   (Reg.HS_CMD, 4, .hsClearCounters), (Reg.HS_RD_CMD, 1, .hsLoad), (Reg.FFL_CMD, 1, .fflClear), (Reg.KEY_CMD, 1, .keyRenew),
   (Reg.TRNG_CMD, 1, .trngGen), (Reg.ATT_CMD, 1, .attGenStatement), (Reg.ATT_CMD, 3, .attGenCert)]

/-- Each register's chapter calls the same effect as the command. -/
theorem registerWrite_command (s : State) {p : Nat × Nat × Instr} (h : p ∈ commandRegs) :
    ∃ u, exec (.registerWrite (BitVec.ofNat 15 p.1) (BitVec.ofNat 16 p.2.1)) s = .next (settle (packCheck (railsJudge u))) ∧
      exec p.2.2 (busDrain s) = .next (settle u) := by
  fin_cases h
  all_goals
    refine registerWrite_of_effect (by decide) ?_ rfl
    rw [regWrite, if_neg (by rw [absent_eq_false _ (by decide)]; exact Bool.false_ne_true)]
    rfl

/-! ### The bus -/

theorem busDrain_nil {s : State} (h : s.bus = []) : busDrain s = s := by
  simp only [busDrain, h, State.forEach, List.foldl_nil]
  rw [← h]

theorem execRegisterBusApply_cons {s : State} {b : BusWrite} {rest : List BusWrite} (h : s.bus = b :: rest) :
    exec .registerBusApply s =
      .next (settle (packCheck (railsJudge (hostWrite .engine { s with bus := rest } b.addr b.value)))) := by
  change doneAll (busApply s) = _
  rw [busApply, h]
  rfl

theorem execRegisterBusApply_nil {s : State} (h : s.bus = []) :
    exec .registerBusApply s = .next (settle (packCheck (railsJudge s))) := by
  change doneAll (busApply s) = _
  rw [busApply, h]
  rfl

/-- A write of the host comes behind the writes that wait. -/
theorem exec_registerWrite (s : State) (a : BitVec 15) (v : BitVec 16) : exec (.registerWrite a v) s =
    .next (settle (packCheck (railsJudge (hostWrite .qspi (busDrain s) a.toNat v)))) := rfl

/-- Settles O18: by the spans of the registers, the table of commands, and the bits of a write. -/
theorem registerWritesAndBus : Obligations.RegisterWritesAndBus := by
  refine ⟨fun s a v => ?_, fun s p => registerWrite_command s, fun u a v old => ?_⟩
  · refine ⟨⟨_, rfl⟩, busDrain_nil, fun b hb hp => ?_, fun hp => ?_, fun h1 h2 => ?_, fun hr h1 h2 => ?_,
      execRegisterBusApply_nil, fun b rest hb => ⟨_, execRegisterBusApply_cons hb⟩, fun b rest hb hp => ?_⟩
    · simp only [busDrain, hb, State.forEach, List.foldl_cons, List.foldl_nil]
      rw [hostWrite_plainSpan WriteSrc.noConfusion _ _ hp]
      rfl
    · rw [exec_registerWrite, hostWrite_plainSpan WriteSrc.noConfusion _ _ hp]
    · rw [exec_registerWrite, hostWrite_qspi _ _ (by simp only [Reg.RMT_CMD]; omega), regWrite_reserved _ _ _ h1 h2]
    · rw [exec_registerWrite, hostWrite_qspi _ _ (by simp only [Reg.RMT_CMD]; omega), regWrite_root _ _ hr h1 h2]
    · rw [execRegisterBusApply_cons hb, hostWrite_plainSpan WriteSrc.noConfusion _ _ hp]
      rfl
  · refine ⟨fun r hm hs => ?_, fun j _ hj => fieldsWritten_uncovered u v old fun r hr => ?_⟩
    · have hr : r ∈ rowsAt a := mem_rowsAt.mpr ⟨hm, hs⟩
      obtain ⟨rw', rl, keep⟩ := bitsValue_fieldsWritten hr u v old
      exact ⟨rw', rl, fun ha j => fieldsWritten_w1c hr ha u v old, keep⟩
    · obtain ⟨hm, hs⟩ := mem_rowsAt.mp hr
      have := hj r hm hs
      simp only [MapRow.covers, Bool.and_eq_false_iff, decide_eq_false_iff_not]
      omega

end Sys2Proof.Machine
end

section
/-!
The converters' values: updates for each of a list, what the level flags rest on, the records of the endpoints, and the
value a channel takes.
-/
namespace Sys2Proof.Machine

/-! ### Updates for each of a list -/

@[simp] theorem forEach_nil {α : Type} (s : State) (f : State → α → State) : s.forEach [] f = s := rfl

@[simp] theorem forEach_cons {α : Type} (s : State) (a : α) (l : List α) (f : State → α → State) :
    s.forEach (a :: l) f = (f s a).forEach l f := rfl

/-- What each update keeps, all of them keep. -/
theorem forEach_keeps {α β : Type} (P : State → β) {f : State → α → State} {l : List α}
    (h : ∀ a ∈ l, ∀ s, P (f s a) = P s) (s : State) : P (s.forEach l f) = P s := by
  induction l generalizing s with
  | nil => rfl
  | cons a l ih =>
    rw [forEach_cons, ih (fun b hb => h b (List.mem_cons_of_mem a hb)), h a List.mem_cons_self]

/-- A relation that holds along each update holds along all of them. -/
theorem forEach_rel {α : Type} {R : State → State → Prop} (refl : ∀ s, R s s) (trans : ∀ {s t u}, R s t → R t u → R s u)
    {f : State → α → State} (h : ∀ a s, R s (f s a)) (l : List α) (s : State) : R s (s.forEach l f) := by
  induction l generalizing s with
  | nil => exact refl s
  | cons a l ih => exact trans (h a s) (ih (f s a))

/-- Where each update gives its own record a property and leaves the others, every record of the list has it at the end. -/
theorem forEach_each {β : Type} {read : State → Nat → β} {f : State → Nat → State} {Q : Nat → β → Prop} {I : State → Prop}
    (hI : ∀ s e, I s → I (f s e)) (own : ∀ s e, I s → Q e (read (f s e) e))
    (other : ∀ s e d, d ≠ e → read (f s e) d = read s d) {l : List Nat} {s : State} (hs : I s) {e : Nat} (he : e ∈ l) :
    Q e (read (s.forEach l f) e) := by
  induction l generalizing s with
  | nil => exact absurd he List.not_mem_nil
  | cons a l ih =>
    rw [forEach_cons]
    by_cases hl : e ∈ l
    · exact ih (hI s a hs) hl
    · obtain rfl : e = a := (List.mem_cons.mp he).resolve_right hl
      rw [forEach_keeps (fun s => read s e) (fun d hd s => other s d e (fun h => hl (h ▸ hd)))]
      exact own s e hs

/-! ### What the level flags rest on -/

/-- The two states show the same level flags. -/
structure SameLevels (s t : State) : Prop where
  regs : t.regs = s.regs
  imp : t.imp = s.imp
  mode : t.mode = s.mode
  fallback : t.acq.refFallback = s.acq.refFallback

theorem SameLevels.levelFlags {s t : State} (h : SameLevels s t) : t.levelFlags = s.levelFlags := by
  unfold State.levelFlags State.wirePinBad
  simp only [reg_congr h.regs, fld_congr h.regs, flag_congr h.regs, h.mode, h.fallback]

theorem SameLevels.setBits {s t : State} (h : SameLevels s t) (a : Nat) (m : Half) :
    SameLevels (s.setBits a m) (t.setBits a m) := by
  refine ⟨?_, h.imp, h.mode, h.fallback⟩
  simp only [State.setBits, State.setReg, State.reg, h.regs]

theorem SameLevels.raiseIrq_when {s t : State} (h : SameLevels s t) (c : Bool) (i : Nat) :
    SameLevels (s.when c fun s => s.raiseIrq i) (t.when c fun s => s.raiseIrq i) := by
  cases c
  · exact h
  · exact h.setBits _ _

theorem SameLevels.monitors {s t : State} (h : SameLevels s t) : SameLevels (settleMonitors s) (settleMonitors t) := by
  rw [settleMonitors_eq, settleMonitors_eq]
  simp only [reg_congr h.regs]
  exact ((h.setBits _ _).setBits _ _).setBits _ _

theorem SameLevels.freerun {s t : State} (h : SameLevels s t) : SameLevels (markFreerun s) (markFreerun t) := by
  unfold markFreerun
  rw [h.imp, fld_congr h.regs]
  split
  · refine ⟨?_, rfl, h.mode, h.fallback⟩
    simp only [State.setFlag, State.setFld, State.setReg, State.reg, h.regs]
  · exact h

theorem SameLevels.settled {s t : State} (h : SameLevels s t) : SameLevels (settle s) (settle t) := by
  have faults : SameLevels (showFaults (markFreerun (settleMonitors s))) (showFaults (markFreerun (settleMonitors t))) := by
    unfold showFaults
    rw [h.monitors.freerun.levelFlags]
    exact h.monitors.freerun.setBits _ _
  unfold settle showIrqs
  rw [reg_congr faults.regs Reg.FLT_SUM, reg_congr faults.regs Reg.ENG_HOSTEVT]
  exact (faults.raiseIrq_when _ _).raiseIrq_when _ _

/-! ### Steps of the acquisition -/

/-- `t` differs from `s` in the acquisition's state alone, in draws and captured half-words, and scales as `s` does. -/
def AcqOnly (s t : State) : Prop := ∃ (n : Nat) (a : Acq) (q r d : Sparse Half), a.refFallback = s.acq.refFallback ∧
  t = { s with freeCtr := n, acq := a, snapQspi := q, snapRemote := r, snapDbg := d }

theorem AcqOnly.refl (s : State) : AcqOnly s s := ⟨_, _, _, _, _, rfl, rfl⟩

theorem AcqOnly.trans {s t u : State} (h : AcqOnly s t) (k : AcqOnly t u) : AcqOnly s u := by
  obtain ⟨n, a, q, r, d, ha, rfl⟩ := h
  obtain ⟨n', a', q', r', d', ha', rfl⟩ := k
  exact ⟨n', a', q', r', d', ha'.trans ha, rfl⟩

theorem AcqOnly.sameLevels {s t : State} (h : AcqOnly s t) : SameLevels s t := by
  obtain ⟨n, a, q, r, d, ha, rfl⟩ := h
  exact ⟨rfl, rfl, rfl, ha⟩

/-- Such a step shows the registers of the tick as `s` would. -/
theorem AcqOnly.shown_regs {s t : State} (h : AcqOnly s t) : (settle t).regs = (settle s).regs := h.sameLevels.settled.regs

theorem AcqOnly.shown_mode {s t : State} (h : AcqOnly s t) : (settle t).mode = s.mode := (settle_mode t).trans h.sameLevels.mode

/-- `t` differs from `s` in the converters' values alone: records, slots and the time of the last value. -/
def ValuesOnly (s t : State) : Prop :=
  ∃ (n : Nat) (chans : Sparse Chan) (lastTb auxInput auxOuts : Nat) (sec : Sparse SecChan) (slotA slotB : Nat) (after : List Nat),
    t = { s with
      freeCtr := n
      acq := { s.acq with
        chans := chans, lastTb := lastTb, auxInput := auxInput, auxOuts := auxOuts, sec := sec, slotA := slotA, slotB := slotB
        after := after } }

theorem ValuesOnly.refl (s : State) : ValuesOnly s s := ⟨_, _, _, _, _, _, _, _, _, rfl⟩

theorem ValuesOnly.trans {s t u : State} (h : ValuesOnly s t) (k : ValuesOnly t u) : ValuesOnly s u := by
  obtain ⟨_, _, _, _, _, _, _, _, _, rfl⟩ := h
  obtain ⟨_, _, _, _, _, _, _, _, _, rfl⟩ := k
  exact ⟨_, _, _, _, _, _, _, _, _, rfl⟩

theorem ValuesOnly.acqOnly {s t : State} (h : ValuesOnly s t) : AcqOnly s t := by
  obtain ⟨_, _, _, _, _, _, _, _, _, rfl⟩ := h
  refine ⟨_, _, _, _, _, ?_, rfl⟩
  rfl

/-! ### Records of the endpoints -/

@[simp] theorem chan_setChan_same (s : State) (e : Nat) (c : Chan) : (s.setChan e c).chan e = c := sparseGet_set_same ..

theorem chan_setChan_ne (s : State) {d e : Nat} (c : Chan) (h : d ≠ e) : (s.setChan e c).chan d = s.chan d := sparseGet_set_ne _ _ _ _ h

@[simp] theorem secChan_setSecChan_same (s : State) (e : Nat) (c : SecChan) : (s.setSecChan e c).secChan e = c := sparseGet_set_same ..

theorem secChan_setSecChan_ne (s : State) {d e : Nat} (c : SecChan) (h : d ≠ e) : (s.setSecChan e c).secChan d = s.secChan d :=
  sparseGet_set_ne _ _ _ _ h

@[simp] theorem chan_settle (s : State) (e : Nat) : (settle s).chan e = s.chan e := by rw [State.chan, settle_acq]; rfl

@[simp] theorem secChan_settle (s : State) (e : Nat) : (settle s).secChan e = s.secChan e := by
  rw [State.secChan, settle_acq]
  rfl

@[simp] theorem secChan_setChan (s : State) (d e : Nat) (c : Chan) : (s.setChan e c).secChan d = s.secChan d := rfl
@[simp] theorem chan_setSecChan (s : State) (d e : Nat) (c : SecChan) : (s.setSecChan e c).chan d = s.chan d := rfl

theorem setChan_valuesOnly (s : State) (e : Nat) (c : Chan) : ValuesOnly s (s.setChan e c) := ⟨_, _, _, _, _, _, _, _, _, rfl⟩
theorem setSecChan_valuesOnly (s : State) (e : Nat) (c : SecChan) : ValuesOnly s (s.setSecChan e c) :=
  ⟨_, _, _, _, _, _, _, _, _, rfl⟩

/-! ### The value a channel takes (R33, R57) -/

/-- The measuring range of an endpoint as the tables of R33 and R35 give it. -/
def rangeOf (s : State) (e : Nat) : Int × Int :=
  if e < 24 then (-500000, 5200000) else if e < 30 then (-200000, 5000000)
    else if e = 31 then (0, 4300000) else if s.acq.eff.ctl.getLsbD 6 = true then (-5000000, 5000000) else (-160000, 160000)

/-- A reading held to the endpoint's range, with its mark, has the property. -/
def Taken (s : State) (e : Nat) (x : Int) (p : Int → Bool → Prop) : Prop :=
  p (max (rangeOf s e).1 (min (rangeOf s e).2 x)) (decide (x < (rangeOf s e).1 ∨ (rangeOf s e).2 < x))

/-- The same of a reading scaled to the reference, but where the bandgap scales. -/
def Scaled (s : State) (e : Nat) (x : Int) (p : Int → Bool → Prop) : Prop :=
  if s.acq.refFallback = true then Taken s e x p
  else Near (x * (4096000 + s.acq.eff.refTrim.toInt)) 4096000 fun y => Taken s e y p

theorem epRange_eq (s : State) {e : Nat} (h : e < 32) : epRange e s.diffVolt = rangeOf s e := by
  unfold epRange rangeOf State.diffVolt
  by_cases h1 : e < 24
  · rw [if_pos h1, if_pos h1]
  by_cases h2 : e < 30
  · rw [if_neg h1, if_neg h1, if_pos h2, if_pos h2]
  by_cases h3 : e = 30
  · subst h3
    rfl
  · rw [if_neg h1, if_neg h1, if_neg h2, if_neg h2, if_neg h3, if_pos (by omega)]

theorem rangeOf_le (s : State) (e : Nat) : (rangeOf s e).1 ≤ (rangeOf s e).2 := by
  unfold rangeOf
  repeat' split
  all_goals decide

theorem clamp_eq {lo hi : Int} (h : lo ≤ hi) (x : Int) : clamp lo hi x = max lo (min hi x) := by
  unfold clamp
  split
  · omega
  · split <;> omega

/-- A reading enters a record held to its range. -/
theorem taken_clampEp (s : State) {e : Nat} (h : e < 32) (x : Int) (p : Int → Bool → Prop) :
    Taken s e x p ↔ p (s.clampEp e x).1 (s.clampEp e x).2 := by
  unfold State.clampEp
  rw [epRange_eq s h, Taken, ← clamp_eq (rangeOf_le s e), Bool.decide_or]

/-- A free division gives one of the two integers next to the quotient, and draws at most. -/
theorem divFree_near (s : State) (a b : Int) {p : Int → Prop} (h : p (s.divFree a b).1) : Near a b p := by
  unfold State.divFree at h
  split at h
  · exact .inl h
  · next hr =>
    have hk := Nat.mod_lt s.draw.1.toNat (Nat.zero_lt_two)
    change p (a / b + ((s.draw.1.toNat % 2 : Nat) : Int)) at h
    rcases Nat.lt_succ_iff_lt_or_eq.mp hk with hk | hk
    · rw [Nat.lt_one_iff.mp hk] at h
      exact .inl (by simpa using h)
    · rw [hk] at h
      exact .inr ⟨hr, h⟩

theorem divFree_state (s : State) (a b : Int) : ∃ n, (s.divFree a b).2 = { s with freeCtr := n } := by
  unfold State.divFree
  split
  · exact ⟨_, rfl⟩
  · exact ⟨_, rfl⟩

end Sys2Proof.Machine
end

section
/-!
Windows, filter outputs and scan values: what a value that completes leaves of its endpoint's record and of the others.
-/
namespace Sys2Proof.Machine

/-! ### A value completes -/

theorem scaleRef_state (s : State) (x : Int) : ∃ n, (s.scaleRef x).2 = { s with freeCtr := n } := by
  unfold State.scaleRef
  split
  · exact ⟨_, rfl⟩
  · exact divFree_state ..

/-- The value a reading is scaled to is taken as the statement of `Scaled` says. -/
theorem scaled_scaleRef (s : State) {e : Nat} (h : e < 32) (x : Int) {p : Int → Bool → Prop}
    (hp : p (s.clampEp e (s.scaleRef x).1).1 (s.clampEp e (s.scaleRef x).1).2) : Scaled s e x p := by
  unfold State.scaleRef at hp
  unfold Scaled
  split
  · next hf =>
    rw [if_pos hf] at hp
    exact (taken_clampEp s h x p).mpr hp
  · next hf =>
    rw [if_neg hf] at hp
    exact divFree_near s _ _ ((taken_clampEp s h _ p).mpr hp)

/-- A completed value stands in its endpoint's record, marked fresh; the rest of the record and the other records stay. -/
theorem complete_eq (s : State) (e : Nat) (x : Int) : ∃ (n : Nat) (req : Bool) (after : List Nat), s.complete e x =
    { s with freeCtr := n, acq := { s.acq with
        chans := sparseSet s.acq.chans {} e { s.chan e with
          value := (s.clampEp e (s.scaleRef x).1).1, clamped := (s.clampEp e (s.scaleRef x).1).2
          fresh := true, ever := true, takenAt := s.now, forReq := req }
        after := after } } := by
  obtain ⟨n, hn⟩ := scaleRef_state s x
  have pair : s.scaleRef x = ((s.scaleRef x).1, { s with freeCtr := n }) := by rw [← hn]
  refine ⟨n, (s.chan e).forReq || s.reqCounts e, if s.chanSettled e then s.acq.after.filter (· != e) else s.acq.after, ?_⟩
  rw [State.complete, pair]
  rfl

/-- What a completed value leaves. -/
structure Completed (s t : State) (e : Nat) (x : Int) : Prop where
  only : ValuesOnly s t
  others : ∀ d, d ≠ e → t.chan d = s.chan d
  fresh : (t.chan e).fresh = true
  sum : (t.chan e).sum = (s.chan e).sum
  windows : (t.chan e).windows = (s.chan e).windows
  value : Scaled s e x fun v out => (t.chan e).value = v ∧ (t.chan e).clamped = out
  lastTb : t.acq.lastTb = s.acq.lastTb
  auxInput : t.acq.auxInput = s.acq.auxInput

theorem complete_completed (s : State) {e : Nat} (h : e < 32) (x : Int) : Completed s (s.complete e x) e x := by
  obtain ⟨n, req, after, heq⟩ := complete_eq s e x
  have own : (s.complete e x).chan e = { s.chan e with
      value := (s.clampEp e (s.scaleRef x).1).1, clamped := (s.clampEp e (s.scaleRef x).1).2
      fresh := true, ever := true, takenAt := s.now, forReq := req } := by
    rw [heq]
    exact sparseGet_set_same ..
  refine ⟨?_, fun d hd => ?_, ?_, ?_, ?_, scaled_scaleRef s h x ?_, ?_, ?_⟩
  · rw [heq]
    exact ⟨_, _, _, _, _, _, _, _, _, rfl⟩
  · rw [heq]
    exact sparseGet_set_ne _ _ _ _ hd
  · rw [own]
  · rw [own]
  · rw [own]
  · rw [own]
    exact ⟨rfl, rfl⟩
  · rw [heq]
  · rw [heq]

/-! ### Windows (R43, R44, R53) -/

/-- A window counts: the channel is in service, and the aperture reaches back into no calibration slot. -/
def counts (s : State) (e : Nat) : Prop := s.mainInService e = true ∧ s.reachesSlot e = false

/-- What a window of one channel leaves of its record, and the instant a block is of. -/
def WindowClosed (s t : State) (e : Nat) (x : Int) : Prop :=
  (¬ counts s e → t.chan e = s.chan e) ∧
  (counts s e → (s.chan e).windows + 1 < s.blockK →
    t.chan e = { s.chan e with sum := (s.chan e).sum + x, windows := (s.chan e).windows + 1 }) ∧
  (counts s e → s.blockK ≤ (s.chan e).windows + 1 → (t.chan e).sum = 0 ∧ (t.chan e).windows = 0 ∧ (t.chan e).fresh = true ∧
    t.acq.lastTb = s.instantTb ∧
    Near ((s.chan e).sum + x) s.blockK fun m => Scaled s e m fun v out => (t.chan e).value = v ∧ (t.chan e).clamped = out)

/-- The time of the last value is as it was or the instant's. -/
def TimedBy (s t : State) : Prop := t.acq.lastTb = s.acq.lastTb ∨ t.acq.lastTb = s.instantTb

/-- The K-th window completes the mean of the block, as of the instant (R44, R53). -/
theorem windowClose_block {s : State} {e : Nat} (x : Int) (hc : counts s e) (hk : ¬ (s.chan e).windows + 1 < s.blockK) :
    ∃ n, windowClose s e x = State.complete { s with freeCtr := n, acq := { s.acq with
        chans := sparseSet s.acq.chans {} e { s.chan e with sum := 0, windows := 0 }, lastTb := s.instantTb } } e
      (s.divFree ((s.chan e).sum + x) s.blockK).1 := by
  obtain ⟨n, hn⟩ := divFree_state s ((s.chan e).sum + x) s.blockK
  have pair : s.divFree ((s.chan e).sum + x) s.blockK =
      ((s.divFree ((s.chan e).sum + x) s.blockK).1, { s with freeCtr := n }) := by rw [← hn]
  refine ⟨n, ?_⟩
  rw [windowClose, if_neg (by simp [hc.1, hc.2]), if_neg hk, pair]
  rfl

theorem windowClose_spec (s : State) {e : Nat} (h : e < 32) (x : Int) :
    ValuesOnly s (windowClose s e x) ∧ (∀ d, d ≠ e → (windowClose s e x).chan d = s.chan d) ∧
      TimedBy s (windowClose s e x) ∧ WindowClosed s (windowClose s e x) e x := by
  by_cases hc : counts s e
  · by_cases hk : (s.chan e).windows + 1 < s.blockK
    · have heq : windowClose s e x =
          s.setChan e { s.chan e with sum := (s.chan e).sum + x, windows := (s.chan e).windows + 1 } := by
        rw [windowClose, if_neg (by simp [hc.1, hc.2]), if_pos hk]
      rw [heq]
      exact ⟨setChan_valuesOnly .., fun d hd => chan_setChan_ne s _ hd, .inl rfl, fun hx => absurd hc hx,
        fun _ _ => chan_setChan_same .., fun _ hx => absurd hk (Nat.not_lt.mpr hx)⟩
    · obtain ⟨n, heq⟩ := windowClose_block x hc hk
      have done := complete_completed { s with freeCtr := n, acq := { s.acq with
        chans := sparseSet s.acq.chans {} e { s.chan e with sum := 0, windows := 0 }, lastTb := s.instantTb } } h
        (s.divFree ((s.chan e).sum + x) s.blockK).1
      rw [← heq] at done
      refine ⟨ValuesOnly.trans ⟨_, _, _, _, _, _, _, _, _, rfl⟩ done.only,
        fun d hd => (done.others d hd).trans (sparseGet_set_ne _ _ _ _ hd), .inr done.lastTb, fun hx => absurd hc hx,
        fun _ hx => absurd hx hk, fun _ _ => ⟨?_, ?_, done.fresh, done.lastTb, divFree_near s _ _ done.value⟩⟩
      · exact done.sum.trans (congrArg Chan.sum (sparseGet_set_same ..))
      · exact done.windows.trans (congrArg Chan.windows (sparseGet_set_same ..))
  · have heq : windowClose s e x = s := by
      rw [counts, not_and, Bool.not_eq_false] at hc
      refine if_pos ?_
      cases hm : s.mainInService e
      · rfl
      · exact hc hm
    rw [heq]
    exact ⟨.refl s, fun _ _ => rfl, .inl rfl, fun _ => rfl, fun hx => absurd hx hc, fun hx => absurd hx hc⟩

theorem ValuesOnly.instantTb {s t : State} (h : ValuesOnly s t) : t.instantTb = s.instantTb := by
  obtain ⟨_, _, _, _, _, _, _, _, _, rfl⟩ := h
  rfl

/-- A window judged after other channels' values is judged as before them. -/
theorem WindowClosed.of_values {s u t : State} {e : Nat} {x : Int} (hv : ValuesOnly s u) (hc : u.chan e = s.chan e)
    (h : WindowClosed u t e x) : WindowClosed s t e x := by
  unfold WindowClosed at h ⊢
  rw [hc] at h
  obtain ⟨_, _, _, _, _, _, _, _, _, rfl⟩ := hv
  exact h

/-- A window judged when it closes stays so while others close, if its record does. -/
theorem WindowClosed.to_later {s u t : State} {e : Nat} {x : Int} (hv : ValuesOnly s u) (ht : TimedBy u t)
    (hc : t.chan e = u.chan e) (h : WindowClosed s u e x) : WindowClosed s t e x := by
  obtain ⟨unused, sums, block⟩ := h
  unfold WindowClosed
  rw [hc]
  refine ⟨unused, sums, fun hx hk => ?_⟩
  obtain ⟨hsum, hwin, hfresh, htb, hval⟩ := block hx hk
  refine ⟨hsum, hwin, hfresh, ?_, hval⟩
  rcases ht with ht | ht
  · rw [ht, htb]
  · rw [ht, hv.instantTb]

/-- The windows of different channels close each on its own. -/
theorem windowCloses_spec (l : List (Nat × Int)) (hn : (l.map (·.1)).Nodup) (hl : ∀ p ∈ l, p.1 < 32) (s : State) :
    let t := s.forEach l fun s p => windowClose s p.1 p.2
    ValuesOnly s t ∧ (∀ e, e ∉ l.map (·.1) → t.chan e = s.chan e) ∧ TimedBy s t ∧ ∀ p ∈ l, WindowClosed s t p.1 p.2 := by
  induction l generalizing s with
  | nil => exact ⟨.refl s, fun _ _ => rfl, .inl rfl, fun _ h => absurd h List.not_mem_nil⟩
  | cons p l ih =>
    obtain ⟨hp, hnl⟩ := List.nodup_cons.mp hn
    obtain ⟨only, others, timed, closed⟩ := windowClose_spec s (hl p List.mem_cons_self) p.2
    obtain ⟨only', others', timed', closed'⟩ := ih hnl (fun q hq => hl q (List.mem_cons_of_mem p hq)) (windowClose s p.1 p.2)
    refine ⟨only.trans only', fun e he => ?_, ?_, fun q hq => ?_⟩
    · rw [List.map_cons, List.mem_cons, not_or] at he
      exact (others' e he.2).trans (others e he.1)
    · rcases timed' with h | h
      · exact timed.imp h.trans h.trans
      · exact .inr (h.trans only.instantTb)
    · rcases List.mem_cons.mp hq with rfl | hq
      · exact closed.to_later only timed' (others' _ hp)
      · have hne : q.1 ≠ p.1 := fun h => hp (List.mem_map.mpr ⟨q, hq, h⟩)
        exact (closed' q hq).of_values only (others q.1 hne)

/-- The instant lies in the cycle that ends now, at INST_PH. -/
theorem instantTb_phase (s : State) : s.instantTb % 65536 = s.acq.eff.instPh.toNat := by
  have := s.acq.eff.instPh.isLt
  unfold State.instantTb
  dsimp only
  omega

theorem instantTb_recent (s : State) : (s.tb.value + 2 ^ 48 - s.instantTb) % 2 ^ 48 < 65536 := by
  have hp := s.acq.eff.instPh.isLt
  have ha := s.tb.acc.isLt
  have hc := s.tb.cycle.isLt
  unfold State.instantTb Timebase.value Timebase.phase
  dsimp only
  split <;> omega

theorem simEps_zip_keys {values : List Int} (h : values.length = 26) : (simEps.zip values).map (·.1) = simEps :=
  List.map_fst_zip (by rw [h]; decide)

/-- The windows of an instant enter the records of the simultaneous channels, and nothing else of the node changes. -/
theorem instantsWindowClose_spec (s : State) {values : List Int} (h : values.length = 26) (hm : s.measuring = true)
    (hi : s.acq.mode = 1) :
    ∃ u, exec (.instantsWindowClose values) s = .next (settle u) ∧ ValuesOnly s u ∧
      (∀ e, e ∉ simEps → u.chan e = s.chan e) ∧ ∀ p ∈ simEps.zip values, WindowClosed s u p.1 p.2 := by
  have keys := simEps_zip_keys h
  obtain ⟨only, others, -, closed⟩ := windowCloses_spec (simEps.zip values) (by rw [keys]; decide)
    (fun p hp => (by decide : ∀ e ∈ simEps, e < 32) p.1 (List.of_mem_zip hp).1) s
  rw [keys] at others
  refine ⟨_, ?_, only, others, closed⟩
  change execInstantsWindowClose values s = _
  rw [execInstantsWindowClose, if_neg (not_not.mpr h), if_neg (by simp [hm, hi])]
  rfl

/-! ### Filter outputs and scan values (R49, R50, R53) -/

theorem cornerDelay_eq (s : State) :
    cornerDelay s.corner = [3088000, 1272000, 636800, 318400, 132000, 66160, 33040, 9840].getD s.corner 0 := by
  have h : s.corner < 8 := by
    unfold State.corner
    split
    · exact Nat.zero_lt_succ _
    · exact Nat.mod_lt _ (Nat.zero_lt_succ _)
  exact (by decide : ∀ c < 8, cornerDelay c = [3088000, 1272000, 636800, 318400, 132000, 66160, 33040, 9840].getD c 0) _ h

/-- A time to the nearest ph is within half a ph above. -/
theorem round_ph (b : Nat) : (b % 2 ^ 80 + 2 ^ 31 + 2 ^ 80 - (b % 2 ^ 80 + 2 ^ 31) / 2 ^ 32 % 2 ^ 48 * 2 ^ 32) % 2 ^ 80 ≤ 2 ^ 32 := by
  omega

/-- The output's instant less the group delay of the corner, in 2^-32 ph. -/
def outputBack (s : State) : Nat := (s.tb.total + 2 ^ 80 - cornerDelay s.corner * tbIncrement s.tb.period) % 2 ^ 80

/-- The time of the last value is `n`. -/
def timedAt (s : State) (n : Nat) : State := { s with acq := { s.acq with lastTb := n } }

theorem timedAt_valuesOnly (s : State) (n : Nat) : ValuesOnly s (timedAt s n) := ⟨_, _, _, _, _, _, _, _, _, rfl⟩

theorem chan_timedAt (s : State) (n e : Nat) : (timedAt s n).chan e = s.chan e := rfl

/-- The time of the last value is the output's instant to the nearest ph. -/
def outputTimed (s : State) : State := timedAt s ((outputBack s + 2 ^ 31) / 2 ^ 32 % 2 ^ 48)

theorem outputTimed_nearest (s : State) :
    (outputBack s + 2 ^ 31 + 2 ^ 80 - (outputTimed s).acq.lastTb * 2 ^ 32) % 2 ^ 80 ≤ 2 ^ 32 := by
  have h : outputBack s < 2 ^ 80 := Nat.mod_lt _ (by decide)
  have near := round_ph (outputBack s)
  rw [Nat.mod_eq_of_lt h] at near
  exact near

/-- An output that completes is of that time. -/
theorem filterOutput_eq {s : State} {e : Nat} (x : Int) (hm : s.mainInService e = true) (hf : s.fedLast e = false) :
    filterOutput s e x = (outputTimed s).complete e x := by
  rw [filterOutput, if_neg (by simp [hm]), if_neg (by simp [hf])]
  rfl

/-- A value scaled to the reference does not rest on the values before it. -/
theorem Scaled.of_values {s u : State} {e : Nat} {x : Int} {p : Int → Bool → Prop} (h : ValuesOnly s u)
    (k : Scaled u e x p) : Scaled s e x p := by
  obtain ⟨_, _, _, _, _, _, _, _, _, rfl⟩ := h
  exact k

theorem execFilterOutput_next {s : State} {ep : Fin 32} (x : Int) (hm : s.measuring = true) (hi : s.acq.mode = 2)
    (ha : epIsAux ep = false) : exec (.filterOutput ep x) s = .next (settle (filterOutput s ep x)) := by
  change execFilterOutput ep x s = _
  rw [execFilterOutput, if_pos (by simp [hm, hi, ha])]
  rfl

/-- A scan value completes, and the scan moves on. -/
theorem auxValue_eq {s : State} (x : Int) (hi : s.acq.auxInput < 6) (hen : s.acq.eff.auxEn.getLsbD s.acq.auxInput = true)
    (hm : s.mainInService (24 + s.acq.auxInput) = true) (hf : s.fedLast (24 + s.acq.auxInput) = false) :
    let u := s.complete (24 + s.acq.auxInput) x
    auxValue s x = { u with acq := { u.acq with auxInput := u.nextAux s.acq.auxInput, auxOuts := u.acq.auxOuts + 1 } } := by
  have h1 : ¬ (!s.mainInService (24 + s.acq.auxInput)) = true := by simp [hm]
  have h2 : ¬ s.fedLast (24 + s.acq.auxInput) = true := by simp [hf]
  simp only [auxValue, if_pos (And.intro hi hen), if_neg h1, if_neg h2]

theorem execAuxScanValue_next {s : State} (x : Int) (hm : s.measuring = true) :
    exec (.auxScanValue x) s = .next (settle (auxValue s x)) := by
  change execAuxScanValue x s = _
  rw [execAuxScanValue, if_pos hm]
  rfl

theorem ValuesOnly.nextAux {s t : State} (h : ValuesOnly s t) (i : Nat) : t.nextAux i = s.nextAux i := by
  obtain ⟨_, _, _, _, _, _, _, _, _, rfl⟩ := h
  rfl

/-- Without a main path that measures no value enters. -/
theorem exec_not_measuring {s : State} (hm : s.measuring = false) {values : List Int} (h : values.length = 26) (ep : Fin 32)
    (x : Int) : ∀ i ∈ [Instr.instantsWindowClose values, .filterOutput ep x, .auxScanValue x], exec i s = .next (settle s) := by
  have window : exec (.instantsWindowClose values) s = .next (settle s) := by
    change execInstantsWindowClose values s = _
    rw [execInstantsWindowClose, if_neg (not_not.mpr h), if_pos (by simp [hm])]
    rfl
  have output : exec (.filterOutput ep x) s = .next (settle s) := by
    change execFilterOutput ep x s = _
    rw [execFilterOutput, if_neg (by simp [hm])]
    rfl
  have scan : exec (.auxScanValue x) s = .next (settle s) := by
    change execAuxScanValue x s = _
    rw [execAuxScanValue, if_neg (by simp [hm])]
    rfl
  simp [window, output, scan]

end Sys2Proof.Machine
end

section
/-!
The secondary path: slots put in, slots of the rotation and of a conversion on request, and the publication of its set.
-/
namespace Sys2Proof.Machine

/-! ### A secondary value is taken (R54, R60) -/

/-- What a secondary value leaves. -/
structure SecTaken (s t : State) (e : Nat) (x : Int) : Prop where
  only : ValuesOnly s t
  others : ∀ d, d ≠ e → t.secChan d = s.secChan d
  main : ∀ d, t.chan d = s.chan d
  value : Taken s e x fun v out => (t.secChan e).value = v ∧ (t.secChan e).clamped = out
  sincePub : (t.secChan e).sincePub = true
  sinceLatch : (t.secChan e).sinceLatch = true

theorem secTake_secTaken (s : State) {e : Nat} (h : e < 32) (x : Int) : SecTaken s (secTake s e x) e x := by
  have own : (secTake s e x).secChan e = { s.secChan e with
      value := (s.clampEp e x).1, clamped := (s.clampEp e x).2, sinceLatch := true, sincePub := true, ever := true
      forReq := true } := secChan_setSecChan_same ..
  refine ⟨setSecChan_valuesOnly .., fun d hd => secChan_setSecChan_ne s _ hd, fun _ => rfl,
    (taken_clampEp s h x _).mpr ?_, ?_, ?_⟩
  · rw [own]
    exact ⟨rfl, rfl⟩
  · rw [own]
  · rw [own]

/-- A value of a conversion on request is marked besides. -/
theorem reqSecTake_secTaken (s : State) {e : Nat} (h : e < 32) (x : Int) :
    SecTaken s (reqSecTake s e x) e x ∧ ((reqSecTake s e x).secChan e).onReq = true := by
  obtain ⟨only, others, main, value, pub, latch⟩ := secTake_secTaken s h x
  have own : (reqSecTake s e x).secChan e = { (secTake s e x).secChan e with onReq := true } := secChan_setSecChan_same ..
  refine ⟨⟨only.trans (setSecChan_valuesOnly ..), fun d hd => (secChan_setSecChan_ne _ _ hd).trans (others d hd), main, ?_, ?_,
    ?_⟩, ?_⟩
  · rw [own]
    exact value
  · rw [own]
    exact pub
  · rw [own]
    exact latch
  · rw [own]

/-! ### The set is published (R54, R59, R63) -/

theorem reg_setEp_ne (s : State) {lo hi a : Nat} (v : Int) (st : Nat) (h1 : a ≠ lo) (h2 : a ≠ hi) :
    (s.setEp lo hi v st).reg a = s.reg a :=
  (reg_setRegN_ne _ _ h2).trans (reg_setRegN_ne _ _ h1)

/-- The endpoints' registers take the set's values. -/
def secValuesShown (s : State) (onRequest : Bool) : State :=
  s.forEach ((List.range 32).map fun e => (e, s.latchSec e onRequest)) fun s p =>
    s.setEp (Reg.SEC_LO p.1) (Reg.SEC_HI p.1) p.2.1 p.2.2

/-- The records are marked as published. -/
def secMarksCleared (s : State) (onRequest : Bool) : State :=
  s.forEach (List.range 32) fun s e =>
    s.setSecChan e { s.secChan e with sincePub := false, onReq := (s.secChan e).onReq && !onRequest }

theorem publishSec_eq (s : State) (r : Bool) : publishSec s r =
    ((secMarksCleared (secValuesShown s r) r).incWrap Reg.SEC_SEQ).setFlag Fld.SEC_STATUS_VALID true := rfl

theorem secValuesShown_acq (s : State) (r : Bool) : (secValuesShown s r).acq = s.acq := by
  unfold secValuesShown
  refine forEach_keeps State.acq ?_ s
  exact fun _ _ _ => rfl

theorem secValuesShown_reg (s : State) (r : Bool) {a : Nat} (h : a < 0x0660) : (secValuesShown s r).reg a = s.reg a := by
  unfold secValuesShown
  refine forEach_keeps (fun s => s.reg a) (fun p _ s => reg_setEp_ne s _ _ ?_ ?_) s
  · simp only [Reg.SEC_LO]
    omega
  · simp only [Reg.SEC_HI]
    omega

theorem secMarksCleared_regs (s : State) (r : Bool) : (secMarksCleared s r).regs = s.regs := by
  unfold secMarksCleared
  refine forEach_keeps State.regs ?_ s
  exact fun _ _ _ => rfl

/-- Of the acquisition only the secondary records change. -/
theorem secMarksCleared_acq (s : State) (r : Bool) : ∃ c, (secMarksCleared s r).acq = { s.acq with sec := c } := by
  unfold secMarksCleared
  refine forEach_rel (R := fun s t => ∃ c, t.acq = { s.acq with sec := c }) (fun _ => ⟨_, rfl⟩) ?_ ?_ _ s
  · rintro s t u ⟨c, hc⟩ ⟨d, hd⟩
    exact ⟨d, by rw [hd, hc]⟩
  · exact fun _ _ => ⟨_, rfl⟩

theorem publishSec_acq (s : State) (r : Bool) : ∃ c, (publishSec s r).acq = { s.acq with sec := c } := by
  rw [publishSec_eq, setFlag_acq, State.incWrap, setRegN_acq, ← secValuesShown_acq s r]
  exact secMarksCleared_acq _ r

theorem publishSec_seq (s : State) (r : Bool) : (publishSec s r).regN Reg.SEC_SEQ = (s.regN Reg.SEC_SEQ + 1) % 65536 := by
  have before : (secMarksCleared (secValuesShown s r) r).reg Reg.SEC_SEQ = s.reg Reg.SEC_SEQ := by
    rw [reg_congr (secMarksCleared_regs _ r), secValuesShown_reg s r (by decide)]
  rw [publishSec_eq, State.regN, reg_setFlag_ne _ _ (by decide), State.incWrap, reg_setRegN_same, State.regN, before,
    BitVec.toNat_ofNat, Nat.mod_mod]
  rfl

theorem publishSec_valid (s : State) (r : Bool) : (publishSec s r).flag Fld.SEC_STATUS_VALID = true := by
  rw [publishSec_eq]
  exact flag_setFlag_same _ _ _ (by decide) (by decide)

/-- The check of the sum touches its own counts and WD_STATUS alone. -/
theorem secSumCheck_frame (s : State) : (secSumCheck s).acq = s.acq ∧ ∀ a, a ≠ Reg.WD_STATUS → (secSumCheck s).reg a = s.reg a := by
  unfold secSumCheck
  dsimp only
  split
  · exact ⟨rfl, fun _ _ => rfl⟩
  · exact ⟨rfl, fun a h => reg_setFlag_ne _ _ h⟩

/-! ### Slots (R54, R56, R59 to R61) -/

/-- A converter under test, or one that reads a pulled pin, gives nothing. -/
theorem exec_secSlot_held {s : State} {b : Bool} (h : s.sarTest b = true ∨ s.pullUses b = true) (i : Option (Fin 32)) (x : Int) :
    exec (.secSlotComplete b i x) s = .next (settle s) :=
  if_pos (by simpa using h)

/-- A slot put in for an endpoint served from the secondary path. -/
theorem exec_secSlot_inserted {s : State} {b : Bool} (ht : s.sarTest b = false) (hp : s.pullUses b = false) {e : Fin 32} (x : Int)
    (hr : s.acq.sched = true ∨ s.acq.req ≠ .idle) (hs : s.secServed e = true) (hb : sarOf e = b) :
    exec (.secSlotComplete b (some e) x) s = .next (settle (secTake s e x)) := by
  change execSecSlotComplete b (some e) x s = _
  rw [execSecSlotComplete, if_neg (by simp [ht, hp])]
  exact if_pos (by simpa [hs, hb] using hr)

theorem exec_secSlot_not_inserted {s : State} {b : Bool} (ht : s.sarTest b = false) (hp : s.pullUses b = false) {e : Fin 32}
    (x : Int) (h : (s.acq.sched = false ∧ s.acq.req = .idle) ∨ s.secServed e = false ∨ sarOf e ≠ b) :
    exec (.secSlotComplete b (some e) x) s = .next (settle s) := by
  change execSecSlotComplete b (some e) x s = _
  rw [execSecSlotComplete, if_neg (by simp [ht, hp])]
  refine if_neg fun hc => ?_
  simp only [Bool.and_eq_true, Bool.or_eq_true, bne_iff_ne, beq_iff_eq] at hc
  obtain ⟨⟨hr, hs⟩, hb⟩ := hc
  rcases h with ⟨h1, h2⟩ | h | h
  · rcases hr with hr | hr
    · rw [h1] at hr
      contradiction
    · exact hr h2
  · rw [h] at hs
    contradiction
  · exact h hb

theorem reqSecFinish_of_none {s : State} (h : s.acq.reqSec = false) : reqSecFinish s = s := by
  simp [reqSecFinish, h]

/-- A slot of the rotation while no conversion on request runs. -/
theorem exec_secSlot_rotation {s : State} {b : Bool} (ht : s.sarTest b = false) (hp : s.pullUses b = false) (x : Int)
    (hs : s.acq.sched = true) {t : State} {pub : Bool} (hrot : rotationSlot s b x = (t, pub)) (hr : t.acq.reqSec = false) :
    exec (.secSlotComplete b none x) s = .next (settle (if pub = true then secSumCheck t else t)) := by
  have keep : (if pub = true then secSumCheck t else t).acq.reqSec = false := by
    split
    · rw [(secSumCheck_frame t).1, hr]
    · exact hr
  change execSecSlotComplete b none x s = _
  rw [execSecSlotComplete, if_neg (by simp [ht, hp])]
  simp only [hs, if_true, hrot, reqSecFinish_of_none keep, keep, Bool.false_and, Bool.false_eq_true, if_false]
  rfl

/-- Outside both, a slot gives nothing. -/
theorem exec_secSlot_idle {s : State} {b : Bool} (ht : s.sarTest b = false) (hp : s.pullUses b = false) (x : Int)
    (hs : s.acq.sched = false) (hr : s.acq.reqSec = false) : exec (.secSlotComplete b none x) s = .next (settle s) := by
  change execSecSlotComplete b none x s = _
  rw [execSecSlotComplete, if_neg (by simp [ht, hp])]
  simp only [hs, Bool.false_eq_true, if_false, State.reqSecRuns, hr, Bool.false_and]
  rfl

/-- The slot a converter's rotation stands at. -/
def slotOf (s : State) (b : Bool) : Nat := if b = true then s.acq.slotB else s.acq.slotA

/-- The endpoint whose turn it is. -/
def turnOf (s : State) (b : Bool) : Nat := (sarEps b).getD (slotOf s b) 0

/-- The converter's rotation moves on by a slot. -/
def slotMoved (b : Bool) (t : State) : State :=
  if b = true then { t with acq := { t.acq with slotB := (t.acq.slotB + 1) % 16 } }
  else { t with acq := { t.acq with slotA := t.acq.slotA + 1 } }

/-- A slot of the rotation but the reference slot serves the endpoint whose turn it is. -/
theorem rotationSlot_eq {s : State} {b : Bool} (x : Int) (h : slotOf s b < 16) :
    rotationSlot s b x = (slotMoved b (rotationTake s (turnOf s b) x), false) := by
  cases b with
  | true => rfl
  | false => exact if_neg (Nat.ne_of_lt h)

/-- Without a conversion on request the endpoint takes its value as the rotation's, unless it is unused. -/
theorem rotationTake_eq {s : State} (e : Nat) (x : Int) (hr : s.acq.reqSec = false) :
    rotationTake s e x = if s.epUnused e = true then s else secTake s e x := by
  simp only [rotationTake, State.reqSecRuns, hr, Bool.false_and, Bool.false_eq_true, if_false]

/-- The reference slot ends SAR A's rotation (R54, R56). -/
theorem rotationSlot_reference {s : State} (x : Int) (h : s.acq.slotA = 16) : rotationSlot s false x =
    (publishSec { refSlot s x with acq := { (refSlot s x).acq with slotA := 0 } } false, true) := if_pos h

/-- A slot of a conversion on request, and the publication when both converters have finished. -/
theorem exec_secSlot_request {s : State} {b : Bool} (ht : s.sarTest b = false) (hp : s.pullUses b = false) (x : Int)
    (hs : s.acq.sched = false) (hr : s.reqSecRuns = true) {e : Nat} (he : s.reqSecNext b = some e) :
    let t := reqSecFinish (reqSecTake s e x)
    exec (.secSlotComplete b none x) s = .next (settle (if t.acq.reqSec = true then t else secSumCheck t)) := by
  change execSecSlotComplete b none x s = _
  rw [execSecSlotComplete, if_neg (by simp [ht, hp])]
  simp only [hs, Bool.false_eq_true, if_false, hr, if_true, reqSecSlot, he]
  rfl

/-! ### What the commands of the secondary path leave -/

/-- The endpoint has its value and nothing else has changed but what the rotation does. -/
def Enters (s : State) (x : Int) (e : Nat) (t : State) : Prop :=
  (∀ d, d ≠ e → t.secChan d = s.secChan d) ∧ (∀ d, t.chan d = s.chan d) ∧ t.regs = (settle s).regs ∧
    Taken s e x fun v out => (t.secChan e).value = v ∧ (t.secChan e).clamped = out ∧
      (t.secChan e).sincePub = true ∧ (t.secChan e).sinceLatch = true

/-- The rotation of a converter has moved on by one slot, the other's stands. -/
def Moved (s : State) (b : Bool) (t : State) : Prop :=
  if b = true then t.acq.slotB = (slotOf s b + 1) % 16 ∧ t.acq.slotA = s.acq.slotA
  else t.acq.slotA = slotOf s b + 1 ∧ t.acq.slotB = s.acq.slotB

theorem SecTaken.enters {s u : State} {e : Nat} {x : Int} (h : SecTaken s u e x) : Enters s x e (settle u) := by
  obtain ⟨only, others, main, ⟨hv, hc⟩, pub, latch⟩ := h
  refine ⟨fun d hd => ?_, fun d => ?_, only.acqOnly.shown_regs, ?_⟩
  · rw [secChan_settle, others d hd]
  · rw [chan_settle, main d]
  · rw [Taken, secChan_settle]
    exact ⟨hv, hc, pub, latch⟩

theorem slotMoved_valuesOnly (b : Bool) (t : State) : ValuesOnly t (slotMoved b t) := by
  cases b
  · exact ⟨_, _, _, _, _, _, _, _, _, rfl⟩
  · exact ⟨_, _, _, _, _, _, _, _, _, rfl⟩

theorem chan_slotMoved (b : Bool) (t : State) (d : Nat) : (slotMoved b t).chan d = t.chan d := by
  cases b <;> rfl

theorem secChan_slotMoved (b : Bool) (t : State) (d : Nat) : (slotMoved b t).secChan d = t.secChan d := by
  cases b <;> rfl

theorem SecTaken.slotMoved {s u : State} {e : Nat} {x : Int} (h : SecTaken s u e x) (b : Bool) :
    SecTaken s (slotMoved b u) e x := by
  obtain ⟨only, others, main, value, pub, latch⟩ := h
  refine ⟨only.trans (slotMoved_valuesOnly b u), fun d hd => (secChan_slotMoved b u d).trans (others d hd),
    fun d => (chan_slotMoved b u d).trans (main d), ?_, ?_, ?_⟩
  · rwa [secChan_slotMoved]
  · rwa [secChan_slotMoved]
  · rwa [secChan_slotMoved]

/-- What a slot's value leaves moves on as the state before it would. -/
theorem moved_slotMoved {s u : State} (b : Bool) (hA : u.acq.slotA = s.acq.slotA) (hB : u.acq.slotB = s.acq.slotB) :
    Moved s b (settle (slotMoved b u)) := by
  rw [Moved, settle_acq, slotOf, ← hA, ← hB]
  cases b <;> exact ⟨rfl, rfl⟩

theorem sarEps_lt (b : Bool) : ∀ e ∈ sarEps b, e < 32 := by
  cases b <;> decide

theorem turn_lt (b : Bool) (k : Nat) : (sarEps b).getD k 0 < 32 := by
  rw [List.getD_eq_getElem?_getD]
  cases h : (sarEps b)[k]? with
  | none => exact Nat.zero_lt_succ _
  | some e => exact sarEps_lt b e (List.mem_of_getElem? h)

/-- A slot of the rotation gives the endpoint whose turn it is its value. -/
theorem rotation_enters {s : State} {b : Bool} (ht : s.sarTest b = false) (hp : s.pullUses b = false) (x : Int)
    (hs : s.acq.sched = true) (hr : s.acq.reqSec = false) (hk : slotOf s b < 16) (hu : s.epUnused (turnOf s b) = false) :
    Completes (.secSlotComplete b none x) s fun t => Enters s x (turnOf s b) t ∧ Moved s b t := by
  have hrot := rotationSlot_eq x hk
  rw [rotationTake_eq _ _ hr, if_neg (Bool.not_eq_true _ ▸ hu)] at hrot
  have idle : (slotMoved b (secTake s (turnOf s b) x)).acq.reqSec = false := by cases b <;> exact hr
  exact ⟨_, exec_secSlot_rotation ht hp x hs hrot idle, ((secTake_secTaken s (turn_lt b _) x).slotMoved b).enters,
    moved_slotMoved b rfl rfl⟩

/-- A slot of an endpoint declared unused is passed over. -/
theorem rotation_skips {s : State} {b : Bool} (ht : s.sarTest b = false) (hp : s.pullUses b = false) (x : Int)
    (hs : s.acq.sched = true) (hr : s.acq.reqSec = false) (hk : slotOf s b < 16) (hu : s.epUnused (turnOf s b) = true) :
    Completes (.secSlotComplete b none x) s fun t =>
      (∀ d, t.secChan d = s.secChan d) ∧ t.regs = (settle s).regs ∧ Moved s b t := by
  have hrot := rotationSlot_eq x hk
  rw [rotationTake_eq _ _ hr, if_pos hu] at hrot
  have idle : (slotMoved b s).acq.reqSec = false := by cases b <;> exact hr
  exact ⟨_, exec_secSlot_rotation ht hp x hs hrot idle, fun d => (secChan_settle _ d).trans (secChan_slotMoved b s d),
    (slotMoved_valuesOnly b s).acqOnly.shown_regs, moved_slotMoved b rfl rfl⟩

/-- The set published is shown: the check of the sum and the level flags leave SEC_STATUS and SEC_SEQ. -/
theorem published_shown {s u : State} {r : Bool} (h : ∀ a, u.reg a = (publishSec s r).reg a) :
    (settle (secSumCheck u)).flag Fld.SEC_STATUS_VALID = true ∧
      (settle (secSumCheck u)).regN Reg.SEC_SEQ = (s.regN Reg.SEC_SEQ + 1) % 65536 := by
  obtain ⟨-, kept⟩ := secSumCheck_frame u
  constructor
  · rw [settle_flag _ _ (by decide), ← publishSec_valid s r, State.flag, State.fld, kept _ (by decide), h]
    rfl
  · rw [← publishSec_seq s r, State.regN, settle_reg _ _ (by decide), kept _ (by decide), h]
    rfl

/-- A reading of the reference counts as one outside or inside 3 %, and touches no register. -/
theorem refSlot_counts (s : State) (x : Int) :
    let ref : Int := 4096000 + s.acq.eff.refTrim.toInt
    (3 * ref < 100 * (x - ref).natAbs → (refSlot s x).acq.refBad = s.acq.refBad + 1 ∧ (refSlot s x).acq.refGood = 0) ∧
      (100 * (x - ref).natAbs ≤ 3 * ref → (refSlot s x).acq.refBad = 0 ∧ (refSlot s x).acq.refGood = s.acq.refGood + 1) ∧
      (refSlot s x).acq.reqSec = s.acq.reqSec ∧ (refSlot s x).regs = s.regs := by
  dsimp only
  unfold refSlot State.refExpected
  dsimp only
  split
  · next h => exact ⟨fun _ => ⟨rfl, rfl⟩, fun hn => absurd h (by omega), rfl, rfl⟩
  · next h => exact ⟨fun hn => absurd hn h, fun _ => ⟨rfl, rfl⟩, rfl, rfl⟩

/-- SAR A's reference slot counts the reading and publishes the set. -/
theorem reference_completes {s : State} (ht : s.sarTest false = false) (hp : s.pullUses false = false) (x : Int)
    (hs : s.acq.sched = true) (hr : s.acq.reqSec = false) (hk : s.acq.slotA = 16) :
    Completes (.secSlotComplete false none x) s fun t =>
      let ref : Int := 4096000 + s.acq.eff.refTrim.toInt
      t.acq.slotA = 0 ∧ t.flag Fld.SEC_STATUS_VALID = true ∧ t.regN Reg.SEC_SEQ = (s.regN Reg.SEC_SEQ + 1) % 65536 ∧
      (3 * ref < 100 * (x - ref).natAbs → t.acq.refBad = s.acq.refBad + 1 ∧ t.acq.refGood = 0) ∧
      (100 * (x - ref).natAbs ≤ 3 * ref → t.acq.refBad = 0 ∧ t.acq.refGood = s.acq.refGood + 1) := by
  obtain ⟨bad, good, req, regs⟩ := refSlot_counts s x
  have hrot := rotationSlot_reference x hk
  generalize hu : { refSlot s x with acq := { (refSlot s x).acq with slotA := 0 } } = u at hrot
  obtain ⟨c, hc⟩ := publishSec_acq u false
  obtain ⟨shownFlag, shownSeq⟩ := published_shown (u := publishSec u false) fun _ => rfl
  refine ⟨_, exec_secSlot_rotation ht hp x hs hrot ?_, ?_⟩
  · rw [hc, ← hu]
    exact req.trans hr
  · have acq : (settle (secSumCheck (publishSec u false))).acq = { u.acq with sec := c } :=
      (settle_acq _).trans ((secSumCheck_frame _).1.trans hc)
    have seq : u.regN Reg.SEC_SEQ = s.regN Reg.SEC_SEQ := by
      rw [← hu, State.regN, State.regN]
      exact congrArg BitVec.toNat (reg_congr regs _)
    rw [if_pos rfl]
    beta_reduce
    rw [acq, ← seq]
    refine ⟨?_, shownFlag, shownSeq, ?_⟩
    · rw [← hu]
    · rw [← hu]
      exact ⟨bad, good⟩

/-! ### A slot of a conversion on request (R59) -/

/-- The conversion is over, and an engine's call has its line. -/
theorem reqSecOver_frame (s : State) (byNode : Bool) :
    let t := ({ s with acq := { s.acq with reqSec := false, reqByNode := false } } : State).when byNode fun s =>
      s.fireAt .node lineCallDone
    t.acq.reqSec = false ∧ ∀ a, t.reg a = s.reg a := by
  cases byNode
  · exact ⟨rfl, fun _ => rfl⟩
  · exact ⟨congrArg Acq.reqSec (setEng_acq ..), fun a => reg_setEng ..⟩

/-- Where both converters have finished, the set has been published and the conversion is over; else nothing happens. -/
theorem reqSecFinish_cases (s : State) : reqSecFinish s = s ∨
    (reqSecFinish s).acq.reqSec = false ∧ ∀ a, (reqSecFinish s).reg a = (publishSec s true).reg a := by
  unfold reqSecFinish
  split
  · exact .inr (reqSecOver_frame ..)
  · exact .inl rfl

theorem reqSecNext_mem {s : State} {b : Bool} {e : Nat} (h : s.reqSecNext b = some e) : e < 32 :=
  sarEps_lt b e (List.mem_of_find?_eq_some h)

/-- A slot of a conversion on request gives the next endpoint its value; the slot that completes the set publishes it. -/
theorem request_slot {s : State} {b : Bool} (ht : s.sarTest b = false) (hp : s.pullUses b = false) (x : Int)
    (hs : s.acq.sched = false) (hr : s.acq.reqSec = true) (hA : s.acq.sarATest = false) (hB : s.acq.sarBTest = false)
    {e : Nat} (he : s.reqSecNext b = some e) :
    Completes (.secSlotComplete b none x) s fun t =>
      (t.acq.reqSec = true → Enters s x e t ∧ (t.secChan e).onReq = true) ∧
      (t.acq.reqSec = false → t.flag Fld.SEC_STATUS_VALID = true ∧
        t.regN Reg.SEC_SEQ = (s.regN Reg.SEC_SEQ + 1) % 65536) := by
  have runs : s.reqSecRuns = true := by simp [State.reqSecRuns, hr, hA, hB]
  have slot := exec_secSlot_request ht hp x hs runs he
  obtain ⟨taken, marked⟩ := reqSecTake_secTaken s (reqSecNext_mem he) x
  have busy : (reqSecTake s e x).acq.reqSec = true := hr
  dsimp only at slot
  refine ⟨_, slot, ?_⟩
  rcases reqSecFinish_cases (reqSecTake s e x) with stays | ⟨done, shown⟩
  · rw [stays, if_pos busy]
    refine ⟨fun _ => ⟨taken.enters, (congrArg SecChan.onReq (secChan_settle _ e)).trans marked⟩, fun h => ?_⟩
    rw [settle_acq, busy] at h
    contradiction
  · rw [done, if_neg Bool.false_ne_true]
    have seq : (reqSecTake s e x).regN Reg.SEC_SEQ = s.regN Reg.SEC_SEQ :=
      congrArg BitVec.toNat (reg_congr taken.only.acqOnly.sameLevels.regs _)
    refine ⟨fun h => ?_, fun _ => seq ▸ published_shown shown⟩
    rw [settle_acq, (secSumCheck_frame _).1, done] at h
    contradiction

end Sys2Proof.Machine
end

section
/-!
Conversions on request: what a request starts, and what ends the power-up.
-/
namespace Sys2Proof.Machine

/-- A request is accepted (R59). -/
def Accepted (s : State) : Prop :=
  (s.mode = .standby ∨ s.mode = .selftest ∨ s.mode = .safe) ∧ s.scheduled = false ∧ s.acq.req = .idle ∧ s.acq.reqSec = false

theorem reqAccepted_iff (s : State) : s.reqAccepted = true ↔ Accepted s := by
  simp only [State.reqAccepted, State.reqBusy, Accepted, Bool.and_eq_true, Bool.or_eq_true, Bool.not_eq_true', beq_iff_eq,
    Bool.or_eq_false_iff, bne_eq_false_iff_eq, or_assoc, and_assoc]

/-! ### The settings take effect (R41, R515) -/

theorem ValuesOnly.forEach {α : Type} {f : State → α → State} (h : ∀ a s, ValuesOnly s (f s a)) (l : List α) (s : State) :
    ValuesOnly s (s.forEach l f) := forEach_rel .refl .trans h l s

theorem restartChan_valuesOnly (s : State) (e : Nat) (p : Bool) : ValuesOnly s (restartChan s e p) := setChan_valuesOnly ..

theorem restartAux_valuesOnly (s : State) : ValuesOnly s (restartAux s) := ⟨_, _, _, _, _, _, _, _, _, rfl⟩

/-- Values leave the conversion on request, the settings, the power and the mode. -/
theorem ValuesOnly.steady {s t : State} (h : ValuesOnly s t) : t.acq.req = s.acq.req ∧ t.acq.reqSec = s.acq.reqSec ∧
    t.acq.eff = s.acq.eff ∧ t.acq.powered = s.acq.powered ∧ t.mode = s.mode := by
  obtain ⟨_, _, _, _, _, _, _, _, _, rfl⟩ := h
  exact ⟨rfl, rfl, rfl, rfl, rfl⟩

theorem ValuesOnly.ite {s t u : State} {c : Prop} [Decidable c] (ht : ValuesOnly s t) (hu : ValuesOnly s u) :
    ValuesOnly s (if c then t else u) := by
  split
  · exact ht
  · exact hu

/-- The quiet windows are shown in QW_LEN and PG_STATUS, and kept for those that open later. -/
theorem showQuiet_frame (s : State) : (showQuiet s).mode = s.mode ∧
    (∃ q o n, (showQuiet s).acq = { s.acq with qw := q, qwOld := o, qwFrom := n }) ∧
    ∀ a, a ≠ Reg.QW_LEN → a ≠ Reg.PG_STATUS → (showQuiet s).reg a = s.reg a := by
  unfold showQuiet
  dsimp only
  split
  · refine ⟨rfl, ⟨_, _, _, rfl⟩, fun a h1 h2 => ?_⟩
    exact (reg_setFlag_ne _ _ h2).trans (reg_setRegN_ne _ _ h1)
  · refine ⟨rfl, ⟨_, _, _, rfl⟩, fun a h1 h2 => ?_⟩
    exact (reg_setFlag_ne _ _ h2).trans (reg_setRegN_ne _ _ h1)

/-- What taking settings leaves: the settings in force, and the conversion on request as it stands. -/
structure SettingsTaken (s t : State) (want : AcqSet) (forced : Bool) : Prop where
  eff : t.acq.eff = want
  safeForced : t.acq.safeForced = forced
  forcedMode : forced = true → t.acq.mode = 2
  req : t.acq.req = s.acq.req
  reqSec : t.acq.reqSec = s.acq.reqSec
  reqByNode : t.acq.reqByNode = s.acq.reqByNode
  powered : t.acq.powered = s.acq.powered
  mode : t.mode = s.mode

theorem SettingsTaken.of_valuesOnly {s t u : State} {want : AcqSet} {forced : Bool} (h : SettingsTaken s t want forced)
    (k : ValuesOnly t u) : SettingsTaken s u want forced := by
  obtain ⟨_, _, _, _, _, _, _, _, _, rfl⟩ := k
  exact ⟨h.eff, h.safeForced, h.forcedMode, h.req, h.reqSec, h.reqByNode, h.powered, h.mode⟩

theorem SettingsTaken.showQuiet {s t : State} {want : AcqSet} {forced : Bool} (h : SettingsTaken s t want forced) :
    SettingsTaken s (showQuiet t) want forced := by
  obtain ⟨mode, ⟨q, o, n, acq⟩, -⟩ := showQuiet_frame t
  refine ⟨?_, ?_, ?_, ?_, ?_, ?_, ?_, mode.trans h.mode⟩
  all_goals rw [acq]
  exacts [h.eff, h.safeForced, h.forcedMode, h.req, h.reqSec, h.reqByNode, h.powered]

theorem SettingsTaken.settle {s t : State} {want : AcqSet} {forced : Bool} (h : SettingsTaken s t want forced) :
    SettingsTaken s (settle t) want forced := by
  refine ⟨?_, ?_, ?_, ?_, ?_, ?_, ?_, (settle_mode t).trans h.mode⟩
  all_goals rw [settle_acq]
  exacts [h.eff, h.safeForced, h.forcedMode, h.req, h.reqSec, h.reqByNode, h.powered]

theorem useAcqSettings_taken (s : State) (want : AcqSet) (forced powerUp : Bool) :
    SettingsTaken s (useAcqSettings s want forced powerUp) want forced := by
  unfold useAcqSettings
  extract_lets before old m w fit
  split
  next mode wcode clipped hm =>
    have set : SettingsTaken s { s with acq := { s.acq with
        eff := want, mode := mode, wcode := wcode, clipped := clipped, safeForced := forced } } want forced := by
      refine ⟨rfl, rfl, fun hf => ?_, rfl, rfl, rfl, rfl, rfl⟩
      have hm2 : m = 2 := if_pos hf
      rw [if_neg (by rw [hm2]; decide)] at hm
      exact (congrArg Prod.fst hm).symm.trans hm2
    extract_lets s1 s2 s3 s4
    refine (set.of_valuesOnly (ValuesOnly.trans (t := s3) (ValuesOnly.trans (t := s2) ?_ ?_) ?_)).showQuiet
    · exact ValuesOnly.forEach (fun p s => (restartChan_valuesOnly ..).ite (.refl s)) _ _
    · exact (ValuesOnly.forEach (fun e s => restartChan_valuesOnly ..) _ _).ite (.refl _)
    · exact (restartAux_valuesOnly _).ite (.refl _)

/-! ### A request (R59) -/

/-- A record as a request of the main path finds it: no value is fresh, and none has been taken for it. -/
def recordCleared (s : State) (e : Nat) : State :=
  (s.setChan e { s.chan e with fresh := false, forReq := false }).setSecChan e { s.secChan e with forReq := false }

/-- Every record is cleared for a request of the main path. -/
def recordsCleared (s : State) : State := s.forEach (List.range 32) recordCleared

theorem recordsCleared_valuesOnly (s : State) : ValuesOnly s (recordsCleared s) := by
  refine ValuesOnly.forEach (f := recordCleared) ?_ _ s
  exact fun e s => (setChan_valuesOnly s e _).trans (setSecChan_valuesOnly _ e _)

theorem recordsCleared_chan (s : State) {e : Nat} (h : e < 32) :
    ((recordsCleared s).chan e).fresh = false ∧ ((recordsCleared s).chan e).forReq = false := by
  refine forEach_each (f := recordCleared) (read := State.chan) (I := fun _ => True)
    (Q := fun _ c => c.fresh = false ∧ c.forReq = false) (fun _ _ _ => trivial) ?_ ?_ trivial (List.mem_range.mpr h)
  · intro s e _
    simp only [recordCleared, chan_setSecChan, chan_setChan_same, and_self]
  · intro s e d hd
    simp only [recordCleared, chan_setSecChan, chan_setChan_ne s _ hd]

theorem recordsCleared_secChan (s : State) {e : Nat} (h : e < 32) : ((recordsCleared s).secChan e).forReq = false := by
  refine forEach_each (f := recordCleared) (read := State.secChan) (I := fun _ => True) (Q := fun _ c => c.forReq = false)
    (fun _ _ _ => trivial) ?_ ?_ trivial (List.mem_range.mpr h)
  · intro s e _
    simp only [recordCleared, secChan_setSecChan_same]
  · intro s e d hd
    simp only [recordCleared, secChan_setSecChan_ne _ _ hd, secChan_setChan]

/-- The main path is powered up for a conversion (R59, R515). -/
def mainBegun (s : State) : State :=
  { s with acq := { s.acq with req := .powering, powered := true, reqByNode := false, calTail := [] } }

theorem exec_acqReqMain {s : State} (h : Accepted s) :
    exec .acqReqMain s = .next (settle (recordsCleared (applyAcqSettings (mainBegun s) true))) := by
  change execAcqReqMain s = _
  rw [execAcqReqMain, reqMain, if_neg (by simp [(reqAccepted_iff s).mpr h])]
  rfl

theorem acqReqMain_starts {s : State} (h : Accepted s) : Completes .acqReqMain s fun t =>
    t.acq.req = .powering ∧ t.acq.powered = true ∧ t.acq.reqByNode = false ∧ t.acq.eff = s.acqWanted ∧ t.mode = s.mode ∧
    (s.mode = .safe → t.acq.mode = 2 ∧ t.acq.safeForced = true) ∧
    ∀ e, e < 32 → (t.chan e).fresh = false ∧ (t.chan e).forReq = false ∧ (t.secChan e).forReq = false := by
  have taken := ((useAcqSettings_taken (mainBegun s) s.acqWanted (s.mode == .safe) true).of_valuesOnly
    (recordsCleared_valuesOnly _)).settle
  refine ⟨_, exec_acqReqMain h, taken.req, taken.powered, taken.reqByNode, taken.eff, taken.mode, fun hs => ?_, fun e he => ?_⟩
  · have forced : (s.mode == Mode.safe) = true := by rw [hs]; rfl
    exact ⟨taken.forcedMode forced, taken.safeForced.trans forced⟩
  · rw [chan_settle, secChan_settle]
    exact ⟨(recordsCleared_chan _ he).1, (recordsCleared_chan _ he).2, recordsCleared_secChan _ he⟩

/-- A record's mark of a conversion on request is cleared. -/
def markCleared (s : State) (e : Nat) : State := s.setSecChan e { s.secChan e with onReq := false }

/-- The marks of conversions on request are cleared. -/
def marksCleared (s : State) : State := s.forEach (List.range 32) markCleared

theorem marksCleared_valuesOnly (s : State) : ValuesOnly s (marksCleared s) := by
  refine ValuesOnly.forEach (f := markCleared) ?_ _ s
  exact fun e s => setSecChan_valuesOnly s e _

theorem marksCleared_each (s : State) {e : Nat} (h : e < 32) : ((marksCleared s).secChan e).onReq = false := by
  refine forEach_each (f := markCleared) (read := State.secChan) (I := fun _ => True) (Q := fun _ c => c.onReq = false)
    (fun _ _ _ => trivial) ?_ ?_ trivial (List.mem_range.mpr h)
  · intro s e _
    rw [markCleared, secChan_setSecChan_same]
  · exact fun s e d hd => secChan_setSecChan_ne s _ hd

/-- A secondary conversion is in progress (R59). -/
def secondaryBegun (s : State) : State := { s with acq := { s.acq with reqSec := true, reqByNode := false } }

theorem exec_acqReqSecondary {s : State} (h : Accepted s) :
    exec .acqReqSecondary s = .next (settle (marksCleared (secondaryBegun (applyAcqSettings s false)))) := by
  change execAcqReqSecondary s = _
  rw [execAcqReqSecondary, reqSecondary, if_neg (by simp [(reqAccepted_iff s).mpr h])]
  rfl

theorem acqReqSecondary_starts {s : State} (h : Accepted s) : Completes .acqReqSecondary s fun t =>
    t.acq.reqSec = true ∧ t.acq.req = .idle ∧ t.acq.eff = s.acqWanted ∧ t.mode = s.mode ∧
    (∀ e, e < 32 → (t.secChan e).onReq = false) ∧ t.acq.powered = s.acq.powered := by
  have taken := useAcqSettings_taken s s.acqWanted (s.mode == .safe) false
  refine ⟨_, exec_acqReqSecondary h, ?_⟩
  rw [applyAcqSettings]
  generalize useAcqSettings s s.acqWanted (s.mode == .safe) false = u at taken ⊢
  obtain ⟨hreq, hsec, heff, hpow, hmode⟩ := (marksCleared_valuesOnly (secondaryBegun u)).steady
  obtain ⟨-, -, idle, -⟩ := h
  rw [settle_acq, settle_mode, hsec, hreq, heff, hpow, hmode]
  exact ⟨rfl, taken.req.trans idle, taken.eff, taken.mode,
    fun e he => (congrArg SecChan.onReq (secChan_settle _ e)).trans (marksCleared_each _ he), taken.powered⟩

theorem exec_request_refused {s : State} (h : ¬ Accepted s) :
    exec .acqReqMain s = .next (settle s) ∧ exec .acqReqSecondary s = .next (settle s) := by
  have no : (!s.reqAccepted) = true := by
    rw [Bool.not_eq_true', ← Bool.not_eq_true, reqAccepted_iff]
    exact h
  constructor
  · change execAcqReqMain s = _
    rw [execAcqReqMain, reqMain, if_pos no]
    rfl
  · change execAcqReqSecondary s = _
    rw [execAcqReqSecondary, reqSecondary, if_pos no]
    rfl

/-! ### The power-up is over (R59, R515) -/

/-- A channel starts in this tick. -/
def chanStarted (s : State) (e : Nat) : State := restartChan s e false

/-- Every channel has restarted in this tick. -/
theorem chansStarted_each (s : State) {e : Nat} (h : e < 32) : ((s.forEach (List.range 32) chanStarted).chan e).sum = 0 ∧
    ((s.forEach (List.range 32) chanStarted).chan e).windows = 0 ∧
    ((s.forEach (List.range 32) chanStarted).chan e).since = s.now := by
  refine forEach_each (f := chanStarted) (read := State.chan) (I := fun t => t.now = s.now)
    (Q := fun _ c => c.sum = 0 ∧ c.windows = 0 ∧ c.since = s.now) (fun _ _ h => h) ?_ ?_ rfl (List.mem_range.mpr h)
  · intro t e ht
    rw [chanStarted, restartChan, chan_setChan_same]
    exact ⟨rfl, rfl, ht⟩
  · exact fun t e d hd => chan_setChan_ne t _ hd

theorem ValuesOnly.firstAux {s t : State} (h : ValuesOnly s t) : t.firstAux = s.firstAux := by
  obtain ⟨_, _, _, _, _, _, _, _, _, rfl⟩ := h
  rfl

/-- The main path measures for the request. -/
def measuringBegun (s : State) : State := { s with acq := { s.acq with req := .measuring } }

theorem measuringBegun_acqOnly (s : State) : AcqOnly s (measuringBegun s) := by
  refine ⟨_, _, _, _, _, ?_, rfl⟩
  rfl

/-- Every channel and the AUX scan start. -/
def allStarted (s : State) : State := restartAux (s.forEach (List.range 32) chanStarted)

theorem allStarted_valuesOnly (s : State) : ValuesOnly s (allStarted s) := by
  refine (ValuesOnly.forEach (f := chanStarted) ?_ _ s).trans (restartAux_valuesOnly _)
  exact fun e s => restartChan_valuesOnly s e false

theorem chan_restartAux (s : State) (e : Nat) : (restartAux s).chan e = s.chan e := rfl

theorem allStarted_each (s : State) {e : Nat} (h : e < 32) :
    ((allStarted s).chan e).sum = 0 ∧ ((allStarted s).chan e).windows = 0 ∧ ((allStarted s).chan e).since = s.now := by
  rw [allStarted, chan_restartAux]
  exact chansStarted_each s h

theorem allStarted_auxInput (s : State) : (allStarted s).acq.auxInput = s.firstAux := by
  refine (ValuesOnly.forEach (f := chanStarted) ?_ (List.range 32) s).firstAux
  exact fun e s => restartChan_valuesOnly s e false

theorem modulatorPowerupDone_starts {s : State} (h : s.acq.req = .powering) : Completes .modulatorPowerupDone s fun t =>
    t.acq.req = .measuring ∧ (∀ e, e < 32 → (t.chan e).sum = 0 ∧ (t.chan e).windows = 0 ∧ (t.chan e).since = s.now) ∧
    t.acq.auxInput = s.firstAux ∧ t.regs = (settle s).regs := by
  have next : exec .modulatorPowerupDone s = .next (settle (allStarted (measuringBegun s))) := by
    change execModulatorPowerupDone s = _
    rw [execModulatorPowerupDone, powerupDone, if_neg (by simp [h])]
    rfl
  have only := allStarted_valuesOnly (measuringBegun s)
  refine ⟨_, next, ?_, fun e he => ?_, ?_, ((measuringBegun_acqOnly s).trans only.acqOnly).shown_regs⟩
  · rw [settle_acq, only.steady.1]
    rfl
  · rw [chan_settle]
    exact allStarted_each (measuringBegun s) he
  · rw [settle_acq, allStarted_auxInput]
    rfl

theorem exec_powerup_not_awaited {s : State} (h : s.acq.req ≠ .powering) : exec .modulatorPowerupDone s = .next (settle s) := by
  change execModulatorPowerupDone s = _
  rw [execModulatorPowerupDone, powerupDone, if_pos (by simp [h])]
  rfl

end Sys2Proof.Machine
end

section
/-!
The end of a conversion of the main path on request: the set is published, and the modulators power down.
-/
namespace Sys2Proof.Machine

/-! ### What an update leaves alone -/

/-- The step leaves the acquisition, the mode, the timers and the registers of `K`. -/
structure LeavesAlone (K : Nat → Prop) (s t : State) : Prop where
  acq : t.acq = s.acq
  mode : t.mode = s.mode
  timers : t.timers = s.timers
  reg : ∀ a, K a → t.reg a = s.reg a

section
variable {K : Nat → Prop} {s t u : State}

theorem LeavesAlone.refl (s : State) : LeavesAlone K s s := ⟨rfl, rfl, rfl, fun _ _ => rfl⟩

theorem LeavesAlone.trans (h : LeavesAlone K s t) (k : LeavesAlone K t u) : LeavesAlone K s u :=
  ⟨k.acq.trans h.acq, k.mode.trans h.mode, k.timers.trans h.timers, fun a ha => (k.reg a ha).trans (h.reg a ha)⟩

theorem LeavesAlone.setReg (h : LeavesAlone K s t) {a : Nat} (v : Half) (ha : ¬ K a) : LeavesAlone K s (t.setReg a v) :=
  h.trans ⟨rfl, rfl, rfl, fun _ hb => reg_setReg_ne _ _ fun e => ha (e ▸ hb)⟩

theorem LeavesAlone.setRegN (h : LeavesAlone K s t) {a : Nat} (n : Nat) (ha : ¬ K a) : LeavesAlone K s (t.setRegN a n) :=
  h.setReg _ ha

theorem LeavesAlone.setFlag (h : LeavesAlone K s t) {f : BitField} (c : Bool) (hf : ¬ K f.addr) :
    LeavesAlone K s (t.setFlag f c) := h.setReg _ hf

theorem LeavesAlone.setFld (h : LeavesAlone K s t) {f : BitField} (n : Nat) (hf : ¬ K f.addr) :
    LeavesAlone K s (t.setFld f n) := h.setReg _ hf

theorem LeavesAlone.raiseIrq (h : LeavesAlone K s t) (i : Nat) (hi : ¬ K Reg.IRQ_PEND) : LeavesAlone K s (t.raiseIrq i) :=
  h.setReg _ hi

theorem LeavesAlone.fireAt (h : LeavesAlone K s t) (e : Engine) (l : Nat) : LeavesAlone K s (t.fireAt e l) :=
  h.trans ⟨setEng_acq .., setEng_mode .., setEng_timers .., fun _ _ => reg_setEng ..⟩

theorem LeavesAlone.fireAll (h : LeavesAlone K s t) (l : Nat) : LeavesAlone K s (t.fireAll l) :=
  ((h.fireAt _ l).fireAt _ l).fireAt _ l

theorem LeavesAlone.forEach {α : Type} {f : State → α → State} {l : List α} (h : ∀ a ∈ l, ∀ s, LeavesAlone K s (f s a))
    (s : State) : LeavesAlone K s (s.forEach l f) :=
  ⟨forEach_keeps State.acq (fun a ha s => (h a ha s).acq) s, forEach_keeps State.mode (fun a ha s => (h a ha s).mode) s,
    forEach_keeps State.timers (fun a ha s => (h a ha s).timers) s,
    fun b hb => forEach_keeps (fun s => s.reg b) (fun a ha s => (h a ha s).reg b hb) s⟩

end

/-! ### The set's registers (R27, R52, R53) -/

theorem forEach_map {α β : Type} (s : State) (l : List α) (g : α → β) (f : State → β → State) :
    s.forEach (l.map g) f = s.forEach l fun s a => f s (g a) := List.foldl_map ..

/-- A 24-bit code and its status read back from the registers they were put in. -/
theorem epValue_setEp (s : State) {lo hi : Nat} (h : lo ≠ hi) {v : Int} (st : Nat) (h1 : -8388608 ≤ v) (h2 : v < 8388608) :
    (s.setEp lo hi v st).epValue lo hi = v := by
  have low : (s.setEp lo hi v st).regN lo = (BitVec.ofInt 24 v).toNat % 65536 := by
    rw [State.regN, State.setEp, reg_setRegN_ne _ _ h, reg_setRegN_same, BitVec.toNat_ofNat, Nat.mod_mod]
  have high : (s.setEp lo hi v st).regN hi = ((BitVec.ofInt 24 v).toNat / 65536 + 256 * st) % 65536 := by
    rw [State.regN, State.setEp, reg_setRegN_same, BitVec.toNat_ofNat]
  have code : (BitVec.ofInt 24 v).toNat < 2 ^ 24 := BitVec.isLt _
  have whole : (BitVec.ofInt 24 v).toNat % 65536 + 65536 * (((BitVec.ofInt 24 v).toNat / 65536 + 256 * st) % 65536 % 256) =
      (BitVec.ofInt 24 v).toNat := by omega
  rw [State.epValue, low, high, whole, BitVec.ofNat_toNat, BitVec.setWidth_eq, BitVec.toInt_ofInt]
  exact Int.bmod_eq_of_le (by omega) (by omega)

/-- An endpoint's registers take its value of the set of `r`. -/
def mainShown (r : State) (onRequest : Bool) (s : State) (e : Nat) : State :=
  s.setEp (Reg.EP_LO e) (Reg.EP_HI e) (r.latchEp e onRequest).1 (r.latchEp e onRequest).2

theorem mainShown_other (r : State) (q : Bool) (s : State) {d e : Nat} (h : d ≠ e) :
    (mainShown r q s e).mainValue d = s.mainValue d := by
  have lo : (mainShown r q s e).reg (Reg.EP_LO d) = s.reg (Reg.EP_LO d) :=
    reg_setEp_ne s _ _ (by simp only [Reg.EP_LO]; omega) (by simp only [Reg.EP_LO, Reg.EP_HI]; omega)
  have hi : (mainShown r q s e).reg (Reg.EP_HI d) = s.reg (Reg.EP_HI d) :=
    reg_setEp_ne s _ _ (by simp only [Reg.EP_LO, Reg.EP_HI]; omega) (by simp only [Reg.EP_HI]; omega)
  simp only [State.mainValue, State.epValue, State.regN, lo, hi]

/-- The values of the set stand in the endpoints' registers. -/
def mainValuesShown (s : State) (onRequest : Bool) : State := s.forEach (List.range 32) (mainShown s onRequest)

theorem mainValuesShown_value (s : State) (q : Bool) {e : Nat} (he : e < 32) (h1 : -8388608 ≤ (s.latchEp e q).1)
    (h2 : (s.latchEp e q).1 < 8388608) : (mainValuesShown s q).mainValue e = (s.latchEp e q).1 := by
  refine forEach_each (f := mainShown s q) (read := State.mainValue) (I := fun _ => True)
    (Q := fun e v => -8388608 ≤ (s.latchEp e q).1 → (s.latchEp e q).1 < 8388608 → v = (s.latchEp e q).1)
    (fun _ _ _ => trivial) ?_ ?_ trivial (List.mem_range.mpr he) h1 h2
  · intro t e _ h1 h2
    exact epValue_setEp t (by simp only [Reg.EP_LO, Reg.EP_HI]; omega) _ h1 h2
  · exact fun t e d hd => mainShown_other s q t hd

/-- The sequence, the status word and the endpoints of the main set. -/
def inMainSet (a : Nat) : Prop := a = Reg.RES_SEQ ∨ a = Reg.RES_STATUS ∨ Reg.EP_LO 0 ≤ a ∧ a < Reg.SEC_SEQ

/-- The head of a set: its sequence, status word and time, and what they tell the host and the engines. -/
def headShown (s : State) (onRequest fresh : Bool) : State :=
  let s := s.incWrap Reg.RES_SEQ
  let s := s.setFlag Fld.RES_STATUS_VALID true
  let s := s.setFlag Fld.RES_STATUS_ON_REQUEST onRequest
  let s := s.setFlag Fld.RES_STATUS_SAFE_FORCED s.acq.safeForced
  let s := s.setFlag Fld.RES_STATUS_REF_FALLBACK s.acq.refFallback
  let s := s.setFlag Fld.RES_STATUS_INST_CLIPPED s.acq.clipped
  let s := s.setFld Fld.RES_STATUS_EFF_MODE s.acq.mode
  let s := if fresh then s.setTriple (Reg.RES_TB 0) s.acq.lastTb else s
  (s.raiseIrq irqResult).fireAll linePublished

theorem publishMain_eq (s : State) (q : Bool) :
    publishMain s q = headShown (mainValuesShown s q) q (simEps.any fun e => s.newMain e q) := by
  have values : mainValuesShown s q = s.forEach ((List.range 32).map fun e => (e, s.latchEp e q)) fun s p =>
      s.setEp (Reg.EP_LO p.1) (Reg.EP_HI p.1) p.2.1 p.2.2 := (forEach_map ..).symm
  rw [values]
  rfl

/-- The status word of the set, before its time. -/
def statusShown (s : State) (onRequest : Bool) : State :=
  let s := s.incWrap Reg.RES_SEQ
  let s := s.setFlag Fld.RES_STATUS_VALID true
  let s := s.setFlag Fld.RES_STATUS_ON_REQUEST onRequest
  let s := s.setFlag Fld.RES_STATUS_SAFE_FORCED s.acq.safeForced
  let s := s.setFlag Fld.RES_STATUS_REF_FALLBACK s.acq.refFallback
  let s := s.setFlag Fld.RES_STATUS_INST_CLIPPED s.acq.clipped
  s.setFld Fld.RES_STATUS_EFF_MODE s.acq.mode

/-- The registers but the set's time and IRQ_PEND. -/
def notTime (a : Nat) : Prop := a ≠ Reg.IRQ_PEND ∧ a ≠ Reg.RES_TB 0 ∧ a ≠ Reg.RES_TB 0 + 1 ∧ a ≠ Reg.RES_TB 0 + 2

theorem headShown_status (s : State) (q fresh : Bool) : LeavesAlone notTime (statusShown s q) (headShown s q fresh) := by
  have timed : LeavesAlone notTime (statusShown s q)
      (if fresh = true then (statusShown s q).setTriple (Reg.RES_TB 0) (statusShown s q).acq.lastTb else statusShown s q) := by
    split
    · refine ((((LeavesAlone.refl _).setRegN _ ?_).setRegN _ ?_).setRegN _ ?_)
      · exact fun h => h.2.1 rfl
      · exact fun h => h.2.2.1 rfl
      · exact fun h => h.2.2.2 rfl
    · exact .refl _
  exact (timed.raiseIrq irqResult fun h => h.1 rfl).fireAll linePublished

theorem statusShown_leaves (s : State) (q : Bool) :
    LeavesAlone (fun a => a ≠ Reg.RES_SEQ ∧ a ≠ Reg.RES_STATUS) s (statusShown s q) := by
  have no : ¬ (Reg.RES_STATUS ≠ Reg.RES_SEQ ∧ Reg.RES_STATUS ≠ Reg.RES_STATUS) := fun h => h.2 rfl
  exact (((((((LeavesAlone.refl s).setRegN _ fun h => h.1 rfl).setFlag _ no).setFlag _ no).setFlag _ no).setFlag _ no).setFlag _
    no).setFld _ no

theorem statusShown_valid (s : State) (q : Bool) : (statusShown s q).flag Fld.RES_STATUS_VALID = true := by
  unfold statusShown
  extract_lets s1 s2 s3 s4 s5 s6
  rw [flag_setFld_ne _ _ (by decide), flag_setFlag_ne _ _ (by decide), flag_setFlag_ne _ _ (by decide),
    flag_setFlag_ne _ _ (by decide), flag_setFlag_ne _ _ (by decide), flag_setFlag_same _ _ _ (by decide) (by decide)]

theorem statusShown_onRequest (s : State) (q : Bool) : (statusShown s q).flag Fld.RES_STATUS_ON_REQUEST = q := by
  unfold statusShown
  extract_lets s1 s2 s3 s4 s5 s6
  rw [flag_setFld_ne _ _ (by decide), flag_setFlag_ne _ _ (by decide), flag_setFlag_ne _ _ (by decide),
    flag_setFlag_ne _ _ (by decide), flag_setFlag_same _ _ _ (by decide) (by decide)]

theorem statusShown_seq (s : State) (q : Bool) :
    (statusShown s q).regN Reg.RES_SEQ = (s.regN Reg.RES_SEQ + 1) % 65536 := by
  have next : (s.incWrap Reg.RES_SEQ).regN Reg.RES_SEQ = (s.regN Reg.RES_SEQ + 1) % 65536 := by
    rw [State.incWrap, State.regN, reg_setRegN_same, BitVec.toNat_ofNat, Nat.mod_mod]
  have no : ¬ Reg.RES_STATUS = Reg.RES_SEQ := by decide
  have kept : LeavesAlone (· = Reg.RES_SEQ) (s.incWrap Reg.RES_SEQ) (statusShown s q) :=
    ((((((LeavesAlone.refl _).setFlag _ no).setFlag _ no).setFlag _ no).setFlag _ no).setFlag _ no).setFld _ no
  rw [← next, State.regN, kept.reg _ rfl]
  rfl

/-! ### The publication -/

/-- What the publication of a set on request leaves. -/
structure Published (s t : State) : Prop where
  valid : t.flag Fld.RES_STATUS_VALID = true
  onRequest : t.flag Fld.RES_STATUS_ON_REQUEST = true
  seq : t.regN Reg.RES_SEQ = (s.regN Reg.RES_SEQ + 1) % 65536
  value : ∀ e, e < 32 → -8388608 ≤ (s.latchEp e true).1 → (s.latchEp e true).1 < 8388608 →
    t.mainValue e = (s.latchEp e true).1

theorem mainValue_congr {s t : State} {e : Nat} (h1 : t.reg (Reg.EP_LO e) = s.reg (Reg.EP_LO e))
    (h2 : t.reg (Reg.EP_HI e) = s.reg (Reg.EP_HI e)) : t.mainValue e = s.mainValue e := by
  simp only [State.mainValue, State.epValue, State.regN, h1, h2]

theorem inMainSet_ep {e : Nat} (he : e < 32) : inMainSet (Reg.EP_LO e) ∧ inMainSet (Reg.EP_HI e) := by
  constructor
  · refine .inr (.inr ?_)
    simp only [Reg.EP_LO, Reg.SEC_SEQ]
    omega
  · refine .inr (.inr ?_)
    simp only [Reg.EP_LO, Reg.EP_HI, Reg.SEC_SEQ]
    omega

/-- A step that leaves the main set's registers leaves what has been published. -/
theorem Published.of_set {s t u : State} (h : Published s t) (k : ∀ a, inMainSet a → u.reg a = t.reg a) : Published s u := by
  have status : u.reg Reg.RES_STATUS = t.reg Reg.RES_STATUS := k _ (.inr (.inl rfl))
  refine ⟨?_, ?_, ?_, fun e he h1 h2 => ?_⟩
  · rw [← h.valid, State.flag, State.fld, show Fld.RES_STATUS_VALID.addr = Reg.RES_STATUS from rfl, status]
    rfl
  · rw [← h.onRequest, State.flag, State.fld, show Fld.RES_STATUS_ON_REQUEST.addr = Reg.RES_STATUS from rfl, status]
    rfl
  · rw [← h.seq, State.regN, k _ (.inl rfl)]
    rfl
  · obtain ⟨lo, hi⟩ := inMainSet_ep he
    rw [mainValue_congr (k _ lo) (k _ hi), h.value e he h1 h2]

theorem LeavesAlone.setEp {K : Nat → Prop} {s t : State} (h : LeavesAlone K s t) {lo hi : Nat} (v : Int) (st : Nat)
    (hlo : ¬ K lo) (hhi : ¬ K hi) : LeavesAlone K s (t.setEp lo hi v st) := (h.setRegN _ hlo).setRegN _ hhi

/-- The registers outside the endpoints' of the main set. -/
def notEndpoint (a : Nat) : Prop := a < 0x0610 ∨ 0x0650 ≤ a

theorem mainValuesShown_leaves (s : State) (q : Bool) : LeavesAlone notEndpoint s (mainValuesShown s q) := by
  refine LeavesAlone.forEach (fun e he t => (LeavesAlone.refl t).setEp _ _ ?_ ?_) s
  · rw [List.mem_range] at he
    simp only [notEndpoint, Reg.EP_LO]
    omega
  · rw [List.mem_range] at he
    simp only [notEndpoint, Reg.EP_HI]
    omega

theorem mainValue_of_leaves {K : Nat → Prop} {s t : State} (h : LeavesAlone K s t) {e : Nat} (lo : K (Reg.EP_LO e))
    (hi : K (Reg.EP_HI e)) : t.mainValue e = s.mainValue e := mainValue_congr (h.reg _ lo) (h.reg _ hi)

theorem publishMain_published (s : State) : Published s (publishMain s true) := by
  have status : Published s (statusShown (mainValuesShown s true) true) := by
    refine ⟨statusShown_valid _ _, statusShown_onRequest _ _, (statusShown_seq _ _).trans ?_, fun e he h1 h2 => ?_⟩
    · rw [State.regN, (mainValuesShown_leaves s true).reg _ (.inl (by decide))]
      rfl
    · rw [mainValue_of_leaves (statusShown_leaves _ _), mainValuesShown_value s true he h1 h2]
      · simp only [Reg.EP_LO, Reg.RES_SEQ, Reg.RES_STATUS]
        omega
      · simp only [Reg.EP_HI, Reg.RES_SEQ, Reg.RES_STATUS]
        omega
  rw [publishMain_eq]
  refine status.of_set fun a ha => (headShown_status _ _ _).reg a ?_
  simp only [inMainSet, notTime, Reg.EP_LO, Reg.SEC_SEQ, Reg.RES_SEQ, Reg.RES_STATUS, Reg.RES_TB, Reg.IRQ_PEND] at ha ⊢
  omega

/-- The registers outside the main set but IRQ_PEND. -/
def besideSet (a : Nat) : Prop := (a < 0x0600 ∨ 0x0650 ≤ a) ∧ a ≠ Reg.IRQ_PEND

theorem LeavesAlone.mono {K L : Nat → Prop} {s t : State} (h : LeavesAlone K s t) (hK : ∀ a, L a → K a) : LeavesAlone L s t :=
  ⟨h.acq, h.mode, h.timers, fun a ha => h.reg a (hK a ha)⟩

/-- The publication leaves the other registers. -/
theorem publishMain_leaves (s : State) (q : Bool) : LeavesAlone besideSet s (publishMain s q) := by
  rw [publishMain_eq]
  refine ((mainValuesShown_leaves s q).mono fun a ha => ?_).trans
    (((statusShown_leaves _ q).mono fun a ha => ?_).trans ((headShown_status _ q _).mono fun a ha => ?_))
  · simp only [besideSet, notEndpoint] at ha ⊢
    omega
  · simp only [besideSet, Reg.RES_SEQ, Reg.RES_STATUS] at ha ⊢
    omega
  · simp only [besideSet, notTime, Reg.RES_TB, Reg.IRQ_PEND] at ha ⊢
    omega

/-! ### What goes with the publication (R52, R76, R379, R383, R110) -/

theorem divFree_leaves (K : Nat → Prop) (s : State) (a b : Int) : LeavesAlone K s (s.divFree a b).2 := by
  obtain ⟨n, hn⟩ := divFree_state s a b
  rw [hn]
  exact ⟨rfl, rfl, rfl, fun _ _ => rfl⟩

theorem interpolate_leaves (K : Nat → Prop) (s : State) (l : List (Int × Int)) (x : Int) :
    LeavesAlone K s (interpolate s l x).2 := by
  unfold interpolate
  split
  · exact .refl s
  · dsimp only
    split
    · exact divFree_leaves K s _ _
    · exact divFree_leaves K s _ _

theorem notInMainSet_of_le {a : Nat} (h : 0x0660 ≤ a) : ¬ inMainSet a := by
  simp only [inMainSet, Reg.RES_SEQ, Reg.RES_STATUS, Reg.SEC_SEQ]
  omega

/-- A reading converted, or marked as none. -/
theorem ntcShown_leaves (s : State) (c : Bool) (l : List (Int × Int)) (x : Int) (i : Nat) :
    LeavesAlone inMainSet s (let (t, u) := if c = true then interpolate s l x else (none, s)
      u.setReg (Reg.TH_NTC_T i) (match t with | some v => half v | none => 0x8000)) := by
  have no : ¬ inMainSet (Reg.TH_NTC_T i) := notInMainSet_of_le (by simp only [Reg.TH_NTC_T]; omega)
  cases c
  · exact (LeavesAlone.refl s).setReg _ no
  · exact (interpolate_leaves _ s l x).setReg _ no

theorem ntcConvert_leaves (s : State) : LeavesAlone inMainSet s (ntcConvert s) := by
  unfold ntcConvert
  extract_lets on table good s1 s2
  have flagged : LeavesAlone inMainSet s s1 := (LeavesAlone.refl s).setFlag _ (notInMainSet_of_le (by decide))
  have read : LeavesAlone inMainSet s1 s2 := by
    refine LeavesAlone.forEach (fun i _ s => ?_) s1
    split
    · exact .refl s
    · exact ntcShown_leaves ..
  exact (flagged.trans read).trans ⟨rfl, rfl, rfl, fun _ _ => rfl⟩

theorem impPermissions_leaves (K : Nat → Prop) (s : State) : LeavesAlone K s (impPermissions s) :=
  ⟨rfl, rfl, rfl, fun _ _ => rfl⟩

theorem setBalChan_leaves (K : Nat → Prop) (s : State) (k : Nat) (c : BalChan) : LeavesAlone K s (s.setBalChan k c) :=
  ⟨rfl, rfl, rfl, fun _ _ => rfl⟩

theorem transferPermissions_leaves (s : State) : LeavesAlone inMainSet s (transferPermissions s) := by
  have blocks : LeavesAlone inMainSet s (balPermissions s) := by
    refine LeavesAlone.setFlag (LeavesAlone.forEach (fun k _ s => ?_) s) _ (notInMainSet_of_le (by decide))
    exact setBalChan_leaves _ s _ _
  exact blocks.trans (impPermissions_leaves ..)

theorem chargeInhibit_leaves (s : State) : LeavesAlone inMainSet s (chargeInhibit s) := by
  have no {f : BitField} (h : 0x0660 ≤ f.addr) : ¬ inMainSet f.addr := notInMainSet_of_le h
  unfold chargeInhibit
  extract_lets r lo hi bad good was now
  split
  · exact .refl s
  · exact (((LeavesAlone.refl s).setFlag _ (no (by decide))).setFlag _ (no (by decide))).fireAll _

theorem settle_set (s : State) (a : Nat) (h : inMainSet a) : (settle s).reg a = s.reg a := by
  refine settle_reg s a fun hl => ?_
  simp only [levelRegs, List.mem_cons, List.not_mem_nil, or_false] at hl
  simp only [inMainSet, Reg.RES_SEQ, Reg.RES_STATUS, Reg.EP_LO, Reg.SEC_SEQ] at h
  rcases hl with rfl | rfl | rfl | rfl | rfl | rfl
  all_goals revert h; decide

/-- A latch takes the records' marks. -/
def latchTaken (s : State) (e : Nat) : State :=
  let s := s.setChan e { s.chan e with fresh := false, settled := s.chanSettled e }
  s.setSecChan e { s.secChan e with sinceLatch := false }

theorem latchTaken_valuesOnly (s : State) (e : Nat) : ValuesOnly s (latchTaken s e) :=
  (setChan_valuesOnly s e _).trans (setSecChan_valuesOnly _ e _)

/-- The pulls and the calibration slots that are over no longer hold their values. -/
def holdsEnded (s : State) : State :=
  { s with
    wd := { s.wd with hold := s.wd.hold.filter fun p => !p.2.2 }
    acq := { s.acq with calTail := [] } }

theorem afterLatch_eq (s : State) : afterLatch s = holdsEnded (s.forEach (List.range 32) latchTaken) := rfl

/-- After a latch the request, the mode and all registers stand. -/
theorem afterLatch_frame (s : State) : (afterLatch s).acq.req = s.acq.req ∧ (afterLatch s).acq.test = s.acq.test ∧
    (afterLatch s).mode = s.mode ∧ (afterLatch s).timers = s.timers ∧ (afterLatch s).regs = s.regs := by
  have taken := ValuesOnly.forEach (fun e s => latchTaken_valuesOnly s e) (List.range 32) s
  rw [afterLatch_eq]
  obtain ⟨_, _, _, _, _, _, _, _, _, heq⟩ := taken
  rw [heq]
  exact ⟨rfl, rfl, rfl, rfl, rfl⟩

/-- Sweeps count as scheduled while they are. -/
def schedKept (s : State) : State := { s with acq := { s.acq with sched := s.acq.sched && s.scheduled } }

/-- The modulators power down. -/
def mainUnpowered (s : State) : State := { s with acq := { s.acq with powered := false } }

theorem acqPowerCheck_eq (s : State) : acqPowerCheck s =
    if (s.scheduled || s.acq.req != .idle || !s.acq.test.isEmpty) = true then schedKept s
    else showQuiet (mainUnpowered (schedKept s)) := rfl

theorem acqPowerCheck_frame (s : State) : (acqPowerCheck s).acq.req = s.acq.req ∧ (acqPowerCheck s).mode = s.mode ∧
    (s.scheduled = false → s.acq.req = .idle → s.acq.test = [] → (acqPowerCheck s).acq.powered = false) ∧
    ∀ a, inMainSet a → (acqPowerCheck s).reg a = s.reg a := by
  rw [acqPowerCheck_eq]
  split
  · next hc =>
    refine ⟨rfl, rfl, fun h1 h2 h3 => ?_, fun _ _ => rfl⟩
    rw [h1, h2, h3] at hc
    exact absurd hc (by decide)
  · obtain ⟨mode, ⟨q, o, n, acq⟩, kept⟩ := showQuiet_frame (mainUnpowered (schedKept s))
    rw [acq, mode]
    refine ⟨rfl, rfl, fun _ _ _ => rfl, fun a ha => kept a ?_ ?_⟩
    · rintro rfl
      revert ha
      simp only [inMainSet]
      decide
    · rintro rfl
      revert ha
      simp only [inMainSet]
      decide

theorem scheduled_congr {s t : State} (hm : t.mode = s.mode) (ht : t.timers = s.timers)
    (hr : t.reg Reg.NODE_ROLE = s.reg Reg.NODE_ROLE) (hc : t.reg Reg.TREE_CTL = s.reg Reg.TREE_CTL) :
    t.scheduled = s.scheduled := by
  have root : t.isRoot = s.isRoot := congrArg (fun w => Fld.NODE_ROLE_ROLE.read w == 2) hr
  have alone : t.alone = s.alone := congrArg (fun w => Fld.NODE_ROLE_ALONE.read w != 0) hr
  have sweeps : t.flag Fld.TREE_CTL_SWEEP_EN = s.flag Fld.TREE_CTL_SWEEP_EN :=
    congrArg (fun w => Fld.TREE_CTL_SWEEP_EN.read w != 0) hc
  simp only [State.scheduled, State.sweepsRun, State.running, root, alone, sweeps, hm, ht]

/-- The request is over. -/
def requestOver (s : State) : State := { s with acq := { s.acq with req := .idle, reqByNode := false } }

theorem requestComplete_eq {s : State} (h : s.reqComplete = true) :
    requestComplete s = (acqPowerCheck (requestOver (afterLatch (publishMain s true)))).when
      (afterLatch (publishMain s true)).acq.reqByNode fun s => s.fireAt .node lineCallDone := by
  rw [requestComplete, if_neg (by simp [h])]
  rfl

/-- What the end of the conversion leaves (R59, R515). -/
theorem requestComplete_ends {s : State} (h : s.reqComplete = true) :
    Published s (requestComplete s) ∧ (requestComplete s).acq.req = .idle ∧ (requestComplete s).mode = s.mode ∧
      (s.scheduled = false → s.acq.test = [] → (requestComplete s).acq.powered = false) := by
  have published := publishMain_published s
  have beside := publishMain_leaves s true
  rw [requestComplete_eq h]
  generalize publishMain s true = p at published beside ⊢
  obtain ⟨-, test, mode, timers, regs⟩ := afterLatch_frame p
  generalize afterLatch p = l at test mode timers regs ⊢
  have reg (a : Nat) (ha : besideSet a) : (requestOver l).reg a = s.reg a := (reg_congr regs a).trans (beside.reg a ha)
  have scheduled : (requestOver l).scheduled = s.scheduled := scheduled_congr (mode.trans beside.mode)
    (timers.trans beside.timers) (reg _ ⟨.inl (by decide), by decide⟩) (reg _ ⟨.inr (by decide), by decide⟩)
  obtain ⟨creq, cmode, cpower, creg⟩ := acqPowerCheck_frame (requestOver l)
  generalize acqPowerCheck (requestOver l) = c at creq cmode cpower creg ⊢
  have last : LeavesAlone inMainSet c (c.when l.acq.reqByNode fun s => s.fireAt .node lineCallDone) := by
    cases l.acq.reqByNode
    · exact .refl c
    · exact LeavesAlone.fireAt (t := c) (.refl c) .node lineCallDone
  refine ⟨published.of_set fun a ha => ?_, ?_, ?_, fun h1 h2 => ?_⟩
  · rw [last.reg a ha, creg a ha]
    exact reg_congr regs a
  · rw [last.acq, creq]
    rfl
  · rw [last.mode, cmode]
    exact mode.trans beside.mode
  · rw [last.acq]
    exact cpower (scheduled.trans h1) rfl (test.trans ((congrArg Acq.test beside.acq).trans h2))

/-- A value completed for the request stands in the set as it is (R27, R59). -/
theorem latchEp_requested {s : State} {e : Nat} (hu : s.epUnused e = false) (hc : s.epCal e = false)
    (hh : s.pullHold e = none) (hs : s.secServed e = false) (hr : (s.chan e).forReq = true) :
    (s.latchEp e true).1 = (s.chan e).value := by
  simp only [State.latchEp, State.newMain, hu, hc, hh, hs, hr, Bool.false_eq_true, if_false, if_true]

/-- The endpoint has its value for the set on request, or needs none. -/
def HasValue (s : State) (e : Nat) : Prop := s.epUnused e = true ∨ s.epCal e = true ∨
  (if s.secServed e = true then (s.secChan e).forReq = true else (s.chan e).forReq = true)

theorem reqEpDone_iff (s : State) (e : Nat) : s.reqEpDone e = true ↔ HasValue s e := by
  unfold State.reqEpDone HasValue
  rw [Bool.or_eq_true, Bool.or_eq_true, or_assoc]
  split
  · rfl
  · rfl

theorem reqComplete_iff (s : State) : s.reqComplete = true ↔ s.acq.req = .measuring ∧ ∀ e, e < 32 → HasValue s e := by
  rw [State.reqComplete, Bool.and_eq_true, beq_iff_eq, List.all_eq_true]
  simp only [List.mem_range, reqEpDone_iff]

theorem onRequestComplete_ends {s : State} (hm : s.acq.req = .measuring) (hv : ∀ e, e < 32 → HasValue s e) :
    Completes .onRequestComplete s fun t =>
      t.acq.req = .idle ∧ t.flag Fld.RES_STATUS_VALID = true ∧ t.flag Fld.RES_STATUS_ON_REQUEST = true ∧
      t.regN Reg.RES_SEQ = (s.regN Reg.RES_SEQ + 1) % 65536 ∧ t.mode = s.mode ∧
      (s.scheduled = false → s.acq.test = [] → t.acq.powered = false) ∧
      ∀ e, e < 32 → s.epUnused e = false → s.epCal e = false → s.pullHold e = none → s.secServed e = false →
        -8388608 ≤ (s.chan e).value → (s.chan e).value < 8388608 → t.mainValue e = (s.chan e).value := by
  have complete := (reqComplete_iff s).mpr ⟨hm, hv⟩
  obtain ⟨published, idle, mode, power⟩ := requestComplete_ends complete
  have next : exec .onRequestComplete s =
      .next (settle (chargeInhibit (transferPermissions (ntcConvert (requestComplete s))))) := by
    change execOnRequestComplete s = _
    rw [execOnRequestComplete, if_pos complete]
    rfl
  generalize requestComplete s = r at published idle mode power next
  have after : LeavesAlone inMainSet r (chargeInhibit (transferPermissions (ntcConvert r))) :=
    ((ntcConvert_leaves r).trans (transferPermissions_leaves _)).trans (chargeInhibit_leaves _)
  generalize chargeInhibit (transferPermissions (ntcConvert r)) = u at after next
  have shown := published.of_set fun a ha => (settle_set u a ha).trans (after.reg a ha)
  refine ⟨_, next, ?_, shown.valid, shown.onRequest, shown.seq, ?_, fun h1 h2 => ?_, fun e he hu hc hh hs h1 h2 => ?_⟩
  · rw [settle_acq, after.acq, idle]
  · rw [settle_mode, after.mode, mode]
  · rw [settle_acq, after.acq]
    exact power h1 h2
  · have value : (s.latchEp e true).1 = (s.chan e).value := by
      have has := hv e he
      simp only [HasValue, hu, hc, hs, Bool.false_eq_true, false_or, if_false] at has
      exact latchEp_requested hu hc hh hs has
    rw [← value] at h1 h2 ⊢
    exact shown.value e he h1 h2

theorem exec_onRequest_incomplete {s : State} (h : s.acq.req ≠ .measuring ∨ ∃ e, e < 32 ∧ ¬ HasValue s e) :
    exec .onRequestComplete s = .next (settle s) := by
  have no : ¬ s.reqComplete = true := by
    rw [reqComplete_iff]
    rintro ⟨hm, hv⟩
    rcases h with h | ⟨e, he, hn⟩
    · exact h hm
    · exact hn (hv e he)
  change execOnRequestComplete s = _
  rw [execOnRequestComplete, if_neg no]
  rfl

end Sys2Proof.Machine
end

section
/-!
Captures: a path keeps a group of half-words, and of a result set its marks and its sequence.
-/
namespace Sys2Proof.Machine

/-! ### A captured half-word changes nothing that is read -/

theorem eng_setSnap (s : State) (p : Path) (a : Nat) (v : Half) (e : Engine) : (setSnap s p a v).eng e = s.eng e := by
  cases p <;> cases e <;> rfl

theorem recentFaultRestarts_setSnap (s : State) (p : Path) (a : Nat) (v : Half) (e : Engine) :
    (setSnap s p a v).recentFaultRestarts e = s.recentFaultRestarts e := by
  cases p <;> cases e <;> rfl

/-- An engine's word does not read what is captured. -/
theorem engWord_setSnap (s : State) (p : Path) (a : Nat) (v : Half) (e : Engine) (f : BitField) (k : Nat) :
    ((setSnap s p a v).eng e).word16 ((setSnap s p a v).recentFaultRestarts e).length ((setSnap s p a v).fld f) k =
      (s.eng e).word16 (s.recentFaultRestarts e).length (s.fld f) k := by
  have sel : (setSnap s p a v).fld f = s.fld f := by cases p <;> rfl
  rw [eng_setSnap, recentFaultRestarts_setSnap, sel]

theorem view_setSnap (s : State) (p : Path) (a : Nat) (v : Half) (b : Nat) : (setSnap s p a v).view b = s.view b := by
  unfold State.view
  iterate 17 (refine ite_congr rfl (fun _ => ?_) (fun _ => ?_); · cases p <;> rfl)
  refine ite_congr rfl (fun _ => ?_) (fun _ => ?_)
  · exact engWord_setSnap ..
  · cases p <;> rfl

theorem live_setSnap (s : State) (p : Path) (a : Nat) (v : Half) (b : Nat) : (setSnap s p a v).live b = s.live b := by
  have absent : (setSnap s p a v).absent b = s.absent b := by cases p <;> rfl
  have hidden : (setSnap s p a v).storeHidden b = s.storeHidden b := by cases p <;> rfl
  have reg : (setSnap s p a v).reg b = s.reg b := by cases p <;> rfl
  rw [State.live, State.live, absent, hidden, reg, view_setSnap]

theorem setSnap_acqOnly (s : State) (p : Path) (a : Nat) (v : Half) : AcqOnly s (setSnap s p a v) := by
  cases p
  all_goals
    refine ⟨_, _, _, _, _, ?_, rfl⟩
    rfl

theorem setSnap_acq (s : State) (p : Path) (a : Nat) (v : Half) : (setSnap s p a v).acq = s.acq := by cases p <;> rfl

theorem snap_setSnap_same (s : State) (p : Path) (a : Nat) (v : Half) : (setSnap s p a v).snap p a = v := by
  cases p <;> exact sparseGet_set_same ..

theorem snap_setSnap_ne (s : State) (p : Path) {a b : Nat} (v : Half) (h : b ≠ a) :
    (setSnap s p a v).snap p b = s.snap p b := by
  cases p <;> exact sparseGet_set_ne _ _ _ _ h

/-! ### A group is captured (R8) -/

/-- What is captured stands, and what is read and the acquisition with it. -/
structure Captured (s t : State) : Prop where
  only : AcqOnly s t
  live : ∀ a, t.live a = s.live a
  acq : t.acq = s.acq

theorem Captured.refl (s : State) : Captured s s := ⟨.refl s, fun _ => rfl, rfl⟩

theorem Captured.trans {s t u : State} (h : Captured s t) (k : Captured t u) : Captured s u :=
  ⟨h.only.trans k.only, fun a => (k.live a).trans (h.live a), k.acq.trans h.acq⟩

/-- A half-word is captured as it reads. -/
def halfCaptured (p : Path) (s : State) (a : Nat) : State := setSnap s p a (s.live a)

theorem halfCaptured_captured (s : State) (p : Path) (a : Nat) : Captured s (halfCaptured p s a) :=
  ⟨setSnap_acqOnly .., fun _ => live_setSnap .., setSnap_acq ..⟩

theorem captureGroup_captured (s : State) (p : Path) (base n : Nat) : Captured s (captureGroup s p base n) :=
  forEach_rel (f := halfCaptured p) .refl .trans (fun a s => halfCaptured_captured s p a) _ s

theorem captureGroup_snap (s : State) (p : Path) (base n : Nat) {k : Nat} (h : k < n) :
    (captureGroup s p base n).snap p (base + k) = s.live (base + k) := by
  refine forEach_each (f := halfCaptured p) (read := fun s a => s.snap p a) (I := Captured s) (Q := fun a v => v = s.live a)
    (fun t a ht => ht.trans (halfCaptured_captured t p a)) (fun t a ht => ?_) (fun t a d hd => ?_) (.refl s)
    (List.mem_map.mpr ⟨k, List.mem_range.mpr h, rfl⟩)
  · exact (snap_setSnap_same ..).trans (ht.live a)
  · exact snap_setSnap_ne t p _ hd

/-! ### A result set is captured (R61, R64, R65) -/

theorem setLastSeq_acqOnly (s : State) (p : Path) (sec : Bool) (n : Nat) : AcqOnly s (setLastSeq s p sec n) := by
  cases p <;> cases sec
  all_goals
    refine ⟨_, _, _, _, _, ?_, rfl⟩
    rfl

theorem lastSeq_setLastSeq (s : State) (p : Path) (sec : Bool) (n : Nat) : (setLastSeq s p sec n).lastSeq p sec = some n := by
  cases p <;> cases sec <;> rfl

theorem snap_setLastSeq (s : State) (p : Path) (sec : Bool) (n : Nat) (a : Nat) :
    (setLastSeq s p sec n).snap p a = s.snap p a := by
  cases p <;> rfl

/-- The first register of the main set or of the secondary one. -/
def setBase (sec : Bool) : Nat := if sec = true then 0x0650 else 0x0600

/-- The set stands as it stood while a conversion of it runs, or its converters are tested (R61, R64). -/
def isStale (s : State) (sec : Bool) : Bool :=
  if sec = true then s.acq.reqSec || s.acq.sarATest || s.acq.sarBTest else s.acq.req != .idle

/-- The path has captured this set before (R65). -/
def isReread (s : State) (p : Path) (sec : Bool) : Bool :=
  (s.live (setBase sec + 1)).getLsbD 0 && s.lastSeq p sec == some (s.regN (setBase sec))

/-- The status word a capture keeps. -/
def markedStatus (s : State) (p : Path) (sec : Bool) : Half :=
  s.live (setBase sec + 1) ||| (if isStale s sec = true then 2 else 0) ||| (if isReread s p sec = true then 4 else 0)

theorem captureResult_eq (s : State) (p : Path) (sec : Bool) : captureResult s p sec =
    setLastSeq (setSnap (captureGroup s p (setBase sec) 80) p (setBase sec + 1) (markedStatus s p sec)) p sec
      (s.regN (setBase sec)) := by
  have captured := captureGroup_captured s p (setBase sec) 80
  have seq : (captureGroup s p (setBase sec) 80).regN (setBase sec) = s.regN (setBase sec) :=
    congrArg BitVec.toNat (reg_congr captured.only.sameLevels.regs _)
  have stale : isStale (captureGroup s p (setBase sec) 80) sec = isStale s sec := by
    rw [isStale, isStale, captured.acq]
  have last : (captureGroup s p (setBase sec) 80).lastSeq p sec = s.lastSeq p sec := by
    unfold State.lastSeq
    rw [captured.acq]
  rw [markedStatus, isReread, ← captured.live, ← seq, ← stale, ← last]
  rfl

/-! ### The status words -/

theorem live_resStatus (s : State) : s.live Reg.RES_STATUS = s.reg Reg.RES_STATUS := by
  have mask : woMask Reg.RES_STATUS = 0 := by decide +kernel
  rw [State.live, absent_eq_false s (by decide), view_eq_none s (by decide), mask]
  simp only [State.storeHidden, Reg.RES_STATUS, show ¬ 0x1700 ≤ 0x0601 by decide, decide_false, Bool.and_false, Bool.false_and,
    Bool.or_false, Bool.false_eq_true, if_false]
  exact BitVec.and_allOnes

theorem live_secStatus (s : State) : s.live Reg.SEC_STATUS = Fld.SEC_STATUS_SARB_TEST.write
    (Fld.SEC_STATUS_SARA_TEST.write (s.reg Reg.SEC_STATUS) s.acq.sarATest.toNat) s.acq.sarBTest.toNat := by
  rw [State.live, absent_eq_false s (by decide)]
  simp [State.storeHidden, State.view, Reg.SEC_STATUS, Reg.MODE_STATUS, Reg.WD_STATUS]

/-- A write of a field leaves the bits below it. -/
theorem BitField.write_getLsbD_below (f : BitField) (w : Half) (n : Nat) {i : Nat} (h : i < f.lo) :
    (f.write w n).getLsbD i = w.getLsbD i := by
  by_cases hi : i < 16
  · simp [BitField.write, h, hi]
  · rw [BitVec.getLsbD_of_ge _ _ (Nat.le_of_not_lt hi), BitVec.getLsbD_of_ge _ _ (Nat.le_of_not_lt hi)]

/-- VALID and the marks read what the register file holds. -/
theorem statusWord_shown (s : State) (sec : Bool) {i : Nat} (h : i < 3) :
    (s.live (setBase sec + 1)).getLsbD i = (s.reg (setBase sec + 1)).getLsbD i := by
  cases sec with
  | false => exact congrArg (BitVec.getLsbD · i) (live_resStatus s)
  | true =>
    refine (congrArg (BitVec.getLsbD · i) (live_secStatus s)).trans ?_
    rw [BitField.write_getLsbD_below _ _ _ (Nat.lt_succ_of_lt h), BitField.write_getLsbD_below _ _ _ h]
    rfl

/-- The bits STALE and REREAD of a word that has no other. -/
def marks (stale reread : Bool) : Half := (if stale = true then 2 else 0) ||| (if reread = true then 4 else 0)

theorem marks_bits (a b : Bool) : (marks a b).getLsbD 0 = false ∧ (marks a b).getLsbD 1 = a ∧ (marks a b).getLsbD 2 = b := by
  revert a b
  decide

theorem marks_above (a b : Bool) {i : Nat} (h : 3 ≤ i) : (marks a b).getLsbD i = false := by
  by_cases hi : i < 16
  · exact (by decide : ∀ a b, ∀ i < 16, 3 ≤ i → (marks a b).getLsbD i = false) a b i hi h
  · exact BitVec.getLsbD_of_ge _ _ (Nat.le_of_not_lt hi)

theorem markedStatus_eq (s : State) (p : Path) (sec : Bool) :
    markedStatus s p sec = s.live (setBase sec + 1) ||| marks (isStale s sec) (isReread s p sec) := BitVec.or_assoc ..

theorem markedStatus_bits (s : State) (p : Path) (sec : Bool) :
    (markedStatus s p sec).getLsbD 0 = (s.reg (setBase sec + 1)).getLsbD 0 ∧
    (markedStatus s p sec).getLsbD 1 = ((s.reg (setBase sec + 1)).getLsbD 1 || isStale s sec) ∧
    (markedStatus s p sec).getLsbD 2 = ((s.reg (setBase sec + 1)).getLsbD 2 || isReread s p sec) := by
  obtain ⟨valid, stale, reread⟩ := marks_bits (isStale s sec) (isReread s p sec)
  simp only [markedStatus_eq, BitVec.getLsbD_or, valid, stale, reread, Bool.or_false,
    statusWord_shown s sec (show 0 < 3 by decide), statusWord_shown s sec (show 1 < 3 by decide),
    statusWord_shown s sec (show 2 < 3 by decide), and_self]

/-- Bits outside a field do not bear on it. -/
theorem BitField.read_or_apart (f : BitField) (w : Half) {c : Half} (h : ∀ i, f.lo ≤ i → c.getLsbD i = false) :
    f.read (w ||| c) = f.read w := by
  apply Nat.eq_of_testBit_eq
  intro i
  rw [BitField.read_getLsbD, BitField.read_getLsbD, BitVec.getLsbD_or, h _ (Nat.le_add_right ..), Bool.or_false]

/-- SARA_TEST and SARB_TEST read the converters' tests (R61). -/
theorem markedStatus_tests (s : State) (p : Path) :
    (Fld.SEC_STATUS_SARA_TEST.read (markedStatus s p true) = 1 ↔ s.acq.sarATest = true) ∧
      (Fld.SEC_STATUS_SARB_TEST.read (markedStatus s p true) = 1 ↔ s.acq.sarBTest = true) := by
  have one (b : Bool) : b.toNat % 2 ^ 1 = 1 ↔ b = true := by cases b <;> decide
  have word : markedStatus s p true = s.live Reg.SEC_STATUS ||| marks (isStale s true) (isReread s p true) :=
    markedStatus_eq s p true
  rw [word, live_secStatus]
  constructor
  · rw [BitField.read_or_apart _ _ fun i hi => marks_above _ _ hi, BitField.read_write_apart _ _ _ _ (by decide),
      BitField.read_write_same _ _ _ (by decide) (by decide)]
    exact one _
  · rw [BitField.read_or_apart _ _ fun i hi => marks_above _ _ (Nat.le_of_succ_le hi),
      BitField.read_write_same _ _ _ (by decide) (by decide)]
    exact one _

/-! ### What a capture leaves -/

theorem settle_snap (s : State) (p : Path) (a : Nat) : (settle s).snap p a = s.snap p a := by
  cases p
  · simp only [State.snap, State.snaps, settle_snapQspi]
  · simp only [State.snap, State.snaps, settle_snapRemote]
  · simp only [State.snap, State.snaps, settle_snapDbg]

theorem settle_lastSeq (s : State) (p : Path) (sec : Bool) : (settle s).lastSeq p sec = s.lastSeq p sec := by
  unfold State.lastSeq
  rw [settle_acq]

theorem captureResult_acqOnly (s : State) (p : Path) (sec : Bool) : AcqOnly s (captureResult s p sec) := by
  rw [captureResult_eq]
  exact ((captureGroup_captured s p _ _).only.trans (setSnap_acqOnly ..)).trans (setLastSeq_acqOnly ..)

theorem captureResult_status (s : State) (p : Path) (sec : Bool) :
    (captureResult s p sec).snap p (setBase sec + 1) = markedStatus s p sec := by
  rw [captureResult_eq, snap_setLastSeq, snap_setSnap_same]

theorem captureResult_snap (s : State) (p : Path) (sec : Bool) {k : Nat} (h : k < 80) (h1 : k ≠ 1) :
    (captureResult s p sec).snap p (setBase sec + k) = s.live (setBase sec + k) := by
  rw [captureResult_eq, snap_setLastSeq, snap_setSnap_ne _ _ _ (by omega), captureGroup_snap s p _ _ h]

theorem resultCapture_keeps (s : State) (p : Path) (sec : Bool) : Completes (.resultCapture p sec) s fun t =>
    t.lastSeq p sec = some (s.regN (setBase sec)) ∧ t.regs = (settle s).regs ∧
    (∀ k, k < 80 → k ≠ 1 → t.snap p (setBase sec + k) = s.live (setBase sec + k)) ∧
    t.snap p (setBase sec + 1) = markedStatus s p sec := by
  refine ⟨settle (captureResult s p sec), rfl, ?_, (captureResult_acqOnly s p sec).shown_regs, fun k hk h1 => ?_, ?_⟩
  · rw [settle_lastSeq, captureResult_eq, lastSeq_setLastSeq]
  · rw [settle_snap, captureResult_snap s p sec hk h1]
  · rw [settle_snap, captureResult_status]

theorem exec_snapCapture {s : State} (p : Path) {a : BitVec 15} {base n : Nat} (h : snapGroup a.toNat = some (base, n)) :
    exec (.snapCapture p a) s = .next (settle (capture s p base n)) := by
  change execSnapCapture p a s = _
  rw [execSnapCapture, h]
  rfl

theorem exec_snapCapture_none (s : State) (p : Path) {a : BitVec 15} (h : snapGroup a.toNat = none) :
    exec (.snapCapture p a) s = .next (settle s) := by
  change execSnapCapture p a s = _
  rw [execSnapCapture, h]
  rfl

theorem snapCapture_keeps {s : State} (p : Path) {a : BitVec 15} {base n : Nat} (h : snapGroup a.toNat = some (base, n))
    (hm : base ≠ 0x0600) (hs : base ≠ 0x0650) : Completes (.snapCapture p a) s fun t =>
      (∀ k, k < n → t.snap p (base + k) = s.live (base + k)) ∧ t.regs = (settle s).regs := by
  have next : exec (.snapCapture p a) s = .next (settle (captureGroup s p base n)) := by
    rw [exec_snapCapture p h]
    simp only [capture, if_neg hm, if_neg hs]
  refine ⟨_, next, fun k hk => ?_, (captureGroup_captured s p base n).only.shown_regs⟩
  rw [settle_snap, captureGroup_snap s p base n hk]

theorem exec_snapCapture_main (s : State) (p : Path) :
    exec (.snapCapture p 0x0600#15) s = exec (.resultCapture p false) s := by
  have group : snapGroup (0x0600#15 : BitVec 15).toNat = some (0x0600, 80) := by decide
  rw [exec_snapCapture p group]
  rfl

theorem exec_snapCapture_secondary (s : State) (p : Path) :
    exec (.snapCapture p 0x0650#15) s = exec (.resultCapture p true) s := by
  have group : snapGroup (0x0650#15 : BitVec 15).toNat = some (0x0650, 80) := by decide
  rw [exec_snapCapture p group]
  rfl

end Sys2Proof.Machine
end

section
/-!
O22: the converters' values, conversions on request and captures.
-/
namespace Sys2Proof.Machine

/-! ### What a value of the main path leaves, as the level flags show it -/

/-- The windows of an instant: the sums and means of the channels, and the instant a mean is of. -/
theorem windows_complete {s : State} {values : List Int} (h : values.length = 26) (hm : s.measuring = true)
    (hi : s.acq.mode = 1) : Completes (.instantsWindowClose values) s fun t =>
      t.regs = (settle s).regs ∧ t.mode = s.mode ∧ (∀ e, e ∉ simEps → t.chan e = s.chan e) ∧
      ∀ p ∈ simEps.zip values,
        (¬ counts s p.1 → t.chan p.1 = s.chan p.1) ∧
        (counts s p.1 → (s.chan p.1).windows + 1 < s.blockK →
          t.chan p.1 = { s.chan p.1 with sum := (s.chan p.1).sum + p.2, windows := (s.chan p.1).windows + 1 }) ∧
        (counts s p.1 → s.blockK ≤ (s.chan p.1).windows + 1 →
          (t.chan p.1).sum = 0 ∧ (t.chan p.1).windows = 0 ∧ (t.chan p.1).fresh = true ∧
          t.acq.lastTb % 65536 = s.acq.eff.instPh.toNat ∧ (s.tb.value + 2 ^ 48 - t.acq.lastTb) % 2 ^ 48 < 65536 ∧
          Near ((s.chan p.1).sum + p.2) s.blockK fun m => Scaled s p.1 m fun v out =>
            (t.chan p.1).value = v ∧ (t.chan p.1).clamped = out) := by
  obtain ⟨u, next, only, others, closed⟩ := instantsWindowClose_spec s h hm hi
  refine ⟨_, next, only.acqOnly.shown_regs, only.acqOnly.shown_mode, fun e he => ?_, fun p hp => ?_⟩
  · rw [chan_settle, others e he]
  · obtain ⟨unused, sums, block⟩ := closed p hp
    rw [chan_settle, settle_acq]
    refine ⟨unused, sums, fun hc hk => ?_⟩
    obtain ⟨hsum, hwin, hfresh, htb, hval⟩ := block hc hk
    rw [htb]
    exact ⟨hsum, hwin, hfresh, instantTb_phase s, instantTb_recent s, hval⟩

/-- A filter output: the channel's value, and its time less the group delay. -/
theorem output_completes {s : State} {ep : Fin 32} (x : Int) (hm : s.measuring = true) (hi : s.acq.mode = 2)
    (ha : epIsAux ep = false) (hs : s.mainInService ep = true) (hf : s.fedLast ep = false) :
    Completes (.filterOutput ep x) s fun t =>
      let delay : Nat := [3088000, 1272000, 636800, 318400, 132000, 66160, 33040, 9840].getD s.corner 0
      let back : Nat := (s.tb.total + 2 ^ 80 - delay * tbIncrement s.tb.period) % 2 ^ 80
      (Scaled s ep x fun v out => (t.chan ep).value = v ∧ (t.chan ep).clamped = out) ∧ (t.chan ep).fresh = true ∧
      (back + 2 ^ 31 + 2 ^ 80 - t.acq.lastTb * 2 ^ 32) % 2 ^ 80 ≤ 2 ^ 32 ∧
      (∀ e, e ≠ ep.val → t.chan e = s.chan e) ∧ t.regs = (settle s).regs ∧ t.mode = s.mode := by
  have next := execFilterOutput_next x hm hi ha
  rw [filterOutput_eq x hs hf] at next
  have done := complete_completed (outputTimed s) ep.isLt x
  have timed := outputTimed_nearest s
  rw [← done.lastTb, outputBack, cornerDelay_eq] at timed
  generalize (outputTimed s).complete ep x = u at done next timed
  have only := ((timedAt_valuesOnly s _).trans done.only).acqOnly
  refine ⟨_, next, ?_⟩
  dsimp only
  rw [chan_settle, settle_acq]
  exact ⟨.of_values (timedAt_valuesOnly s _) done.value, done.fresh, timed,
    fun e he => (chan_settle _ e).trans ((done.others e he).trans (chan_timedAt s _ e)), only.shown_regs, only.shown_mode⟩

/-- A value of the AUX scan: the input's value, and the scan moves on. -/
theorem scan_completes {s : State} (x : Int) (hm : s.measuring = true) (hi : s.acq.auxInput < 6)
    (hen : s.acq.eff.auxEn.getLsbD s.acq.auxInput = true) (hs : s.mainInService (24 + s.acq.auxInput) = true)
    (hf : s.fedLast (24 + s.acq.auxInput) = false) : Completes (.auxScanValue x) s fun t =>
      let i := 24 + s.acq.auxInput
      (Scaled s i x fun v out => (t.chan i).value = v ∧ (t.chan i).clamped = out) ∧ (t.chan i).fresh = true ∧
      t.acq.auxInput = s.nextAux s.acq.auxInput ∧ (∀ e, e ≠ i → t.chan e = s.chan e) ∧ t.regs = (settle s).regs ∧
      t.mode = s.mode := by
  have next := execAuxScanValue_next x hm
  have done := complete_completed s (e := 24 + s.acq.auxInput) (by omega) x
  rw [auxValue_eq x hi hen hs hf] at next
  generalize s.complete (24 + s.acq.auxInput) x = u at done next
  have moves := done.only.nextAux s.acq.auxInput
  have only : AcqOnly s { u with acq := { u.acq with auxInput := u.nextAux s.acq.auxInput, auxOuts := u.acq.auxOuts + 1 } } :=
    (done.only.trans ⟨_, _, _, _, _, _, _, _, _, rfl⟩).acqOnly
  refine ⟨_, next, ?_⟩
  dsimp only
  rw [chan_settle, settle_acq]
  exact ⟨done.value, done.fresh, moves, fun e he => (chan_settle _ e).trans (done.others e he), only.shown_regs,
    only.shown_mode⟩

/-! ### The obligation -/

/-- Settles O22: each command's effect is stated above on its own; here they stand together. -/
theorem acquisitionAndRequests : Obligations.AcquisitionAndRequests := by
  refine ⟨fun s => ⟨fun values h hm hi => windows_complete h hm hi, fun ep x hm hi ha hs hf => output_completes x hm hi ha hs hf,
    fun x hm hi hen hs hf => scan_completes x hm hi hen hs hf, fun hm values ep x h => exec_not_measuring hm h ep x,
    fun b x => ⟨fun h i => exec_secSlot_held h i x, fun ht hp => ⟨fun e hr hs hb => ?_,
      fun e h => exec_secSlot_not_inserted ht hp x h,
      fun hs hr hk => ⟨fun hu => rotation_enters ht hp x hs hr hk hu, fun hu => rotation_skips ht hp x hs hr hk hu⟩,
      fun hs hr hb hk => ?_, fun hs hr => exec_secSlot_idle ht hp x hs hr,
      fun e hs hr hA hB he => request_slot ht hp x hs hr hA hB he⟩⟩⟩, fun s => ⟨acqReqMain_starts, acqReqSecondary_starts,
    exec_request_refused, modulatorPowerupDone_starts, exec_powerup_not_awaited, onRequestComplete_ends,
    exec_onRequest_incomplete, fun p sec => ?_, fun p a => ⟨fun base n h hm hs => snapCapture_keeps p h hm hs, ?_, ?_,
      exec_snapCapture_none s p⟩⟩⟩
  · exact ⟨_, exec_secSlot_inserted ht hp x hr hs hb, (secTake_secTaken s e.isLt x).enters⟩
  · subst hb
    exact reference_completes ht hp x hs hr hk
  · obtain ⟨t, next, seq, regs, group, status⟩ := resultCapture_keeps s p sec
    obtain ⟨valid, stale, reread⟩ := markedStatus_bits s p sec
    have again : isReread s p sec = ((s.reg (setBase sec + 1)).getLsbD 0 && s.lastSeq p sec == some (s.regN (setBase sec))) := by
      rw [isReread, statusWord_shown s sec (by decide)]
    rw [again] at reread
    rw [← status] at valid stale reread
    refine ⟨t, next, seq, regs, group, fun hsec => ?_, valid, stale, reread⟩
    subst hsec
    have tests := markedStatus_tests s p
    rw [← status] at tests
    exact tests
  · rintro rfl
    exact exec_snapCapture_main s p
  · rintro rfl
    exact exec_snapCapture_secondary s p

end Sys2Proof.Machine
end

section
/-!
The state after reset: no register has been written, so each reads the value its heading states.
-/
namespace Sys2Proof.Machine

theorem reg_reset (a : Nat) : State.reset.reg a = resetValue a := rfl

/-- No monitor reports ABOVE or BELOW, no level flag has a cause, and no host event is posted. -/
theorem reset_levelsShown : State.reset.levelsShown :=
  ⟨by decide +kernel, by decide +kernel, by decide +kernel, by decide +kernel⟩

theorem reset_rails_off : ∀ n, n < 12 → State.reset.railSt n = rsOff ∧ State.reset.ren n = false := by decide +kernel

theorem reset_engines_stopped (e : Engine) : (State.reset.eng e).st = .stopped := by cases e <;> rfl

/-- POLY, INIT and XOR of every check-value unit are those of CRC-32. -/
theorem reset_checkUnits : ∀ u : Fin 4, State.reset.pair (Reg.CVU_POLY_LO u) (Reg.CVU_POLY_HI u) = 0x04C11DB7 ∧
    State.reset.pair (Reg.CVU_INIT_LO u) (Reg.CVU_INIT_HI u) = 0xFFFFFFFF ∧
    State.reset.pair (Reg.CVU_XOR_LO u) (Reg.CVU_XOR_HI u) = 0xFFFFFFFF := by decide +kernel

/-- Entry and release of TH_WARN, TH_THROT and TH_SHUT, in 0.1 °C. -/
theorem reset_thermalLevels : State.reset.levelEntry 0 = 1300 ∧ State.reset.levelRelease 0 = 1250 ∧
    State.reset.levelEntry 1 = 1400 ∧ State.reset.levelRelease 1 = 1350 ∧
    State.reset.levelEntry 2 = 1500 ∧ State.reset.levelRelease 2 = 1350 := by decide +kernel

theorem reset_hold : State.reset.regN Reg.HOLD_C = 47 ∧ State.reset.regN Reg.HOLD_MARGIN = 50 := by
  simp only [State.regN, reg_reset]
  decide +kernel

theorem reset_flushAges : [0, 1, 2].map (fun k => State.reset.regN (Reg.HS_T_FLUSH k)) = [120, 900, 1] := by
  simp only [State.regN, reg_reset]
  decide +kernel

theorem reset_alleyValues : ∀ i : Fin 32, State.reset.regN (Reg.ALY_TV i) = 0x8000 := by
  simp only [State.regN, reg_reset]
  decide +kernel

/-- Settles O57: the machine's own state by its reset form, the registers by their table. -/
theorem whatResetLeaves : Obligations.WhatResetLeaves := by
  obtain ⟨warn, warnEnd, throt, throtEnd, shut, shutEnd⟩ := reset_thermalLevels
  obtain ⟨holdC, holdMargin⟩ := reset_hold
  exact ⟨rfl, rfl, rfl, reset_levelsShown, reset_rails_off, reset_engines_stopped, rfl, rfl, rfl, reset_checkUnits,
    warn, warnEnd, throt, throtEnd, shut, shutEnd, holdC, holdMargin, reset_flushAges, reset_alleyValues⟩

end Sys2Proof.Machine
end

section
/-!
What the judgement of the rails leaves alone: the mode, and the registers of links, rings, the tree and the engines, unless
a rail's fault brings the node into SAFE or through a reset.
-/
namespace Sys2Proof.Machine

/-! ### Steps that leave the tree's registers -/

/-- The mode stands, and the registers of links, rings, the tree and the engines, 0x1000 to 0x15FF. -/
structure TreeStays (s t : State) : Prop where
  mode : t.mode = s.mode
  reg : ∀ a, 0x1000 ≤ a → a < 0x1600 → t.reg a = s.reg a

/-- The register lies outside 0x1000 to 0x15FF. -/
def besideTree (a : Nat) : Bool := decide (a < 0x1000) || decide (0x1600 ≤ a)

theorem besideTree_of_le {a : Nat} (h : 0x1600 ≤ a) : besideTree a = true := by simp [besideTree, h]

namespace TreeStays

variable {s t u : State}

theorem refl (s : State) : TreeStays s s := ⟨rfl, fun _ _ _ => rfl⟩

theorem trans (h : TreeStays s t) (k : TreeStays t u) : TreeStays s u :=
  ⟨k.mode.trans h.mode, fun a h1 h2 => (k.reg a h1 h2).trans (h.reg a h1 h2)⟩

/-- Whatever is updated beside the mode and the registers. -/
theorem beside (h : TreeStays s t) (mode : u.mode = t.mode) (regs : u.regs = t.regs) : TreeStays s u :=
  h.trans ⟨mode, fun a _ _ => reg_congr regs a⟩

theorem setReg (h : TreeStays s t) {a : Nat} (v : Half) (ha : besideTree a = true) : TreeStays s (t.setReg a v) := by
  refine h.trans ⟨rfl, fun b h1 h2 => reg_setReg_ne _ _ ?_⟩
  simp only [besideTree, Bool.or_eq_true, decide_eq_true_eq] at ha
  omega

theorem setRegN (h : TreeStays s t) {a : Nat} (n : Nat) (ha : besideTree a = true) : TreeStays s (t.setRegN a n) :=
  h.setReg _ ha

theorem setPair (h : TreeStays s t) {a b : Nat} (n : Nat) (ha : besideTree a = true) (hb : besideTree b = true) :
    TreeStays s (t.setPair a b n) := (h.setRegN _ ha).setRegN _ hb

theorem setFld (h : TreeStays s t) {f : BitField} (n : Nat) (hf : besideTree f.addr = true) : TreeStays s (t.setFld f n) :=
  h.setReg _ hf

theorem setFlag (h : TreeStays s t) {f : BitField} (c : Bool) (hf : besideTree f.addr = true) :
    TreeStays s (t.setFlag f c) := h.setReg _ hf

theorem setBits (h : TreeStays s t) {a : Nat} (m : Half) (ha : besideTree a = true) : TreeStays s (t.setBits a m) :=
  h.setReg _ ha

theorem clearBits (h : TreeStays s t) {a : Nat} (m : Half) (ha : besideTree a = true) : TreeStays s (t.clearBits a m) :=
  h.setReg _ ha

theorem raiseIrq (h : TreeStays s t) (i : Nat) : TreeStays s (t.raiseIrq i) := h.setReg _ (by decide)

theorem raiseFlt (h : TreeStays s t) (i : Nat) : TreeStays s (t.raiseFlt i) := h.setReg _ (by decide)

theorem setRail (h : TreeStays s t) (n : Nat) (r : Rail) : TreeStays s (t.setRail n r) := h.beside rfl rfl

theorem startTimer (h : TreeStays s t) (k : Timer) : TreeStays s (t.startTimer k) := h.beside rfl rfl

theorem setEng (h : TreeStays s t) (e : Engine) (x : Eng) : TreeStays s (t.setEng e x) :=
  h.trans ⟨setEng_mode .., fun _ _ _ => reg_setEng ..⟩

theorem ite {c : Prop} [Decidable c] (h : TreeStays s t) (k : TreeStays s u) : TreeStays s (if c then t else u) := by
  split
  · exact h
  · exact k

theorem forEach {α : Type} {f : State → α → State} (h : ∀ a s, TreeStays s (f s a)) (l : List α) (s : State) :
    TreeStays s (s.forEach l f) := forEach_rel refl trans h l s

end TreeStays

/-! ### Rails switch (R355, R361, R367) -/

theorem showRamp_stays (s : State) : TreeStays s (showRamp s) := (TreeStays.refl s).setRegN _ (by decide)

theorem showDacs_stays (s : State) : TreeStays s (showDacs s) := by
  refine TreeStays.forEach (fun d s => ?_) _ s
  have driven : TreeStays s (s.setFlag (Fld.MRG_CODE_DRIVEN d) (s.dacDriven d)) :=
    (TreeStays.refl s).setFlag _ (besideTree_of_le (by simp only [Fld.MRG_CODE_DRIVEN, Reg.MRG_CODE]; omega))
  exact (driven.setFld _ (besideTree_of_le (by simp only [Fld.MRG_CODE_CODE, Reg.MRG_CODE]; omega))).ite driven

theorem setRailSt_stays (s : State) (n st : Nat) : TreeStays s (setRailSt s n st) := by
  have shown : TreeStays s (s.setFld (Fld.RAIL_STAT_STATE n) st) :=
    (TreeStays.refl s).setFld _ (besideTree_of_le (by simp only [Fld.RAIL_STAT_STATE, Reg.RAIL_STAT]; omega))
  exact ((TreeStays.ite (shown.setBits _ (by decide)) (shown.clearBits _ (by decide))).trans (showRamp_stays _)).trans
    (showDacs_stays _)

theorem dacRailOff_stays (s : State) (n : Nat) : TreeStays s (dacRailOff s n) := by
  unfold dacRailOff
  split
  · exact .refl s
  · next d _ =>
    have zero : TreeStays s (s.setFld (Fld.MRG_TGT_TGT d) 0) :=
      (TreeStays.refl s).setFld _ (besideTree_of_le (by simp only [Fld.MRG_TGT_TGT, Reg.MRG_TGT]; omega))
    exact zero.beside rfl rfl

theorem railInactive_stays (s : State) (n st : Nat) : TreeStays s (railInactive s n st) := by
  unfold railInactive
  extract_lets was off r marked _ unqueued
  have hoff : TreeStays s off := (TreeStays.refl s).clearBits _ (by decide)
  have hunq : TreeStays s unqueued := hoff.beside rfl rfl
  exact (hunq.trans (setRailSt_stays ..)).trans (dacRailOff_stays ..)

theorem railSwitchOff_stays (s : State) (n : Nat) : TreeStays s (railSwitchOff s n) := railInactive_stays ..

theorem railOffReady_stays (s : State) (n : Nat) : TreeStays s (railOffReady s n) :=
  ((TreeStays.refl s).setRail ..).ite (railSwitchOff_stays s n)

theorem railQueue_stays (s : State) (n : Nat) : TreeStays s (railQueue s n) := by
  unfold railQueue
  extract_lets _ queued
  have h : TreeStays s queued := (TreeStays.refl s).beside rfl rfl
  exact h.trans (setRailSt_stays ..)

theorem railsAllOff_stays (s : State) : TreeStays s (railsAllOff s) :=
  .forEach (fun n s => .ite (railSwitchOff_stays s n) (.refl s)) _ s

theorem railRequestOn_stays (s : State) (n : Nat) (src : RailSource) : TreeStays s (railRequestOn s n src).1 := by
  unfold railRequestOn
  split
  · dsimp only
    split
    · exact railQueue_stays s n
    · split
      · exact ((TreeStays.refl s).setRail ..).trans (setRailSt_stays ..)
      · exact .refl s
  · exact (TreeStays.refl s).setFld _ (by decide)

theorem railRequestOff_stays (s : State) (n : Nat) (src : RailSource) : TreeStays s (railRequestOff s n src).1 := by
  unfold railRequestOff
  split
  · dsimp only
    repeat' split
    · exact railInactive_stays ..
    · exact setRailSt_stays ..
    · exact railOffReady_stays s n
    · exact railOffReady_stays s n
    · exact .refl s
  · exact (TreeStays.refl s).setFld _ (by decide)

/-! ### Step tables and the shutdown order (R363, R364, R460) -/

theorem seqBegin_stays (s : State) (kind : Nat) : TreeStays s (seqBegin s kind) := by
  unfold seqBegin
  extract_lets named clean first
  have h : TreeStays s first :=
    (((TreeStays.refl s).setFld _ (by decide)).setFld _ (by decide)).setFld _ (by decide)
  exact h.beside rfl rfl

theorem seqStop_stays (s : State) : TreeStays s (seqStop s) := by
  have h : TreeStays s { s with rail := { s.rail with seq := {} } } := (TreeStays.refl s).beside rfl rfl
  exact h.setFld _ (by decide)

theorem seqDownStart_stays (s : State) : TreeStays s (seqDownStart s) := by
  unfold seqDownStart
  split
  · exact seqBegin_stays s 2
  · next i e _ =>
    have h : TreeStays s (seqRefused s i e) := ((TreeStays.refl s).setFld _ (by decide)).setFld _ (by decide)
    exact h.trans (railsAllOff_stays _)

theorem seqDown_stays (s : State) : TreeStays s (seqDown s) := by
  unfold seqDown
  split
  · exact seqDownStart_stays s
  · exact (TreeStays.refl s).beside rfl rfl
  · exact .refl s

theorem showStore_stays (s : State) : TreeStays s (showStore s) := by
  unfold showStore
  refine TreeStays.ite (.refl s) (((TreeStays.forEach (fun t s => ?_) _ s).setRegN _ (by decide)).setFlag _ (by decide))
  have no {r k : Nat} (hr : 0x1600 ≤ r) : besideTree (r + k) = true := besideTree_of_le (Nat.le_add_right_of_le hr)
  extract_lets x head tail old blocks
  have htail : TreeStays s tail :=
    ((TreeStays.refl s).setPair _ (no (by decide)) (no (by decide))).setPair _ (no (by decide)) (no (by decide))
  have hold : TreeStays s old := by
    unfold old
    split
    · exact htail.setPair _ (no (by decide)) (no (by decide))
    · exact htail
  exact (hold.setRegN _ (no (by decide))).setRegN _ (no (by decide))

theorem closeBuffer_stays (s : State) (t : Nat) : TreeStays s (closeBuffer s t) := by
  unfold closeBuffer
  split
  · exact .refl s
  · extract_lets closed
    have h (full : List PageBuf) : TreeStays s (setFilling { s with hs := { s.hs with full := full } } t none) :=
      (TreeStays.refl s).beside rfl rfl
    exact (h _).trans (showStore_stays _)

theorem storeFlush_stays (s : State) : TreeStays s (storeFlush s) := .forEach (fun t s => closeBuffer_stays s t) _ s

theorem shutdownAdvance_stays (s : State) : TreeStays s (shutdownAdvance s) := by
  refine TreeStays.ite ?_ (.refl s)
  have h : TreeStays s { s with mc := { s.mc with writing := true } } := (TreeStays.refl s).beside rfl rfl
  exact (h.trans (storeFlush_stays _)).startTimer _

/-- The table goes on to its next step. -/
theorem nextStep_stays (s : State) (q : Sequencer) (n : Nat) :
    TreeStays s (({ s with rail := { s.rail with seq := q } } : State).setFld Fld.SEQ_STEP_STEP n) := by
  have h : TreeStays s { s with rail := { s.rail with seq := q } } := (TreeStays.refl s).beside rfl rfl
  exact h.setFld _ (by decide)

theorem seqNext_stays (s : State) : TreeStays s (seqNext s) :=
  .ite (((seqStop_stays s).trans (seqDownStart_stays _)).trans (shutdownAdvance_stays _)) (nextStep_stays ..)

theorem seqStepFails_stays (s : State) : TreeStays s (seqStepFails s) := by
  unfold seqStepFails
  split
  · have failed : TreeStays s ((seqStop s).setFlag Fld.SEQ_STATUS_FAILED true) := (seqStop_stays s).setFlag _ (by decide)
    exact .ite ((failed.trans (seqDownStart_stays _)).trans (shutdownAdvance_stays _)) failed
  · exact nextStep_stays ..
  · exact .refl s

theorem seqAbort_stays (s : State) : TreeStays s (seqAbort s) :=
  .ite (.refl s) (.ite (seqStop_stays s)
    (.ite ((seqStop_stays s).trans (railsAllOff_stays _)) ((seqStop_stays s).trans (seqDownStart_stays _))))

/-! ### Rail faults are recorded (R358, R371) -/

theorem fflSnapshot_stays (s : State) (step : Nat) : TreeStays s (fflSnapshot s step).2 := by
  obtain ⟨n, hn⟩ := divFree_state s s.vstk 10000
  change TreeStays s (s.divFree s.vstk 10000).2
  rw [hn]
  exact (TreeStays.refl s).beside rfl rfl

theorem railSnapshot_stays (s : State) : TreeStays s (railSnapshot s).2 := by
  have fresh : TreeStays s { (fflSnapshot s s.stepNow).2 with
      rail := { (fflSnapshot s s.stepNow).2.rail with snap := some (s.now, (fflSnapshot s s.stepNow).1) } } :=
    (fflSnapshot_stays s _).beside rfl rfl
  unfold railSnapshot
  split
  · dsimp only
    split
    · exact .refl s
    · exact fresh.beside rfl rfl
  · exact fresh.beside rfl rfl

theorem noteEvent_stays (s : State) (kind node : Nat) (content : List Byte) : TreeStays s (s.noteEvent kind node content) :=
  .ite ((TreeStays.refl s).beside rfl rfl) (.refl s)

theorem showFfl_stays (s : State) : TreeStays s (showFfl s) := ((TreeStays.refl s).setFld _ (by decide)).setFld _ (by decide)

theorem captureWith_stays (s : State) (src code rail : Nat) (snap : List Byte) :
    TreeStays s (captureWith s src code rail snap) := by
  unfold captureWith
  extract_lets first _ counted e noted frozen all kept
  have hcounted : TreeStays s counted := (TreeStays.refl s).beside rfl rfl
  have hnoted : TreeStays s noted := hcounted.trans (noteEvent_stays ..)
  have hfrozen : TreeStays s frozen := hnoted.setFlag _ (by decide)
  have pends (l : List (Bool × List Byte)) : TreeStays s { frozen with fla := { frozen.fla with pending := l } } :=
    hfrozen.beside rfl rfl
  exact (TreeStays.ite ((pends _).setFlag _ (by decide)) (pends _)).trans (showFfl_stays _)

theorem recordRailFault_stays (s : State) (n code : Nat) : TreeStays s (recordRailFault s n code) := by
  have named : TreeStays s ((railSnapshot s).2.setFld (Fld.RAIL_STAT_FAULT n) code) := (railSnapshot_stays s).setFld _
    (besideTree_of_le (by simp only [Fld.RAIL_STAT_FAULT, Reg.RAIL_STAT]; omega))
  exact (((named.setBits (a := Reg.RAIL_FLAGS) _ (by decide)).raiseFlt _).raiseIrq _).trans (captureWith_stays ..)

theorem groupSettled_stays (s : State) : TreeStays s (groupSettled s) := by
  unfold groupSettled
  extract_lets _ _ closed
  have h : TreeStays s closed := (TreeStays.refl s).beside rfl rfl
  exact (h.setFld _ (by decide)).setFlag _ (by decide)

theorem groupRequest_stays (s : State) (wanted : List (Nat × Bool)) : TreeStays s (groupRequest s wanted) :=
  (TreeStays.forEach (fun (p : Nat × Bool) s => railRequestOff_stays s p.1 .group) _ s).trans
    (.forEach (fun (p : Nat × Bool) s => railRequestOn_stays s p.1 .group) _ _)

theorem groupFault_stays (s : State) (n : Nat) : TreeStays s (groupFault s n) := by
  unfold groupFault
  extract_lets g _ reverting away reverted moved
  refine TreeStays.ite ?_ (.ite (groupSettled_stays s) (.refl s))
  have hr : TreeStays s reverting := (TreeStays.refl s).beside rfl rfl
  have back : TreeStays s reverted := (hr.trans (groupRequest_stays ..)).setFlag _ (by decide)
  have faults : TreeStays reverted (moved.foldl (fun s p => recordRailFault s p.1 7) reverted) :=
    .forEach (fun (p : Nat × Bool) s => recordRailFault_stays s p.1 7) moved reverted
  exact (back.trans faults).trans (groupSettled_stays _)

theorem groupJudge_stays (s : State) : TreeStays s (groupJudge s) := .ite (groupSettled_stays s) (.refl s)

/-! ### What a tick does with each rail (R355 to R358) -/

theorem railFollow_stays (s : State) (n : Nat) : TreeStays s (railFollow s n) := by
  unfold railFollow
  extract_lets st mon r since watched
  have seen : TreeStays s watched := .ite (.refl s) ((TreeStays.refl s).setRail ..)
  have taken (st : Nat) : TreeStays s (setRailSt s n st) := setRailSt_stays s n st
  have ramped : TreeStays s (if mon = .inside ∧ watched.fld (Fld.RAIL_INRUSH_PG_DEB n) = 0 then setRailSt watched n rsGood
      else watched) := .ite (seen.trans (setRailSt_stays ..)) seen
  exact .ite (taken _) (.ite (.refl s) (.ite (taken _) (.ite (taken _) (.ite ramped (.refl s)))))

theorem railMark_stays (s : State) (n : Nat) : TreeStays s (railMark s n) :=
  .ite (.refl s) (.ite (.refl s) ((TreeStays.refl s).setRail ..))

theorem railHalts_stays (s : State) : TreeStays s (railHalts s) := .ite ((TreeStays.refl s).setEng ..) (.refl s)

theorem seqAdvance_stays (s : State) : TreeStays s (seqAdvance s) := .ite (seqNext_stays s) (.refl s)

theorem railActOff_stays (s : State) (n : Nat) : TreeStays s (railActOff s n) :=
  .ite (.ite ((railInactive_stays ..).trans (recordRailFault_stays ..)) (railInactive_stays ..)) (railInactive_stays ..)


/-! ### SAFE, and a reset (R457 to R459) -/

theorem bgStop_mode (s : State) : (bgStop s).mode = s.mode := by
  unfold bgStop
  extract_lets _ idle _ ended
  split
  · rfl
  · split
    · rfl
    · rfl
    · rfl
    · exact forEach_keeps (f := fun s m => ({ s with mon := { s.mon with test := [] } } : State).monUnsettle m) State.mode
        (fun _ _ _ => rfl) ended

theorem setMapBit_mode (s : State) (a m : Nat) (b : Bool) : (s.setMapBit a m b).mode = s.mode := by cases b <;> rfl

theorem setMonReported_mode (s : State) (m : Nat) (r : MonState) : (s.setMonReported m r).mode = s.mode :=
  (setMapBit_mode ..).trans (setMapBit_mode ..)

theorem setMonComp_mode (s : State) (m : Nat) (r : MonState) : (s.setMonComp m r).mode = s.mode := rfl

theorem monOff_mode (s : State) (m : Nat) : (s.monOff m).mode = s.mode :=
  (setMonComp_mode ..).trans (setMonReported_mode (s.monUnsettle m) m .inside)

theorem monModeChange_mode (s : State) : (monModeChange s).mode = s.mode := by
  unfold monModeChange
  refine forEach_keeps State.mode (fun m _ s => ?_) s
  split
  · rfl
  · exact monOff_mode s m

theorem showDrive_mode (s : State) : (showDrive s).mode = s.mode := by
  unfold showDrive
  refine forEach_keeps State.mode (fun p _ s => ?_) s
  rfl

theorem setMode_mode (s : State) {m : Mode} (awake : modeAsleep m = false) : (setMode s m).mode = m := by
  unfold setMode
  split
  · next same => exact same
  · extract_lets cal left moved stopped fired checked kept
    have hstopped : stopped.mode = m := by
      unfold stopped
      split
      · rfl
      · exact bgStop_mode moved
    have hchecked : checked.mode = m :=
      (acqPowerCheck_frame _).2.1.trans ((monModeChange_mode fired).trans hstopped)
    have hkept : kept.mode = m := by
      unfold kept
      rw [if_neg (by simp [awake])]
      exact hchecked
    have shown : (showDacs (showDrive (showCalMode kept))).mode = m :=
      (showDacs_stays _).mode.trans ((showDrive_mode _).trans hkept)
    cases cal
    · exact shown
    · exact (transferPermissions_leaves _).mode.trans shown

theorem dacsNeutral_stays (s : State) : TreeStays s (dacsNeutral s) := by
  refine TreeStays.forEach (fun d s => ?_) _ s
  extract_lets n zero code
  have hzero : TreeStays s zero :=
    (TreeStays.refl s).setFld _ (besideTree_of_le (by simp only [Fld.MRG_TGT_TGT, Reg.MRG_TGT]; omega))
  have hcode : TreeStays s code :=
    .ite (hzero.setFld _ (besideTree_of_le (by simp only [Fld.MRG_CODE_CODE, Reg.MRG_CODE]; omega))) hzero
  exact hcode.beside rfl rfl

theorem railsSafe_stays (s : State) : TreeStays s (railsSafe s) :=
  ((seqAbort_stays s).trans (.forEach (fun n s => .ite (.ite (railSwitchOff_stays s n)
    (.ite (railInactive_stays ..) (.refl s))) (.refl s)) _ _)).trans (dacsNeutral_stays _)

theorem hardReset_mode (s : State) (cause : Nat) : (hardReset s cause).mode = .boot := rfl

/-- The step leaves the tree's registers, or ends in SAFE or with a reset. -/
def StaysOrSafe (s t : State) : Prop := t.mode = .safe ∨ t.mode = .boot ∨ TreeStays s t

namespace StaysOrSafe

variable {s t u : State}

theorem of_stays (h : TreeStays s t) : StaysOrSafe s t := .inr (.inr h)

theorem refl (s : State) : StaysOrSafe s s := of_stays (.refl s)

theorem trans (h : StaysOrSafe s t) (k : StaysOrSafe t u) : StaysOrSafe s u := by
  rcases k with k | k | k
  · exact .inl k
  · exact .inr (.inl k)
  · rcases h with h | h | h
    · exact .inl (k.mode.trans h)
    · exact .inr (.inl (k.mode.trans h))
    · exact of_stays (h.trans k)

theorem ite {c : Prop} [Decidable c] (h : StaysOrSafe s t) (k : StaysOrSafe s u) : StaysOrSafe s (if c then t else u) := by
  split
  · exact h
  · exact k

theorem forEach {α : Type} {f : State → α → State} (h : ∀ a s, StaysOrSafe s (f s a)) (l : List α) (s : State) :
    StaysOrSafe s (s.forEach l f) := forEach_rel refl trans h l s

end StaysOrSafe

theorem enterSafe_staysOrSafe (s : State) (bit : Nat) : StaysOrSafe s (enterSafe s bit) := by
  unfold enterSafe
  extract_lets marked captured _ stayed cut
  have hmarked : TreeStays s marked := (TreeStays.refl s).setBits _ (by decide)
  have woken : ((hardReset marked (marked.regN Reg.RESET_CAUSE)).setBits Reg.SAFE_CAUSE (bit16 bit)).mode = .boot :=
    (setBits_mode ..).trans (hardReset_mode ..)
  have entered : (railsSafe (setMode cut .safe)).mode = .safe := (railsSafe_stays _).mode.trans (setMode_mode _ rfl)
  exact .ite (.refl s) (.ite (.inr (.inl woken)) (.ite (.of_stays hmarked) (.inl entered)))

/-! ### The judgement of the rails (R357, R358) -/

theorem railAct_staysOrSafe (s : State) (n : Nat) : StaysOrSafe s (railAct s n) := by
  unfold railAct
  split
  · exact .of_stays (.ite (setRailSt_stays ..) (.refl s))
  · exact .of_stays (railActOff_stays s n)
  · exact .of_stays ((railInactive_stays ..).trans
      (.ite ((seqDownStart_stays _).trans (shutdownAdvance_stays _)) (seqDown_stays _)))
  · exact .trans (.of_stays (railInactive_stays ..)) (enterSafe_staysOrSafe ..)

theorem railFaultActs_staysOrSafe (s : State) (n code : Nat) : StaysOrSafe s (railFaultActs s n code) := by
  unfold railFaultActs
  extract_lets w ofStep acted failed
  have hacted : StaysOrSafe s acted := .ite (railAct_staysOrSafe s n) (.refl s)
  have hfailed : StaysOrSafe s failed := .ite (hacted.trans (.of_stays (seqStepFails_stays acted))) hacted
  exact hfailed.trans (.of_stays (groupFault_stays failed n))

theorem railsJudge_staysOrSafe (s : State) : StaysOrSafe s (railsJudge s) := by
  unfold railsJudge
  extract_lets followed due marked recorded acted
  have hfollowed : TreeStays s followed := .forEach (fun n s => railFollow_stays s n) _ s
  have hmarked : TreeStays s marked := hfollowed.trans (.forEach (fun n s => railMark_stays s n) _ followed)
  have hrecorded : TreeStays s recorded :=
    hmarked.trans (.forEach (fun (p : Nat × Nat) s => recordRailFault_stays s p.1 p.2) due marked)
  have hacted : StaysOrSafe s acted := StaysOrSafe.trans (.of_stays hrecorded)
    (.forEach (fun (p : Nat × Nat) s => railFaultActs_staysOrSafe s p.1 p.2) due recorded)
  exact hacted.trans
    (.of_stays (((groupJudge_stays acted).trans (seqAdvance_stays _)).trans (railHalts_stays _)))

/-! ### Rails whose monitors say nothing -/

/-- The rail's monitor is not consulted, and the rail does not discharge: no tick changes it of itself. -/
def State.railQuiet (s : State) (n : Nat) : Bool := !s.railJudged n && s.railSt n != rsDischarge

theorem railQuiet_iff {s : State} {n : Nat} :
    s.railQuiet n = true ↔ s.railJudged n = false ∧ s.railSt n ≠ rsDischarge := by
  simp [State.railQuiet]

theorem railFollow_of_quiet {s : State} {n : Nat} (h : s.railQuiet n = true) : railFollow s n = s := by
  obtain ⟨unjudged, steady⟩ := railQuiet_iff.mp h
  simp [railFollow, unjudged, steady]

theorem railMark_of_quiet {s : State} {n : Nat} (h : s.railQuiet n = true) : railMark s n = s := by
  simp [railMark, (railQuiet_iff.mp h).1]

theorem railDue_of_quiet {s : State} {n : Nat} (h : s.railQuiet n = true) : s.railDue n = [] := by
  simp [State.railDue, (railQuiet_iff.mp h).1]

theorem forEach_eq_self {α : Type} {f : State → α → State} {l : List α} {s : State} (h : ∀ a ∈ l, f s a = s) :
    s.forEach l f = s := by
  induction l with
  | nil => rfl
  | cons a l ih => rw [forEach_cons, h a List.mem_cons_self, ih fun b hb => h b (List.mem_cons_of_mem a hb)]

theorem railsJudge_of_quiet {s : State} (h : ∀ n ∈ List.range 12, s.railQuiet n = true) :
    railsJudge s = railHalts (seqAdvance (groupJudge s)) := by
  have followed : s.forEach (List.range 12) railFollow = s := forEach_eq_self fun n hn => railFollow_of_quiet (h n hn)
  have marked : s.forEach (List.range 12) railMark = s := forEach_eq_self fun n hn => railMark_of_quiet (h n hn)
  have due : ((List.range 12).flatMap fun n => (s.railDue n).map fun c => (n, c)) = [] :=
    List.flatMap_eq_nil_iff.mpr fun n hn => by rw [railDue_of_quiet (h n hn), List.map_nil]
  rw [railsJudge, followed, marked, due]
  rfl

theorem railsJudge_stays_of_quiet {s : State} (h : ∀ n ∈ List.range 12, s.railQuiet n = true) :
    TreeStays s (railsJudge s) := by
  rw [railsJudge_of_quiet h]
  exact ((groupJudge_stays s).trans (seqAdvance_stays _)).trans (railHalts_stays _)

/-! ### After a command's own effect -/

theorem packCheck_stays (s : State) : TreeStays s (packCheck s) := by
  unfold packCheck
  extract_lets n counted
  have hcounted : TreeStays s counted := (TreeStays.refl s).setRegN _ (by decide)
  exact .ite (.refl s) (.ite hcounted ((hcounted.setFlag _ (by decide)).raiseIrq _))

theorem settle_stays (s : State) : TreeStays s (settle s) := by
  refine ⟨settle_mode s, fun a h1 h2 => settle_reg s a fun hl => ?_⟩
  simp only [levelRegs, List.mem_cons, List.not_mem_nil, or_false, Reg.CMP_FLAG, Reg.FLT_SUM, Reg.IRQ_PEND,
    Reg.IMP_STATUS] at hl
  omega

/-- What a command that may touch registers of any kind does after its own effect. -/
theorem judgement_staysOrSafe (s : State) : StaysOrSafe s (settle (packCheck (railsJudge s))) :=
  (railsJudge_staysOrSafe s).trans (.of_stays ((packCheck_stays _).trans (settle_stays _)))


end Sys2Proof.Machine
end

section
/-!
A sweep start whose boundary rolls a profile back: the number of the sweep is lost where the profile's image named SWEEP_NUM.
-/
namespace Sys2Proof.Machine

/-- A leaf in ACTIVE at which profile 0 takes effect at the boundary of sweep 5 by a chain transaction; the profile's image has
one entry, SWEEP_NUM := 0. -/
def switching : State := { State.reset with
  mode := .active
  fla := { State.reset.fla with mem := [(0, 0x00000518000150F1)] }
  engSweep := { State.reset.engSweep with staged := true }
  engNode := { State.reset.engNode with staged := true }
  engRail := { State.reset.engRail with staged := true }
  sw := some {
    profile := 0
    bytes := List.replicate 8 0 ++ [1, 0] ++ List.replicate 54 0 ++ leBytes 2 Reg.SWEEP_NUM ++ [0, 0] }
  txn := [(4, some { id := 1, expiry := 20, act := some 5 })] }

/-- The same leaf later, ROLLBACK received (R144): the shadow holds what SWEEP_NUM read when the profile was switched. -/
def rolledBack : State := { State.reset with
  mode := .active
  txn := [(4, some { id := 1, expiry := 20, act := some 5, active := true, rollback := true })]
  swShadow := some { profile := 0, undo := [(Reg.SWEEP_NUM, 5)], cells := 24 } }

/-- An image may name SWEEP_NUM (R469), and the switch leaves the shadow and the stage from which ROLLBACK makes those of
`rolledBack`. -/
theorem switching_boundary : imageAddr Reg.SWEEP_NUM = true ∧
    (memberBoundary switching 5 0 {}).swShadow = rolledBack.swShadow ∧
    ((memberBoundary switching 5 0 {}).txnStage 4).map (fun x => { x with rollback := true }) = rolledBack.txnStage 4 := by
  decide +kernel

/-- The boundary of sweep 9 in that state: its number is stored first, and the rollback then puts 5 in its place. -/
theorem rolledBack_boundary : (memberBoundary rolledBack 9 0 {}).mode = .active ∧
    (memberBoundary rolledBack 9 0 {}).reg Reg.SWEEP_NUM = 5 ∧
    ∀ n ∈ List.range 12, (memberBoundary rolledBack 9 0 {}).railQuiet n = true := by
  decide +kernel

/-- Refutes O39: a sweep start does not give the sweep its number where its boundary rolls a profile back whose image named
SWEEP_NUM, since the rollback (R144) comes after the number and restores read-only registers too. -/
theorem not_sweepStarts : ¬ Obligations.SweepStarts := by
  unfold Obligations.SweepStarts
  intro h
  obtain ⟨-, -, -, -, -, starts, -⟩ := h rolledBack
  obtain ⟨u, next, -, number, -⟩ := (starts 9 0 {}).1 (by decide) rfl
  obtain ⟨active, five, quiet⟩ := rolledBack_boundary
  have same : settle (packCheck (railsJudge (memberBoundary rolledBack 9 0 {}))) = settle (packCheck (railsJudge u)) :=
    Host.Outcome.next.inj next
  have before := (railsJudge_stays_of_quiet quiet).trans ((packCheck_stays _).trans (settle_stays _))
  rw [same] at before
  have mode := before.mode.trans active
  rcases judgement_staysOrSafe u with safe | boot | stays
  · exact Mode.noConfusion (mode.symm.trans safe)
  · exact Mode.noConfusion (mode.symm.trans boot)
  · have back : u.reg Reg.SWEEP_NUM = 5 := (stays.reg _ (by decide) (by decide)).symm.trans
      ((before.reg _ (by decide) (by decide)).trans five)
    rw [State.regN, back] at number
    exact absurd number (by decide)

end Sys2Proof.Machine
end

section
/-!
Steps that leave the measuring front end: the registers of acquisition, results and wire diagnostics, and what the wire
diagnostics hold beside the pins that wait for a calibration run.
-/
namespace Sys2Proof.Machine

/-- The wire diagnostics stand, but for the pins held back by calibration, and so do the registers of acquisition, results and
wire diagnostics, 0x0400 to 0x08FF. -/
structure FrontStays (s t : State) : Prop where
  wd : ∃ held, t.wd = { s.wd with calHeld := held }
  reg : ∀ a, 0x0400 ≤ a → a < 0x0900 → t.reg a = s.reg a

/-- The register lies outside 0x0400 to 0x08FF. -/
def besideFront (a : Nat) : Bool := decide (a < 0x0400) || decide (0x0900 ≤ a)

/-- A register of a series whose first one lies above. -/
theorem besideFront_series {b k : Nat} (h : 0x0900 ≤ b) : besideFront (b + k) = true := by
  rw [besideFront, decide_eq_true (Nat.le_add_right_of_le h), Bool.or_true]

namespace FrontStays

variable {s t u : State}

theorem refl (s : State) : FrontStays s s := ⟨⟨s.wd.calHeld, rfl⟩, fun _ _ _ => rfl⟩

theorem trans (h : FrontStays s t) (k : FrontStays t u) : FrontStays s u := by
  obtain ⟨_, first⟩ := h.wd
  obtain ⟨held, second⟩ := k.wd
  exact ⟨⟨held, by rw [second, first]⟩, fun a h1 h2 => (k.reg a h1 h2).trans (h.reg a h1 h2)⟩

/-- Whatever is updated beside the wire diagnostics and the registers. -/
theorem beside (h : FrontStays s t) (same : (u.wd, u.regs) = (t.wd, t.regs)) : FrontStays s u :=
  h.trans ⟨⟨t.wd.calHeld, congrArg Prod.fst same⟩, fun a _ _ => reg_congr (congrArg Prod.snd same) a⟩

theorem of_same (same : (t.wd, t.regs) = (s.wd, s.regs)) : FrontStays s t := (refl s).beside same

theorem setReg (h : FrontStays s t) {a : Nat} (v : Half) (ha : besideFront a = true) :
    FrontStays s (t.setReg a v) := by
  refine h.trans ⟨⟨t.wd.calHeld, rfl⟩, fun b h1 h2 => reg_setReg_ne _ _ ?_⟩
  simp only [besideFront, Bool.or_eq_true, decide_eq_true_eq] at ha
  omega

theorem setRegN (h : FrontStays s t) {a : Nat} (n : Nat) (ha : besideFront a = true) :
    FrontStays s (t.setRegN a n) := h.setReg _ ha

theorem setPair (h : FrontStays s t) {a b : Nat} (n : Nat) (ha : besideFront a = true)
    (hb : besideFront b = true) : FrontStays s (t.setPair a b n) := (h.setRegN _ ha).setRegN _ hb

theorem incPair (h : FrontStays s t) {a b : Nat} (ha : besideFront a = true)
    (hb : besideFront b = true) : FrontStays s (t.incPair a b) := h.setPair _ ha hb

theorem setFld (h : FrontStays s t) {f : BitField} (n : Nat) (hf : besideFront f.addr = true) :
    FrontStays s (t.setFld f n) := h.setReg _ hf

theorem setFlag (h : FrontStays s t) {f : BitField} (c : Bool) (hf : besideFront f.addr = true) :
    FrontStays s (t.setFlag f c) := h.setReg _ hf

theorem setBits (h : FrontStays s t) {a : Nat} (m : Half) (ha : besideFront a = true) :
    FrontStays s (t.setBits a m) := h.setReg _ ha

theorem clearBits (h : FrontStays s t) {a : Nat} (m : Half) (ha : besideFront a = true) :
    FrontStays s (t.clearBits a m) := h.setReg _ ha

theorem raiseIrq (h : FrontStays s t) (i : Nat) : FrontStays s (t.raiseIrq i) := h.setReg _ (by decide)

theorem raiseFlt (h : FrontStays s t) (i : Nat) : FrontStays s (t.raiseFlt i) := h.setReg _ (by decide)

theorem setRail (h : FrontStays s t) (n : Nat) (r : Rail) : FrontStays s (t.setRail n r) := h.beside (by rfl)

theorem startTimer (h : FrontStays s t) (k : Timer) : FrontStays s (t.startTimer k) := h.beside (by rfl)

theorem stopTimer (h : FrontStays s t) (k : Timer) : FrontStays s (t.stopTimer k) := h.beside (by rfl)

theorem setEng (h : FrontStays s t) (e : Engine) (x : Eng) : FrontStays s (t.setEng e x) :=
  h.trans ⟨⟨_, setEng_wd ..⟩, fun _ _ _ => reg_setEng ..⟩

theorem fireAt (h : FrontStays s t) (e : Engine) (l : Nat) : FrontStays s (t.fireAt e l) := h.setEng ..

theorem fireAll (h : FrontStays s t) (l : Nat) : FrontStays s (t.fireAll l) := ((h.fireAt _ l).fireAt _ l).fireAt _ l

theorem ite {c : Prop} [Decidable c] (h : FrontStays s t) (k : FrontStays s u) : FrontStays s (if c then t else u) := by
  split
  · exact h
  · exact k

theorem incSat (h : FrontStays s t) {a : Nat} (ha : besideFront a = true) : FrontStays s (t.incSat a) :=
  .ite h (h.setRegN _ ha)

theorem when (h : FrontStays s t) {f : State → State} (k : ∀ t, FrontStays t (f t)) (c : Bool) : FrontStays s (t.when c f) :=
  .ite (h.trans (k t)) h

theorem forEach {α : Type} {f : State → α → State} (h : ∀ a s, FrontStays s (f s a)) (l : List α) (s : State) :
    FrontStays s (s.forEach l f) := forEach_rel refl trans h l s

end FrontStays

theorem divFree_front (s : State) (a b : Int) : FrontStays s (s.divFree a b).2 := by
  obtain ⟨n, hn⟩ := divFree_state s a b
  rw [hn]
  exact FrontStays.of_same (by rfl)

theorem noteEvent_front (s : State) (kind node : Nat) (content : List Byte) : FrontStays s (s.noteEvent kind node content) :=
  .ite (FrontStays.of_same (by rfl)) (.refl s)

/-! ### The store (R326, R329) -/

theorem showStore_front (s : State) : FrontStays s (showStore s) := by
  unfold showStore
  refine .ite (.refl s) (((FrontStays.forEach (fun t s => ?_) _ s).setRegN _ (by decide)).setFlag _ (by decide))
  have above {r k : Nat} (hr : 0x0900 ≤ r) : besideFront (r + k) = true := besideFront_series hr
  extract_lets x head tail old blocks
  have htail : FrontStays s tail :=
    ((FrontStays.refl s).setPair _ (above (by decide)) (above (by decide))).setPair _ (above (by decide)) (above (by decide))
  have hold : FrontStays s old := by
    unfold old
    split
    · exact htail.setPair _ (above (by decide)) (above (by decide))
    · exact htail
  exact (hold.setRegN _ (above (by decide))).setRegN _ (above (by decide))

theorem setFilling_front (s : State) (t : Nat) (b : Option PageBuf) : FrontStays s (setFilling s t b) :=
  .of_same (by rfl)

theorem closeBuffer_front (s : State) (t : Nat) : FrontStays s (closeBuffer s t) := by
  unfold closeBuffer
  split
  · exact .refl s
  · exact FrontStays.trans (FrontStays.of_same (by rfl)) (showStore_front _)

theorem storeFlush_front (s : State) : FrontStays s (storeFlush s) := .forEach (fun t s => closeBuffer_front s t) _ s

theorem storeRecord_front (s : State) (t : Nat) (rec : List Byte) : FrontStays s (storeRecord s t rec).2 := by
  unfold storeRecord
  extract_lets closed
  have hclosed : FrontStays s closed := by
    unfold closed
    split
    · exact .ite (closeBuffer_front s t) (.refl s)
    · exact .refl s
  split
  · exact (hclosed.trans (setFilling_front ..)).trans (showStore_front _)
  · split
    · exact (hclosed.trans (FrontStays.trans (FrontStays.of_same (by rfl)) (FrontStays.of_same (by rfl)))).trans
        (showStore_front _)
    · exact (hclosed.incSat (besideFront_series (by decide))).setFlag _ (by decide)

theorem logPreset_front (s : State) (t : Nat) (rec : List Byte) : FrontStays s (logPreset s t rec) :=
  .ite (storeRecord_front s t rec) (.refl s)

theorem logRingEvent_front (s : State) (head ring event pos epoch node : Nat) :
    FrontStays s (logRingEvent s head ring event pos epoch node) := logPreset_front ..

theorem wantCheckpoint_front (s : State) : FrontStays s (wantCheckpoint s) :=
  .ite (.refl s) (.ite (FrontStays.of_same (by rfl)) (FrontStays.of_same (by rfl)))

/-! ### The first-fault log (R347, R348) -/

theorem showFfl_front (s : State) : FrontStays s (showFfl s) := ((FrontStays.refl s).setFld _ (by decide)).setFld _ (by decide)

theorem fflSnapshot_front (s : State) (step : Nat) : FrontStays s (fflSnapshot s step).2 := divFree_front ..

theorem captureWith_front (s : State) (src code rail : Nat) (snap : List Byte) :
    FrontStays s (captureWith s src code rail snap) := by
  unfold captureWith
  extract_lets first _ counted e noted frozen all kept
  have hcounted : FrontStays s counted := FrontStays.of_same (by rfl)
  have hfrozen : FrontStays s frozen := (hcounted.trans (noteEvent_front ..)).setFlag _ (by decide)
  have pends (l : List (Bool × List Byte)) : FrontStays s { frozen with fla := { frozen.fla with pending := l } } :=
    hfrozen.beside (by rfl)
  exact (FrontStays.ite ((pends _).setFlag _ (by decide)) (pends _)).trans (showFfl_front _)

theorem captureFault_front (s : State) (src code rail : Nat) : FrontStays s (captureFault s src code rail) := by
  have parts : captureFault s src code rail =
      captureWith (fflSnapshot s s.stepNow).2 src code rail (fflSnapshot s s.stepNow).1 := rfl
  rw [parts]
  exact (fflSnapshot_front s _).trans (captureWith_front ..)

end Sys2Proof.Machine
end

section
/-!
What rails, step tables and group changes do leaves the measuring front end.
-/
namespace Sys2Proof.Machine

/-! ### Rails switch (R355, R361, R367) -/

theorem showRamp_front (s : State) : FrontStays s (showRamp s) := (FrontStays.refl s).setRegN _ (by decide)

theorem showDacs_front (s : State) : FrontStays s (showDacs s) := by
  refine FrontStays.forEach (fun d s => ?_) _ s
  have driven : FrontStays s (s.setFlag (Fld.MRG_CODE_DRIVEN d) (s.dacDriven d)) :=
    (FrontStays.refl s).setFlag _ (besideFront_series (by decide))
  exact (driven.setFld _ (besideFront_series (by decide))).ite driven

theorem setRailSt_front (s : State) (n st : Nat) : FrontStays s (setRailSt s n st) := by
  have shown : FrontStays s (s.setFld (Fld.RAIL_STAT_STATE n) st) :=
    (FrontStays.refl s).setFld _ (besideFront_series (by decide))
  exact ((FrontStays.ite (shown.setBits _ (by decide)) (shown.clearBits _ (by decide))).trans (showRamp_front _)).trans
    (showDacs_front _)

theorem dacRailOff_front (s : State) (n : Nat) : FrontStays s (dacRailOff s n) := by
  unfold dacRailOff
  split
  · exact .refl s
  · next d _ =>
    have zero : FrontStays s (s.setFld (Fld.MRG_TGT_TGT d) 0) :=
      (FrontStays.refl s).setFld _ (besideFront_series (by decide))
    exact zero.beside (by rfl)

theorem railInactive_front (s : State) (n st : Nat) : FrontStays s (railInactive s n st) := by
  unfold railInactive
  extract_lets was off r marked _ unqueued
  have hoff : FrontStays s off := (FrontStays.refl s).clearBits _ (by decide)
  have hunq : FrontStays s unqueued := hoff.beside (by rfl)
  exact (hunq.trans (setRailSt_front ..)).trans (dacRailOff_front ..)

theorem railSwitchOff_front (s : State) (n : Nat) : FrontStays s (railSwitchOff s n) := railInactive_front ..

theorem railOffReady_front (s : State) (n : Nat) : FrontStays s (railOffReady s n) :=
  ((FrontStays.refl s).setRail ..).ite (railSwitchOff_front s n)

theorem railQueue_front (s : State) (n : Nat) : FrontStays s (railQueue s n) := by
  unfold railQueue
  extract_lets _ queued
  have h : FrontStays s queued := FrontStays.of_same (by rfl)
  exact h.trans (setRailSt_front ..)

theorem railsAllOff_front (s : State) : FrontStays s (railsAllOff s) :=
  .forEach (fun n s => .ite (railSwitchOff_front s n) (.refl s)) _ s

theorem railRequestOn_front (s : State) (n : Nat) (src : RailSource) : FrontStays s (railRequestOn s n src).1 := by
  unfold railRequestOn
  split
  · dsimp only
    split
    · exact railQueue_front s n
    · split
      · exact ((FrontStays.refl s).setRail ..).trans (setRailSt_front ..)
      · exact .refl s
  · exact (FrontStays.refl s).setFld _ (by decide)

theorem railRequestOff_front (s : State) (n : Nat) (src : RailSource) : FrontStays s (railRequestOff s n src).1 := by
  unfold railRequestOff
  split
  · dsimp only
    repeat' split
    · exact railInactive_front ..
    · exact setRailSt_front ..
    · exact railOffReady_front s n
    · exact railOffReady_front s n
    · exact .refl s
  · exact (FrontStays.refl s).setFld _ (by decide)

/-! ### Step tables and the shutdown order (R363, R364, R460) -/

theorem seqBegin_front (s : State) (kind : Nat) : FrontStays s (seqBegin s kind) := by
  unfold seqBegin
  extract_lets named clean first
  have h : FrontStays s first :=
    (((FrontStays.refl s).setFld _ (by decide)).setFld _ (by decide)).setFld _ (by decide)
  exact h.beside (by rfl)

theorem seqStop_front (s : State) : FrontStays s (seqStop s) := by
  have h : FrontStays s { s with rail := { s.rail with seq := {} } } := FrontStays.of_same (by rfl)
  exact h.setFld _ (by decide)

theorem seqDownStart_front (s : State) : FrontStays s (seqDownStart s) := by
  unfold seqDownStart
  split
  · exact seqBegin_front s 2
  · next i e _ =>
    have h : FrontStays s (seqRefused s i e) := ((FrontStays.refl s).setFld _ (by decide)).setFld _ (by decide)
    exact h.trans (railsAllOff_front _)

theorem seqDown_front (s : State) : FrontStays s (seqDown s) := by
  unfold seqDown
  split
  · exact seqDownStart_front s
  · exact FrontStays.of_same (by rfl)
  · exact .refl s

theorem shutdownAdvance_front (s : State) : FrontStays s (shutdownAdvance s) := by
  refine FrontStays.ite ?_ (.refl s)
  have h : FrontStays s { s with mc := { s.mc with writing := true } } := FrontStays.of_same (by rfl)
  exact (h.trans (storeFlush_front _)).startTimer _

/-- The table goes on to its next step. -/
theorem nextStep_front (s : State) (q : Sequencer) (n : Nat) :
    FrontStays s (({ s with rail := { s.rail with seq := q } } : State).setFld Fld.SEQ_STEP_STEP n) := by
  have h : FrontStays s { s with rail := { s.rail with seq := q } } := FrontStays.of_same (by rfl)
  exact h.setFld _ (by decide)

theorem seqNext_front (s : State) : FrontStays s (seqNext s) :=
  .ite (((seqStop_front s).trans (seqDownStart_front _)).trans (shutdownAdvance_front _)) (nextStep_front ..)

theorem seqStepFails_front (s : State) : FrontStays s (seqStepFails s) := by
  unfold seqStepFails
  split
  · have failed : FrontStays s ((seqStop s).setFlag Fld.SEQ_STATUS_FAILED true) := (seqStop_front s).setFlag _ (by decide)
    exact .ite ((failed.trans (seqDownStart_front _)).trans (shutdownAdvance_front _)) failed
  · exact nextStep_front ..
  · exact .refl s

theorem seqAbort_front (s : State) : FrontStays s (seqAbort s) :=
  .ite (.refl s) (.ite (seqStop_front s)
    (.ite ((seqStop_front s).trans (railsAllOff_front _)) ((seqStop_front s).trans (seqDownStart_front _))))

/-! ### Rail faults are recorded (R358, R371) -/

theorem railSnapshot_front (s : State) : FrontStays s (railSnapshot s).2 := by
  have fresh : FrontStays s { (fflSnapshot s s.stepNow).2 with
      rail := { (fflSnapshot s s.stepNow).2.rail with snap := some (s.now, (fflSnapshot s s.stepNow).1) } } :=
    (fflSnapshot_front s _).beside (by rfl)
  unfold railSnapshot
  split
  · dsimp only
    split
    · exact .refl s
    · exact fresh.beside (by rfl)
  · exact fresh.beside (by rfl)

theorem recordRailFault_front (s : State) (n code : Nat) : FrontStays s (recordRailFault s n code) := by
  have named : FrontStays s ((railSnapshot s).2.setFld (Fld.RAIL_STAT_FAULT n) code) := (railSnapshot_front s).setFld _
    (besideFront_series (by decide))
  exact (((named.setBits (a := Reg.RAIL_FLAGS) _ (by decide)).raiseFlt _).raiseIrq _).trans (captureWith_front ..)

theorem groupSettled_front (s : State) : FrontStays s (groupSettled s) := by
  unfold groupSettled
  extract_lets _ _ closed
  have h : FrontStays s closed := FrontStays.of_same (by rfl)
  exact (h.setFld _ (by decide)).setFlag _ (by decide)

theorem groupRequest_front (s : State) (wanted : List (Nat × Bool)) : FrontStays s (groupRequest s wanted) :=
  (FrontStays.forEach (fun (p : Nat × Bool) s => railRequestOff_front s p.1 .group) _ s).trans
    (.forEach (fun (p : Nat × Bool) s => railRequestOn_front s p.1 .group) _ _)

theorem groupFault_front (s : State) (n : Nat) : FrontStays s (groupFault s n) := by
  unfold groupFault
  extract_lets g _ reverting away reverted moved
  refine FrontStays.ite ?_ (.ite (groupSettled_front s) (.refl s))
  have hr : FrontStays s reverting := FrontStays.of_same (by rfl)
  have back : FrontStays s reverted := (hr.trans (groupRequest_front ..)).setFlag _ (by decide)
  have faults : FrontStays reverted (moved.foldl (fun s p => recordRailFault s p.1 7) reverted) :=
    .forEach (fun (p : Nat × Bool) s => recordRailFault_front s p.1 7) moved reverted
  exact (back.trans faults).trans (groupSettled_front _)

theorem groupJudge_front (s : State) : FrontStays s (groupJudge s) := .ite (groupSettled_front s) (.refl s)

/-! ### What a tick does with each rail (R355 to R358) -/

theorem railFollow_front (s : State) (n : Nat) : FrontStays s (railFollow s n) := by
  unfold railFollow
  extract_lets st mon r since watched
  have seen : FrontStays s watched := .ite (.refl s) ((FrontStays.refl s).setRail ..)
  have taken (st : Nat) : FrontStays s (setRailSt s n st) := setRailSt_front s n st
  have ramped : FrontStays s (if mon = .inside ∧ watched.fld (Fld.RAIL_INRUSH_PG_DEB n) = 0 then setRailSt watched n rsGood
      else watched) := .ite (seen.trans (setRailSt_front ..)) seen
  exact .ite (taken _) (.ite (.refl s) (.ite (taken _) (.ite (taken _) (.ite ramped (.refl s)))))

theorem railMark_front (s : State) (n : Nat) : FrontStays s (railMark s n) :=
  .ite (.refl s) (.ite (.refl s) ((FrontStays.refl s).setRail ..))

theorem railHalts_front (s : State) : FrontStays s (railHalts s) := .ite ((FrontStays.refl s).setEng ..) (.refl s)

theorem seqAdvance_front (s : State) : FrontStays s (seqAdvance s) := .ite (seqNext_front s) (.refl s)

theorem railActOff_front (s : State) (n : Nat) : FrontStays s (railActOff s n) :=
  .ite (.ite ((railInactive_front ..).trans (recordRailFault_front ..)) (railInactive_front ..)) (railInactive_front ..)

theorem dacsNeutral_front (s : State) : FrontStays s (dacsNeutral s) := by
  refine FrontStays.forEach (fun d s => ?_) _ s
  extract_lets n zero code
  have hzero : FrontStays s zero :=
    (FrontStays.refl s).setFld _ (besideFront_series (by decide))
  have hcode : FrontStays s code :=
    .ite (hzero.setFld _ (besideFront_series (by decide))) hzero
  exact hcode.beside (by rfl)

theorem railsSafe_front (s : State) : FrontStays s (railsSafe s) :=
  ((seqAbort_front s).trans (.forEach (fun n s => .ite (.ite (railSwitchOff_front s n)
    (.ite (railInactive_front ..) (.refl s))) (.refl s)) _ _)).trans (dacsNeutral_front _)

end Sys2Proof.Machine
end

section
/-!
What the rings and the tree do where a port enters or leaves its loop test leaves the measuring front end.
-/
namespace Sys2Proof.Machine

/-! ### Frames sent (R215, R221, R223) -/

theorem setDir_front (s : State) (p d : Nat) : FrontStays s (setDir s p d) :=
  (FrontStays.refl s).setFld _ (besideFront_series (by decide))

theorem ringDirection_front (s : State) (r : Nat) (reversed : Bool) : FrontStays s (ringDirection s r reversed) :=
  (setDir_front s _ _).trans (setDir_front _ (rxPort r) _)

theorem memberDirection_front (s : State) : FrontStays s (memberDirection s) :=
  .ite ((setDir_front ..).trans (setDir_front ..)) (.ite ((setDir_front ..).trans (setDir_front ..)) (ringDirection_front ..))

theorem setRing_front (s : State) (r : Nat) (x : Ring) : FrontStays s (setRing s r x) := FrontStays.of_same (by rfl)

theorem numbered_front (s : State) (r : Nat) (f : Frame) : FrontStays s (numbered s r f).2 := FrontStays.of_same (by rfl)

theorem transmit_front (s : State) (r p : Nat) (f : Frame) : FrontStays s (transmit s r p f) := by
  have sent : FrontStays s (s.send p (sealFrame f (s.epoch r))) := FrontStays.of_same (by rfl)
  exact .ite (sent.incPair (besideFront_series (by decide)) (besideFront_series (by decide))) (.refl s)

theorem noteAsked_front (s : State) (r : Nat) (f : Frame) : FrontStays s (noteAsked s r f) :=
  .ite (.refl s) (setRing_front ..)

theorem headSend_front (s : State) (r : Nat) (f : Frame) : FrontStays s (headSend s r f) :=
  ((noteAsked_front s r f).trans (numbered_front ..)).trans (.forEach (fun p s => transmit_front s r p _) _ _)

theorem ringCommand_front (s : State) (r : Nat) (f : Frame) : FrontStays s (ringCommand s r f) :=
  .ite (headSend_front s r f) (setRing_front ..)

theorem ringControl_front (s : State) (r : Nat) (payload : List Byte) : FrontStays s (ringControl s r payload) :=
  ringCommand_front ..

theorem sendToNode_front (s : State) (n : Nat) (f : Frame) : FrontStays s (sendToNode s n f).2 := by
  unfold sendToNode
  split
  · exact ringCommand_front ..
  · exact .refl s

theorem respond_front (s : State) (dst : Nat) (payload : List Byte) (tag : Bool) : FrontStays s (respond s dst payload tag) :=
  FrontStays.of_same (by rfl)

theorem laneReport_front (s : State) (r what : Nat) (data : List Byte) : FrontStays s (laneReport s r what data) :=
  respond_front ..

theorem sendWrites_front (s : State) : FrontStays s (sendWrites s) :=
  .forEach (fun w s => .ite (FrontStays.trans (FrontStays.of_same (by rfl)) (sendToNode_front ..)) (.refl s)) _ s

theorem addWrites_front (s : State) (l : List RemoteWrite) : FrontStays s (addWrites s l) := FrontStays.of_same (by rfl)

/-! ### A sweep closes (R228 to R230, R259) -/

theorem setEntry_front (s : State) (n : Nat) (e : List Half) : FrontStays s (setEntry s n e) := FrontStays.of_same (by rfl)

theorem bindingChanged_front (s : State) : FrontStays s (bindingChanged s) := by
  have shown : FrontStays s (showNodes s) := ((FrontStays.refl s).setRegN _ (by decide)).setRegN _ (by decide)
  exact shown.trans (wantCheckpoint_front _)

theorem losePresence_front (s : State) (n : Nat) : FrontStays s (losePresence s n) := by
  unfold losePresence
  extract_lets e away flagged logged standby
  have hlogged : FrontStays s logged := ((setEntry_front ..).raiseFlt _).trans (logRingEvent_front ..)
  have hstandby : FrontStays s standby := by
    refine .ite ?_ hlogged
    split
    · exact hlogged.setRegN _ (by decide)
    · exact hlogged
  exact hstandby.trans (bindingChanged_front _)

theorem setMirror_front (s : State) (ea : Nat) (v : BitVec 32) : FrontStays s (setMirror s ea v) := FrontStays.of_same (by rfl)

theorem mirrorWrite_front (s : State) (n : Nat) (p : Option (List Byte)) (sweep : Nat) :
    FrontStays s (mirrorWrite s n p sweep) := by
  refine .ite (FrontStays.of_same (by rfl)) ?_
  cases p with
  | some p => exact .forEach (fun e s => setMirror_front ..) _ s
  | none => exact .forEach (fun e s => .ite (.refl s) (setMirror_front ..)) _ s

theorem closeSweep_front (s : State) : FrontStays s (closeSweep s) := by
  unfold closeSweep
  refine .ite (.refl s) ?_
  extract_lets missing _ closed mirrored counted changed last bit stat number _ done
  have hclosed : FrontStays s closed := FrontStays.of_same (by rfl)
  have hmirrored : FrontStays s mirrored := hclosed.trans (.forEach (fun n s => mirrorWrite_front s n none 0) _ _)
  have hcounted : FrontStays s counted := hmirrored.trans
    (.forEach (fun _ _ => .ite ((setEntry_front ..).trans (losePresence_front ..)) (setEntry_front ..)) _ _)
  have hchanged : FrontStays s changed := .ite hcounted (hcounted.trans (bindingChanged_front _))
  have hnumber : FrontStays s number := ((hchanged.setReg _ (by decide)).setRegN _ (by decide)).setRegN _ (by decide)
  have hdone : FrontStays s done := hnumber.beside (by rfl)
  exact hdone.raiseIrq _

theorem closeRing_front (s : State) (r : Nat) : FrontStays s (closeRing s r) := by
  unfold closeRing
  refine .ite (.refl s) ?_
  extract_lets time shut expected got timed
  have above {r k : Nat} (hr : 0x0900 ≤ r) : besideFront (r + k) = true := besideFront_series hr
  have hshut : FrontStays s shut := setRing_front ..
  have htimed : FrontStays s timed :=
    ((hshut.setRegN _ (above (by decide))).setRegN _ (above (by decide))).setRegN _ (above (by decide))
  exact htimed.trans (closeSweep_front _)

/-! ### Echoes and openings (R224, R237, R247, R251) -/

theorem sendEcho_front (s : State) (p : Nat) : FrontStays s (sendEcho s p) := (numbered_front ..).trans (transmit_front ..)

theorem echoListen_front (s : State) (p : Nat) : FrontStays s (echoListen s p) :=
  .ite (FrontStays.trans (FrontStays.of_same (by rfl)) (setDir_front ..)) (.refl s)

theorem echoRun_front (s : State) (r : Nat) : FrontStays s (echoRun s r) :=
  .ite (sendEcho_front ..) ((sendEcho_front ..).trans (echoListen_front ..))

theorem headEcho_front (s : State) (r : Nat) : FrontStays s (headEcho s r) :=
  ((headSend_front ..).trans (.ite ((echoListen_front ..).trans (echoListen_front ..)) (echoRun_front ..))).trans
    (setRing_front ..)

theorem writeLatencies_front (s : State) (r : Nat) (l : List RemoteWrite) : FrontStays s (writeLatencies s r l) :=
  .ite ((addWrites_front ..).trans (sendWrites_front _)) (.ite (.refl s)
    ((laneReport_front ..).trans (.ite (.refl _) (laneReport_front ..))))

theorem askHops_front (s : State) (r : Nat) (nodes : List Nat) : FrontStays s (askHops s r nodes) :=
  (setRing_front ..).trans (.forEach (fun _ _ => ringCommand_front ..) _ _)

theorem halfEcho_front (s : State) (r : Nat) : FrontStays s (halfEcho s r) :=
  (((setRing_front ..).trans (headEcho_front ..)).trans (writeLatencies_front ..)).trans (askHops_front ..)

theorem openAgain_front (s : State) (r : Nat) : FrontStays s (openAgain s r) :=
  ((headSend_front ..).trans (.ite (.forEach (fun _ s => .ite (.refl s) (setDir_front ..)) _ _) (.refl _))).trans
    (setRing_front ..)

theorem retxRound_front (s : State) (r : Nat) : FrontStays s (retxRound s r) :=
  .trans (.forEach (fun _ s => .ite ((setRing_front ..).trans (headSend_front ..)) (.refl s)) _ s)
    (.forEach (fun _ s => .ite ((setRing_front ..).trans (headSend_front ..)) (.refl s)) _ _)

/-! ### A ring in halves (R246, R253) -/

theorem setEpoch_front (s : State) (r epoch : Nat) : FrontStays s (setEpoch s r epoch) := by
  unfold setEpoch
  refine .ite (.refl s) ?_
  extract_lets named
  have h : FrontStays s named := by
    unfold named
    split
    · exact (FrontStays.refl s).setFld _ (by decide)
    · exact (FrontStays.refl s).setFld _ (by decide)
    · exact (FrontStays.refl s).setFld _ (by decide)
  exact h.beside (by rfl)

theorem halfWindow_front (s : State) (r members frames : Nat) : FrontStays s (halfWindow s r members frames).2 :=
  divFree_front ..

theorem sendRoundabout_front (s : State) (r epoch : Nat) (halfB : Bool) (excl : Nat) :
    FrontStays s (sendRoundabout s r epoch halfB excl) := by
  unfold sendRoundabout
  extract_lets x inHalf mem unknown frames
  have window : FrontStays s (if unknown = true then halfWindow s r 63 63 else halfWindow s r mem.length frames).2 := by
    split
    · exact halfWindow_front ..
    · exact halfWindow_front ..
  exact (window.trans (numbered_front ..)).trans (transmit_front ..)

theorem noteReformed_front (s : State) (r : Nat) : FrontStays s (noteReformed s r) := by
  have noted := (setRing_front s r { s.ring r with reformed := true }).when
    (c := !(setRing s r { s.ring r with reformed := true }).isRoot)
    fun s => laneReport_front s r 0 (leBytes 2 (s.regN Reg.SWEEP_NUM))
  exact .ite (noted.setBits _ (by decide)) noted

theorem dropUnreached_front (s : State) (r : Nat) : FrontStays s (dropUnreached s r) :=
  .ite ((setRing_front ..).trans (closeRing_front ..)) (setRing_front ..)

theorem halve_front (s : State) (r a b excl : Nat) (planned : Bool) : FrontStays s (halve s r a b excl planned) := by
  unfold halve
  extract_lets x formed dropped state broken marked counted logged e turned first second third
  have above {r k : Nat} (hr : 0x0900 ≤ r) : besideFront (r + k) = true := besideFront_series hr
  have hdropped : FrontStays s dropped := ((setRing_front ..).trans (noteReformed_front ..)).trans (dropUnreached_front ..)
  have hcounted : FrontStays s counted := (((hdropped.setFld _ (above (by decide))).setFld _ (above (by decide))).setFlag _
    (above (by decide))).setFld _ (above (by decide))
  have hlogged : FrontStays s logged := .ite (.ite hcounted (hcounted.trans (logRingEvent_front ..)))
    ((hcounted.incSat (above (by decide))).trans (logRingEvent_front ..))
  have hturned : FrontStays s turned := (hlogged.trans (setDir_front ..)).trans (setDir_front _ (rxPort r) 1)
  have hfirst : FrontStays s first := .ite (hturned.trans (sendRoundabout_front ..)) hturned
  have hsecond : FrontStays s second := .ite (hfirst.trans (sendRoundabout_front ..)) hfirst
  have hthird : FrontStays s third := hsecond.trans (setEpoch_front ..)
  exact .ite ((hthird.trans (retxRound_front ..)).trans (openAgain_front ..)) (.ite (hthird.trans (halfEcho_front ..)) hthird)

theorem ringReform_front (s : State) (r : Nat) : FrontStays s (ringReform s r) :=
  .ite (.refl s) (((ringControl_front ..).trans (setRing_front ..)).setFld _ (besideFront_series (by decide)))

end Sys2Proof.Machine
end

section
/-!
What self-test, calibration, the plans, the engines and a change of mode do leaves the measuring front end.
-/
namespace Sys2Proof.Machine

/-! ### Values, monitors and permissions (R42, R135, R189, R515) -/

theorem setChan_front (s : State) (e : Nat) (c : Chan) : FrontStays s (s.setChan e c) := FrontStays.of_same (by rfl)

theorem setSecChan_front (s : State) (e : Nat) (c : SecChan) : FrontStays s (s.setSecChan e c) := FrontStays.of_same (by rfl)

theorem showQuiet_front (s : State) : FrontStays s (showQuiet s) := by
  unfold showQuiet
  extract_lets q _ kept shown
  have hkept : FrontStays s kept := .ite (.refl s) (FrontStays.of_same (by rfl))
  exact (hkept.setRegN _ (by decide)).setFlag _ (by decide)

theorem acqPowerCheck_front (s : State) : FrontStays s (acqPowerCheck s) :=
  .ite (FrontStays.of_same (by rfl)) (FrontStays.trans (FrontStays.of_same (by rfl)) (showQuiet_front _))

theorem monUnsettle_front (s : State) (m : Nat) : FrontStays s (s.monUnsettle m) := FrontStays.of_same (by rfl)

theorem setMapBit_front (s : State) {a : Nat} (m : Nat) (b : Bool) (h : 0x0900 ≤ a) : FrontStays s (s.setMapBit a m b) :=
  .ite ((FrontStays.refl s).setBits _ (besideFront_series h)) ((FrontStays.refl s).clearBits _ (besideFront_series h))

theorem setMonReported_front (s : State) (m : Nat) (r : MonState) : FrontStays s (s.setMonReported m r) :=
  (setMapBit_front s m _ (by decide)).trans (setMapBit_front _ m _ (by decide))

theorem setMonComp_front (s : State) (m : Nat) (r : MonState) : FrontStays s (s.setMonComp m r) := FrontStays.of_same (by rfl)

theorem monOff_front (s : State) (m : Nat) : FrontStays s (s.monOff m) :=
  ((monUnsettle_front s m).trans (setMonReported_front _ m .inside)).trans (setMonComp_front _ m .inside)

theorem monModeChange_front (s : State) : FrontStays s (monModeChange s) :=
  .forEach (fun m s => .ite (.refl s) (monOff_front s m)) _ s

theorem setBalChan_front (s : State) (k : Nat) (c : BalChan) : FrontStays s (s.setBalChan k c) := FrontStays.of_same (by rfl)

theorem impPermissions_front (s : State) : FrontStays s (impPermissions s) := FrontStays.of_same (by rfl)

theorem transferPermissions_front (s : State) : FrontStays s (transferPermissions s) := by
  have blocks : FrontStays s (balPermissions s) :=
    (FrontStays.forEach (fun k s => setBalChan_front s k _) _ s).setFlag _ (by decide)
  exact blocks.trans (impPermissions_front _)

theorem showDrive_front (s : State) : FrontStays s (showDrive s) :=
  .forEach (fun _ s => (FrontStays.refl s).setFlag _ (besideFront_series (by decide))) _ s

/-! ### Plans end (R106, R138) -/

theorem balGatesOff_front (s : State) : FrontStays s (balGatesOff s) :=
  .forEach (fun k s => .ite (setBalChan_front s k _) (.refl s)) _ s

theorem balEndPlan_front (s : State) : FrontStays s (balEndPlan s) := by
  unfold balEndPlan
  split
  · exact .refl s
  · extract_lets off _ ended
    have hoff : FrontStays s off := balGatesOff_front s
    clear_value off
    have hended : FrontStays s ended := hoff.beside (by rfl)
    exact ((hended.setFlag _ (by decide)).setFlag _ (by decide)).stopTimer _

theorem balStop_front (s : State) : FrontStays s (balStop s) := by
  unfold balStop
  split
  · exact .refl s
  · exact FrontStays.of_same (by rfl)

theorem roundFree_front (s : State) (a b : Nat) : FrontStays s (s.roundFree a b).2 := by
  unfold State.roundFree
  extract_lets r
  split
  · exact .refl s
  · split
    · exact .refl s
    · exact FrontStays.of_same (by rfl)

theorem setImpRecord_front (s : State) (cell point : Nat) (r : List Byte) : FrontStays s (s.setImpRecord cell point r) :=
  FrontStays.of_same (by rfl)

/-- Stated of the function itself: given its arguments, the kernel would compute the quotient. -/
theorem writeRecord_eq : writeRecord = fun s p cell point status cycles re im =>
    let (freq, s) := s.roundFree (p.fw point * 2500000000000) (2 ^ 32)
    let st := status + (if s.imp.freerun && point == s.imp.point then 128 else 0)
    s.setImpRecord cell point
      (leBytes 1 st ++ leBytes 1 cycles ++ leBytes 2 (s.regN Reg.IMP_PLAN_SEQ) ++ leBytes 4 freq
        ++ leBytes 4 (BitVec.ofInt 32 re).toNat ++ leBytes 4 (BitVec.ofInt 32 im).toNat) := rfl

theorem writeRecord_front (s : State) (p : ImpPlan) (cell point status cycles : Nat) (re im : Int) :
    FrontStays s (writeRecord s p cell point status cycles re im) := by
  have rounded := roundFree_front s (p.fw point * 2500000000000) (2 ^ 32)
  rw [writeRecord_eq]
  beta_reduce
  generalize s.roundFree (p.fw point * 2500000000000) (2 ^ 32) = x at rounded ⊢
  obtain ⟨freq, t⟩ := x
  exact rounded.trans (setImpRecord_front ..)

theorem writeEmpty_front (s : State) (p : ImpPlan) (cell point status cycles : Nat) :
    FrontStays s (writeEmpty s p cell point status cycles) := by
  have drawn : FrontStays s s.draw.2.draw.2 := FrontStays.of_same (by rfl)
  exact drawn.trans (writeRecord_front ..)

theorem markUnfinished_front (s : State) (p : ImpPlan) (status : Nat) (later : Bool) :
    FrontStays s (markUnfinished s p status later) := by
  refine .forEach (fun c s => ?_) _ s
  have first (n m : Nat) : FrontStays s (writeEmpty s p c.cell n status m) := writeEmpty_front ..
  exact .ite ((first _ _).trans (.forEach (fun _ _ => writeEmpty_front ..) _ _)) (first _ _)

theorem impUnstage_front (s : State) : FrontStays s (impUnstage s) := by
  unfold impUnstage
  split
  · exact .ite (.refl s) (FrontStays.of_same (by rfl))
  · exact .refl s

theorem impIdleNow_front (s : State) : FrontStays s (impIdleNow s) :=
  FrontStays.setFld (FrontStays.of_same (by rfl)) _ (by decide)

theorem impAbort_front (s : State) : FrontStays s (impAbort s) := by
  unfold impAbort
  split
  · exact .refl s
  · extract_lets unstaged marked _ leaving
    have hunstaged : FrontStays s unstaged := impUnstage_front s
    have hmarked : FrontStays s marked := .ite (hunstaged.trans (markUnfinished_front ..)) hunstaged
    have hleaving : FrontStays s leaving := hmarked.beside (by rfl)
    exact .ite ((hleaving.trans (impIdleNow_front _)).setFlag _ (by decide)) (hunstaged.trans (impIdleNow_front _))

/-! ### A calibration run ends (R395) -/

theorem calOver_front (s : State) (result : Nat) : FrontStays s (calOver s result) := by
  unfold calOver
  extract_lets _ _ idle named
  have hidle : FrontStays s idle := ⟨⟨[], rfl⟩, fun _ _ _ => rfl⟩
  have hdrawn : FrontStays s (named.divFree named.cal.diff 1000).2 := (hidle.setFld _ (by decide)).trans (divFree_front ..)
  exact ((((hdrawn.setRegN _ (by decide)).setReg _ (by decide)).setFlag _ (by decide)).raiseIrq _).setFld _ (by decide)

theorem calReject_front (s : State) (result : Nat) : FrontStays s (calReject s result) := by
  unfold calReject
  extract_lets counted n slots _ kept noted
  have hkept : FrontStays s kept := ((FrontStays.refl s).incSat (a := Reg.CAL_REJECTS) (by decide)).beside (by rfl)
  have hnoted : FrontStays s noted := (hkept.trans (calOver_front ..)).trans (noteEvent_front ..)
  exact .ite ((((hnoted.setFlag _ (by decide)).raiseFlt _).stopTimer _).trans (captureFault_front ..)) (hnoted.startTimer _)

theorem calAbort_front (s : State) (drop : Bool) : FrontStays s (calAbort s drop) :=
  .ite (.ite (calReject_front ..) (FrontStays.of_same (by rfl))) (.ite (calReject_front ..) (.refl s))

theorem calStay_front (s : State) : FrontStays s (calStay s) := .ite (FrontStays.of_same (by rfl)) (.refl s)

/-! ### Engines (R275, R280, R281) -/

theorem engStart_front (s : State) (e : Engine) : FrontStays s (engStart s e) :=
  (((FrontStays.refl s).setFlag _ (besideFront_series (by decide))).setEng ..).startTimer _

theorem enginesOff_front (s : State) : FrontStays s (enginesOff s) :=
  .forEach (fun _ s => (FrontStays.refl s).setEng ..) _ s

theorem engResume_front (s : State) (e : Engine) : FrontStays s (engResume s e) :=
  .ite (.refl s) ((FrontStays.refl s).setEng ..)

theorem clearBreaks_front (s : State) (e : Engine) : FrontStays s (clearBreaks s e) := by
  cases e
  all_goals exact ((((((((FrontStays.refl s).setReg _ (by decide)).setReg _ (by decide)).setReg _ (by decide)).setReg _
    (by decide)).setReg _ (by decide)).setReg _ (by decide)).setReg _ (by decide)).setReg _ (by decide)

theorem dbgClose_front (s : State) : FrontStays s (dbgClose s) :=
  .ite (FrontStays.of_same (by rfl)) (FrontStays.trans (FrontStays.of_same (by rfl))
    (.forEach (fun e s => (clearBreaks_front s e).trans (engResume_front _ e)) _ _))

/-! ### A test's blocks leave and return to service (R407, R411) -/

theorem stTakePart_front (s : State) (t part : Nat) : FrontStays s (stTakePart s t part) := by
  unfold stTakePart
  extract_lets _ there eps _ tested
  have hthere : FrontStays s there := FrontStays.of_same (by rfl)
  have htested : FrontStays s tested := hthere.beside (by rfl)
  have left : FrontStays s (tested.forEach eps fun s e =>
      (s.setChan e { s.chan e with sum := 0, windows := 0, fresh := false, forReq := false }).setSecChan e
        { s.secChan e with forReq := false, sinceLatch := false }) :=
    htested.trans (.forEach (fun e s => (setChan_front s e _).trans (setSecChan_front ..)) _ _)
  split
  · exact left
  · exact left
  · exact .ite (hthere.beside (by rfl)) (hthere.beside (by rfl))
  · exact hthere.beside (by rfl)
  · exact hthere

theorem stReturnPart_front (s : State) (t part : Nat) : FrontStays s (stReturnPart s t part) := by
  unfold stReturnPart
  extract_lets eps _ after started
  have hafter : FrontStays s after := FrontStays.of_same (by rfl)
  have hstarted : FrontStays s started := hafter.trans (.forEach (fun e s => setChan_front s e _) _ _)
  have back : FrontStays s (if t = 1 ∨ part = 2 then restartAux started else started) :=
    .ite (hstarted.beside (by rfl)) hstarted
  split
  · exact back
  · exact back
  · exact FrontStays.of_same (by rfl)
  · refine .forEach (fun m s => ?_) _ s
    exact FrontStays.trans (FrontStays.of_same (by rfl)) (monUnsettle_front _ m)
  · exact .refl s

theorem loopOver_front (s : State) : FrontStays s (loopOver s) :=
  .forEach (fun _ s => (FrontStays.refl s).setFlag _ (besideFront_series (by decide))) _ s

theorem loopPortStart_front (s : State) (p : Nat) : FrontStays s (loopPortStart s p) := by
  unfold loopPortStart
  extract_lets r _ tested looped n halved
  have htested : FrontStays s tested := FrontStays.of_same (by rfl)
  have hlooped : FrontStays s looped := (htested.setFlag _ (by decide)).setFlag _ (besideFront_series (by decide))
  have hhalved : FrontStays s halved :=
    .ite (.ite (hlooped.trans (halve_front ..)) (hlooped.trans (halve_front ..))) hlooped
  exact hhalved.trans (setDir_front ..)

theorem loopNext_front (s : State) : FrontStays s (loopNext s) := by
  unfold loopNext
  split
  · exact FrontStays.trans (FrontStays.of_same (by rfl)) (loopOver_front _)
  · next p rest _ =>
    have next : FrontStays s (loopOver { s with st := { s.st with ports := rest, port := some p } }) :=
      FrontStays.trans (FrontStays.of_same (by rfl)) (loopOver_front _)
    exact .ite (next.trans (loopPortStart_front ..)) (next.setFlag _ (by decide))

theorem loopRestore_front (s : State) : FrontStays s (loopRestore s) := by
  unfold loopRestore
  extract_lets ended ports restored
  have hended : FrontStays s ended := ((FrontStays.refl s).setFlag _ (by decide)).trans (loopOver_front _)
  have hrestored : FrontStays s restored := by
    refine hended.trans (.forEach (fun r s => .ite (.ite (.ite ?_ (ringDirection_front ..))
      (.ite (memberDirection_front s) (.forEach (fun p s => setDir_front ..) _ s))) (.refl s)) _ _)
    exact ((setDir_front s _ _).trans (setDir_front _ (rxPort r) 1)).trans (ringReform_front ..)
  exact hrestored.beside (by rfl)

theorem thermalInit_front (s : State) : FrontStays s (thermalInit s) := by
  unfold thermalInit
  extract_lets had _ cleared initial unwarned unshut shown
  have hcleared : FrontStays s cleared := FrontStays.of_same (by rfl)
  have hshown : FrontStays s shown :=
    ((((hcleared.setFlag _ (by decide)).setFlag _ (by decide)).setFlag _ (by decide)).setFlag _
      (by decide)).setFlag _ (by decide)
  exact .ite ((hshown.setFlag _ (by decide)).fireAll _) hshown

theorem stTake_front (s : State) (t : Nat) : FrontStays s (stTake s t) := by
  unfold stTake
  extract_lets stopped _ begun
  have hbegun : FrontStays s begun := FrontStays.beside (.ite (enginesOff_front s) (.refl s)) (by rfl)
  have powered : FrontStays s (showQuiet { begun with acq := { begun.acq with powered := true } }) :=
    (hbegun.beside (by rfl)).trans (showQuiet_front _)
  split
  · exact powered.trans (stTakePart_front ..)
  · exact powered.trans (stTakePart_front ..)
  · exact hbegun.beside (by rfl)
  · exact (hbegun.beside (by rfl)).trans (loopNext_front _)
  · exact hbegun.trans (stTakePart_front ..)

theorem stReturn_front (s : State) (t : Nat) : FrontStays s (stReturn s t) := by
  unfold stReturn
  extract_lets _ ended started
  have hended : FrontStays s ended := FrontStays.of_same (by rfl)
  have hstarted : FrontStays s started :=
    .ite (hended.trans (.forEach (fun e s => .ite (engStart_front s e) (.refl s)) _ _)) hended
  split
  · exact (hstarted.trans (stReturnPart_front ..)).trans (acqPowerCheck_front _)
  · exact (hstarted.trans (stReturnPart_front ..)).trans (acqPowerCheck_front _)
  · exact ((hstarted.beside (by rfl)).trans (thermalInit_front _)).trans (transferPermissions_front _)
  · exact hstarted.trans (loopRestore_front _)
  · exact hstarted.trans (stReturnPart_front ..)

/-! ### The sequence of the self-test (R406, R410, R413) -/

theorem setVerdict_front (s : State) (t v : Nat) : FrontStays s (setVerdict s t v) :=
  (FrontStays.refl s).setReg _ (besideFront_series (by decide))

theorem setResult_front (s : State) (t count : Nat) (sig exp : Word) : FrontStays s (setResult s t count sig exp) := by
  have above {r k : Nat} (hr : 0x0900 ≤ r) : besideFront (r + k) = true := besideFront_series hr
  exact (((FrontStays.refl s).setPair _ (above (by decide)) (above (by decide))).setPair _ (above (by decide))
    (above (by decide))).setPair _ (above (by decide)) (above (by decide))

theorem stCutTest_front (s : State) (t : Nat) : FrontStays s (stCutTest s t) := by
  unfold stCutTest
  generalize stPatterns t _ = n
  have drawn : FrontStays s (s.drawBelow n).2.draw.2 := FrontStays.of_same (by rfl)
  exact ((drawn.trans (setResult_front ..)).trans (setVerdict_front ..)).trans (stReturn_front ..)

theorem stNextFrom_front (s : State) (l : List Nat) : FrontStays s (stNextFrom s l) := by
  induction l generalizing s with
  | nil => exact FrontStays.of_same (by rfl)
  | cons t rest ih =>
    have begun : FrontStays s (setVerdict { s with st := { s.st with left := rest, cur := some t } } t vRunning) :=
      FrontStays.trans (FrontStays.of_same (by rfl)) (setVerdict_front ..)
    exact .ite ((begun.setFld _ (by decide)).trans (stTake_front ..)) ((setVerdict_front ..).trans (ih _))

theorem stCut_front (s : State) : FrontStays s (stCut s) := by
  unfold stCut
  refine .ite (.refl s) ?_
  extract_lets cut _ idle
  have hcut : FrontStays s cut := by
    unfold cut
    split
    · exact stCutTest_front ..
    · exact .refl s
  have hidle : FrontStays s idle := hcut.beside (by rfl)
  exact (hidle.setFlag _ (by decide)).setFld _ (by decide)

theorem stLock_front (s : State) : FrontStays s (stLock s) := ((FrontStays.refl s).setFlag _ (by decide)).stopTimer _

theorem bgStop_front (s : State) : FrontStays s (bgStop s) := by
  unfold bgStop
  extract_lets _ idle _ ended
  have hidle : FrontStays s idle := FrontStays.of_same (by rfl)
  split
  · exact hidle
  · have hended : FrontStays s ended := hidle.beside (by rfl)
    split
    · exact hended.beside (by rfl)
    · exact hended.beside (by rfl)
    · exact hended
    · refine hended.trans (.forEach (fun m s => ?_) _ _)
      exact FrontStays.trans (FrontStays.of_same (by rfl)) (monUnsettle_front _ m)

/-! ### A change of mode (R454 to R458) -/

theorem updFail_front (s : State) (err : Nat) : FrontStays s (updFail s err) := by
  unfold updFail
  extract_lets st keep mine _ _ dropped
  have hdropped : FrontStays s dropped := FrontStays.of_same (by rfl)
  exact .ite ((hdropped.setFld _ (by decide)).setFld _ (by decide)) (.refl s)

theorem leaveMode_front (s : State) (m : Mode) : FrontStays s (leaveMode s m) := by
  unfold leaveMode
  extract_lets toCal uncal unplanned _ stayed unmeasured _ left
  have huncal : FrontStays s uncal := .ite (.refl s) (calAbort_front ..)
  have hunplanned : FrontStays s unplanned :=
    .ite (.ite (huncal.trans (balEndPlan_front _)) (huncal.trans (balStop_front _)))
      (.ite huncal (huncal.trans (balGatesOff_front _)))
  have hstayed : FrontStays s stayed := hunplanned.beside (by rfl)
  have hunmeasured : FrontStays s unmeasured := .ite (hstayed.trans (impAbort_front _)) hstayed
  have hleft : FrontStays s left := hunmeasured.beside (by rfl)
  split
  · exact FrontStays.trans (.ite hleft (hleft.trans (stCut_front _))) (stLock_front _)
  · exact (FrontStays.setFlag (hleft.beside (by rfl)) _ (by decide)).trans (dbgClose_front _)
  · exact ((hleft.beside (by rfl)).trans (updFail_front ..)).trans (dbgClose_front _)
  · exact hleft

theorem setMode_front (s : State) {m : Mode} (awake : modeAsleep m = false) : FrontStays s (setMode s m) := by
  unfold setMode
  refine .ite (.refl s) ?_
  extract_lets cal left moved stopped fired checked kept
  have hmoved : FrontStays s moved := (leaveMode_front s m).beside (by rfl)
  have hstopped : FrontStays s stopped := .ite hmoved (hmoved.trans (bgStop_front _))
  have hfired : FrontStays s fired := (hstopped.raiseIrq _).fireAll _
  have hchecked : FrontStays s checked := (hfired.trans (monModeChange_front _)).trans (acqPowerCheck_front _)
  have hkept : kept = checked := if_neg (by simp [awake])
  rw [hkept]
  have shown : FrontStays s (showDacs (showDrive (showCalMode checked))) :=
    ((hchecked.setFlag _ (by decide)).trans (showDrive_front _)).trans (showDacs_front _)
  exact shown.when transferPermissions_front _

/-! ### The last commands of a tick -/

theorem packCheck_front (s : State) : FrontStays s (packCheck s) := by
  unfold packCheck
  extract_lets n counted
  have hcounted : FrontStays s counted := (FrontStays.refl s).setRegN _ (by decide)
  exact .ite (.refl s) (.ite hcounted ((hcounted.setFlag _ (by decide)).raiseIrq _))

theorem settle_front (s : State) : FrontStays s (settle s) := by
  refine ⟨⟨s.wd.calHeld, settle_wd s⟩, fun a h1 h2 => settle_reg s a fun hl => ?_⟩
  simp only [levelRegs, List.mem_cons, List.not_mem_nil, or_false, Reg.CMP_FLAG, Reg.FLT_SUM, Reg.IRQ_PEND,
    Reg.IMP_STATUS] at hl
  omega

theorem stResume_front (s : State) : FrontStays s (stResume s) := by
  have resumed : FrontStays s (setMode (bgStop { s with st := { s.st with held := false } }) .selftest) :=
    (FrontStays.trans (FrontStays.of_same (by rfl)) (bgStop_front _)).trans (setMode_front _ rfl)
  exact .ite (resumed.trans (stNextFrom_front ..)) (.refl s)

end Sys2Proof.Machine
end

section
/-!
The judgement of the rails leaves the measuring front end: no rail's fault acts in WATCH, the one mode in which SAFE begins with
a reset.
-/
namespace Sys2Proof.Machine

/-! ### SAFE, outside WATCH (R457 to R459) -/

theorem enterSafe_front {s : State} (h : s.mode ≠ .watch) (bit : Nat) : FrontStays s (enterSafe s bit) := by
  unfold enterSafe
  refine .ite (.refl s) ?_
  extract_lets marked captured _ stayed cut
  have hmarked : FrontStays s marked := (FrontStays.refl s).setBits _ (by decide)
  have hstayed : FrontStays s stayed :=
    ((hmarked.trans (captureFault_front ..)).beside (by rfl)).trans (calStay_front _)
  have hcut : FrontStays s cut := .ite (hstayed.trans (stCut_front _)) hstayed
  rw [if_neg (show ¬ marked.mode = .watch from h)]
  exact .ite hmarked ((hcut.trans (setMode_front _ rfl)).trans (railsSafe_front _))

/-- Outside WATCH the step leaves the front end, and it does not lead to WATCH. -/
def AwakeStays (s t : State) : Prop := s.mode ≠ .watch → t.mode ≠ .watch ∧ FrontStays s t

theorem AwakeStays.refl (s : State) : AwakeStays s s := fun h => ⟨h, .refl s⟩

theorem AwakeStays.trans {s t u : State} (h : AwakeStays s t) (k : AwakeStays t u) : AwakeStays s u := fun hs =>
  have ⟨ht, first⟩ := h hs
  have ⟨hu, second⟩ := k ht
  ⟨hu, first.trans second⟩

/-- A fault's action ends in SAFE or BOOT or in the mode it found. -/
theorem StaysOrSafe.awake {s t : State} (h : StaysOrSafe s t) (hs : s.mode ≠ .watch) : t.mode ≠ .watch := by
  rcases h with h | h | h
  · rw [h]
    decide
  · rw [h]
    decide
  · rw [h.mode]
    exact hs

theorem railAct_front {s : State} (h : s.mode ≠ .watch) (n : Nat) : FrontStays s (railAct s n) := by
  unfold railAct
  split
  · exact .ite (setRailSt_front ..) (.refl s)
  · exact railActOff_front s n
  · exact (railInactive_front ..).trans
      (.ite ((seqDownStart_front _).trans (shutdownAdvance_front _)) (seqDown_front _))
  · exact (railInactive_front ..).trans (enterSafe_front (by rwa [(railInactive_stays s n rsLocked).mode]) 3)

theorem railFaultActs_awake (s : State) (n code : Nat) : AwakeStays s (railFaultActs s n code) := by
  refine fun hs => ⟨(railFaultActs_staysOrSafe s n code).awake hs, ?_⟩
  unfold railFaultActs
  extract_lets w ofStep acted failed
  have hacted : FrontStays s acted := .ite (railAct_front hs n) (.refl s)
  have hfailed : FrontStays s failed := .ite (hacted.trans (seqStepFails_front acted)) hacted
  exact hfailed.trans (groupFault_front failed n)

/-! ### The judgement (R357, R358) -/

/-- In WATCH no rail's monitor runs (R189), so no rail raises a fault. -/
theorem railDue_watch {s : State} (h : s.mode = .watch) {n : Nat} (hn : n < 12) : s.railDue n = [] := by
  have supply : monClass (n + 4) ≠ .cell ∧ monClass (n + 4) ≠ .block := by
    revert n
    decide
  have off : s.monRuns (n + 4) = false := by simp [State.monRuns, h, supply.1, supply.2]
  simp [State.railDue, State.railJudged, State.railWatched, off]

theorem railsJudge_front (s : State) : FrontStays s (railsJudge s) := by
  unfold railsJudge
  extract_lets followed due marked recorded acted
  have hfollowed : FrontStays s followed := .forEach (fun n s => railFollow_front s n) _ s
  have hmarked : FrontStays s marked := hfollowed.trans (.forEach (fun n s => railMark_front s n) _ followed)
  have hrecorded : FrontStays s recorded :=
    hmarked.trans (.forEach (fun (p : Nat × Nat) s => recordRailFault_front s p.1 p.2) due marked)
  have hacted : FrontStays s acted := by
    by_cases watch : followed.mode = .watch
    · have none : due = [] := List.flatMap_eq_nil_iff.mpr fun n hn => by
        rw [railDue_watch watch (List.mem_range.mp hn), List.map_nil]
      have same : acted = recorded := by
        unfold acted
        rw [none]
        rfl
      rw [same]
      exact hrecorded
    · have awake : recorded.mode ≠ .watch := by
        have marks : TreeStays followed marked := .forEach (fun n s => railMark_stays s n) _ followed
        have records : TreeStays marked recorded :=
          .forEach (fun (p : Nat × Nat) s => recordRailFault_stays s p.1 p.2) due marked
        rwa [records.mode, marks.mode]
      have acts : AwakeStays recorded acted :=
        forEach_rel .refl .trans (fun (p : Nat × Nat) s => railFaultActs_awake s p.1 p.2) due recorded
      exact hrecorded.trans (acts awake).2
  exact ((hacted.trans (groupJudge_front acted)).trans (seqAdvance_front _)).trans (railHalts_front _)

/-- What a command that may touch registers of any kind does after its own effect. -/
theorem judgement_front (s : State) : FrontStays s (settle (packCheck (railsJudge s))) :=
  ((railsJudge_front s).trans (packCheck_front _)).trans (settle_front _)

end Sys2Proof.Machine
end

section
/-!
The wire diagnostics' own updates: requests, the states of the pins, the baselines, CLEAR, and the end of a test.
-/
namespace Sys2Proof.Machine

/-! ### What a step that leaves the front end leaves of them -/

namespace FrontStays

variable {s t : State}

theorem pinState (h : FrontStays s t) {j : Nat} (hj : j < 25) : t.pinState j = s.pinState j := by
  have lo : 0x0400 ≤ (pinField j).addr := by
    simp only [pinField, Reg.WD_PIN_STATE]
    omega
  have hi : (pinField j).addr < 0x0900 := by
    simp only [pinField, Reg.WD_PIN_STATE]
    omega
  exact congrArg (pinField j).read (h.reg _ lo hi)

/-- What WD_STATUS shows stands. -/
theorem status (h : FrontStays s t) (f : BitField) (hf : f.addr = Reg.WD_STATUS) : t.flag f = s.flag f :=
  congrArg (fun w => f.read w != 0) (h.reg _ (by rw [hf]; decide) (by rw [hf]; decide))

theorem pullHold (h : FrontStays s t) (e : Nat) : t.pullHold e = s.pullHold e := by
  obtain ⟨held, wd⟩ := h.wd
  rw [State.pullHold, State.pullHold, wd]

end FrontStays

/-- Steps that touch the wire diagnostics' state alone show the registers of the tick as before. -/
theorem settle_wd_regs (s : State) (w : WireDiag) : (settle { s with wd := w }).regs = (settle s).regs :=
  SameLevels.regs (SameLevels.settled ⟨rfl, rfl, rfl, rfl⟩)

/-! ### Requests (R78, R82) -/

theorem requestScan_eq {s : State} (hb : s.blockless = false) (hs : s.wd.scan = false) : ∃ held, requestScan s =
    { s with wd := { s.wd with queue := s.pins.map fun j => (j, true), scan := true, calHeld := held } } := by
  rw [requestScan, if_neg (by simp [hb, hs])]
  exact ⟨_, rfl⟩

theorem requestScan_ignored {s : State} (h : s.wd.scan = true ∨ s.blockless = true) : requestScan s = s :=
  if_pos (by simpa using h.symm)

theorem requestPin_eq {s : State} {j : Nat} (hb : s.blockless = false) (hj : j ≤ s.cells) (hq : ∀ p ∈ s.wd.queue, p.1 ≠ j) :
    ∃ held, requestPin s j = { s with wd := { s.wd with queue := s.wd.queue ++ [(j, false)], calHeld := held } } := by
  have fresh : ¬ s.wd.queue.any (·.1 == j) = true := fun h => by
    obtain ⟨p, mem, pin⟩ := List.any_eq_true.mp h
    exact hq p mem (beq_iff_eq.mp pin)
  rw [requestPin, if_neg (by simp [hb, hj]), if_neg fresh]
  exact ⟨_, rfl⟩

theorem requestPin_ignored {s : State} {j : Nat} (h : s.cells < j ∨ s.blockless = true ∨ ∃ p ∈ s.wd.queue, p.1 = j) :
    requestPin s j = s := by
  unfold requestPin
  split
  · rfl
  · next possible =>
    refine if_pos ?_
    simp only [Bool.or_eq_true, decide_eq_true_eq, not_or] at possible
    obtain ⟨blocked, above⟩ := possible
    obtain ⟨p, mem, pin⟩ := (h.resolve_left above).resolve_left blocked
    exact List.any_eq_true.mpr ⟨p, mem, beq_iff_eq.mpr pin⟩

/-! ### The states of the pins (R75, R85) -/

theorem pinField_fits (j : Nat) : (pinField j).lo ≤ (pinField j).hi ∧ (pinField j).hi < 16 := by
  simp only [pinField]
  omega

theorem pinField_apart {i j : Nat} (h : i ≠ j) : (pinField i).addr ≠ (pinField j).addr ∨
    (pinField i).hi < (pinField j).lo ∨ (pinField j).hi < (pinField i).lo := by
  simp only [pinField, Reg.WD_PIN_STATE]
  omega

theorem pinState_setPin_same (s : State) (j : Nat) {v : Nat} (hv : v < 4) : (setPin s j v).pinState j = v := by
  obtain ⟨order, width⟩ := pinField_fits j
  have two : (pinField j).hi + 1 - (pinField j).lo = 2 := by
    simp only [pinField]
    omega
  rw [setPin, State.setPinState, State.pinState, fld_setFld_same _ _ _ order width, two]
  exact Nat.mod_eq_of_lt hv

theorem pinState_setPin_ne (s : State) {i j : Nat} (v : Nat) (h : i ≠ j) : (setPin s j v).pinState i = s.pinState i :=
  fld_setFld_ne s _ (pinField_apart h)

/-- The register holds no pin's state. -/
def besidePins (a : Nat) : Bool := decide (a < 0x0808) || decide (0x080C ≤ a)

theorem besidePins_low {a : Nat} (h : a < 0x0800) : besidePins a = true := by
  rw [besidePins, decide_eq_true (show a < 0x0808 by omega), Bool.true_or]

theorem reg_setPin {s : State} {j : Nat} (v : Nat) (hj : j < 25) {a : Nat} (ha : besidePins a = true) :
    (setPin s j v).reg a = s.reg a := by
  refine reg_setFld_ne s v ?_
  simp only [besidePins, Bool.or_eq_true, decide_eq_true_eq] at ha
  simp only [pinField, Reg.WD_PIN_STATE]
  omega

/-- Every pin is CLEAR. -/
def pinsCleared (s : State) : State := s.forEach (List.range 25) fun s j => setPin s j pinClear

theorem pinsCleared_regsOnly (s : State) : ∃ r, pinsCleared s = { s with regs := r } := by
  refine forEach_rel (R := fun s t => ∃ r, t = { s with regs := r }) (fun s => ⟨s.regs, rfl⟩) ?_ (fun j s => ⟨_, rfl⟩) _ s
  rintro s t u ⟨_, rfl⟩ ⟨r, rfl⟩
  exact ⟨r, rfl⟩

theorem pinsCleared_pinState (s : State) {j : Nat} (hj : j < 25) : (pinsCleared s).pinState j = pinClear :=
  forEach_each (f := fun s j => setPin s j pinClear) (read := State.pinState) (I := fun _ => True) (Q := fun _ v => v = pinClear)
    (fun _ _ _ => trivial) (fun s j _ => pinState_setPin_same s j (by decide)) (fun s j i hi => pinState_setPin_ne s _ hi)
    trivial (List.mem_range.mpr hj)

theorem pinsCleared_reg (s : State) {a : Nat} (ha : besidePins a = true) : (pinsCleared s).reg a = s.reg a :=
  forEach_keeps (fun s => s.reg a) (fun _ hj _ => reg_setPin _ (List.mem_range.mp hj) ha) s

/-! ### Baselines (R71) -/

theorem cells_lt (s : State) : s.cells < 32 := by
  have masked : s.cells ≤ Fld.CELL_MAP_ACTIVE_CELLS.mask.toNat := Nat.and_le_right
  exact Nat.lt_succ_of_le masked

/-- The registers of the main set stand below those of the wire diagnostics. -/
theorem epRegs_low {e : Nat} (h : e < 32) : Reg.EP_LO e < 0x0800 ∧ Reg.EP_HI e < 0x0800 := by
  simp only [Reg.EP_LO, Reg.EP_HI]
  omega

theorem retakeBaselines_only (s : State) :
    ∃ b, retakeBaselines s = { s with wd := { s.wd with base := b, baseTaken := true } } := by
  obtain ⟨b, taken⟩ : ∃ b, (s.forEach (List.range s.cells) fun s e =>
      { s with wd := { s.wd with base := sparseSet s.wd.base 0 e (s.mainValue e) } }) =
        { s with wd := { s.wd with base := b } } := by
    refine forEach_rel (R := fun s t => ∃ b, t = { s with wd := { s.wd with base := b } }) (fun s => ⟨s.wd.base, rfl⟩) ?_
      (fun e s => ⟨_, rfl⟩) _ s
    rintro s t u ⟨_, rfl⟩ ⟨b, rfl⟩
    exact ⟨b, rfl⟩
  refine ⟨b, ?_⟩
  rw [retakeBaselines, taken]

theorem retakeBaselines_base (s : State) {e : Nat} (he : e < s.cells) :
    sparseGet (retakeBaselines s).wd.base 0 e = s.mainValue e := by
  refine forEach_each (f := fun s e => { s with wd := { s.wd with base := sparseSet s.wd.base 0 e (s.mainValue e) } })
    (read := fun s e => sparseGet s.wd.base 0 e) (I := fun t => t.regs = s.regs) (Q := fun e v => v = s.mainValue e)
    (fun _ _ h => h) (fun t e h => ?_) (fun t e d hd => sparseGet_set_ne _ _ _ _ hd) rfl (List.mem_range.mpr he)
  exact (sparseGet_set_same ..).trans (mainValue_congr (reg_congr h _) (reg_congr h _))

/-! ### CLEAR (R71, R78) -/

/-- No sum failure is shown, and none is counted. -/
def sumsCleared (s : State) : State :=
  let s := (s.setFlag Fld.WD_STATUS_SUM_FAIL false).setFlag Fld.WD_STATUS_SEC_SUM_FAIL false
  { s with wd := { s.wd with sumBad := 0, sumGood := 0, secBad := 0, secGood := 0 } }

theorem wdClearAll_eq (s : State) : wdClearAll s = retakeBaselines (sumsCleared (pinsCleared s)) := rfl

theorem sumsCleared_reg (s : State) {a : Nat} (ha : a ≠ Reg.WD_STATUS) : (sumsCleared s).reg a = s.reg a :=
  (reg_setFlag_ne (f := Fld.WD_STATUS_SEC_SUM_FAIL) _ false ha).trans (reg_setFlag_ne (f := Fld.WD_STATUS_SUM_FAIL) s false ha)

theorem sumsCleared_flags (s : State) : (sumsCleared s).flag Fld.WD_STATUS_SUM_FAIL = false ∧
    (sumsCleared s).flag Fld.WD_STATUS_SEC_SUM_FAIL = false := by
  constructor
  · exact (flag_setFlag_ne (f := Fld.WD_STATUS_SEC_SUM_FAIL) _ false (by decide)).trans
      (flag_setFlag_same s Fld.WD_STATUS_SUM_FAIL false (by decide) (by decide))
  · exact flag_setFlag_same _ Fld.WD_STATUS_SEC_SUM_FAIL false (by decide) (by decide)

/-- The other fields of WD_STATUS stand. -/
theorem sumsCleared_status (s : State) {f : BitField} (h : f.hi < 1 ∨ 2 < f.lo) : (sumsCleared s).flag f = s.flag f := by
  have apart (g : BitField) (lo : 1 ≤ g.lo) (hi : g.hi ≤ 2) (s : State) : (s.setFlag g false).flag f = s.flag f :=
    flag_setFlag_ne s false (.inr (by omega))
  exact (apart Fld.WD_STATUS_SEC_SUM_FAIL (by decide) (by decide) _).trans
    (apart Fld.WD_STATUS_SUM_FAIL (by decide) (by decide) s)

/-- What CLEAR leaves of what is not running. -/
structure WireCleared (s t : State) : Prop where
  pins : ∀ j, j < 25 → t.pinState j = pinClear
  sumFail : t.flag Fld.WD_STATUS_SUM_FAIL = false
  secSumFail : t.flag Fld.WD_STATUS_SEC_SUM_FAIL = false
  base : ∀ e, e < s.cells → sparseGet t.wd.base 0 e = s.mainValue e
  wd : ∃ b, t.wd = { s.wd with
    base := b, baseTaken := true, sumBad := 0, sumGood := 0, secBad := 0, secGood := 0 }
  mode : t.mode = s.mode
  status : ∀ f : BitField, f.addr = Reg.WD_STATUS → f.hi < 1 ∨ 2 < f.lo → t.flag f = s.flag f

theorem wdClearAll_clears (s : State) : WireCleared s (wdClearAll s) := by
  obtain ⟨b, taken⟩ := retakeBaselines_only (sumsCleared (pinsCleared s))
  obtain ⟨r, pins⟩ := pinsCleared_regsOnly s
  have regs : (retakeBaselines (sumsCleared (pinsCleared s))).regs = (sumsCleared (pinsCleared s)).regs := by rw [taken]
  have outside {a : Nat} (hs : a ≠ Reg.WD_STATUS) (hp : besidePins a = true) :
      (sumsCleared (pinsCleared s)).reg a = s.reg a := (sumsCleared_reg _ hs).trans (pinsCleared_reg s hp)
  obtain ⟨sumFail, secSumFail⟩ := sumsCleared_flags (pinsCleared s)
  rw [wdClearAll_eq]
  refine ⟨fun j hj => ?_, (flag_congr regs _).trans sumFail, (flag_congr regs _).trans secSumFail, fun e he => ?_, ⟨b, ?_⟩, ?_,
    fun f hf apart => ?_⟩
  · have elsewhere : (pinField j).addr ≠ Reg.WD_STATUS := by
      simp only [pinField, Reg.WD_PIN_STATE, Reg.WD_STATUS]
      omega
    have same := congrArg (pinField j).read (sumsCleared_reg (pinsCleared s) elsewhere)
    exact (fld_congr regs _).trans (same.trans (pinsCleared_pinState s hj))
  · have cells : (sumsCleared (pinsCleared s)).cells = s.cells :=
      congrArg Fld.CELL_MAP_ACTIVE_CELLS.read (outside (a := Reg.CELL_MAP) (by decide) (by decide))
    rw [retakeBaselines_base _ (lt_of_lt_of_eq he cells.symm)]
    obtain ⟨lo, hi⟩ := epRegs_low (he.trans (cells_lt s))
    exact mainValue_congr (outside (by simp only [Reg.WD_STATUS]; omega) (besidePins_low lo))
      (outside (by simp only [Reg.WD_STATUS]; omega) (besidePins_low hi))
  · rw [taken, sumsCleared, pins]
    rfl
  · rw [taken, sumsCleared, pins]
    rfl
  · have status : (pinsCleared s).flag f = s.flag f :=
      congrArg (fun w => f.read w != 0) (pinsCleared_reg s (by rw [hf]; decide))
    exact (flag_congr regs f).trans ((sumsCleared_status _ apart).trans status)

end Sys2Proof.Machine
end

section
/-!
CLEAR as a command, and the first steps of a pin test: it begins, and its baselines are read.
-/
namespace Sys2Proof.Machine

/-! ### CLEAR as a command (R78) -/

/-- The scan under way has not its pin under test: CLEAR ends it at once. -/
def State.scanWaits (s : State) : Bool := s.wd.scan && !((s.wd.phase != PullPhase.idle) && s.wd.pinInScan)

/-- What CLEAR does with the requests, before it clears the pins. -/
def requestsDropped (s : State) : State :=
  let dropped := { s with wd := { s.wd with
    queue := [], scan := s.wd.scan && !s.scanWaits, abort := s.wd.abort || (s.wd.phase != PullPhase.idle) } }
  let shown := dropped.when ((s.wd.scan || !s.wd.queue.isEmpty) && !(s.wd.phase != PullPhase.idle)) fun s =>
    s.setFlag Fld.WD_STATUS_ABORTED true
  if s.scanWaits then restartPeriod shown else shown

theorem wdClear_eq (s : State) : wdClear s = wdClearAll (requestsDropped s) := rfl

theorem requestsDropped_leaves (s : State) :
    (requestsDropped s).wd = { s.wd with
      queue := [], scan := s.wd.scan && !s.scanWaits, abort := s.wd.abort || (s.wd.phase != PullPhase.idle) } ∧
    (requestsDropped s).mode = s.mode ∧ ∀ a, a ≠ Reg.WD_STATUS → (requestsDropped s).reg a = s.reg a := by
  have shown (c : Bool) (t : State) : (t.when c fun s => s.setFlag Fld.WD_STATUS_ABORTED true).wd = t.wd ∧
      (t.when c fun s => s.setFlag Fld.WD_STATUS_ABORTED true).mode = t.mode ∧
      ∀ a, a ≠ Reg.WD_STATUS → (t.when c fun s => s.setFlag Fld.WD_STATUS_ABORTED true).reg a = t.reg a := by
    cases c
    · exact ⟨rfl, rfl, fun _ _ => rfl⟩
    · exact ⟨rfl, rfl, fun a ha => reg_setFlag_ne _ _ ha⟩
  unfold requestsDropped
  split
  · exact shown _ _
  · exact shown _ _

/-- What CLEAR leaves. -/
theorem wdClear_leaves (s : State) : Completes .wdClear s fun t =>
    t.wd.queue = [] ∧ t.wd.scan = (s.wd.scan && !s.scanWaits) ∧ t.wd.abort = (s.wd.abort || (s.wd.phase != PullPhase.idle)) ∧
    t.wd.phase = s.wd.phase ∧ t.wd.pin = s.wd.pin ∧ t.wd.sumBad = 0 ∧ t.wd.secBad = 0 ∧ t.mode = s.mode ∧
    (∀ j, j < 25 → t.pinState j = pinClear) ∧ t.flag Fld.WD_STATUS_SUM_FAIL = false ∧
    t.flag Fld.WD_STATUS_SEC_SUM_FAIL = false ∧ ∀ e, e < s.cells → sparseGet t.wd.base 0 e = s.mainValue e := by
  obtain ⟨wd, mode, reg⟩ := requestsDropped_leaves s
  have cleared := wdClearAll_clears (requestsDropped s)
  have shown := settle_front (wdClearAll (requestsDropped s))
  obtain ⟨b, after⟩ := cleared.wd
  have cells : (requestsDropped s).cells = s.cells :=
    congrArg Fld.CELL_MAP_ACTIVE_CELLS.read (reg Reg.CELL_MAP (by decide))
  refine ⟨_, congrArg (fun t => Host.Outcome.next (settle t)) (wdClear_eq s), ?_⟩
  beta_reduce
  rw [settle_wd, settle_mode, after, wd, shown.status Fld.WD_STATUS_SUM_FAIL rfl,
    shown.status Fld.WD_STATUS_SEC_SUM_FAIL rfl]
  refine ⟨rfl, rfl, rfl, rfl, rfl, rfl, rfl, cleared.mode.trans mode, fun j hj => ?_, cleared.sumFail, cleared.secSumFail,
    fun e he => ?_⟩
  · rw [shown.pinState hj, cleared.pins j hj]
  · have base := cleared.base e (lt_of_lt_of_eq he cells.symm)
    rw [after] at base
    obtain ⟨lo, hi⟩ := epRegs_low (he.trans (cells_lt s))
    refine base.trans (mainValue_congr (reg _ ?_) (reg _ ?_))
    · simp only [Reg.WD_STATUS]
      omega
    · simp only [Reg.WD_STATUS]
      omega

/-! ### A test begins (R74, R77, R78) -/

theorem nextPin_of_may {s : State} {j : Nat} {b : Bool} {rest : List (Nat × Bool)} (hq : s.wd.queue = (j, b) :: rest)
    (h : s.pinMayStart j = true) : s.nextPin = some (j, b) := by
  simp [State.nextPin, hq, h]

theorem nextPin_of_not_may {s : State} {j : Nat} {b : Bool} {rest : List (Nat × Bool)} (hq : s.wd.queue = (j, b) :: rest)
    (h : s.pinMayStart j = false) : s.nextPin = none := by
  simp [State.nextPin, hq, h]

theorem nextPin_of_empty {s : State} (hq : s.wd.queue = []) : s.nextPin = none := by
  simp [State.nextPin, hq]

theorem pinStart_waits {s : State} (h : s.wd.phase ≠ .idle ∨ s.nextPin = none) : pinStart s = s := by
  unfold pinStart
  split
  · rfl
  · next idle =>
    rw [h.resolve_left (by simpa using idle)]

/-- The pin's test is in its first step. -/
def testBegun (s : State) (j : Nat) (inScan : Bool) : State :=
  let s := { s with wd := { s.wd with
    phase := .baseline, pin := j, pinInScan := inScan, queue := s.wd.queue.filter (·.1 != j) } }
  (s.setFlag Fld.WD_STATUS_BUSY true).setFld Fld.WD_STATUS_CUR_PIN j

theorem pinStart_begins {s : State} {j : Nat} {b : Bool} (hp : s.wd.phase = .idle) (hn : s.nextPin = some (j, b)) :
    pinStart s = testBegun s j b := by
  unfold pinStart
  rw [if_neg (by simp [hp]), hn]
  rfl

theorem pinTestStart_begins {s : State} {j : Nat} {b : Bool} {rest : List (Nat × Bool)} (hp : s.wd.phase = .idle)
    (hq : s.wd.queue = (j, b) :: rest) (hj : j < 25) (hm : s.pinMayStart j = true) : Completes .pinTestStart s fun t =>
      t.wd.phase = .baseline ∧ t.wd.pin = j ∧ t.wd.pinInScan = b ∧ t.wd.queue = rest.filter (·.1 != j) ∧
      t.flag Fld.WD_STATUS_BUSY = true ∧ t.fld Fld.WD_STATUS_CUR_PIN = j ∧ t.mode = s.mode := by
  refine ⟨_, congrArg (fun t => Host.Outcome.next (settle t)) (pinStart_begins hp (nextPin_of_may hq hm)), ?_⟩
  beta_reduce
  rw [settle_wd, settle_mode, settle_flag _ _ (by decide), settle_fld _ _ (by decide), testBegun]
  refine ⟨rfl, rfl, rfl, ?_, ?_, ?_, rfl⟩
  · simp [hq]
  · rw [flag_setFld_ne _ _ (by decide), flag_setFlag_same _ _ _ (by decide) (by decide)]
  · rw [fld_setFld_same _ _ _ (by decide) (by decide)]
    exact Nat.mod_eq_of_lt (hj.trans (by decide))

/-! ### The baselines are read and the pull begins (R74, R76) -/

theorem find_held {cells : List Nat} (value : Nat → Int) (e : Nat) :
    (cells.map fun e => (e, value e, false)).find? (·.1 == e) = if e ∈ cells then some (e, value e, false) else none := by
  induction cells with
  | nil => rfl
  | cons c cells ih =>
    rw [List.map_cons, List.find?_cons]
    by_cases h : c = e
    · simp [h]
    · simp [beq_eq_false_iff_ne.mpr h, Ne.symm h, ih]

/-- Cells held further back keep their values, the pin's own cells join them. -/
theorem pullHold_append {s t : State} {cells : List Nat} {value : Nat → Int}
    (h : t.wd.hold = s.wd.hold ++ cells.map fun e => (e, value e, false)) (e : Nat) :
    t.pullHold e = if e ∈ cells then some ((s.pullHold e).getD (value e)) else s.pullHold e := by
  unfold State.pullHold
  rw [h, List.find?_append, find_held]
  cases s.wd.hold.find? (·.1 == e) with
  | none => split <;> rfl
  | some p => split <;> rfl

theorem pinTestBaselineDone_pulls {s : State} (v1 v2 : Int) (hp : s.wd.phase = .baseline) :
    Completes (.pinTestBaselineDone v1 v2) s fun t =>
      t.wd.phase = .pulling ∧ t.wd.b1 = v1 ∧ t.wd.b2 = v2 ∧ t.wd.pin = s.wd.pin ∧ t.mode = s.mode ∧
      (∀ e ∈ pinCells s.cells s.wd.pin, t.pullHold e =
        some ((s.pullHold e).getD (s.latchEp e (s.acq.req == .measuring)).1)) ∧
      ∀ e, e ∉ pinCells s.cells s.wd.pin → t.pullHold e = s.pullHold e := by
  have next : exec (.pinTestBaselineDone v1 v2) s = .next (settle (transferPermissions (pinBaselines s v1 v2))) :=
    if_neg (not_not.mpr hp)
  obtain ⟨u, hu⟩ : ∃ u, u = pinBaselines s v1 v2 := ⟨_, rfl⟩
  have begun : u = { s with wd := { s.wd with
      phase := .pulling, b1 := v1, b2 := v2
      hold := s.wd.hold ++ (pinCells s.cells s.wd.pin).map fun e =>
        (e, (s.latchEp e (s.acq.req == .measuring)).1, false) } } := by
    rw [hu, pinBaselines, if_neg (by simp [hp])]
  rw [← hu] at next
  have front := (transferPermissions_front u).trans (settle_front _)
  have hold : u.wd.hold = s.wd.hold ++ (pinCells s.cells s.wd.pin).map fun e =>
      (e, (s.latchEp e (s.acq.req == .measuring)).1, false) := by rw [begun]
  obtain ⟨held, wd⟩ := front.wd
  refine ⟨_, next, ?_⟩
  beta_reduce
  rw [wd, settle_mode, (transferPermissions_leaves u).mode]
  refine ⟨?_, ?_, ?_, ?_, ?_, fun e he => ?_, fun e he => ?_⟩
  · rw [begun]
  · rw [begun]
  · rw [begun]
  · rw [begun]
  · rw [begun]
  · rw [front.pullHold, pullHold_append hold, if_pos he]
  · rw [front.pullHold, pullHold_append hold, if_neg he]

end Sys2Proof.Machine
end

section
/-!
The end of a pin test: the readings decide the pin, the recovery ends the test.
-/
namespace Sys2Proof.Machine

/-! ### The readings decide the pin (R74, R75) -/

theorem fitFree_fits (s : State) {w : Nat} {x : Int} (lo : -(2 ^ (w - 1) : Nat) ≤ x) (hi : x < (2 ^ (w - 1) : Nat)) :
    (s.fitFree w x).1 = BitVec.ofInt w x := by
  rw [State.fitFree, if_pos ⟨lo, hi⟩]

theorem fitFree_state (s : State) (w : Nat) (x : Int) : ∃ n, (s.fitFree w x).2 = { s with freeCtr := n } := by
  unfold State.fitFree
  split
  · exact ⟨s.freeCtr, rfl⟩
  · exact ⟨_, rfl⟩

theorem shiftState_eq (twice : Int) (highr opn : Nat) : shiftState twice highr opn =
    if 20000 * (opn : Int) ≤ twice then 2 else if 20000 * (highr : Int) ≤ twice then 3 else 0 := by
  simp only [shiftState, Nat.cast_mul, Nat.cast_ofNat]
  rfl

/-- Twice the shift of the pin under test. -/
def State.twiceShift (s : State) (v1 v2 : Int) : Int := shift2 s.cells s.wd.pin s.wd.b1 s.wd.b2 v1 v2

/-- The state the readings give the pin under test. -/
def State.decided (s : State) (v1 v2 : Int) : Nat :=
  shiftState (s.twiceShift v1 v2) (s.fld Fld.WD_PULL_HIGHR_THR) (s.fld Fld.WD_PULL_OPEN_THR)

theorem decided_eq (s : State) (v1 v2 : Int) : s.decided v1 v2 =
    if 20000 * (s.fld Fld.WD_PULL_OPEN_THR : Int) ≤ s.twiceShift v1 v2 then 2
    else if 20000 * (s.fld Fld.WD_PULL_HIGHR_THR : Int) ≤ s.twiceShift v1 v2 then 3 else 0 := shiftState_eq ..

theorem decided_lt (s : State) (v1 v2 : Int) : s.decided v1 v2 < 4 := by
  rw [decided_eq]
  split
  · decide
  · split <;> decide

/-- The shift that WD_SHIFT shows. -/
def State.shownShift (s : State) (v1 v2 : Int) : Half :=
  ((s.divFree (s.twiceShift v1 v2) 200).2.fitFree 16 (s.divFree (s.twiceShift v1 v2) 200).1).1

theorem shownShift_near (s : State) (v1 v2 : Int) : Near (s.twiceShift v1 v2) 200 fun x =>
    -32768 ≤ x → x ≤ 32767 → (s.shownShift v1 v2).toInt = x := by
  refine divFree_near s _ _ fun lo hi => ?_
  rw [State.shownShift, fitFree_fits _ lo (Int.lt_add_one_of_le hi)]
  exact BitVec.toInt_ofInt_eq_self (by decide) lo (Int.lt_add_one_of_le hi)

/-- The pin's shift and state are written, and the recovery begins. -/
def pinDecided (s : State) (j : Nat) (twice : Int) (shown : Half) : State :=
  let s := s.setReg (Reg.WD_SHIFT j) shown
  let s := setPin s j (shiftState twice (s.fld Fld.WD_PULL_HIGHR_THR) (s.fld Fld.WD_PULL_OPEN_THR))
  { s with wd := { s.wd with phase := .recovery } }

theorem pinReadings_eq {s : State} (v1 v2 : Int) (hp : s.wd.phase = .reading) : ∃ n, pinReadings s v1 v2 =
    pinDecided { s with freeCtr := n } s.wd.pin (s.twiceShift v1 v2) (s.shownShift v1 v2) := by
  obtain ⟨m, divided⟩ := divFree_state s (s.twiceShift v1 v2) 200
  obtain ⟨n, fitted⟩ := fitFree_state (s.divFree (s.twiceShift v1 v2) 200).2 16 (s.divFree (s.twiceShift v1 v2) 200).1
  have drawn : ((s.divFree (s.twiceShift v1 v2) 200).2.fitFree 16 (s.divFree (s.twiceShift v1 v2) 200).1).2 =
      { s with freeCtr := n } := by rw [fitted, divided]
  refine ⟨n, ?_⟩
  rw [← drawn, pinReadings, if_neg (by simp [hp])]
  rfl

theorem pinField_apart_shift (i j : Nat) (h : i < 25) : (pinField i).addr ≠ Reg.WD_SHIFT j := by
  simp only [pinField, Reg.WD_PIN_STATE, Reg.WD_SHIFT]
  omega

theorem pinTestReadingsDone_decides {s : State} (v1 v2 : Int) (hp : s.wd.phase = .reading) (hj : s.wd.pin < 25) :
    Completes (.pinTestReadingsDone v1 v2) s fun t => t.wd.phase = .recovery ∧ t.mode = s.mode ∧
      t.reg (Reg.WD_SHIFT s.wd.pin) = s.shownShift v1 v2 ∧
      (∀ i, i < 25 → i ≠ s.wd.pin → t.pinState i = s.pinState i) ∧ t.pinState s.wd.pin = s.decided v1 v2 := by
  obtain ⟨n, next⟩ := pinReadings_eq v1 v2 hp
  obtain ⟨u, hu⟩ : ∃ u, u = ({ s with freeCtr := n } : State).setReg (Reg.WD_SHIFT s.wd.pin) (s.shownShift v1 v2) := ⟨_, rfl⟩
  have elsewhere {a : Nat} (h : a ≠ Reg.WD_SHIFT s.wd.pin) : u.reg a = s.reg a := by
    rw [hu]
    exact reg_setReg_ne _ _ h
  have thresholds (f : BitField) (hf : f.addr = Reg.WD_PULL) : u.fld f = s.fld f := by
    refine congrArg f.read (elsewhere ?_)
    rw [hf]
    simp only [Reg.WD_PULL, Reg.WD_SHIFT]
    omega
  have decided : pinDecided { s with freeCtr := n } s.wd.pin (s.twiceShift v1 v2) (s.shownShift v1 v2) =
      let t := setPin u s.wd.pin (s.decided v1 v2)
      { t with wd := { t.wd with phase := .recovery } } := by
    rw [State.decided, ← thresholds _ rfl, ← thresholds _ rfl, hu]
    rfl
  rw [decided] at next
  refine ⟨_, congrArg (fun t => Host.Outcome.next (settle t)) next, ?_⟩
  have front := settle_front { setPin u s.wd.pin (s.decided v1 v2) with
    wd := { (setPin u s.wd.pin (s.decided v1 v2)).wd with phase := .recovery } }
  beta_reduce
  rw [settle_wd, settle_mode, front.pinState hj]
  refine ⟨rfl, ?_, ?_, fun i hi ne => ?_, ?_⟩
  · rw [hu]
    rfl
  · rw [front.reg _ (by simp only [Reg.WD_SHIFT]; omega) (by simp only [Reg.WD_SHIFT]; omega)]
    refine (reg_setFld_ne u _ (pinField_apart_shift _ _ hj).symm).trans ?_
    rw [hu, reg_setReg_same]
  · rw [front.pinState hi]
    exact (pinState_setPin_ne u _ ne).trans (congrArg (pinField i).read (elsewhere (pinField_apart_shift _ _ hi)))
  · exact pinState_setPin_same u _ (decided_lt ..)

/-! ### The recovery ends the test (R74, R76, R78) -/

/-- The pin's test is over, and its cells are held until the next latch. -/
def testOver (s : State) : State :=
  let s := (endHold s).setFlag Fld.WD_STATUS_BUSY false
  { s with wd := { s.wd with phase := .idle } }

/-- The test was aborted, and with it the scan of its pin. -/
def testAborted (s : State) : State :=
  let t := (testOver s).setFlag Fld.WD_STATUS_ABORTED true
  { t with wd := { t.wd with abort := false, scan := t.wd.scan && !s.wd.pinInScan } }

theorem pinRecovered_aborted {s : State} (hp : s.wd.phase = .recovery) (ha : s.wd.abort = true) :
    pinRecovered s = wdClearAll (if s.wd.pinInScan then restartPeriod (testAborted s) else testAborted s) := by
  rw [pinRecovered, if_neg (by simp [hp])]
  exact if_pos ha

theorem pinRecovered_done {s : State} (hp : s.wd.phase = .recovery) (ha : s.wd.abort = false) :
    pinRecovered s = wdDone (scanEnd (testOver s)) ∨ pinRecovered s = wdDone (retakeBaselines (scanEnd (testOver s))) := by
  have goesOn : ¬ s.wd.abort = true := by
    rw [ha]
    decide
  rw [pinRecovered, if_neg (by simp [hp])]
  refine (em (((testOver s).scanOver || !s.wd.pinInScan) && !(scanEnd (testOver s)).anyOpen)).symm.imp (fun h => ?_) fun h => ?_
  · exact (if_neg goesOn).trans (congrArg wdDone (if_neg h))
  · exact (if_neg goesOn).trans (congrArg wdDone (if_pos h))

/-- What the end of a test leaves. -/
structure TestEnded (s t : State) : Prop where
  phase : t.wd.phase = .idle
  busy : t.flag Fld.WD_STATUS_BUSY = false
  hold : ∀ p ∈ t.wd.hold, p.2.2 = true
  abort : t.wd.abort = false
  aborted : s.wd.abort = true → t.flag Fld.WD_STATUS_ABORTED = true ∧ ∀ j, j < 25 → t.pinState j = pinClear
  pins : s.wd.abort = false → ∀ j, j < 25 → t.pinState j = s.pinState j
  done : s.wd.abort = false → s.wd.queue = [] → t.flag Fld.WD_STATUS_DONE = true
  scans : s.wd.abort = false → s.wd.queue = [] → s.wd.scan = true →
    t.wd.scan = false ∧ t.regN Reg.WD_SCANS = (s.regN Reg.WD_SCANS + 1) % 65536

theorem TestEnded.front {s t u : State} (h : TestEnded s t) (k : FrontStays t u) : TestEnded s u := by
  obtain ⟨held, wd⟩ := k.wd
  refine ⟨?_, (k.status Fld.WD_STATUS_BUSY rfl).trans h.busy, ?_, ?_, fun ha => ?_, fun ha j hj => ?_, fun ha hq => ?_,
    fun ha hq hs => ?_⟩
  · rw [wd]
    exact h.phase
  · rw [wd]
    exact h.hold
  · rw [wd]
    exact h.abort
  · obtain ⟨shown, pins⟩ := h.aborted ha
    exact ⟨(k.status Fld.WD_STATUS_ABORTED rfl).trans shown, fun j hj => (k.pinState hj).trans (pins j hj)⟩
  · exact (k.pinState hj).trans (h.pins ha j hj)
  · exact (k.status Fld.WD_STATUS_DONE rfl).trans (h.done ha hq)
  · obtain ⟨scanned, counted⟩ := h.scans ha hq hs
    rw [wd]
    exact ⟨scanned, (congrArg BitVec.toNat (k.reg Reg.WD_SCANS (by decide) (by decide))).trans counted⟩

theorem testOver_held (s : State) : ∀ p ∈ (testOver s).wd.hold, p.2.2 = true := by
  intro p mem
  obtain ⟨q, -, rfl⟩ := List.mem_map.mp mem
  rfl

theorem testOver_busy (s : State) : (testOver s).flag Fld.WD_STATUS_BUSY = false :=
  flag_setFlag_same (endHold s) _ _ (by decide) (by decide)

theorem testEnded_aborted {s : State} (hp : s.wd.phase = .recovery) (ha : s.wd.abort = true) : TestEnded s (pinRecovered s) := by
  obtain ⟨u, hu⟩ : ∃ u, u = if s.wd.pinInScan then restartPeriod (testAborted s) else testAborted s := ⟨_, rfl⟩
  have begun : u.wd = (testAborted s).wd ∧ u.regs = (testAborted s).regs := by
    rw [hu]
    split
    · exact ⟨rfl, rfl⟩
    · exact ⟨rfl, rfl⟩
  obtain ⟨wd, regs⟩ := begun
  have cleared := wdClearAll_clears u
  obtain ⟨b, after⟩ := cleared.wd
  rw [pinRecovered_aborted hp ha, ← hu]
  have shown {f : BitField} (hf : f.addr = Reg.WD_STATUS) (apart : f.hi < 1 ∨ 2 < f.lo) :
      (wdClearAll u).flag f = (testAborted s).flag f := (cleared.status f hf apart).trans (flag_congr regs f)
  have stands (h : s.wd.abort = false) : False := by
    rw [ha] at h
    cases h
  refine ⟨?_, ?_, ?_, ?_, fun _ => ⟨?_, cleared.pins⟩, fun h => (stands h).elim, fun h => (stands h).elim,
    fun h => (stands h).elim⟩
  · rw [after, wd]
    rfl
  · rw [shown rfl (by decide)]
    exact (flag_setFlag_ne (f := Fld.WD_STATUS_ABORTED) (testOver s) true (by decide)).trans (testOver_busy s)
  · rw [after, wd]
    exact testOver_held s
  · rw [after, wd]
    rfl
  · rw [shown rfl (by decide)]
    exact flag_setFlag_same (testOver s) _ _ (by decide) (by decide)

/-- The end of a scan touches its count alone. -/
theorem scanEnd_leaves (s : State) : (∃ b, (scanEnd s).wd = { s.wd with scan := b }) ∧
    ∀ a, a ≠ Reg.WD_SCANS → (scanEnd s).reg a = s.reg a := by
  unfold scanEnd
  split
  · exact ⟨⟨false, rfl⟩, fun a ha => reg_setReg_ne _ _ ha⟩
  · exact ⟨⟨s.wd.scan, rfl⟩, fun _ _ => rfl⟩

theorem scanEnd_counts {s : State} (h : s.scanOver = true) :
    (scanEnd s).wd.scan = false ∧ (scanEnd s).regN Reg.WD_SCANS = (s.regN Reg.WD_SCANS + 1) % 65536 := by
  rw [scanEnd, if_pos h]
  refine ⟨rfl, ?_⟩
  exact (congrArg BitVec.toNat (reg_setRegN_same ..)).trans ((BitVec.toNat_ofNat ..).trans (Nat.mod_mod _ _))

theorem scanOver_testOver {s : State} (hq : s.wd.queue = []) (hs : s.wd.scan = true) : (testOver s).scanOver = true := by
  simp [State.scanOver, testOver, endHold, hq, hs]

/-- Taking the baselines anew or not, the rest of the end of a test is the same. -/
theorem wdDone_ended {s u : State} (ha : s.wd.abort = false)
    (wd : ∃ b taken, u.wd = { (scanEnd (testOver s)).wd with base := b, baseTaken := taken })
    (regs : u.regs = (scanEnd (testOver s)).regs) : TestEnded s (wdDone u) := by
  obtain ⟨⟨b, ended⟩, elsewhere⟩ := scanEnd_leaves (testOver s)
  obtain ⟨base, taken, wd⟩ := wd
  have shown : (wdDone u).wd = u.wd ∧ (∀ a, a ≠ Reg.WD_STATUS → (wdDone u).reg a = u.reg a) ∧
      (wdDone u).flag Fld.WD_STATUS_BUSY = u.flag Fld.WD_STATUS_BUSY := by
    unfold wdDone
    cases u.wd.queue.isEmpty
    · exact ⟨rfl, fun _ _ => rfl, rfl⟩
    · exact ⟨rfl, fun a h => reg_setFlag_ne u true h, flag_setFlag_ne u true (by decide)⟩
  obtain ⟨after, besides, busy⟩ := shown
  have wdStays : (wdDone u).wd = { (testOver s).wd with scan := b, base := base, baseTaken := taken } := by
    rw [after, wd, ended]
  refine ⟨?_, ?_, ?_, ?_, fun h => ?_, fun _ j hj => ?_, fun _ hq => ?_, fun _ hq hs => ?_⟩
  · rw [wdStays]
    rfl
  · rw [busy]
    refine (congrArg (fun w => Fld.WD_STATUS_BUSY.read w != 0) ?_).trans (testOver_busy s)
    exact (reg_congr regs _).trans (elsewhere _ (by decide))
  · rw [wdStays]
    exact testOver_held s
  · rw [wdStays]
    exact ha
  · rw [ha] at h
    cases h
  · have status : (pinField j).addr ≠ Reg.WD_STATUS := by
      simp only [pinField, Reg.WD_PIN_STATE, Reg.WD_STATUS]
      omega
    have scans : (pinField j).addr ≠ Reg.WD_SCANS := by
      simp only [pinField, Reg.WD_PIN_STATE, Reg.WD_SCANS]
      omega
    refine congrArg (pinField j).read ?_
    calc (wdDone u).reg (pinField j).addr = u.reg (pinField j).addr := besides _ status
      _ = (scanEnd (testOver s)).reg (pinField j).addr := reg_congr regs _
      _ = (testOver s).reg (pinField j).addr := elsewhere _ scans
      _ = s.reg (pinField j).addr := reg_setFlag_ne (endHold s) false status
  · have empty : u.wd.queue.isEmpty = true := by
      rw [wd, ended]
      exact List.isEmpty_iff.mpr hq
    rw [wdDone, empty]
    exact flag_setFlag_same u _ _ (by decide) (by decide)
  · obtain ⟨scanned, counted⟩ := scanEnd_counts (scanOver_testOver hq hs)
    refine ⟨?_, ?_⟩
    · rw [after, wd]
      exact scanned
    · have count : (wdDone u).reg Reg.WD_SCANS = (scanEnd (testOver s)).reg Reg.WD_SCANS :=
        (besides _ (by decide)).trans (reg_congr regs _)
      have before : (testOver s).reg Reg.WD_SCANS = s.reg Reg.WD_SCANS := reg_setFlag_ne (endHold s) false (by decide)
      rw [State.regN, count, ← State.regN, counted, State.regN, before, State.regN]

theorem testEnded {s : State} (hp : s.wd.phase = .recovery) : TestEnded s (pinRecovered s) := by
  cases ha : s.wd.abort
  · rcases pinRecovered_done hp ha with h | h
    · rw [h]
      exact wdDone_ended ha ⟨_, _, rfl⟩ rfl
    · obtain ⟨b, taken⟩ := retakeBaselines_only (scanEnd (testOver s))
      rw [h, taken]
      exact wdDone_ended ha ⟨_, _, rfl⟩ rfl
  · exact testEnded_aborted hp ha

/-- Self-test, rails and pack, which are judged after the end of a test, leave it. -/
theorem pinTestRecoveryEnd_ends {s : State} (hp : s.wd.phase = .recovery) : Completes .pinTestRecoveryEnd s (TestEnded s) := by
  have next : exec .pinTestRecoveryEnd s =
      .next (settle (packCheck (railsJudge (stResume (transferPermissions (pinRecovered s)))))) := if_neg (not_not.mpr hp)
  exact ⟨_, next, (testEnded hp).front
    (((transferPermissions_front _).trans (stResume_front _)).trans (judgement_front _))⟩

end Sys2Proof.Machine
end

section
/-!
The requests of the wire diagnostics as commands, their period, and the obligation O23.
-/
namespace Sys2Proof.Machine

section Commands

variable {s : State}

/-! ### Requests as commands (R78, R82) -/

theorem wdScan_queues (hb : s.blockless = false) (hs : s.wd.scan = false) : Completes .wdScan s fun t =>
    t.wd.scan = true ∧ t.wd.queue = (List.range (s.cells + 1)).map (fun j => (j, true)) ∧ t.mode = s.mode ∧
    t.wd.phase = s.wd.phase ∧ t.regs = (settle s).regs := by
  obtain ⟨held, asked⟩ := requestScan_eq hb hs
  refine ⟨_, congrArg (fun t => Host.Outcome.next (settle t)) asked, ?_⟩
  beta_reduce
  rw [settle_wd, settle_mode, settle_wd_regs]
  exact ⟨rfl, rfl, rfl, rfl, rfl⟩

theorem wdScan_ignored (h : s.wd.scan = true ∨ s.blockless = true) : exec .wdScan s = .next (settle s) :=
  congrArg (fun t => Host.Outcome.next (settle t)) (requestScan_ignored h)

theorem wdPinTest_queues (pin : BitVec 5) (hb : s.blockless = false) (hj : pin.toNat ≤ s.cells)
    (hq : ∀ p ∈ s.wd.queue, p.1 ≠ pin.toNat) : Completes (.wdPinTest pin) s fun t =>
      t.wd.queue = s.wd.queue ++ [(pin.toNat, false)] ∧ t.wd.scan = s.wd.scan ∧ t.regs = (settle s).regs ∧ t.mode = s.mode := by
  obtain ⟨held, asked⟩ := requestPin_eq hb hj hq
  refine ⟨_, congrArg (fun t => Host.Outcome.next (settle t)) asked, ?_⟩
  beta_reduce
  rw [settle_wd, settle_mode, settle_wd_regs]
  exact ⟨rfl, rfl, rfl, rfl⟩

theorem wdPinTest_ignored (pin : BitVec 5)
    (h : s.cells < pin.toNat ∨ s.blockless = true ∨ ∃ p ∈ s.wd.queue, p.1 = pin.toNat) :
    exec (.wdPinTest pin) s = .next (settle s) :=
  congrArg (fun t => Host.Outcome.next (settle t)) (requestPin_ignored h)

/-! ### The period (R82) -/

theorem running_startTimer (s : State) (t : Timer) : (s.startTimer t).running t = true := by
  simp [State.running, State.startTimer]

theorem running_stopTimer (s : State) (t : Timer) : (s.stopTimer t).running t = false := by
  simp [State.running, State.stopTimer]

/-- A timer runs as long as the timers stand. -/
theorem running_congr {s t : State} (h : t.timers = s.timers) (i : Timer) : t.running i = s.running i := by
  rw [State.running, h, State.running]

theorem wdPeriodWrite_starts (s : State) (v : BitVec 16) : Completes (.wdPeriodWrite v) s fun t =>
    t.running .wdPeriod = true ∧ t.wd = s.wd ∧ t.mode = s.mode ∧
    t.reg Reg.WD_PERIOD = fieldsWritten false Reg.WD_PERIOD v (s.reg Reg.WD_PERIOD) := by
  obtain ⟨w, hw⟩ : ∃ w, w = fieldsWritten false Reg.WD_PERIOD v (s.reg Reg.WD_PERIOD) := ⟨_, rfl⟩
  have next : exec (.wdPeriodWrite v) s = .next (settle ((s.setReg Reg.WD_PERIOD w).startTimer .wdPeriod)) := by
    rw [hw]
    rfl
  refine ⟨_, next, ?_⟩
  beta_reduce
  rw [running_congr (settle_timers _), settle_wd, settle_mode, settle_reg _ _ (by decide), ← hw]
  exact ⟨running_startTimer .., rfl, rfl, reg_setReg_same ..⟩

theorem settle_stopTimer_regs (s : State) (t : Timer) (w : WireDiag) :
    (settle { s.stopTimer t with wd := w }).regs = (settle s).regs :=
  SameLevels.regs (SameLevels.settled ⟨rfl, rfl, rfl, rfl⟩)

theorem wdPeriodElapsed_scans (hr : s.regN Reg.WD_PERIOD ≠ 0) (ht : s.running .wdPeriod = true) (hb : s.blockless = false)
    (hs : s.wd.scan = false) : Completes .wdPeriodElapsed s fun t =>
      t.wd.scan = true ∧ t.running .wdPeriod = false ∧
      t.wd.queue = (List.range (s.cells + 1)).map (fun j => (j, true)) ∧ t.regs = (settle s).regs ∧ t.mode = s.mode := by
  obtain ⟨held, asked⟩ := requestScan_eq (s := s.stopTimer .wdPeriod) hb hs
  have due : ¬ (s.regN Reg.WD_PERIOD = 0 ∨ (!s.running .wdPeriod) = true) := by simp [hr, ht]
  have next : exec .wdPeriodElapsed s = .next (settle (requestScan (s.stopTimer .wdPeriod))) := if_neg due
  rw [asked] at next
  refine ⟨_, next, ?_⟩
  beta_reduce
  rw [running_congr (settle_timers _), settle_wd, settle_mode, settle_stopTimer_regs]
  exact ⟨rfl, running_stopTimer s _, rfl, rfl, rfl⟩

theorem wdPeriodElapsed_ignored (h : s.regN Reg.WD_PERIOD = 0 ∨ s.running .wdPeriod = false) :
    exec .wdPeriodElapsed s = .next (settle s) :=
  if_pos (h.imp_right fun stopped => by rw [stopped]; rfl)

/-! ### Each step of a test follows its own -/

theorem pinTestStart_waits (h : s.wd.phase ≠ .idle ∨ s.nextPin = none) : exec .pinTestStart s = .next (settle s) :=
  congrArg (fun t => Host.Outcome.next (settle t)) (pinStart_waits h)

theorem pullTimeElapsed_reads (h : s.wd.phase = .pulling) :
    exec .pullTimeElapsed s = .next (settle { s with wd := { s.wd with phase := .reading } }) :=
  congrArg (fun t => Host.Outcome.next (settle t)) (if_neg (by simp [h]))

theorem pinTestBaselineDone_waits (h : s.wd.phase ≠ .baseline) (v1 v2 : Int) :
    exec (.pinTestBaselineDone v1 v2) s = .next (settle s) := if_pos h

theorem pullTimeElapsed_waits (h : s.wd.phase ≠ .pulling) : exec .pullTimeElapsed s = .next (settle s) :=
  congrArg (fun t => Host.Outcome.next (settle t)) (if_pos (bne_iff_ne.mpr h))

theorem pinTestReadingsDone_waits (h : s.wd.phase ≠ .reading) (v1 v2 : Int) :
    exec (.pinTestReadingsDone v1 v2) s = .next (settle s) :=
  congrArg (fun t => Host.Outcome.next (settle t)) (if_pos (bne_iff_ne.mpr h))

theorem pinTestRecoveryEnd_waits (h : s.wd.phase ≠ .recovery) : exec .pinTestRecoveryEnd s = .next (settle s) := if_pos h

end Commands

/-! ### The obligation -/

/-- Settles O23: a request, CLEAR and each step of a pin test are followed through the tick that takes them. The end of a test
is the one step after which the whole node is judged (the self-test resumes, rails and pack are looked at); that judgement
leaves the registers 0x0400 to 0x08FF and the wire diagnostics as they are (`FrontStays`). -/
theorem wireDiagnostics : Obligations.WireDiagnostics := by
  unfold Obligations.WireDiagnostics
  refine ⟨fun s => ⟨wdScan_queues, wdScan_ignored, wdPinTest_queues, wdPinTest_ignored, fun hp => ?_, fun hp => ?_,
    wdPeriodWrite_starts s, wdPeriodElapsed_scans, wdPeriodElapsed_ignored⟩,
    fun s => ⟨fun j inScan rest hp hq hj => ⟨pinTestStart_begins hp hq hj, fun hm => ?_⟩, fun h => ?_,
      pinTestBaselineDone_pulls, pullTimeElapsed_reads, fun v1 v2 hp hj => ?_, fun hp => ?_, pinTestBaselineDone_waits,
      pullTimeElapsed_waits, pinTestReadingsDone_waits, pinTestRecoveryEnd_waits⟩⟩
  case refine_1 =>
    obtain ⟨t, next, queue, scan, -, -, -, sumBad, secBad, mode, pins, sumFail, secSumFail, base⟩ := wdClear_leaves s
    have ended : t.wd.scan = false := scan.trans (by simp [State.scanWaits, hp])
    exact ⟨t, next, queue, ended, pins, sumFail, secSumFail, sumBad, secBad, mode, base⟩
  case refine_2 =>
    obtain ⟨t, next, queue, -, abort, phase, pin, -, -, mode, pins, -⟩ := wdClear_leaves s
    exact ⟨t, next, abort.trans (by simp [hp]), queue, phase, pin, pins, mode⟩
  case refine_3 => exact pinTestStart_waits (.inr (nextPin_of_not_may hq hm))
  case refine_4 => exact pinTestStart_waits (h.imp_right nextPin_of_empty)
  case refine_5 =>
    obtain ⟨t, next, phase, mode, shift, others, decided⟩ := pinTestReadingsDone_decides v1 v2 hp hj
    have near := shownShift_near s v1 v2
    rw [← shift] at near
    exact ⟨t, next, phase, mode, near, others, decided.trans (decided_eq s v1 v2)⟩
  case refine_6 =>
    obtain ⟨t, next, ended⟩ := pinTestRecoveryEnd_ends hp
    exact ⟨t, next, ended.phase, ended.busy, ended.hold, ended.abort, ended.aborted, fun ha =>
      ⟨ended.pins ha, ended.done ha, fun hq hs _ => ended.scans ha hq hs⟩⟩

end Sys2Proof.Machine
end

section
/-!
What the end of a tick leaves of the impedance unit.
-/
namespace Sys2Proof.Machine

/-! ### The end of a tick -/

/-- A field of IMP_STATUS beside FREERUN. -/
def besideFreerun (f : BitField) : Bool := f.addr == Reg.IMP_STATUS && (decide (f.hi < 4) || decide (4 < f.lo))

theorem fld_setBits_apart (s : State) {f : BitField} {a : Nat} (m : Half) (hf : besideFreerun f = true)
    (ha : a ≠ Reg.IMP_STATUS) : (s.setBits a m).fld f = s.fld f := by
  simp only [besideFreerun, Bool.and_eq_true, beq_iff_eq] at hf
  exact fld_setBits_ne s m fun h => ha (h.symm.trans hf.1)

theorem markFreerun_status (s : State) {f : BitField} (hf : besideFreerun f = true) : (markFreerun s).fld f = s.fld f := by
  unfold markFreerun
  split
  · simp only [besideFreerun, Bool.and_eq_true, Bool.or_eq_true, decide_eq_true_eq] at hf
    exact fld_setFlag_ne _ _ (.inr hf.2)
  · rfl

/-- A tick's end gives FREERUN of IMP_STATUS and no other field of it. -/
theorem settle_status (s : State) {f : BitField} (hf : besideFreerun f = true) : (settle s).fld f = s.fld f := by
  have irq (x : State) (c : Bool) (i : Nat) : (x.when c fun s => s.raiseIrq i).fld f = x.fld f := by
    cases c
    · rfl
    · exact fld_setBits_apart x _ hf (by decide)
  rw [settle, showIrqs, irq, irq, showFaults, fld_setBits_apart _ _ hf (by decide), markFreerun_status _ hf, settleMonitors_eq,
    fld_setBits_apart _ _ hf (by decide), fld_setBits_apart _ _ hf (by decide), fld_setBits_apart _ _ hf (by decide)]

theorem settle_statusFlag (s : State) {f : BitField} (hf : besideFreerun f = true) : (settle s).flag f = s.flag f := by
  rw [State.flag, settle_status s hf]
  rfl

/-- Of the impedance unit itself a tick's end changes the mark of a free-running timebase alone. -/
theorem settle_imp (s : State) : ∃ b, (settle s).imp = { s.imp with freerun := b } := by
  have irq (x : State) (c : Bool) (i : Nat) : (x.when c fun s => s.raiseIrq i).imp = x.imp := by cases c <;> rfl
  have shown : (settle s).imp = (markFreerun (settleMonitors s)).imp := by
    rw [settle, showIrqs, irq, irq]
    rfl
  rw [shown, settleMonitors_eq]
  unfold markFreerun
  split
  · exact ⟨true, rfl⟩
  · exact ⟨s.imp.freerun, rfl⟩

@[simp] theorem settle_impPlan (s : State) : (settle s).imp.plan = s.imp.plan := by
  obtain ⟨b, h⟩ := settle_imp s
  rw [h]

theorem impUnstage_txn (s : State) : ∃ x, impUnstage s = { s with txn := x } := by
  unfold impUnstage
  split
  · split
    · exact ⟨_, rfl⟩
    · exact ⟨_, rfl⟩
  · exact ⟨_, rfl⟩

end Sys2Proof.Machine
end

section
/-!
PREPARE, COMMIT and ABORT of an impedance plan (R103, R104, R106).
-/
namespace Sys2Proof.Machine

/-! ### What PREPARE shows and judges -/

/-- IMP_NEED shows the duration of a plan in range (R100). -/
def needShown (s : State) : State :=
  if s.impRegs.inRange then s.setPair Reg.IMP_NEED_LO Reg.IMP_NEED_HI (s.impRegs.need % 2 ^ 32) else s

/-- The temperature table in use is not strictly monotone (R114). -/
def State.tableBad (s : State) : Bool := s.fld Fld.IMP_TEMP_CFG_NENTM1 != 0 && !strictlyMonotone s.impKeys

/-- Every estimate reads 0x8000. -/
def estimatesVoid (s : State) : State := s.forEach (List.range 24) fun s k => s.setReg (Reg.IMP_TEMP k) 0x8000

/-- TBL_BAD says whether the temperature table is bad, and with a bad one every estimate reads 0x8000 (R114). -/
def tableJudged (s : State) : State := (s.setFlag Fld.IMP_STATUS_TBL_BAD s.tableBad).when s.tableBad estimatesVoid

/-- The first cause that applies, by its code (R103). -/
def prepareError (s : State) : Nat :=
  if s.impRegs.inRange = false then 1
  else if roundLongEnough s.impRegs.round s.tb.period s.impRegs.need = false then 2
  else if s.impMode = false ∨ s.impState = impRunning then 3
  else if s.impRegs.mask % 2 ^ s.cells = 0 then 4
  else 0

/-- The registers shown, the first cause in PREP_ERR. -/
def prepareJudged (s : State) : State := (tableJudged (needShown s)).setFld Fld.IMP_STATUS_PREP_ERR (prepareError s)

/-- The plan is staged. -/
def planStaged (s : State) (p : ImpPlan) : State :=
  { s with imp := { s.imp with plan := some p, begun := false } }.setFld Fld.IMP_STATUS_STATE impPrepared

/-- `t` differs from `s` in the registers alone. -/
def RegsOnly (s t : State) : Prop := ∃ r, t = { s with regs := r }

theorem RegsOnly.refl (s : State) : RegsOnly s s := ⟨s.regs, rfl⟩

theorem RegsOnly.trans {s t u : State} (h : RegsOnly s t) (k : RegsOnly t u) : RegsOnly s u := by
  obtain ⟨_, rfl⟩ := h
  obtain ⟨r, rfl⟩ := k
  exact ⟨r, rfl⟩

theorem RegsOnly.setReg {s t : State} (h : RegsOnly s t) (a : Nat) (v : Half) : RegsOnly s (t.setReg a v) := h.trans ⟨_, rfl⟩

theorem needShown_regsOnly (s : State) : RegsOnly s (needShown s) := by
  unfold needShown
  split
  · exact ⟨_, rfl⟩
  · exact .refl s

theorem estimatesVoid_regsOnly (s : State) : RegsOnly s (estimatesVoid s) :=
  forEach_rel RegsOnly.refl RegsOnly.trans (fun _ s => (RegsOnly.refl s).setReg _ _) _ s

theorem tableJudged_regsOnly (s : State) : RegsOnly s (tableJudged s) := by
  have marked : RegsOnly s (s.setFlag Fld.IMP_STATUS_TBL_BAD s.tableBad) := ⟨_, rfl⟩
  unfold tableJudged State.when
  split
  · exact marked.trans (estimatesVoid_regsOnly _)
  · exact marked

theorem prepareJudged_regsOnly (s : State) : RegsOnly s (prepareJudged s) :=
  ((needShown_regsOnly s).trans (tableJudged_regsOnly _)).setReg _ _

/-! ### What these registers leave of others -/

/-- A register below the estimates beside NEED and the status. -/
def besidePrepare (a : Nat) : Bool :=
  decide (a < Reg.IMP_TEMP 0) && a != Reg.IMP_STATUS && a != Reg.IMP_NEED_LO && a != Reg.IMP_NEED_HI

theorem needShown_reg (s : State) {a : Nat} (h1 : a ≠ Reg.IMP_NEED_LO) (h2 : a ≠ Reg.IMP_NEED_HI) :
    (needShown s).reg a = s.reg a := by
  unfold needShown
  split
  · exact (reg_setRegN_ne _ _ h2).trans (reg_setRegN_ne _ _ h1)
  · rfl

theorem estimatesVoid_reg (s : State) {a : Nat} (h : a < Reg.IMP_TEMP 0) : (estimatesVoid s).reg a = s.reg a :=
  forEach_keeps (fun s => s.reg a) (fun k _ s => reg_setReg_ne s _ (by simp only [Reg.IMP_TEMP] at h ⊢; omega)) s

theorem tableJudged_reg (s : State) {a : Nat} (h : a < Reg.IMP_TEMP 0) :
    (tableJudged s).reg a = (s.setFlag Fld.IMP_STATUS_TBL_BAD s.tableBad).reg a := by
  unfold tableJudged State.when
  split
  · exact estimatesVoid_reg _ h
  · rfl

theorem prepareShown_reg (s : State) {a : Nat} (h : besidePrepare a = true) : (tableJudged (needShown s)).reg a = s.reg a := by
  simp only [besidePrepare, Bool.and_eq_true, bne_iff_ne, decide_eq_true_eq] at h
  obtain ⟨⟨⟨low, status⟩, needLo⟩, needHi⟩ := h
  rw [tableJudged_reg _ low, reg_setFlag_ne _ _ status, needShown_reg s needLo needHi]

/-- A field of IMP_STATUS beside TBL_BAD is as it was until PREP_ERR is written. -/
theorem tableJudged_status (s : State) {f : BitField} (ha : f.addr = Reg.IMP_STATUS) (hf : f.hi < 7 ∨ 7 < f.lo) :
    (tableJudged (needShown s)).fld f = s.fld f := by
  have table := congrArg f.read (tableJudged_reg (needShown s) (a := f.addr) (by rw [ha]; decide))
  have need : (needShown s).fld f = s.fld f :=
    congrArg f.read (needShown_reg s (by rw [ha]; decide) (by rw [ha]; decide))
  exact table.trans ((fld_setFlag_ne _ _ (.inr hf)).trans need)

theorem prepareError_lt (s : State) : prepareError s < 5 := by
  unfold prepareError
  split_ifs <;> decide

theorem prepareJudged_error (s : State) : (prepareJudged s).fld Fld.IMP_STATUS_PREP_ERR = prepareError s :=
  (fld_setFld_same _ _ _ (by decide) (by decide)).trans (Nat.mod_eq_of_lt (Nat.lt_trans (prepareError_lt s) (by decide)))

theorem prepareJudged_state (s : State) : (prepareJudged s).fld Fld.IMP_STATUS_STATE = s.fld Fld.IMP_STATUS_STATE :=
  (fld_setFld_ne _ _ (by decide)).trans (tableJudged_status s rfl (by decide))

theorem prepareJudged_need {s : State} (h : s.impRegs.inRange = true) :
    (prepareJudged s).pair Reg.IMP_NEED_LO Reg.IMP_NEED_HI = s.impRegs.need % 2 ^ 32 := by
  have judged {a : Nat} (low : a < Reg.IMP_TEMP 0) (status : a ≠ Reg.IMP_STATUS) : (prepareJudged s).reg a = (needShown s).reg a := by
    rw [prepareJudged, reg_setFld_ne _ _ status, tableJudged_reg _ low, reg_setFlag_ne _ _ status]
  have shown : needShown s = s.setPair Reg.IMP_NEED_LO Reg.IMP_NEED_HI (s.impRegs.need % 2 ^ 32) := if_pos h
  have lo : (prepareJudged s).regN Reg.IMP_NEED_LO = s.impRegs.need % 2 ^ 32 % 65536 := by
    rw [State.regN, judged (by decide) (by decide), shown, State.setPair, reg_setRegN_ne _ _ (by decide), reg_setRegN_same]
    simp
  have hi : (prepareJudged s).regN Reg.IMP_NEED_HI = s.impRegs.need % 2 ^ 32 / 65536 := by
    rw [State.regN, judged (by decide) (by decide), shown, State.setPair, reg_setRegN_same]
    simp only [BitVec.toNat_ofNat]
    omega
  rw [State.pair, lo, hi]
  omega

/-! ### PREPARE -/

theorem impPrepare_eq (s : State) : impPrepare s =
    if prepareError s = 0 then planStaged (impUnstage (prepareJudged s)) s.impRegs else prepareJudged s := by
  obtain ⟨r, regsOnly⟩ := (needShown_regsOnly s).trans (tableJudged_regsOnly _)
  have state : (tableJudged (needShown s)).impState = s.impState := tableJudged_status s rfl (by decide)
  have cells : (tableJudged (needShown s)).cells = s.cells :=
    congrArg Fld.CELL_MAP_ACTIVE_CELLS.read (prepareShown_reg s (a := Reg.CELL_MAP) (by decide))
  have mode : (tableJudged (needShown s)).impMode = s.impMode := by rw [regsOnly]; rfl
  have tb : (tableJudged (needShown s)).tb = s.tb := by rw [regsOnly]
  unfold impPrepare
  extract_lets p need shown bad judged err
  have shownIs : shown = needShown s := by
    simp only [shown, need, needShown]
    split <;> rfl
  have judgedIs : judged = tableJudged (needShown s) := congrArg tableJudged shownIs
  have errIs : err = prepareError s := by
    simp only [err, judgedIs, mode, state, cells, tb, prepareError, need, p]
    cases s.impRegs.inRange <;> simp
  change (if err = 0 then planStaged (impUnstage (judged.setFld Fld.IMP_STATUS_PREP_ERR err)) s.impRegs
    else judged.setFld Fld.IMP_STATUS_PREP_ERR err) = _
  rw [errIs, judgedIs]
  rfl

theorem impMode_iff (s : State) :
    s.impMode = true ↔ s.mode = .active ∨ s.mode = .balance ∨ (s.mode = .spectrum ∧ s.imp.ended = true) := by
  simp [State.impMode, or_assoc]

/-- A refused PREPARE shows its cause; plan, STATE and mode stay. -/
theorem impPrepare_refuses {s : State} {code : Nat} (h : prepareError s = code) (hc : code ≠ 0) : Completes .impPrepare s fun t =>
    t.fld Fld.IMP_STATUS_PREP_ERR = code ∧ t.imp.plan = s.imp.plan ∧
    t.fld Fld.IMP_STATUS_STATE = s.fld Fld.IMP_STATUS_STATE ∧ t.mode = s.mode := by
  have eq : impPrepare s = prepareJudged s := (impPrepare_eq s).trans (if_neg (h ▸ hc))
  obtain ⟨r, regsOnly⟩ := prepareJudged_regsOnly s
  refine ⟨settle (impPrepare s), rfl, ?_, ?_, ?_, ?_⟩
  · rw [eq, settle_status _ (by decide), prepareJudged_error, h]
  · rw [eq, settle_impPlan, regsOnly]
  · rw [eq, settle_status _ (by decide), prepareJudged_state]
  · rw [eq, settle_mode, regsOnly]

/-- PREPARE with no cause to refuse stages the plan the registers hold. -/
theorem impPrepare_stages {s : State} (h : prepareError s = 0) (hr : s.impRegs.inRange = true) : Completes .impPrepare s fun t =>
    t.fld Fld.IMP_STATUS_STATE = 1 ∧ t.fld Fld.IMP_STATUS_PREP_ERR = 0 ∧ t.imp.plan = some s.impRegs ∧
    t.pair Reg.IMP_NEED_LO Reg.IMP_NEED_HI = s.impRegs.need % 2 ^ 32 ∧ t.mode = s.mode := by
  obtain ⟨x, unstaged⟩ := impUnstage_txn (prepareJudged s)
  have eq : impPrepare s = planStaged { prepareJudged s with txn := x } s.impRegs := by
    rw [impPrepare_eq s, if_pos h, unstaged]
  obtain ⟨r, regsOnly⟩ := prepareJudged_regsOnly s
  have regs {a : Nat} (ha : a ∉ levelRegs) : (settle (impPrepare s)).reg a = (prepareJudged s).reg a := by
    rw [settle_reg _ _ ha, eq, planStaged, reg_setFld_ne _ _ (by rintro rfl; exact ha (by decide))]
    rfl
  refine ⟨settle (impPrepare s), rfl, ?_, ?_, ?_, ?_, ?_⟩
  · rw [eq, settle_status _ (by decide)]
    exact fld_setFld_same _ _ _ (by decide) (by decide)
  · rw [eq, settle_status _ (by decide), ← h, ← prepareJudged_error s]
    exact fld_setFld_ne _ _ (by decide)
  · rw [eq, settle_impPlan]
    rfl
  · rw [← prepareJudged_need hr]
    simp only [State.pair, State.regN]
    rw [regs (by decide), regs (by decide)]
  · rw [eq, settle_mode, planStaged, setFld_mode, regsOnly]

/-! ### COMMIT -/

theorem impCommit_of_no_plan {s : State} (h : s.imp.plan = none) : impCommit s = s := by
  unfold impCommit
  rw [h]

theorem impCommit_of_not_prepared {s : State} (h : s.impState ≠ impPrepared) : impCommit s = s := by
  unfold impCommit
  split
  · rfl
  · exact if_pos h

theorem impCommit_late {s : State} {p : ImpPlan} (hp : s.imp.plan = some p) (hs : s.impState = impPrepared)
    (late : p.start * 65536 < s.tb.value) : Completes .impCommit s fun t =>
    t.fld Fld.IMP_STATUS_STATE = 1 ∧ t.fld Fld.IMP_STATUS_PREP_ERR = 5 ∧ t.imp.plan = some p := by
  have eq : impCommit s = s.setFld Fld.IMP_STATUS_PREP_ERR 5 := by
    simp only [impCommit, hp, hs, ne_eq, not_true_eq_false, if_false, late, if_true]
  refine ⟨settle (impCommit s), rfl, ?_, ?_, ?_⟩
  · rw [eq, settle_status _ (by decide), fld_setFld_ne _ _ (by decide)]
    exact hs
  · rw [eq, settle_status _ (by decide)]
    exact fld_setFld_same _ _ _ (by decide) (by decide)
  · rw [eq, settle_impPlan]
    exact hp

/-- The records cleared, the plan counted, and round 0 awaited (R104). -/
def planCounted (s : State) : State :=
  let s := s.incWrap Reg.IMP_PLAN_SEQ
  { s with imp := { s.imp with
      begun := false, next := 0, inRound := false, inPoint := false, corr := [], records := [], recSeq := s.regN Reg.IMP_PLAN_SEQ } }

/-- IMP_STATUS of a plan that runs from now on (R104). -/
def statusRunning (s : State) : State :=
  (((((s.setFld Fld.IMP_STATUS_PREP_ERR 0).setFlag Fld.IMP_STATUS_DONE false).setFlag Fld.IMP_STATUS_ABORTED false).setFlag
    Fld.IMP_STATUS_CUT false).setFlag Fld.IMP_STATUS_FREERUN false).setFld Fld.IMP_STATUS_STATE impRunning

theorem statusRunning_shows (s : State) : (statusRunning s).fld Fld.IMP_STATUS_STATE = 2 ∧
    (statusRunning s).fld Fld.IMP_STATUS_PREP_ERR = 0 ∧ (statusRunning s).flag Fld.IMP_STATUS_DONE = false ∧
    (statusRunning s).flag Fld.IMP_STATUS_ABORTED = false := by
  unfold statusRunning
  refine ⟨fld_setFld_same _ _ _ (by decide) (by decide), ?_, ?_, ?_⟩
  · rw [fld_setFld_ne _ _ (by decide), fld_setFlag_ne _ _ (by decide), fld_setFlag_ne _ _ (by decide),
      fld_setFlag_ne _ _ (by decide), fld_setFlag_ne _ _ (by decide)]
    exact fld_setFld_same _ _ _ (by decide) (by decide)
  · rw [flag_setFld_ne _ _ (by decide), flag_setFlag_ne _ _ (by decide), flag_setFlag_ne _ _ (by decide),
      flag_setFlag_ne _ _ (by decide)]
    exact flag_setFlag_same _ _ _ (by decide) (by decide)
  · rw [flag_setFld_ne _ _ (by decide), flag_setFlag_ne _ _ (by decide), flag_setFlag_ne _ _ (by decide)]
    exact flag_setFlag_same _ _ _ (by decide) (by decide)

theorem statusRunning_reg (s : State) {a : Nat} (h : a ≠ Reg.IMP_STATUS) : (statusRunning s).reg a = s.reg a := by
  unfold statusRunning
  rw [reg_setFld_ne _ _ h, reg_setFlag_ne _ _ h, reg_setFlag_ne _ _ h, reg_setFlag_ne _ _ h, reg_setFlag_ne _ _ h,
    reg_setFld_ne _ _ h]

theorem impCommit_runs {s : State} {p : ImpPlan} (hp : s.imp.plan = some p) (hs : s.impState = impPrepared)
    (early : s.tb.value ≤ p.start * 65536) : Completes .impCommit s fun t =>
    t.fld Fld.IMP_STATUS_STATE = 2 ∧ t.fld Fld.IMP_STATUS_PREP_ERR = 0 ∧ t.flag Fld.IMP_STATUS_DONE = false ∧
    t.flag Fld.IMP_STATUS_ABORTED = false ∧ t.imp.records = [] ∧ t.imp.next = 0 ∧ t.imp.plan = some p ∧
    t.regN Reg.IMP_PLAN_SEQ = (s.regN Reg.IMP_PLAN_SEQ + 1) % 65536 := by
  obtain ⟨x, unstaged⟩ := impUnstage_txn s
  have eq : impCommit s = statusRunning (planCounted { s with txn := x }) := by
    rw [← unstaged]
    simp only [impCommit, hp, hs, ne_eq, not_true_eq_false, if_false, Nat.not_lt.mpr early]
    rfl
  obtain ⟨state, err, finished, aborted⟩ := statusRunning_shows (planCounted { s with txn := x })
  obtain ⟨b, imp⟩ := settle_imp (impCommit s)
  rw [eq] at imp
  have seq : (planCounted { s with txn := x }).regN Reg.IMP_PLAN_SEQ = (s.regN Reg.IMP_PLAN_SEQ + 1) % 65536 := by
    change ((s.setRegN Reg.IMP_PLAN_SEQ ((s.regN Reg.IMP_PLAN_SEQ + 1) % 65536)).reg Reg.IMP_PLAN_SEQ).toNat = _
    rw [reg_setRegN_same]
    simp
  refine ⟨settle (impCommit s), rfl, ?_⟩
  rw [eq]
  refine ⟨(settle_status _ (by decide)).trans state, (settle_status _ (by decide)).trans err,
    (settle_statusFlag _ (by decide)).trans finished, (settle_statusFlag _ (by decide)).trans aborted, ?_, ?_, ?_, ?_⟩
  · rw [imp]; rfl
  · rw [imp]; rfl
  · rw [imp]; exact hp
  · rw [← seq, State.regN, settle_reg _ _ (by decide), statusRunning_reg _ (by decide)]
    rfl

/-! ### ABORT -/

/-- The point in progress is marked ABORTED, and the node is to leave SPECTRUM (R106). -/
def planBroken (s : State) (p : ImpPlan) : State :=
  let s := if s.imp.inPoint then markUnfinished s p recAborted false else s
  { s with imp := { s.imp with leaving := true } }

theorem impAbort_of_no_plan {s : State} (h : s.imp.plan = none) : impAbort s = s := by
  unfold impAbort
  rw [h]

theorem impAbort_eq {s : State} {p : ImpPlan} (hp : s.imp.plan = some p) : impAbort s =
    if s.imp.begun && s.impState == impRunning then
      (impIdleNow (planBroken (impUnstage s) p)).setFlag Fld.IMP_STATUS_ABORTED true
    else impIdleNow (impUnstage s) := by
  obtain ⟨x, unstaged⟩ := impUnstage_txn s
  unfold impAbort
  rw [hp]
  dsimp only
  rw [unstaged]
  rfl

theorem impIdleNow_state (s : State) : (impIdleNow s).fld Fld.IMP_STATUS_STATE = 0 :=
  fld_setFld_same _ _ _ (by decide) (by decide)

/-- The unit is idle without a plan. -/
def UnitIdle (t : State) : Prop :=
  t.imp.plan = none ∧ t.imp.corr = [] ∧ t.imp.inRound = false ∧ t.fld Fld.IMP_STATUS_STATE = 0

theorem unitIdle_settle {s : State} (h : UnitIdle s) : UnitIdle (settle s) := by
  obtain ⟨plan, corr, inRound, state⟩ := h
  obtain ⟨b, imp⟩ := settle_imp s
  refine ⟨?_, ?_, ?_, (settle_status s (by decide)).trans state⟩
  · rw [imp]; exact plan
  · rw [imp]; exact corr
  · rw [imp]; exact inRound

theorem impIdleNow_idle (s : State) : UnitIdle (impIdleNow s) := ⟨rfl, rfl, rfl, impIdleNow_state s⟩

theorem impIdleNow_aborted_idle (s : State) : UnitIdle ((impIdleNow s).setFlag Fld.IMP_STATUS_ABORTED true) :=
  ⟨rfl, rfl, rfl, (fld_setFlag_ne _ _ (by decide)).trans (impIdleNow_state s)⟩

theorem impAbort_idles {s : State} {p : ImpPlan} (hp : s.imp.plan = some p) : Completes .impAbort s fun t =>
    t.imp.plan = none ∧ t.imp.corr = [] ∧ t.imp.inRound = false ∧ t.fld Fld.IMP_STATUS_STATE = 0 ∧
    (s.imp.begun = true → s.impState = impRunning → t.flag Fld.IMP_STATUS_ABORTED = true ∧ t.imp.leaving = true) := by
  have idle : UnitIdle (impAbort s) := by
    rw [impAbort_eq hp]
    split
    · exact impIdleNow_aborted_idle _
    · exact impIdleNow_idle _
  obtain ⟨plan, corr, inRound, state⟩ := unitIdle_settle idle
  refine ⟨settle (impAbort s), rfl, plan, corr, inRound, state, fun begun running => ?_⟩
  have eq : impAbort s = (impIdleNow (planBroken (impUnstage s) p)).setFlag Fld.IMP_STATUS_ABORTED true :=
    (impAbort_eq hp).trans (if_pos (by simp [begun, running]))
  obtain ⟨b, imp⟩ := settle_imp (impAbort s)
  refine ⟨?_, ?_⟩
  · rw [eq, settle_statusFlag _ (by decide)]
    exact flag_setFlag_same _ _ _ (by decide) (by decide)
  · rw [imp, eq]
    rfl

/-! ### The obligation -/

/-- Settles O24: PREPARE stages the plan or shows the first cause of `prepareError`, which are the table of R103 in its order;
COMMIT and ABORT are followed through the tick that takes them. -/
theorem impedancePlanCommands : Obligations.ImpedancePlanCommands := by
  intro s
  refine ⟨fun hr long takes idle cell => ?_, fun hr long => ⟨fun h => ?_, fun takes idle cell => ?_⟩, fun hr => ?_,
    fun hr short => ?_, fun none => ⟨?_, ?_⟩, fun h => ?_, fun p hp hs early => impCommit_runs hp hs early,
    fun p hp hs late => impCommit_late hp hs late, fun p hp => impAbort_idles hp⟩
  · exact impPrepare_stages (by simp [prepareError, hr, long, (impMode_iff s).mpr takes, idle, cell]) hr
  · have unfit : s.impMode = false ∨ s.impState = impRunning := by simpa [← impMode_iff] using h
    exact impPrepare_refuses (by simp [prepareError, hr, long, unfit]) (by decide)
  · exact impPrepare_refuses (by simp [prepareError, hr, long, (impMode_iff s).mpr takes, idle, cell]) (by decide)
  · exact impPrepare_refuses (by simp [prepareError, hr]) (by decide)
  · exact impPrepare_refuses (by simp [prepareError, hr, short]) (by decide)
  · exact congrArg (fun t => Host.Outcome.next (settle t)) (impCommit_of_no_plan none)
  · exact congrArg (fun t => Host.Outcome.next (settle t)) (impAbort_of_no_plan none)
  · exact congrArg (fun t => Host.Outcome.next (settle t)) (impCommit_of_not_prepared h)

end Sys2Proof.Machine
end

section
/-!
Where a round that excites no cell begins (R99): the mark of an integration in progress is left as it stood.
-/
namespace Sys2Proof.Machine

/-- A round without a cell starts no point, so nothing gives the mark of an integration in progress a new value. -/
theorem startRound_without_cells {s : State} {p : ImpPlan} (h : (List.range 4).filterMap (s.roundCell p s.imp.next) = []) :
    (startRound s p).imp.integrating = s.imp.integrating := by
  unfold startRound
  extract_lets r cells begun shown pointed
  rw [if_pos (show cells.isEmpty = true from List.isEmpty_iff.mpr h)]
  rfl

theorem settle_integrating (s : State) : (settle s).imp.integrating = s.imp.integrating := by
  obtain ⟨b, imp⟩ := settle_imp s
  rw [imp]

theorem impRoundStart_due {s : State} {p : ImpPlan} (hp : s.imp.plan = some p) (due : s.roundDue p = true) (later : s.imp.next ≠ 0) :
    exec .impRoundStart s = .next (settle (startRound s p)) := by
  change execImpRoundStart s = _
  simp only [execImpRoundStart, hp, due, later, Bool.not_true, Bool.false_eq_true, if_false]
  rfl

/-- A plan of one point in one slot, of no cell, whose round 1 begins with the cycle count 1. -/
def planOfNoCell : ImpPlan := { ctl := 0, plan := 0x1040, fstart := 100, tmin := 200, mask := 0, start := 0, round := 1 }

/-- In SPECTRUM, between round 0 and round 1 of that plan, in the tick of the cycle count 1, with an integration marked in
progress although no point is. -/
def integratesBetweenRounds : State :=
  { State.reset with
    mode := .spectrum, tb := { State.reset.tb with cycle := 1 }
    imp := { State.reset.imp with plan := some planOfNoCell, begun := true, next := 1, integrating := true }
  }.setFld Fld.IMP_STATUS_STATE impRunning

theorem integratesBetweenRounds_due : integratesBetweenRounds.roundDue planOfNoCell = true := by decide

theorem integratesBetweenRounds_excites_none :
    (List.range 4).filterMap (integratesBetweenRounds.roundCell planOfNoCell integratesBetweenRounds.imp.next) = [] := by decide

/-- Refutes O25: the statement is for every state, and where a round that excites no cell begins it says that no integration is
in progress. From `integratesBetweenRounds` the tick begins round 1, starts no point, and leaves the mark of the integration
set. The commands that end a point, a round or a plan clear that mark, so the state is not one they leave: the clause wants the
premise that no integration is in progress between rounds. -/
theorem not_impedanceRounds : ¬ Obligations.ImpedanceRounds := by
  intro h
  obtain ⟨begins, -⟩ := h.2 integratesBetweenRounds planOfNoCell rfl
  obtain ⟨t, next, -, -, -, -, -, -, -, idle, -⟩ := begins (by decide) rfl (by decide) (by decide) (by decide)
    (.inr (.inr rfl)) (by decide)
  have same : settle (startRound integratesBetweenRounds planOfNoCell) = t :=
    Host.Outcome.next.inj ((impRoundStart_due rfl integratesBetweenRounds_due (by decide)).symm.trans next)
  rw [← same, settle_integrating, startRound_without_cells integratesBetweenRounds_excites_none] at idle
  exact absurd idle (by decide)

end Sys2Proof.Machine
end

section
/-!
What PREPARE, COMMIT, CANCEL and STOP of the balancer's plan leave (R137, R138).
-/
namespace Sys2Proof.Machine

/-! ### The first cause of a refusal (R137) -/

/-- Every setpoint of a plan lies within IMAX, no direction is reserved and no inactive cell asks. -/
def PlanFits (s : State) (p : Plan) : Prop :=
  ∀ k, k < 24 → spSet (p.sp.getD k 0) ≤ s.fld Fld.BAL_IMAX_IMAX ∧ spDir (p.sp.getD k 0) ≠ 3 ∧
    (spDir (p.sp.getD k 0) ≠ 0 → k < s.cells)

/-- A plan can be prepared in the present mode. -/
def PlanMayRun (s : State) : Prop := (s.mode = .active ∨ s.mode = .balance) ∧ s.flag Fld.BAL_CTL_EN = true

/-- No group that a plan uses is locked out. -/
def PlanUnlocked (s : State) (p : Plan) : Prop := ∀ k, k < 24 → spDir (p.sp.getD k 0) ≠ 0 → s.locked (k / 6) = false

/-- Some cell of a plan asks. -/
def PlanAsks (p : Plan) : Prop := ∃ k, k < 24 ∧ spDir (p.sp.getD k 0) ≠ 0

theorem planFits_iff (s : State) (p : Plan) :
    ((List.range 24).any fun k => decide (s.fld Fld.BAL_IMAX_IMAX < spSet (p.sp.getD k 0)) || spDir (p.sp.getD k 0) == 3 ||
      (spDir (p.sp.getD k 0) != 0 && decide (s.cells ≤ k))) = false ↔ PlanFits s p := by
  simp only [List.any_eq_false, List.mem_range, PlanFits]
  refine forall₂_congr fun k _ => ?_
  simp only [Bool.or_eq_true, Bool.and_eq_true, decide_eq_true_eq, beq_iff_eq, bne_iff_ne, not_or, not_and, not_lt, not_le, and_assoc]

theorem planMayRun_iff (s : State) :
    (!(s.mode == .active || s.mode == .balance) || !s.flag Fld.BAL_CTL_EN) = false ↔ PlanMayRun s := by
  simp only [PlanMayRun, Bool.or_eq_false_iff, Bool.not_eq_false', Bool.or_eq_true, beq_iff_eq]

theorem planUnlocked_iff (s : State) (p : Plan) :
    ((List.range 24).any fun k => spDir (p.sp.getD k 0) != 0 && s.locked (balGroup k)) = false ↔ PlanUnlocked s p := by
  simp only [List.any_eq_false, List.mem_range, PlanUnlocked]
  refine forall₂_congr fun k _ => ?_
  simp [balGroup]

theorem planAsks_iff (p : Plan) : (List.range 24).any (fun k => spDir (p.sp.getD k 0) != 0) = true ↔ PlanAsks p := by
  simp [PlanAsks]

variable {s : State} {p : Plan} {byChain : Bool}

theorem balPrepareError_misfit (h : ¬ PlanFits s p) : s.balPrepareError p byChain = 1 := by
  rw [← planFits_iff, Bool.not_eq_false] at h
  exact if_pos h

theorem balPrepareError_mode (fits : PlanFits s p) (h : ¬ PlanMayRun s) : s.balPrepareError p byChain = 2 := by
  rw [← planMayRun_iff, Bool.not_eq_false] at h
  exact (if_neg (Bool.eq_false_iff.mp ((planFits_iff s p).mpr fits))).trans (if_pos h)

theorem balPrepareError_locked (fits : PlanFits s p) (may : PlanMayRun s) (h : ¬ PlanUnlocked s p) :
    s.balPrepareError p byChain = 3 := by
  rw [← planUnlocked_iff, Bool.not_eq_false] at h
  exact ((if_neg (Bool.eq_false_iff.mp ((planFits_iff s p).mpr fits))).trans
    (if_neg (Bool.eq_false_iff.mp ((planMayRun_iff s).mpr may)))).trans (if_pos h)

/-- The last two causes, where no earlier one applies. -/
theorem balPrepareError_unlocked (fits : PlanFits s p) (may : PlanMayRun s) (free : PlanUnlocked s p) :
    s.balPrepareError p byChain = if !(List.range 24).any fun k => spDir (p.sp.getD k 0) != 0 then 4
      else if !byChain && s.balStage != stageNone && s.chainHolds then 6 else 0 :=
  ((if_neg (Bool.eq_false_iff.mp ((planFits_iff s p).mpr fits))).trans
    (if_neg (Bool.eq_false_iff.mp ((planMayRun_iff s).mpr may)))).trans
    (if_neg (Bool.eq_false_iff.mp ((planUnlocked_iff s p).mpr free)))

theorem balPrepareError_idle (fits : PlanFits s p) (may : PlanMayRun s) (h : ¬ PlanAsks p) :
    s.balPrepareError p byChain = 4 := by
  have free : PlanUnlocked s p := fun k hk asks => absurd ⟨k, hk, asks⟩ h
  rw [← planAsks_iff, Bool.not_eq_true] at h
  rw [balPrepareError_unlocked fits may free, h]
  rfl

theorem BalancePlanAllowed.error (h : BalancePlanAllowed s) : s.balPrepareError s.planRegs byChain =
    if !byChain && s.balStage != stageNone && s.chainHolds then 6 else 0 := by
  rw [balPrepareError_unlocked h.cells ⟨h.mode, h.enabled⟩ h.groups, (planAsks_iff _).mpr h.asks]
  rfl

theorem balPrepareError_lt (s : State) (p : Plan) (byChain : Bool) : s.balPrepareError p byChain < 8 := by
  unfold State.balPrepareError
  extract_lets cells asks
  split_ifs <;> decide

/-! ### Steps of the plans -/

/-- The register lies outside those of the impedance unit and the balancer, 0x0900 to 0x0AFF. -/
def besidePlans (a : Nat) : Bool := decide (a < 0x0900) || decide (0x0B00 ≤ a)

/-- `t` differs from `s` at most in the balancer, the impedance unit, the stages of transactions, draws, and the registers of the
two units. -/
structure PlansOnly (s t : State) : Prop where
  frame : ∃ n b i x r, t = { s with freeCtr := n, bal := b, imp := i, txn := x, regs := r }
  reg : ∀ a, besidePlans a = true → t.reg a = s.reg a

namespace PlansOnly

variable {s t u : State}

theorem refl (s : State) : PlansOnly s s := ⟨⟨_, _, _, _, _, rfl⟩, fun _ _ => rfl⟩

theorem trans (h : PlansOnly s t) (k : PlansOnly t u) : PlansOnly s u := by
  refine ⟨?_, fun a ha => (k.reg a ha).trans (h.reg a ha)⟩
  obtain ⟨_, _, _, _, _, first⟩ := h.frame
  obtain ⟨_, _, _, _, _, second⟩ := k.frame
  exact ⟨_, _, _, _, _, by rw [second, first]⟩

/-- Whatever is updated of the units beside their registers. -/
theorem of_update {n : Nat} {b : Bal} {i : Imp} {x : Sparse (Option TxnStage)} :
    PlansOnly s { s with freeCtr := n, bal := b, imp := i, txn := x } := ⟨⟨_, _, _, _, _, rfl⟩, fun _ _ => rfl⟩

theorem setReg (h : PlansOnly s t) {a : Nat} (v : Half) (ha : besidePlans a = false) : PlansOnly s (t.setReg a v) :=
  h.trans ⟨⟨_, _, _, _, _, rfl⟩, fun b hb => reg_setReg_ne _ _ (by rintro rfl; rw [ha] at hb; exact Bool.noConfusion hb)⟩

theorem setRegN (h : PlansOnly s t) {a : Nat} (n : Nat) (ha : besidePlans a = false) : PlansOnly s (t.setRegN a n) := h.setReg _ ha

theorem setFld (h : PlansOnly s t) {f : BitField} (n : Nat) (hf : besidePlans f.addr = false) : PlansOnly s (t.setFld f n) :=
  h.setReg _ hf

theorem setFlag (h : PlansOnly s t) {f : BitField} (c : Bool) (hf : besidePlans f.addr = false) : PlansOnly s (t.setFlag f c) :=
  h.setReg _ hf

theorem ite {c : Prop} [Decidable c] (h : PlansOnly s t) (k : PlansOnly s u) : PlansOnly s (if c then t else u) := by
  split
  · exact h
  · exact k

theorem forEach {α : Type} {f : State → α → State} (h : ∀ a s, PlansOnly s (f s a)) (l : List α) (s : State) :
    PlansOnly s (s.forEach l f) := forEach_rel refl trans h l s

theorem mode (h : PlansOnly s t) : t.mode = s.mode := by
  obtain ⟨_, _, _, _, _, rfl⟩ := h.frame
  rfl

theorem link (h : PlansOnly s t) : t.link = s.link := by
  obtain ⟨_, _, _, _, _, rfl⟩ := h.frame
  rfl

theorem eng (h : PlansOnly s t) (e : Engine) : t.eng e = s.eng e := by
  obtain ⟨_, _, _, _, _, rfl⟩ := h.frame
  cases e <;> rfl

theorem flag (h : PlansOnly s t) {f : BitField} (hf : besidePlans f.addr = true) : t.flag f = s.flag f := by
  rw [State.flag, State.fld, h.reg _ hf]
  rfl

end PlansOnly

/-! ### PREPARE -/

/-- The shadow is dropped, the stage is `staged`, and PLAN_ERR shows a cause or 0. -/
def planJudged (s : State) (staged : Option Plan) (err : Nat) : State :=
  ({ s with bal := { s.bal with shadow := none, staged := staged } }.setFlag Fld.BAL_STATUS_SHADOW false).setFld
    Fld.BAL_STATUS_PLAN_ERR err

theorem balPrepare_eq (s : State) (byChain : Bool) : balPrepare s byChain =
    if s.balPrepareError s.planRegs byChain = 0 then
      (planJudged s (some s.planRegs) 0).setFld Fld.BAL_STATUS_STAGE stagePrepared
    else planJudged s s.bal.staged (s.balPrepareError s.planRegs byChain) := by
  unfold balPrepare
  extract_lets p err dropped judged
  split
  · next h =>
    simp only [judged, h]
    rfl
  · rfl

theorem planJudged_plansOnly (s : State) (staged : Option Plan) (err : Nat) : PlansOnly s (planJudged s staged err) :=
  (PlansOnly.of_update.setFlag _ (by decide)).setFld _ (by decide)

theorem balPrepare_plansOnly (s : State) (byChain : Bool) : PlansOnly s (balPrepare s byChain) := by
  rw [balPrepare_eq]
  exact .ite ((planJudged_plansOnly ..).setFld _ (by decide)) (planJudged_plansOnly ..)

/-- What a PREPARE judged with `err` shows and holds. -/
structure PlanJudged (s t : State) (err : Nat) : Prop where
  error : t.fld Fld.BAL_STATUS_PLAN_ERR = err
  stage : t.fld Fld.BAL_STATUS_STAGE = if err = 0 then 1 else s.fld Fld.BAL_STATUS_STAGE
  shadow : t.flag Fld.BAL_STATUS_SHADOW = false
  bal : t.bal = { s.bal with shadow := none, staged := if err = 0 then some s.planRegs else s.bal.staged }
  txn : t.txn = s.txn
  imp : t.imp = s.imp

theorem balPrepare_judged (s : State) (byChain : Bool) :
    PlanJudged s (balPrepare s byChain) (s.balPrepareError s.planRegs byChain) := by
  have error (x : Option Plan) {n : Nat} (hn : n < 8) : (planJudged s x n).fld Fld.BAL_STATUS_PLAN_ERR = n :=
    (fld_setFld_same _ _ _ (by decide) (by decide)).trans (Nat.mod_eq_of_lt hn)
  have shadow (x : Option Plan) (n : Nat) : (planJudged s x n).flag Fld.BAL_STATUS_SHADOW = false :=
    (flag_setFld_ne _ _ (by decide)).trans (flag_setFlag_same _ _ _ (by decide) (by decide))
  have stage (x : Option Plan) (n : Nat) : (planJudged s x n).fld Fld.BAL_STATUS_STAGE = s.fld Fld.BAL_STATUS_STAGE :=
    (fld_setFld_ne _ _ (by decide)).trans (fld_setFlag_ne _ _ (by decide))
  rw [balPrepare_eq]
  split
  · next h =>
    rw [h]
    refine ⟨(fld_setFld_ne _ _ (by decide)).trans (error _ (by decide)), ?_,
      (flag_setFld_ne _ _ (by decide)).trans (shadow ..), rfl, rfl, rfl⟩
    exact fld_setFld_same _ Fld.BAL_STATUS_STAGE stagePrepared (by decide) (by decide)
  · next h => exact ⟨error _ (balPrepareError_lt ..), (stage ..).trans (if_neg h).symm, shadow .., by rw [if_neg h]; rfl, rfl, rfl⟩

/-! ### COMMIT and CANCEL -/

/-- The stage is committed for the next sweep, the transaction `x` of the chain aside. -/
def stageCommits (s : State) (x : Sparse (Option TxnStage)) : State :=
  ({ s with txn := x }.setFld Fld.BAL_STATUS_STAGE stageCommitted).setRegN Reg.BAL_ACT ((s.regN Reg.SWEEP_NUM + 1) % 65536)

theorem balCommit_of_prepared {s : State} (h : s.balStage = stagePrepared) : ∃ x, balCommit s = stageCommits s x := by
  have act (x : Sparse (Option TxnStage)) :
      ({ s with txn := x }.setFld Fld.BAL_STATUS_STAGE stageCommitted).regN Reg.SWEEP_NUM = s.regN Reg.SWEEP_NUM :=
    congrArg BitVec.toNat (reg_setFld_ne _ _ (by decide))
  unfold balCommit
  rw [if_pos h]
  extract_lets held
  by_cases hc : s.chainHolds = true
  · have : held = { s with txn := sparseSet s.txn none 1 none } := if_pos hc
    exact ⟨_, by rw [this]; rfl⟩
  · have : held = s := if_neg hc
    exact ⟨s.txn, by rw [this]; rfl⟩

theorem balCommit_of_not_prepared {s : State} (h : s.balStage ≠ stagePrepared) : balCommit s = s := if_neg h

theorem balCancel_of_none {s : State} (h : s.balStage = stageNone) : balCancel s = s := if_pos h

theorem balCancel_of_stage {s : State} (h : s.balStage ≠ stageNone) :
    balCancel s = (balClearStage s).setFlag Fld.BAL_STATUS_CANCELLED true := if_neg h

theorem balClearStage_stage (s : State) : (balClearStage s).fld Fld.BAL_STATUS_STAGE = 0 :=
  fld_setFld_same _ _ _ (by decide) (by decide)

theorem balClearStage_txn (s : State) : sparseGet (balClearStage s).txn none 1 = none :=
  sparseGet_set_same s.txn none 1 none

theorem balClearStage_plansOnly (s : State) : PlansOnly s (balClearStage s) := PlansOnly.of_update.setFld _ (by decide)

theorem balCommit_plansOnly (s : State) : PlansOnly s (balCommit s) := by
  by_cases h : s.balStage = stagePrepared
  · obtain ⟨x, eq⟩ := balCommit_of_prepared h
    rw [eq]
    exact (PlansOnly.of_update.setFld _ (by decide)).setRegN _ (by decide)
  · rw [balCommit_of_not_prepared h]
    exact .refl s

theorem balCancel_plansOnly (s : State) : PlansOnly s (balCancel s) :=
  .ite (.refl s) ((balClearStage_plansOnly s).setFlag _ (by decide))

/-! ### STOP -/

theorem balStop_of_running {s : State} (h : s.bal.running.isSome = true) :
    balStop s = { s with bal := { s.bal with stopping := true } } := by
  obtain ⟨p, hp⟩ := Option.isSome_iff_exists.mp h
  unfold balStop
  rw [hp]

theorem balStop_of_none {s : State} (h : s.bal.running = none) : balStop s = s := by
  unfold balStop
  rw [h]

/-- STOP marks a running plan and touches nothing else. -/
theorem balStop_marks (s : State) : ∃ b, balStop s = { s with bal := { s.bal with stopping := b } } ∧
    (s.bal.running.isSome = true → b = true) := by
  cases h : s.bal.running with
  | none => exact ⟨s.bal.stopping, balStop_of_none h, fun some => Bool.noConfusion some⟩
  | some p => exact ⟨true, balStop_of_running (by rw [h]; rfl), fun _ => rfl⟩

theorem balStop_plansOnly (s : State) : PlansOnly s (balStop s) := by
  obtain ⟨b, eq, -⟩ := balStop_marks s
  rw [eq]
  exact .of_update

/-! ### The impedance unit's plan -/

theorem roundFree_state (s : State) (a b : Nat) : ∃ n, (s.roundFree a b).2 = { s with freeCtr := n } := by
  unfold State.roundFree
  extract_lets r
  split
  · exact ⟨_, rfl⟩
  · split
    · exact ⟨_, rfl⟩
    · exact ⟨_, rfl⟩

/-- `t` differs from `s` in draws and in records of the impedance unit. -/
def RecordsOnly (s t : State) : Prop := ∃ n l, t = { s with freeCtr := n, imp := { s.imp with records := l } }

theorem RecordsOnly.refl (s : State) : RecordsOnly s s := ⟨_, _, rfl⟩

theorem RecordsOnly.trans {s t u : State} (h : RecordsOnly s t) (k : RecordsOnly t u) : RecordsOnly s u := by
  obtain ⟨_, _, rfl⟩ := h
  obtain ⟨_, _, rfl⟩ := k
  exact ⟨_, _, rfl⟩

theorem RecordsOnly.ite {c : Prop} [Decidable c] {s t u : State} (h : RecordsOnly s t) (k : RecordsOnly s u) :
    RecordsOnly s (if c then t else u) := by
  split
  · exact h
  · exact k

theorem RecordsOnly.forEach {α : Type} {f : State → α → State} (h : ∀ a s, RecordsOnly s (f s a)) (l : List α) (s : State) :
    RecordsOnly s (s.forEach l f) := forEach_rel .refl .trans h l s

theorem writeRecord_recordsOnly (s : State) (p : ImpPlan) (cell point status cycles : Nat) (re im : Int) :
    RecordsOnly s (writeRecord s p cell point status cycles re im) := by
  obtain ⟨n, rounded⟩ := roundFree_state s (p.fw point * 2500000000000) (2 ^ 32)
  rw [writeRecord_eq]
  beta_reduce
  generalize s.roundFree (p.fw point * 2500000000000) (2 ^ 32) = x at rounded ⊢
  obtain ⟨freq, t⟩ := x
  dsimp only at rounded ⊢
  rw [rounded]
  exact ⟨_, _, rfl⟩

theorem writeEmpty_recordsOnly (s : State) (p : ImpPlan) (cell point status cycles : Nat) :
    RecordsOnly s (writeEmpty s p cell point status cycles) := by
  have drawn : RecordsOnly s s.draw.2.draw.2 := ⟨_, _, rfl⟩
  exact drawn.trans (writeRecord_recordsOnly ..)

theorem markUnfinished_recordsOnly (s : State) (p : ImpPlan) (status : Nat) (later : Bool) :
    RecordsOnly s (markUnfinished s p status later) := by
  refine .forEach (fun c s => ?_) _ s
  have first (n m : Nat) : RecordsOnly s (writeEmpty s p c.cell n status m) := writeEmpty_recordsOnly ..
  exact .ite ((first _ _).trans (.forEach (fun _ _ => writeEmpty_recordsOnly ..) _ _)) (first _ _)

theorem RecordsOnly.plansOnly {s t : State} (h : RecordsOnly s t) : PlansOnly s t := by
  obtain ⟨n, l, rfl⟩ := h
  exact .of_update

theorem impUnstage_plansOnly (s : State) : PlansOnly s (impUnstage s) := by
  obtain ⟨x, eq⟩ := impUnstage_txn s
  rw [eq]
  exact .of_update

theorem impIdleNow_plansOnly (s : State) : PlansOnly s (impIdleNow s) := PlansOnly.of_update.setFld _ (by decide)

theorem planBroken_recordsOnly (s : State) (p : ImpPlan) : ∃ t, RecordsOnly s t ∧
    planBroken s p = { t with imp := { t.imp with leaving := true } } := by
  unfold planBroken
  extract_lets t
  refine ⟨t, ?_, rfl⟩
  unfold t
  split
  · exact markUnfinished_recordsOnly ..
  · exact .refl s

theorem impAbort_plansOnly (s : State) : PlansOnly s (impAbort s) := by
  cases hp : s.imp.plan with
  | none => rw [impAbort_of_no_plan hp]; exact .refl s
  | some p =>
    rw [impAbort_eq hp]
    obtain ⟨t, marked, eq⟩ := planBroken_recordsOnly (impUnstage s) p
    have unstaged := impUnstage_plansOnly s
    rw [eq]
    have leaves : PlansOnly s { t with imp := { t.imp with leaving := true } } :=
      (unstaged.trans marked.plansOnly).trans .of_update
    exact .ite ((leaves.trans (impIdleNow_plansOnly _)).setFlag _ (by decide)) (unstaged.trans (impIdleNow_plansOnly _))

theorem impAbort_bal (s : State) : (impAbort s).bal = s.bal := by
  cases hp : s.imp.plan with
  | none => rw [impAbort_of_no_plan hp]
  | some p =>
    rw [impAbort_eq hp]
    obtain ⟨t, ⟨n, l, rfl⟩, eq⟩ := planBroken_recordsOnly (impUnstage s) p
    obtain ⟨x, unstaged⟩ := impUnstage_txn s
    rw [eq, unstaged]
    split <;> rfl

/-- After ABORT no plan is left. -/
theorem impAbort_plan (s : State) : (impAbort s).imp.plan = none := by
  cases hp : s.imp.plan with
  | none => rw [impAbort_of_no_plan hp, hp]
  | some p =>
    rw [impAbort_eq hp]
    split <;> rfl

/-- ABORT touches IMP_STATUS and no other register. -/
theorem impAbort_reg (s : State) {a : Nat} (h : a ≠ Reg.IMP_STATUS) : (impAbort s).reg a = s.reg a := by
  cases hp : s.imp.plan with
  | none => rw [impAbort_of_no_plan hp]
  | some p =>
    rw [impAbort_eq hp]
    obtain ⟨t, ⟨n, l, rfl⟩, eq⟩ := planBroken_recordsOnly (impUnstage s) p
    obtain ⟨x, unstaged⟩ := impUnstage_txn s
    rw [eq, unstaged]
    split
    · exact (reg_setFlag_ne _ _ h).trans (reg_setFld_ne _ _ h)
    · exact reg_setFld_ne _ _ h

/-! ### The commands of a plan -/

section Commands

variable {s : State}

theorem balPrepare_stages (h : BalancePlanAllowed s) (free : s.balStage = stageNone ∨ s.chainHolds = false) :
    Completes .balPrepare s fun t =>
      t.fld Fld.BAL_STATUS_STAGE = 1 ∧ t.fld Fld.BAL_STATUS_PLAN_ERR = 0 ∧ t.bal.staged = some s.planRegs ∧
      t.bal.shadow = none ∧ t.flag Fld.BAL_STATUS_SHADOW = false ∧ t.bal.running = s.bal.running ∧ t.mode = s.mode := by
  have none : s.balPrepareError s.planRegs false = 0 := by
    rw [h.error]
    rcases free with free | free <;> simp [free]
  have judged := balPrepare_judged s false
  rw [none] at judged
  refine ⟨settle (balPrepare s false), rfl, ?_⟩
  beta_reduce
  rw [settle_fld _ _ (by decide), settle_fld _ _ (by decide), settle_flag _ _ (by decide), settle_bal, settle_mode, judged.bal,
    (balPrepare_plansOnly s false).mode]
  exact ⟨judged.stage, judged.error, rfl, rfl, judged.shadow, rfl, rfl⟩

theorem balPrepare_refuses {code : Nat} (h : s.balPrepareError s.planRegs false = code) (hc : code ≠ 0) :
    Completes .balPrepare s fun t =>
      t.fld Fld.BAL_STATUS_PLAN_ERR = code ∧ t.bal.staged = s.bal.staged ∧ t.bal.running = s.bal.running ∧
      t.fld Fld.BAL_STATUS_STAGE = s.fld Fld.BAL_STATUS_STAGE ∧ t.mode = s.mode := by
  have judged := balPrepare_judged s false
  rw [h] at judged
  have stage := judged.stage
  have bal := judged.bal
  rw [if_neg hc] at stage bal
  refine ⟨settle (balPrepare s false), rfl, ?_⟩
  beta_reduce
  rw [settle_fld _ _ (by decide), settle_fld _ _ (by decide), settle_bal, settle_mode, bal, (balPrepare_plansOnly s false).mode]
  exact ⟨judged.error, rfl, rfl, stage, rfl⟩

theorem balCommit_commits (h : s.balStage = stagePrepared) : Completes .balCommit s fun t =>
    t.fld Fld.BAL_STATUS_STAGE = 2 ∧ t.regN Reg.BAL_ACT = (s.regN Reg.SWEEP_NUM + 1) % 65536 ∧ t.bal = s.bal ∧
    t.mode = s.mode := by
  obtain ⟨x, eq⟩ := balCommit_of_prepared h
  refine ⟨settle (balCommit s), rfl, ?_⟩
  beta_reduce
  rw [settle_fld _ _ (by decide), State.regN, settle_reg _ _ (by decide), settle_bal, settle_mode, eq]
  refine ⟨?_, ?_, rfl, rfl⟩
  · exact (fld_setRegN_ne _ _ (by decide)).trans (fld_setFld_same _ _ _ (by decide) (by decide))
  · rw [stageCommits, reg_setRegN_same]
    simp

theorem balCancel_empties (h : s.balStage ≠ stageNone) : Completes .balCancel s fun t =>
    t.fld Fld.BAL_STATUS_STAGE = 0 ∧ t.bal.staged = none ∧ t.flag Fld.BAL_STATUS_CANCELLED = true ∧
    sparseGet t.txn none 1 = none ∧ t.bal.running = s.bal.running ∧ t.mode = s.mode := by
  refine ⟨settle (balCancel s), rfl, ?_⟩
  beta_reduce
  rw [settle_fld _ _ (by decide), settle_flag _ _ (by decide), settle_bal, settle_txn, settle_mode, balCancel_of_stage h]
  exact ⟨(fld_setFlag_ne _ _ (by decide)).trans (balClearStage_stage s), rfl,
    flag_setFlag_same _ _ _ (by decide) (by decide), balClearStage_txn s, rfl, rfl⟩

theorem balPlanTimeout_stops (hr : s.bal.running.isSome = true) (ht : s.running .balPlan = true) :
    Completes .balPlanTimeout s fun t =>
      t.bal.stopping = true ∧ t.running .balPlan = false ∧ t.regs = (settle s).regs ∧ t.bal.running = s.bal.running := by
  have next : exec .balPlanTimeout s = .next (settle ((balStop s).stopTimer .balPlan)) :=
    congrArg (fun t => Host.Outcome.next (settle t)) (if_pos ht)
  refine ⟨_, next, ?_⟩
  beta_reduce
  rw [balStop_of_running hr, settle_bal, running_congr (settle_timers _)]
  exact ⟨rfl, running_stopTimer .., SameLevels.regs (SameLevels.settled ⟨rfl, rfl, rfl, rfl⟩), rfl⟩

theorem balEnClear_disables (s : State) : Completes .balEnClear s fun t =>
    t.flag Fld.BAL_CTL_EN = false ∧ t.imp.plan = none ∧ t.bal.running = s.bal.running ∧ t.mode = s.mode ∧
    (s.bal.running.isSome = true → t.bal.stopping = true) := by
  obtain ⟨b, stopped, marks⟩ := balStop_marks (s.setFlag Fld.BAL_CTL_EN false)
  have enabled (t : State) : (impAbort t).flag Fld.BAL_CTL_EN = t.flag Fld.BAL_CTL_EN := by
    rw [State.flag, State.fld, impAbort_reg t (by decide)]
    rfl
  refine ⟨settle (balDisable (s.setFlag Fld.BAL_CTL_EN false)), rfl, ?_⟩
  beta_reduce
  rw [settle_flag _ _ (by decide), settle_impPlan, settle_bal, settle_mode, balDisable, enabled, impAbort_plan, impAbort_bal,
    (impAbort_plansOnly _).mode, stopped]
  exact ⟨flag_setFlag_same _ _ _ (by decide) (by decide), rfl, rfl, rfl, marks⟩

end Commands

/-- Settles O26: PREPARE is judged by `balPrepareError`, whose causes are the table of R137 in its order; the other commands are
followed through the tick that takes them. -/
theorem balancePlanCommands : Obligations.BalancePlanCommands := by
  intro s
  refine ⟨balPrepare_stages, fun misfit => ?_, fun fits mode => ?_, fun fits may locked => ?_, fun fits may idle => ?_,
    fun allowed staged holds => ?_, balCommit_commits, fun h => ?_, balCancel_empties, fun h => ?_, fun h => ⟨?_, ?_⟩, fun h => ?_,
    fun h => ?_, balEnClear_disables s⟩
  · exact balPrepare_refuses (balPrepareError_misfit misfit) (by decide)
  · exact balPrepare_refuses (balPrepareError_mode fits mode) (by decide)
  · exact balPrepare_refuses (balPrepareError_locked fits may locked) (by decide)
  · exact balPrepare_refuses (balPrepareError_idle fits may idle) (by decide)
  · exact balPrepare_refuses (by rw [allowed.error]; simp [staged, holds]) (by decide)
  · exact congrArg (fun t => Host.Outcome.next (settle t)) (balCommit_of_not_prepared h)
  · exact congrArg (fun t => Host.Outcome.next (settle t)) (balCancel_of_none h)
  · exact congrArg (fun t => Host.Outcome.next (settle t)) (balStop_of_running h)
  · exact balPlanTimeout_stops h
  · exact congrArg (fun t => Host.Outcome.next (settle t)) (balStop_of_none h)
  · exact congrArg (fun t => Host.Outcome.next (settle t)) (if_neg (Bool.eq_false_iff.mp h))

end Sys2Proof.Machine
end

section
/-!
The transfer calls of the NODE engine (R313): each acts as the host's command of the same name, and O12.
-/
namespace Sys2Proof.Machine

/-! ### What the commands of the impedance unit touch -/

theorem prepareJudged_beside (s : State) {a : Nat} (h : besidePlans a = true) : (prepareJudged s).reg a = s.reg a := by
  simp only [besidePlans, Bool.or_eq_true, decide_eq_true_eq] at h
  have marked : ((needShown s).setFlag Fld.IMP_STATUS_TBL_BAD (needShown s).tableBad).reg a = s.reg a :=
    (reg_setFlag_ne _ _ (by simp only [Fld.IMP_STATUS_TBL_BAD, Reg.IMP_STATUS]; omega)).trans
      (needShown_reg s (by simp only [Reg.IMP_NEED_LO]; omega) (by simp only [Reg.IMP_NEED_HI]; omega))
  have void (t : State) : (estimatesVoid t).reg a = t.reg a :=
    forEach_keeps (fun s => s.reg a) (fun k hk s => reg_setReg_ne s _ (by
      simp only [List.mem_range] at hk
      simp only [Reg.IMP_TEMP]
      omega)) t
  rw [prepareJudged, reg_setFld_ne _ _ (by simp only [Fld.IMP_STATUS_PREP_ERR, Reg.IMP_STATUS]; omega), tableJudged, State.when]
  split
  · rw [void, marked]
  · exact marked

theorem prepareJudged_plansOnly (s : State) : PlansOnly s (prepareJudged s) := by
  refine ⟨?_, fun _ => prepareJudged_beside s⟩
  obtain ⟨r, eq⟩ := prepareJudged_regsOnly s
  exact ⟨s.freeCtr, s.bal, s.imp, s.txn, r, eq⟩

theorem impPrepare_plansOnly (s : State) : PlansOnly s (impPrepare s) := by
  have judged := prepareJudged_plansOnly s
  rw [impPrepare_eq]
  exact .ite (PlansOnly.setFld (.trans (judged.trans (impUnstage_plansOnly _)) .of_update) _ (by decide)) judged

theorem statusRunning_plansOnly (s : State) : PlansOnly s (statusRunning s) :=
  ((((((PlansOnly.refl s).setFld _ (by decide)).setFlag _ (by decide)).setFlag _ (by decide)).setFlag _ (by decide)).setFlag _
    (by decide)).setFld _ (by decide)

theorem planCounted_plansOnly (s : State) : PlansOnly s (planCounted s) :=
  ((PlansOnly.refl s).setRegN (a := Reg.IMP_PLAN_SEQ) _ (by decide)).trans .of_update

/-- COMMIT in all its cases: nothing, PREP_ERR 5, or the plan runs. -/
theorem impCommit_cases (s : State) : impCommit s = s ∨
    (s.impState = impPrepared ∧ impCommit s = s.setFld Fld.IMP_STATUS_PREP_ERR 5) ∨
    (s.impState = impPrepared ∧ impCommit s = statusRunning (planCounted (impUnstage s))) := by
  unfold impCommit
  split
  · exact .inl rfl
  · split
    · exact .inl rfl
    · next prepared =>
      have prepared : s.impState = impPrepared := not_not.mp prepared
      split
      · exact .inr (.inl ⟨prepared, rfl⟩)
      · exact .inr (.inr ⟨prepared, rfl⟩)

theorem impCommit_plansOnly (s : State) : PlansOnly s (impCommit s) := by
  rcases impCommit_cases s with eq | ⟨-, eq⟩ | ⟨-, eq⟩ <;> rw [eq]
  · exact .refl s
  · exact (PlansOnly.refl s).setFld _ (by decide)
  · exact ((impUnstage_plansOnly s).trans (planCounted_plansOnly _)).trans (statusRunning_plansOnly _)

/-! ### The call -/

theorem xfrCall_plansOnly (s : State) (op : Nat) : PlansOnly s (xfrCall s op).2 := by
  unfold xfrCall
  split
  · exact balPrepare_plansOnly s false
  · split
    · exact balCommit_plansOnly s
    · exact .refl s
  · exact balCancel_plansOnly s
  · exact balStop_plansOnly s
  · exact impPrepare_plansOnly s
  · split
    · exact .refl s
    · exact impCommit_plansOnly s
  · exact impAbort_plansOnly s

/-- The host's commands by the codes of xfr. -/
def xfrCommands : List (Nat × Instr) :=
  [(1, .balPrepare), (2, .balCommit), (3, .balCancel), (4, .balStop), (5, .impPrepare), (6, .impCommit), (7, .impAbort)]

/-- The call acts as the host's command of its name. -/
theorem xfrCall_command (s : State) {p : Nat × Instr} (h : p ∈ xfrCommands) : exec p.2 s = .next (settle (xfrCall s p.1).2) := by
  have commit : (xfrCall s 2).2 = balCommit s := by
    by_cases hs : s.balStage = stagePrepared
    · exact congrArg Prod.snd (if_pos hs)
    · exact (congrArg Prod.snd (if_neg hs)).trans (balCommit_of_not_prepared hs).symm
  have runs : (xfrCall s 6).2 = impCommit s := by
    by_cases hs : s.impState ≠ impPrepared
    · exact (congrArg Prod.snd (if_pos hs)).trans (impCommit_of_not_prepared hs).symm
    · exact congrArg Prod.snd (if_neg hs)
  simp only [xfrCommands, List.mem_cons, List.not_mem_nil, or_false] at h
  rcases h with rfl | rfl | rfl | rfl | rfl | rfl | rfl
  · rfl
  · rw [commit]; rfl
  · rfl
  · rfl
  · rfl
  · rw [runs]; rfl
  · rfl

/-! ### Its result (R309) -/

theorem refusal_toNat {code reason : Nat} (hc : code < 256) (hr : reason < 256) :
    (refusal code reason).toNat = 2 ^ 31 + reason * 256 + code := by
  rw [refusal, BitVec.toNat_ofNat]
  omega

theorem refusal_ne_zero {code reason : Nat} (hc : code < 256) (hr : reason < 256) : refusal code reason ≠ 0#32 := by
  intro h
  have := refusal_toNat hc hr
  rw [h] at this
  simp at this
  omega

theorem fld_lt (s : State) {f : BitField} {n : Nat} (h : f.hi + 1 - f.lo ≤ n) : s.fld f < 2 ^ n := by
  refine Nat.lt_pow_two_of_testBit _ fun i hi => ?_
  rw [State.fld, BitField.read_getLsbD, Bool.and_eq_false_iff]
  exact .inl (decide_eq_false (by omega))

/-- PREPARE returns the cause of a refusal with STATE, or 0. -/
def prepareResult (err : Nat) : Word := if err = 0 then accepted 0 else refusal callState err

theorem prepareResult_eq_zero {err : Nat} (h : err < 256) : prepareResult err = 0 ↔ err = 0 := by
  unfold prepareResult
  split
  · next h0 => exact ⟨fun _ => h0, fun _ => rfl⟩
  · next h0 => exact ⟨fun h1 => absurd h1 (refusal_ne_zero (by decide) h), fun h1 => absurd h1 h0⟩

theorem prepareResult_refused {err : Nat} (h : err ≠ 0) : prepareResult err = BitVec.ofNat 32 (0x80000003 + 256 * err) := by
  rw [prepareResult, if_neg h, refusal]
  congr 1
  simp only [callState]
  omega

/-- Where the call is taken, its result is 0. -/
theorem xfrCall_result (s : State) {op : Nat} (h1 : 1 ≤ op) (h7 : op ≤ 7) : (xfrCall s op).1 = 0 ↔ op = 3 ∨ op = 4 ∨ op = 7 ∨
    (op = 1 ∧ (xfrCall s op).2.fld Fld.BAL_STATUS_PLAN_ERR = 0) ∨ (op = 2 ∧ s.balStage = stagePrepared) ∨
    (op = 5 ∧ (xfrCall s op).2.fld Fld.IMP_STATUS_PREP_ERR = 0) ∨
    (op = 6 ∧ s.impState = impPrepared ∧ (xfrCall s op).2.impState = impRunning) := by
  obtain rfl | rfl | rfl | rfl | rfl | rfl | rfl : op = 1 ∨ op = 2 ∨ op = 3 ∨ op = 4 ∨ op = 5 ∨ op = 6 ∨ op = 7 := by omega
  case inr.inl =>
    have refused : refusal callState 0 ≠ 0#32 := refusal_ne_zero (by decide) (by decide)
    by_cases h : s.balStage = stagePrepared
    · have : (xfrCall s 2).1 = 0 := congrArg Prod.fst (if_pos h)
      simp [this, h]
    · have : (xfrCall s 2).1 = refusal callState 0 := congrArg Prod.fst (if_neg h)
      simp [this, h, refused]
  case inr.inr.inr.inr.inr.inl =>
    have refused {c : Nat} (hc : c < 256) : refusal callState c ≠ 0#32 := refusal_ne_zero (by decide) hc
    by_cases h : s.impState = impPrepared
    · have call : xfrCall s 6 = (if (impCommit s).impState = impRunning then accepted 0 else refusal callState 5, impCommit s) :=
        if_neg (not_not.mpr h)
      rw [call]
      by_cases runs : (impCommit s).impState = impRunning
      · simp [h, runs, accepted]
      · simp [runs, refused]
    · have call : (xfrCall s 6).1 = refusal callState 0 := congrArg Prod.fst (if_pos h)
      simp [call, h, refused]
  · have call : (xfrCall s 1).1 = prepareResult ((xfrCall s 1).2.fld Fld.BAL_STATUS_PLAN_ERR) := rfl
    rw [call, prepareResult_eq_zero (Nat.lt_trans (fld_lt _ (n := 3) (by decide)) (by decide))]
    simp
  · simp [xfrCall, accepted]
  · simp [xfrCall, accepted]
  · have call : (xfrCall s 5).1 = prepareResult ((xfrCall s 5).2.fld Fld.IMP_STATUS_PREP_ERR) := rfl
    rw [call, prepareResult_eq_zero (Nat.lt_trans (fld_lt _ (n := 3) (by decide)) (by decide))]
    simp
  · simp [xfrCall, accepted]

/-! ### The instruction -/

theorem get_set_same (x : Eng) {i : Nat} (v : Word) (h : i ≠ 0) : (x.set i v).get i = v := by
  rw [Eng.set, if_neg h, Eng.get, if_neg h]
  exact sparseGet_set_same ..

theorem get_zero (x : Eng) : x.get 0 = 0 := rfl

section Instruction

variable {s : State} {e : Engine} {w : Word} {op : Nat}

/-- The word names the command, and no field of it is reserved. -/
theorem xfr_word (fn : wFn w = op) (h1 : 1 ≤ op) (h7 : op ≤ 7) : xfrReserved w = false ∧ ¬ 16 ≤ wFn w := by
  simp only [xfrReserved, fn, Bool.or_eq_false_iff, beq_eq_false_iff_ne, decide_eq_false_iff_not]
  omega

/-- The engine's record with the result of a call. -/
def Eng.called (x : Eng) (w r : Word) : Eng := (x.set (wRd w) r).zn r

theorem engXfr_node (h : Runs s .node w) (hop : wOp w = 0x3C) (ra : wRa w = 0) (rb : wRb w = 0) (fn : wFn w = op) (h1 : 1 ≤ op)
    (h7 : op ≤ 7) : engXfr s .node op =
      .next (settle (retire (xfrCall s op).2 .node ((s.eng .node).called w (xfrCall s op).1) ((s.eng .node).pc + 1))) := by
  obtain ⟨named, small⟩ := xfr_word fn h1 h7
  have plans := xfrCall_plansOnly s op
  have pick : (wFn w % 16 == op || xfrReserved w) = true := by
    rw [fn, Nat.mod_eq_of_lt (by omega), beq_self_eq_true, Bool.true_or]
  unfold engXfr
  rw [engRun, engInstr_next (u := (xfrCall s op).2.setEng .node ((s.eng .node).called w (xfrCall s op).1)) h hop rfl pick ?_]
  · dsimp only
    rw [engComplete_retire]
    · rfl
    · simp [Eng.called, Eng.zn, h.running]
    · simp [Eng.called, Eng.zn, h.noHalt]
    · simp [Eng.called, Eng.zn, h.noStep]
    · exact (plans.flag (by decide)).trans h.run
  · simp only [ra, rb, named, small, bne_self_eq_false, decide_false, Bool.or_false, Bool.false_eq_true, if_false]
    rw [callReturn, plans.eng]
    rfl

theorem engXfr_elsewhere (h : Runs s e w) (hop : wOp w = 0x3C) (ra : wRa w = 0) (rb : wRb w = 0) (fn : wFn w = op) (h1 : 1 ≤ op)
    (h7 : op ≤ 7) (he : e ≠ .node) : engXfr s e op = .next (settle (railsJudge (engineFault s e efCall))) := by
  obtain ⟨named, small⟩ := xfr_word fn h1 h7
  refine engRun_fault h hop rfl ?_ ?_
  · rw [fn, Nat.mod_eq_of_lt (by omega), beq_self_eq_true, Bool.true_or]
  · simp [ra, rb, named, small, he]

theorem called_get (x : Eng) (w r : Word) : (x.called w r).get (wRd w) = if wRd w = 0 then 0 else r := by
  split
  · next h => rw [h]; rfl
  · next h => exact get_set_same x r h

/-- After the call the engine stands behind it with the result, and the node as the host's command leaves it. -/
theorem engXfr_acts {i host : Instr} (hi : exec i s = engXfr s .node op) (hc : (op, host) ∈ xfrCommands)
    (h : Runs s .node w) (hop : wOp w = 0x3C) (ra : wRa w = 0) (rb : wRb w = 0) (fn : wFn w = op) : Completes i s fun t =>
      (t.eng .node).pc = ((s.eng .node).pc + 1) % 8192 ∧
      (t.eng .node).get (wRd w) = (if wRd w = 0 then 0 else (xfrCall s op).1) ∧
      ∃ u, exec host s = .next u ∧ u = settle (xfrCall s op).2 ∧ t.bal = u.bal ∧ t.imp = u.imp ∧ t.txn = u.txn ∧ t.regs = u.regs ∧
        t.mode = u.mode := by
  have range : 1 ≤ op ∧ op ≤ 7 := by
    simp only [xfrCommands, List.mem_cons, Prod.mk.injEq, List.not_mem_nil, or_false] at hc
    omega
  have next := hi.trans (engXfr_node h hop ra rb fn range.1 range.2)
  have same : SameLevels (xfrCall s op).2
      (retire (xfrCall s op).2 .node ((s.eng .node).called w (xfrCall s op).1) ((s.eng .node).pc + 1)) := ⟨rfl, rfl, rfl, rfl⟩
  refine ⟨_, next, ?_, ?_, settle (xfrCall s op).2, xfrCall_command s hc, rfl, ?_, same.settled.imp, ?_, same.settled.regs,
    same.settled.mode⟩
  · rw [settle_eng, retire, setEng_eng_same]
    rfl
  · rw [settle_eng, retire, setEng_eng_same]
    exact called_get ..
  · rw [settle_bal, settle_bal]
    rfl
  · rw [settle_txn, settle_txn]
    rfl

end Instruction

/-- Settles O12: at the NODE engine the call is the host's command followed by the instruction's completion, with `xfrCall`'s
result in RD; elsewhere its body is the fault. -/
theorem engineTransferCalls : Obligations.EngineTransferCalls := by
  intro s e w h hop ra rb
  have named (p : Instr × Instr × Nat) (hp : p ∈ [(Instr.xfrBalPrepare e, Instr.balPrepare, 1), (.xfrBalCommit e, .balCommit, 2),
      (.xfrBalCancel e, .balCancel, 3), (.xfrBalStop e, .balStop, 4), (.xfrImpPrepare e, .impPrepare, 5),
      (.xfrImpCommit e, .impCommit, 6), (.xfrImpAbort e, .impAbort, 7)]) :
      exec p.1 s = engXfr s e p.2.2 ∧ (p.2.2, p.2.1) ∈ xfrCommands ∧ 1 ≤ p.2.2 ∧ p.2.2 ≤ 7 := by
    simp only [List.mem_cons, List.not_mem_nil, or_false] at hp
    rcases hp with rfl | rfl | rfl | rfl | rfl | rfl | rfl <;> exact ⟨rfl, by simp [xfrCommands], by simp, by simp⟩
  refine ⟨fun p hp fn he => ?_, fun p hp fn he => ?_⟩
  · subst he
    obtain ⟨hi, hc, h1, h7⟩ := named p hp
    obtain ⟨t, next, pc, result, u, host, hu, bal, imp, txn, regs, mode⟩ := engXfr_acts hi hc h hop ra rb fn
    have planErr : t.fld Fld.BAL_STATUS_PLAN_ERR = (xfrCall s p.2.2).2.fld Fld.BAL_STATUS_PLAN_ERR := by
      rw [fld_congr regs, hu, settle_fld _ _ (by decide)]
    have prepErr : t.fld Fld.IMP_STATUS_PREP_ERR = (xfrCall s p.2.2).2.fld Fld.IMP_STATUS_PREP_ERR := by
      rw [fld_congr regs, hu, settle_status _ (by decide)]
    have impState : t.impState = (xfrCall s p.2.2).2.impState := by
      rw [State.impState, fld_congr regs, hu, settle_status _ (by decide)]
      rfl
    refine ⟨t, next, pc, ⟨u, host, bal, imp, txn, regs, mode⟩, ?_, fun h1 err rd => ?_, fun h2 stage rd => ?_⟩
    · rw [result, planErr, prepErr, impState, ← xfrCall_result s h1 h7]
      by_cases rd : wRd w = 0 <;> simp [rd]
    · rw [result, if_neg rd, h1]
      rw [planErr, h1] at err
      rw [planErr, h1]
      exact prepareResult_refused err
    · rw [result, if_neg rd, h2]
      exact (congrArg Prod.fst (if_neg stage)).trans (show refusal callState 0 = _ by decide)
  · obtain ⟨hi, -, h1, h7⟩ := named p hp
    exact hi.trans (engXfr_elsewhere h hop ra rb fn h1 h7 he)

end Sys2Proof.Machine
end

section
/-!
REMOTE access at a node (R234, R235): the answer, the registers read and written, and O35.
-/
namespace Sys2Proof.Machine

/-! ### Answers of a node -/

/-- One more RESPONSE waits for a train. -/
def answers (s : State) (f : Frame) : State := { s with link := { s.link with responses := s.link.responses ++ [f] } }

/-- A RESPONSE begins with the payload given; a tag comes behind it. -/
theorem respond_eq (s : State) (dst : Nat) (payload : List Byte) (tag : Bool) : ∃ f, respond s dst payload tag = answers s f ∧
    f.type = tyResponse ∧ payload <+: f.payload := by
  have plain : payload <+: (s.newFrame tyResponse (nodeDst dst) payload).payload := List.prefix_refl _
  have tagged (f : Frame) (k : BitVec 128) (key gen : Nat) : f.payload <+: (s.withTag f k key gen).payload := by
    simp [State.withTag, tagBody]
  unfold respond
  split
  · exact ⟨_, rfl, rfl, plain.trans (tagged _ _ _ _)⟩
  · exact ⟨_, rfl, rfl, plain⟩

theorem Responds.of_answers {s t : State} {f : Frame} {head : List Byte} (link : t.link = (answers s f).link)
    (type : f.type = tyResponse) (h : head <+: f.payload) : Responds s t head :=
  ⟨f, by rw [link]; rfl, type, (List.prefix_iff_eq_take.mp h).symm⟩

/-! ### The tag of a command (R434) -/

theorem checkTag_good {s : State} {f : Frame} (h : (checkTag s f).1 = .good) :
    ∃ k, checkTag s f = (.good, { s with keys := k }) := by
  unfold checkTag at h ⊢
  split at h
  · exact TagCheck.noConfusion h
  · split at h
    · exact TagCheck.noConfusion h
    · next fresh => exact ⟨_, if_neg fresh⟩

theorem checkTag_bad {s : State} {f : Frame} (h : (checkTag s f).1 = .bad) :
    checkTag s f = (.bad, s.incSat Reg.AUTH_FAIL) := by
  unfold checkTag at h ⊢
  split at h
  · rfl
  · split at h <;> exact TagCheck.noConfusion h

theorem regN_incSat (s : State) (a : Nat) : (s.incSat a).regN a = min 65535 (s.regN a + 1) := by
  have bound : s.regN a < 65536 := (s.reg a).isLt
  unfold State.incSat
  split
  · omega
  · rw [State.regN, reg_setRegN_same, BitVec.toNat_ofNat]
    omega

theorem reg_incSat_ne (s : State) {a b : Nat} (h : b ≠ a) : (s.incSat a).reg b = s.reg b := by
  unfold State.incSat
  split
  · rfl
  · exact reg_setRegN_ne _ _ h

theorem incSat_regsOnly (s : State) (a : Nat) : ∃ r, s.incSat a = { s with regs := r } := by
  unfold State.incSat
  split
  · exact ⟨_, rfl⟩
  · exact ⟨_, rfl⟩

/-! ### The answer to a remote access -/

/-- A node answers the frame, unless it is a broadcast. -/
def Answered (f : Frame) (s t : State) (l : List Byte) : Prop := if f.bcast = true then t.link = s.link else Responds s t l

/-- The first bytes of the answer. -/
def remoteHead (f : Frame) (res : Byte) : List Byte := leBytes 1 (leAt f.payload 0 1) ++ [res] ++ leBytes 2 (leAt f.payload 2 2)

theorem leBytes_leAt_one (l : List Byte) : leBytes 1 (leAt l 0 1) = [l.getD 0 0] := by
  cases l <;> simp [leBytes, leAt, slice, fromLe]

/-- The answer is the head, then the data. -/
theorem remoteAnswer_answered {s u : State} (f : Frame) (res : Byte) (data : List Half) (tag : Bool) (h : u.link = s.link) :
    Answered f s (remoteAnswer u f res data tag) (remoteHead f res ++ data.flatMap fun w => leBytes 2 w.toNat) := by
  unfold Answered remoteAnswer
  split
  · exact h
  · obtain ⟨g, eq, type, starts⟩ := respond_eq u f.src.toNat ([f.payload.getD 0 0, res] ++ leBytes 2 (leAt f.payload 2 2) ++
      data.flatMap fun w => leBytes 2 w.toNat) tag
    refine Responds.of_answers (f := g) (by rw [eq, answers, answers, h]) type ?_
    rw [remoteHead, leBytes_leAt_one]
    exact starts

/-- Nothing but the link shows an answer. -/
theorem remoteAnswer_linkOnly (s : State) (f : Frame) (res : Byte) (data : List Half) (tag : Bool) :
    ∃ l, remoteAnswer s f res data tag = { s with link := l } := by
  unfold remoteAnswer
  split
  · exact ⟨_, rfl⟩
  · exact ⟨_, rfl⟩

theorem remoteAnswer_regs (s : State) (f : Frame) (res : Byte) (data : List Half) (tag : Bool) :
    (remoteAnswer s f res data tag).regs = s.regs := by
  obtain ⟨l, eq⟩ := remoteAnswer_linkOnly s f res data tag
  rw [eq]

theorem remoteAnswer_mode (s : State) (f : Frame) (res : Byte) (data : List Half) (tag : Bool) :
    (remoteAnswer s f res data tag).mode = s.mode := by
  obtain ⟨l, eq⟩ := remoteAnswer_linkOnly s f res data tag
  rw [eq]

theorem remoteAnswer_sameLevels (s : State) (f : Frame) (res : Byte) (data : List Half) (tag : Bool) :
    SameLevels s (remoteAnswer s f res data tag) := by
  obtain ⟨l, eq⟩ := remoteAnswer_linkOnly s f res data tag
  rw [eq]
  exact ⟨rfl, rfl, rfl, rfl⟩

theorem Answered.settled {f : Frame} {s t : State} {l : List Byte} (h : Answered f s t l) : Answered f s (settle t) l := by
  unfold Answered Responds at *
  rw [settle_link]
  exact h

/-! ### Words read -/

/-- Below the windows and outside the SNAP groups REMOTE access reads what the register shows. -/
theorem hostRead_remote_plain (s : State) {a : Nat} (ha : a < 0x2000) (hg : snapGroup a = none) (hh : snapHigh a = none) :
    hostRead s .remote a = (s.live a, s) := by
  unfold hostRead
  rw [if_neg (fun c => Path.noConfusion c.1), if_neg (by omega), if_neg (by omega), if_neg (by omega), hg, hh]
  split
  · next h => rw [State.live, if_pos h]
  · rfl

theorem hostReads_remote_plain (s : State) (a n : Nat) (ha : a + n ≤ 0x2000)
    (hs : ∀ i, i < n → snapGroup (a + i) = none ∧ snapHigh (a + i) = none) :
    hostReads s .remote a n = ((List.range n).map fun i => s.live (a + i), s) := by
  induction n generalizing a with
  | zero => rfl
  | succ n ih =>
    have rest (i : Nat) (hi : i < n) : snapGroup (a + 1 + i) = none ∧ snapHigh (a + 1 + i) = none := by
      have := hs (i + 1) (by omega)
      rwa [Nat.add_comm i, ← Nat.add_assoc] at this
    have first : snapGroup a = none ∧ snapHigh a = none := hs 0 (by omega)
    rw [hostReads, hostRead_remote_plain s (by omega) first.1 first.2]
    dsimp only
    rw [ih (a + 1) (by omega) rest, List.range_succ_eq_map, List.map_cons, List.map_map]
    have shift : (fun i => s.live (a + 1 + i)) = (fun i => s.live (a + i)) ∘ Nat.succ := by
      funext i
      exact congrArg s.live (by simp only [Nat.succ_eq_add_one]; omega)
    rw [shift]
    rfl

/-! ### Words written -/

/-- After the words are written from `a` on, each register that shows no level flag has its new value and the others stay; a word
alone is written to any register. -/
structure WordsWritten (s t : State) (a : Nat) (l : List Half) : Prop where
  link : t.link = s.link
  mode : t.mode = s.mode
  taken : ∀ i (h : i < l.length), (a + i ∈ levelRegs → l.length = 1) → t.reg (a + i) = fieldsWritten false (a + i) l[i] (s.reg (a + i))
  others : ∀ b, b < a ∨ a + l.length ≤ b → (b ∈ levelRegs → l.length = 1) → t.reg b = s.reg b

theorem plainSpan_word {a n i : Nat} (h : plainSpan a n = true) (hi : i < n) : plainSpan (a + i) 1 = true := by
  simp only [plainSpan, List.any_eq_true, Bool.and_eq_true, decide_eq_true_eq] at h ⊢
  obtain ⟨p, hp, lo, hi⟩ := h
  exact ⟨p, hp, by omega, by omega⟩

theorem plainSpan_tail {a n : Nat} (h : plainSpan a (n + 1) = true) : plainSpan (a + 1) n = true := by
  simp only [plainSpan, List.any_eq_true, Bool.and_eq_true, decide_eq_true_eq] at h ⊢
  obtain ⟨p, hp, lo, hi⟩ := h
  exact ⟨p, hp, by omega, by omega⟩

/-- The registers of a span take their words one by one, each tick showing the level flags anew. -/
theorem writeWords_plainSpan {src : WriteSrc} (hd : src ≠ .dbg) (s : State) (a : Nat) (l : List Half)
    (h : plainSpan a l.length = true) : WordsWritten s (writeWords (hostWrite src) s a l) a l := by
  have write (s : State) (a : Nat) (v : Half) (h : plainSpan a 1 = true) :
      hostWrite src s a v = s.setReg a (fieldsWritten false a v (s.reg a)) := hostWrite_plainSpan hd s v h
  induction l generalizing s a with
  | nil => exact ⟨rfl, rfl, fun i h => absurd h (Nat.not_lt_zero i), fun _ _ _ => rfl⟩
  | cons v rest ih =>
    have here : plainSpan a 1 = true := plainSpan_word (i := 0) h (by simp)
    cases rest with
    | nil =>
      rw [writeWords, write s a v here]
      refine ⟨setReg_link .., setReg_mode .., fun i hi _ => ?_, fun b hb _ => reg_setReg_ne _ _ (by simp at hb; omega)⟩
      obtain rfl : i = 0 := by simpa using hi
      exact reg_setReg_same ..
    | cons w rest =>
      rw [writeWords.eq_3 _ _ _ _ _ (List.cons_ne_nil w rest), write s a v here]
      generalize written : s.setReg a (fieldsWritten false a v (s.reg a)) = t
      have tick := ih (settle t) (a + 1) (plainSpan_tail h)
      have same : t.reg a = fieldsWritten false a v (s.reg a) := by rw [← written, reg_setReg_same]
      have other {b : Nat} (hb : b ≠ a) : t.reg b = s.reg b := by rw [← written, reg_setReg_ne _ _ hb]
      have several : ∀ {b : Nat}, (b ∈ levelRegs → (v :: w :: rest).length = 1) → b ∉ levelRegs := fun one level => by
        simpa using one level
      have link : t.link = s.link := by rw [← written, setReg_link]
      have mode : t.mode = s.mode := by rw [← written, setReg_mode]
      refine ⟨tick.link.trans ((settle_link t).trans link), tick.mode.trans ((settle_mode t).trans mode), fun i hi one => ?_,
        fun b hb one => ?_⟩
      · have plain := several one
        cases i with
        | zero =>
          rw [Nat.add_zero] at plain
          rw [Nat.add_zero a, tick.others a (.inl (by omega)) (fun level => absurd level plain), settle_reg _ _ plain, same]
          rfl
        | succ i =>
          have addr : a + (i + 1) = a + 1 + i := by omega
          rw [addr] at plain ⊢
          rw [tick.taken i (by simpa using hi) (fun level => absurd level plain), settle_reg _ _ plain, other (by omega)]
          rfl
      · have plain := several one
        simp only [List.length_cons] at hb
        rw [tick.others b (by simp only [List.length_cons]; omega) (fun level => absurd level plain), settle_reg _ _ plain,
          other (by omega)]

/-! ### The commands at a node -/

section Serving

variable {s : State} {f : Frame}

/-- A node with its link takes the access, if it has the shape of R234; the root serves its own otherwise. -/
def Serves (s : State) (f : Frame) : Prop := s.isRoot = false ∧ s.linkOn = true ∧ remoteShape f = true

theorem remoteRead_unserved (h : ¬ Serves s f) : exec (.remoteRead f) s = .next (settle s) :=
  if_neg (by
    simp only [Bool.and_eq_true, Bool.not_eq_true']
    exact fun ⟨⟨⟨shape, _⟩, root⟩, link⟩ => h ⟨root, link, shape⟩)

theorem remoteWrite_unserved (h : ¬ Serves s f) : exec (.remoteWrite f) s = .next (settle s) :=
  if_neg (by
    simp only [Bool.and_eq_true, Bool.not_eq_true']
    exact fun ⟨⟨⟨shape, _⟩, root⟩, link⟩ => h ⟨root, link, shape⟩)

theorem remoteRead_served (h : Serves s f) (op : leAt f.payload 0 1 = 0x10) :
    exec (.remoteRead f) s = .next (settle (serveRead s f)) := by
  obtain ⟨root, link, shape⟩ := h
  exact if_pos (by simp [root, link, shape, op])

theorem remoteWrite_served (h : Serves s f) (op : leAt f.payload 0 1 = 0x11) :
    exec (.remoteWrite f) s = .next (settle (packCheck (railsJudge (serveWrite s f)))) := by
  obtain ⟨root, link, shape⟩ := h
  exact if_pos (by simp [root, link, shape, op])

/-- What an answer leaves of a READ. -/
theorem remoteRead_answers {res : Byte} {data : List Half} (h : exec (.remoteRead f) s = .next (settle (remoteAnswer s f res data false))) :
    Completes (.remoteRead f) s fun t =>
      Answered f s t (remoteHead f res ++ data.flatMap fun w => leBytes 2 w.toNat) ∧ t.regs = (settle s).regs :=
  ⟨_, h, (remoteAnswer_answered f res data false rfl).settled, (remoteAnswer_sameLevels ..).settled.regs⟩

theorem remoteRead_values (h : Serves s f) (op : leAt f.payload 0 1 = 0x10)
    (low : leAt f.payload 2 2 + leAt f.payload 1 1 ≤ 0x2000)
    (snaps : ∀ i, i < leAt f.payload 1 1 → snapGroup (leAt f.payload 2 2 + i) = none ∧ snapHigh (leAt f.payload 2 2 + i) = none) :
    exec (.remoteRead f) s = .next (settle (remoteAnswer s f resAck
      ((List.range (leAt f.payload 1 1)).map fun i => s.live (leAt f.payload 2 2 + i)) false)) := by
  have inside : ¬ remoteOutside f = true := by simp only [remoteOutside, decide_eq_true_eq]; omega
  rw [remoteRead_served h op, serveRead, if_neg inside, hostReads_remote_plain s _ _ low snaps]

theorem remoteRead_outside (h : Serves s f) (op : leAt f.payload 0 1 = 0x10)
    (out : 0x4000 < leAt f.payload 2 2 + leAt f.payload 1 1) :
    exec (.remoteRead f) s = .next (settle (remoteAnswer s f resAddr [] false)) := by
  have outside : remoteOutside f = true := decide_eq_true out
  rw [remoteRead_served h op, serveRead, if_pos outside]

/-- The words of a WRITE. -/
def remoteWords (f : Frame) : List Half :=
  (List.range (leAt f.payload 1 1)).map fun i => BitVec.ofNat 16 (leAt f.payload (4 + 2 * i) 2)

theorem remoteWords_length (f : Frame) : (remoteWords f).length = leAt f.payload 1 1 := by simp [remoteWords]

theorem plainSpan_low {a n : Nat} (h : plainSpan a n = true) : a + n ≤ 0x0C10 := by
  simp only [plainSpan, plainSpans, List.any_cons, List.any_nil, Bool.or_false, Bool.or_eq_true, Bool.and_eq_true,
    decide_eq_true_eq] at h
  omega

/-- A WRITE with a good tag: the words, then the answer. -/
theorem serveWrite_good (good : (checkTag s f).1 = .good) (bus : s.bus = [])
    (plain : plainSpan (leAt f.payload 2 2) (leAt f.payload 1 1) = true) :
    ∃ t, WordsWritten s t (leAt f.payload 2 2) (remoteWords f) ∧ serveWrite s f = remoteAnswer t f resAck [] true := by
  obtain ⟨k, tag⟩ := checkTag_good good
  have inside : ¬ remoteOutside f = true := by
    have := plainSpan_low plain
    simp only [remoteOutside, decide_eq_true_eq]
    omega
  obtain ⟨link, mode, taken, others⟩ := writeWords_plainSpan (src := .remote) WriteSrc.noConfusion { s with keys := k }
    (leAt f.payload 2 2) (remoteWords f) (by rw [remoteWords_length]; exact plain)
  refine ⟨_, ⟨link, mode, taken, others⟩, ?_⟩
  rw [serveWrite, tag]
  dsimp only
  rw [if_neg inside, hostWrites, busDrain_nil (s := { s with keys := k }) bus]
  rfl

theorem serveWrite_outside (good : (checkTag s f).1 = .good) (out : 0x4000 < leAt f.payload 2 2 + leAt f.payload 1 1) :
    ∃ k, serveWrite s f = remoteAnswer { s with keys := k } f resAddr [] true := by
  obtain ⟨k, tag⟩ := checkTag_good good
  have outside : remoteOutside f = true := decide_eq_true out
  refine ⟨k, ?_⟩
  rw [serveWrite, tag]
  exact if_pos outside

theorem serveWrite_bad (bad : (checkTag s f).1 = .bad) :
    serveWrite s f = remoteAnswer (s.incSat Reg.AUTH_FAIL) f resAuth [] true := by
  rw [serveWrite, checkTag_bad bad]

end Serving

/-- The registers of the statement are those that show a level. -/
theorem mem_levelRegs_iff (b : Nat) :
    b ∈ [Reg.IRQ_PEND, Reg.FLT_SUM, Reg.CMP_FLAG 0, Reg.CMP_FLAG 1, Reg.CMP_FLAG 2, Reg.IMP_STATUS] ↔ b ∈ levelRegs := by
  simp only [levelRegs, List.mem_cons, List.not_mem_nil, or_false]
  tauto

/-- Settles O35: READ shows `State.live`, WRITE is `writeWords` on a plain span, and what the tag check leaves is the answer. -/
theorem nodeServesRemoteAccess : Obligations.NodeServesRemoteAccess := by
  intro s f op n a head serves answered levels written
  have noData (res : Byte) : head res = remoteHead f res ++ ([] : List Half).flatMap fun w => leBytes 2 w.toNat :=
    (List.append_nil _).symm
  refine ⟨fun h => ⟨remoteRead_unserved h, remoteWrite_unserved h⟩, fun h op low snaps => ?_, fun h op out => ?_,
    fun h op plain bus good => ?_, fun h op out good => ?_, fun h op bad => ?_⟩
  · obtain ⟨t, next, answer, regs⟩ := remoteRead_answers (remoteRead_values h op low snaps)
    rw [List.flatMap_map] at answer
    exact ⟨t, next, answer, regs⟩
  · obtain ⟨t, next, answer, regs⟩ := remoteRead_answers (remoteRead_outside h op out)
    exact ⟨t, next, by rw [noData]; exact answer, regs⟩
  · obtain ⟨t, words, eq⟩ := serveWrite_good good bus plain
    refine ⟨serveWrite s f, remoteWrite_served h op, ?_⟩
    rw [eq, noData]
    refine ⟨remoteAnswer_answered f _ [] true words.link, fun i hi one => ?_, (remoteAnswer_mode ..).trans words.mode,
      fun b hb one => ?_⟩
    · rw [reg_congr (remoteAnswer_regs ..), words.taken i (by rw [remoteWords_length]; exact hi)
        (fun level => by rw [remoteWords_length]; exact one ((mem_levelRegs_iff _).mpr level))]
      simp [remoteWords, a]
    · rw [reg_congr (remoteAnswer_regs ..), words.others b (by rw [remoteWords_length]; exact hb)
        (fun level => by rw [remoteWords_length]; exact one ((mem_levelRegs_iff _).mpr level))]
  · obtain ⟨k, eq⟩ := serveWrite_outside good out
    refine ⟨serveWrite s f, remoteWrite_served h op, ?_⟩
    rw [eq, noData]
    exact ⟨remoteAnswer_answered f _ [] true rfl, remoteAnswer_regs ..⟩
  · refine ⟨serveWrite s f, remoteWrite_served h op, ?_⟩
    obtain ⟨r, counted⟩ := incSat_regsOnly s Reg.AUTH_FAIL
    rw [serveWrite_bad bad, noData, State.regN, reg_congr (remoteAnswer_regs ..)]
    refine ⟨remoteAnswer_answered f _ [] true (by rw [counted]), regN_incSat s _, fun b hb => ?_⟩
    rw [reg_congr (remoteAnswer_regs ..)]
    exact reg_incSat_ne s hb

end Sys2Proof.Machine
end

section
/-!
What the steps of transactions leave: the frames of a node's operations and of the frames sent, and what an answer shows.
-/
namespace Sys2Proof.Machine

/-! ### The fields of one subsystem's stage -/

/-- A register of transactions at the root, or the sweep's number. -/
def besideStages (a : Nat) : Bool := (decide (0x0B00 ≤ a) && decide (a < 0x0C00)) || a == Reg.SWEEP_NUM

/-- The root's transaction, the mode and the answers that wait stand, and so do the registers of transactions at the root and the
number of the sweep. -/
structure TxnKeeps (s t : State) : Prop where
  root : t.rootTxn = s.rootTxn
  mode : t.mode = s.mode
  responses : t.link.responses = s.link.responses
  reg : ∀ a, besideStages a = true → t.reg a = s.reg a

namespace TxnKeeps

variable {s t u : State}

theorem refl (s : State) : TxnKeeps s s := ⟨rfl, rfl, rfl, fun _ _ => rfl⟩

theorem trans (h : TxnKeeps s t) (k : TxnKeeps t u) : TxnKeeps s u :=
  ⟨k.root.trans h.root, k.mode.trans h.mode, k.responses.trans h.responses, fun a ha => (k.reg a ha).trans (h.reg a ha)⟩

/-- Whatever is updated of other parts. -/
theorem beside (h : TxnKeeps s t)
    (same : (u.rootTxn, u.mode, u.link.responses, u.regs) = (t.rootTxn, t.mode, t.link.responses, t.regs)) : TxnKeeps s u := by
  simp only [Prod.mk.injEq] at same
  obtain ⟨root, mode, responses, regs⟩ := same
  exact h.trans ⟨root, mode, responses, fun a _ => reg_congr regs a⟩

theorem of_same (same : (t.rootTxn, t.mode, t.link.responses, t.regs) = (s.rootTxn, s.mode, s.link.responses, s.regs)) :
    TxnKeeps s t := (refl s).beside same

theorem setReg (h : TxnKeeps s t) {a : Nat} (v : Half) (ha : besideStages a = false) : TxnKeeps s (t.setReg a v) :=
  h.trans ⟨rfl, rfl, rfl, fun b hb => reg_setReg_ne _ _ (by rintro rfl; rw [ha] at hb; exact Bool.noConfusion hb)⟩

theorem setRegN (h : TxnKeeps s t) {a : Nat} (n : Nat) (ha : besideStages a = false) : TxnKeeps s (t.setRegN a n) := h.setReg _ ha

theorem setFld (h : TxnKeeps s t) {f : BitField} (n : Nat) (hf : besideStages f.addr = false) : TxnKeeps s (t.setFld f n) :=
  h.setReg _ hf

theorem setFlag (h : TxnKeeps s t) {f : BitField} (c : Bool) (hf : besideStages f.addr = false) : TxnKeeps s (t.setFlag f c) :=
  h.setReg _ hf

theorem setEng (h : TxnKeeps s t) (e : Engine) (x : Eng) : TxnKeeps s (t.setEng e x) := h.beside (by simp)

theorem ite {c : Prop} [Decidable c] (h : TxnKeeps s t) (k : TxnKeeps s u) : TxnKeeps s (if c then t else u) := by
  split
  · exact h
  · exact k

theorem forEach {α : Type} {f : State → α → State} (h : ∀ a s, TxnKeeps s (f s a)) (l : List α) (s : State) :
    TxnKeeps s (s.forEach l f) := forEach_rel refl trans h l s

theorem setTxn (h : TxnKeeps s t) (sub : Nat) (x : Option TxnStage) : TxnKeeps s (setTxn t sub x) := h.beside rfl

theorem fld (h : TxnKeeps s t) {f : BitField} (hf : besideStages f.addr = true) : t.fld f = s.fld f := by
  rw [State.fld, h.reg _ hf]
  rfl

theorem sweepNum (h : TxnKeeps s t) : t.sweepNum = s.sweepNum := by
  rw [State.sweepNum, State.regN, h.reg _ (by decide)]
  rfl

end TxnKeeps

theorem PlansOnly.txnKeeps {s t : State} (h : PlansOnly s t) : TxnKeeps s t := by
  refine ⟨?_, h.mode, by rw [h.link], fun a ha => h.reg a ?_⟩
  · obtain ⟨_, _, _, _, _, rfl⟩ := h.frame
    rfl
  · simp only [besideStages, besidePlans, Bool.or_eq_true, Bool.and_eq_true, decide_eq_true_eq, beq_iff_eq] at ha ⊢
    rcases ha with ha | rfl
    · exact .inr ha.1
    · exact .inr (by decide)

/-! ### A node's operations -/

theorem rgrpPrepare_keeps (s : State) : TxnKeeps s (rgrpPrepare s) := by
  have judged : TxnKeeps s (s.setFld Fld.RGRP_STATUS_RGRP_ERR s.groupError) := (TxnKeeps.refl s).setFld _ (by decide)
  exact .ite (TxnKeeps.setFld (judged.beside (by rfl)) _ (by decide)) judged

theorem rgrpCommit_keeps (s : State) : TxnKeeps s (rgrpCommit s) :=
  .ite (TxnKeeps.setFld (.ite (TxnKeeps.of_same (by rfl)) (.refl s)) _ (by decide)) (.refl s)

theorem rgrpCancel_keeps (s : State) : TxnKeeps s (rgrpCancel s) :=
  .ite (TxnKeeps.setFld (TxnKeeps.of_same (by rfl)) _ (by decide)) (.refl s)

theorem profUnstage_keeps (s : State) : TxnKeeps s (profUnstage s) := by
  have pages := TxnKeeps.forEach (fun e s => (TxnKeeps.refl s).setEng e { s.eng e with staged := false }) engines s
  exact TxnKeeps.setFld (pages.beside (by rfl)) _ (by decide)

theorem profSelect_keeps (s : State) (p : Nat) : TxnKeeps s (profSelect s p) := by
  have stage (s : State) : TxnKeeps s (profStage s p) := by
    have pages := TxnKeeps.forEach (fun e s => (TxnKeeps.refl s).setEng e { s.eng e with staged := false, shadow := false }) engines s
    exact TxnKeeps.setFld (pages.beside (by rfl)) _ (by decide)
  have judged : TxnKeeps s (s.setFld Fld.PROF_STATUS_PROF_ERR (s.profError p)) := (TxnKeeps.refl s).setFld _ (by decide)
  exact .ite (judged.trans (stage _)) judged

theorem txnDiscard_keeps (s : State) (sub : Nat) : TxnKeeps s (txnDiscard s sub) := by
  unfold txnDiscard
  extract_lets t
  have h : TxnKeeps s t := by
    unfold t
    split
    · exact (balClearStage_plansOnly s).txnKeeps
    · exact (impAbort_plansOnly s).txnKeeps
    · exact rgrpCancel_keeps s
    · exact profUnstage_keeps s
  exact h.setTxn ..

theorem txnDropShadow_keeps (s : State) (sub : Nat) : TxnKeeps s (txnDropShadow s sub) := by
  unfold txnDropShadow
  split
  · exact TxnKeeps.setFlag (TxnKeeps.of_same (by rfl)) _ (by decide)
  · exact TxnKeeps.of_same (by rfl)
  · have dropped : TxnKeeps s { s with swShadow := none } := TxnKeeps.of_same (by rfl)
    exact dropped.trans (.forEach (fun e s => (TxnKeeps.refl s).setEng e _) _ _)
  · exact .refl s

theorem txnPrepareNew_keeps (s : State) (sub id e : Nat) : TxnKeeps s (txnPrepareNew s sub id e).2 := by
  have taken (c : Bool) {t u : State} (h : TxnKeeps s t) (k : TxnKeeps s u) :
      TxnKeeps s (if c then (some resAck, setTxn t sub (some { id := id, expiry := e })) else (some resRefused, u) :
        Option Byte × State).2 := by
    cases c
    · exact k
    · exact h.setTxn ..
  unfold txnPrepareNew
  extract_lets take
  split
  · have h := (balPrepare_plansOnly s true).txnKeeps
    exact taken _ (.ite (h.setRegN _ (by decide)) h) (.ite (h.setRegN _ (by decide)) h)
  · have h := (impPrepare_plansOnly s).txnKeeps
    exact taken _ h h
  · have h := rgrpPrepare_keeps s
    exact taken _ h h
  · split
    · exact (profSelect_keeps s _).setTxn ..
    · exact profSelect_keeps s _
  · exact .refl s

theorem txnPrepare_keeps (s : State) (sub id e : Nat) : TxnKeeps s (txnPrepare s sub id e).2 := by
  unfold txnPrepare
  split
  · split
    · exact .refl s
    · have h := ((txnDropShadow_keeps s sub).setTxn sub none).trans (txnPrepareNew_keeps _ sub id e)
      exact .ite (h.setTxn ..) h
  · exact (txnDropShadow_keeps s sub).trans (txnPrepareNew_keeps ..)

theorem txnCommit_keeps (s : State) (sub id a : Nat) : TxnKeeps s (txnCommit s sub id a).2 := by
  unfold txnCommit
  split
  · exact .refl s
  · split
    · exact .refl s
    · split
      · exact .refl s
      · split
        · refine TxnKeeps.trans ?_ (txnDiscard_keeps _ sub)
          split
          · exact (TxnKeeps.refl s).setFld _ (by decide)
          · exact (TxnKeeps.refl s).setFld _ (by decide)
          · exact (TxnKeeps.refl s).setFld _ (by decide)
          · exact .refl s
        · dsimp only
          split
          · exact TxnKeeps.setTxn (((TxnKeeps.refl s).setFld _ (by decide)).setRegN _ (by decide)) ..
          · have h := (impCommit_plansOnly s).txnKeeps
            split
            · exact h.setTxn ..
            · exact h.trans (txnDiscard_keeps (impCommit s) 2)
          · exact (rgrpCommit_keeps s).setTxn ..
          · exact (TxnKeeps.refl s).setTxn ..

theorem txnCancel_keeps (s : State) (sub id : Nat) : TxnKeeps s (txnCancel s sub id).2 := by
  unfold txnCancel
  split
  · exact .refl s
  · split
    · exact .refl s
    · exact TxnKeeps.trans (.ite ((TxnKeeps.refl s).setFlag _ (by decide)) (.refl s)) (txnDiscard_keeps ..)

theorem txnRollback_keeps (s : State) (sub id : Nat) : TxnKeeps s (txnRollback s sub id).2 := by
  unfold txnRollback
  split
  · exact .refl s
  · split
    · exact .refl s
    · split
      · exact (impAbort_plansOnly s).txnKeeps.setTxn ..
      · split
        · exact (TxnKeeps.refl s).setTxn ..
        · exact .refl s

theorem txnClose_keeps (s : State) (sub id : Nat) : TxnKeeps s (txnClose s sub id).2 := by
  unfold txnClose
  split
  · exact .refl s
  · split
    · exact .refl s
    · exact (txnDropShadow_keeps s sub).setTxn ..

/-! ### What a tick shows after a node's operation -/

/-- `t` shows what `v` shows at the end of its tick, answers aside. -/
structure Seen (v t : State) : Prop where
  regs : t.regs = (settle v).regs
  bal : t.bal = v.bal
  txn : t.txn = v.txn
  rail : t.rail = v.rail
  sw : t.sw = v.sw
  eng : ∀ e, t.eng e = v.eng e
  plan : t.imp.plan = v.imp.plan
  mode : t.mode = v.mode

namespace Seen

variable {v t : State}

theorem settled (v : State) : Seen v (settle v) :=
  ⟨rfl, settle_bal v, settle_txn v, settle_rail v, settle_sw v, settle_eng v, settle_impPlan v, settle_mode v⟩

theorem fld (h : Seen v t) {f : BitField} (hf : f.addr ∉ levelRegs) : t.fld f = v.fld f :=
  (fld_congr h.regs f).trans (settle_fld v f hf)

theorem flag (h : Seen v t) {f : BitField} (hf : f.addr ∉ levelRegs) : t.flag f = v.flag f :=
  (flag_congr h.regs f).trans (settle_flag v f hf)

theorem regN (h : Seen v t) {a : Nat} (ha : a ∉ levelRegs) : t.regN a = v.regN a :=
  congrArg BitVec.toNat ((reg_congr h.regs a).trans (settle_reg v a ha))

theorem status (h : Seen v t) {f : BitField} (hf : besideFreerun f = true) : t.fld f = v.fld f :=
  (fld_congr h.regs f).trans (settle_status v hf)

theorem stageCode (h : Seen v t) (sub : Nat) : t.stageCode sub = v.stageCode sub := by
  have staged : t.profStaged = v.profStaged := by simp only [State.profStaged, h.sw, h.eng]
  simp only [State.stageCode, State.txnStage, h.txn, State.balStage, State.impState, h.fld (f := Fld.BAL_STATUS_STAGE) (by decide),
    h.fld (f := Fld.RGRP_STATUS_STAGE) (by decide), h.status (f := Fld.IMP_STATUS_STATE) (by decide), staged]
  rfl

end Seen

/-- A node's answer names operation, subsystem and transaction, the result, and the stage (R150). -/
theorem txnRespond_eq (s : State) (dst op sub id : Nat) (res : Byte) (tag : Bool) :
    ∃ n f, txnRespond s dst op sub id res tag = answers { s with freeCtr := n } f ∧ f.type = tyResponse ∧
      txnAnswerHead op sub id res (s.stageCode sub) <+: f.payload := by
  have draws : ∃ n, (s.txnSeq sub).2 = { s with freeCtr := n } := by
    unfold State.txnSeq
    split
    · exact ⟨_, rfl⟩
    · exact ⟨_, rfl⟩
    · exact ⟨_, rfl⟩
    · exact ⟨_, rfl⟩
  obtain ⟨n, drawn⟩ := draws
  obtain ⟨f, eq, type, starts⟩ := respond_eq (s.txnSeq sub).2 dst (txnAnswerHead op sub id res ((s.txnSeq sub).2.stageCode sub) ++
    leBytes 2 (s.txnSeq sub).1) tag
  refine ⟨n, f, ?_, type, ?_⟩
  · rw [← drawn]
    exact eq
  · rw [drawn] at starts
    exact (List.prefix_append _ _).trans starts

/-- The tick's end after a node's answer shows what the operation left, and the answer waits. -/
structure TxnAnswered (s v t : State) (op sub id : Nat) (res : Byte) : Prop where
  seen : Seen v t
  answer : Responds s t (txnAnswerHead op sub id res (t.stageCode sub))

theorem txnRespond_answered {s v : State} (h : v.link.responses = s.link.responses) (dst op sub id : Nat) (res : Byte) (tag : Bool) :
    TxnAnswered s v (settle (txnRespond v dst op sub id res tag)) op sub id res := by
  obtain ⟨n, f, eq, type, starts⟩ := txnRespond_eq v dst op sub id res tag
  have same : SameLevels v (answers { v with freeCtr := n } f) := ⟨rfl, rfl, rfl, rfl⟩
  have inner := Seen.settled (answers { v with freeCtr := n } f)
  rw [eq]
  have seen : Seen v (settle (answers { v with freeCtr := n } f)) :=
    ⟨same.settled.regs, inner.bal, inner.txn, inner.rail, inner.sw, inner.eng, inner.plan, inner.mode⟩
  refine ⟨seen, f, ?_, type, ?_⟩
  · rw [settle_link, ← h]
    rfl
  · rw [seen.stageCode]
    exact (List.prefix_iff_eq_take.mp starts).symm

end Sys2Proof.Machine
end

section
/-!
A node's operations on the stage of a transaction (R141 to R148): PREPARE against the host's own command, COMMIT, CANCEL, ROLLBACK
and CLOSE.
-/
namespace Sys2Proof.Machine

/-! ### Stages -/

theorem setTxn_txnStage (s : State) (sub : Nat) (x : Option TxnStage) : (setTxn s sub x).txnStage sub = x :=
  sparseGet_set_same s.txn none sub x

theorem setTxn_txnStage_ne (s : State) {sub other : Nat} (x : Option TxnStage) (h : other ≠ sub) :
    (setTxn s sub x).txnStage other = s.txnStage other := sparseGet_set_ne s.txn none none x h

theorem txnDiscard_txnStage (s : State) (sub : Nat) : (txnDiscard s sub).txnStage sub = none := setTxn_txnStage ..

theorem sweepAfter_iff (s : State) (a : Nat) : sweepAfter a s.sweepNum = true ↔
    1 ≤ (a + 65536 - s.sweepNum) % 65536 ∧ (a + 65536 - s.sweepNum) % 65536 ≤ 32767 := by
  have bound : s.sweepNum < 65536 := (s.reg Reg.SWEEP_NUM).isLt
  simp only [sweepAfter, Bool.and_eq_true, decide_eq_true_eq, Nat.mod_eq_of_lt bound]

/-! ### PREPARE of a profile switch (R276, R472) -/

theorem engPages_regs (f : State → Engine → Eng) (l : List Engine) (s : State) :
    (s.forEach l fun s e => s.setEng e (f s e)).regs = s.regs :=
  forEach_keeps (·.regs) (fun e _ s => setEng_regs s e _) s

theorem engPages_txn (f : State → Engine → Eng) (l : List Engine) (s : State) :
    (s.forEach l fun s e => s.setEng e (f s e)).txn = s.txn :=
  forEach_keeps (·.txn) (fun e _ s => setEng_txn s e _) s

theorem profError_lt (s : State) (p : Nat) : s.profError p < 8 := by
  unfold State.profError
  split_ifs <;> decide

theorem profStage_fld (s : State) (p : Nat) {f : BitField}
    (h : f.addr ≠ Reg.PROF_STATUS ∨ f.hi < Fld.PROF_STATUS_STAGE.lo ∨ Fld.PROF_STATUS_STAGE.hi < f.lo) :
    (profStage s p).fld f = s.fld f := by
  unfold profStage
  rw [fld_setFld_ne _ _ h]
  exact fld_congr (engPages_regs (fun s e => { s.eng e with staged := false, shadow := false }) engines s) f

/-- What SELECT shows: the cause, and with none the stage. -/
theorem profSelect_shows (s : State) (p : Nat) :
    (profSelect s p).fld Fld.PROF_STATUS_PROF_ERR = s.profError p ∧
    (profSelect s p).fld Fld.PROF_STATUS_ACTIVE = s.fld Fld.PROF_STATUS_ACTIVE ∧
    (s.profError p = 0 → (profSelect s p).fld Fld.PROF_STATUS_STAGE = 1) := by
  have error : (s.setFld Fld.PROF_STATUS_PROF_ERR (s.profError p)).fld Fld.PROF_STATUS_PROF_ERR = s.profError p :=
    (fld_setFld_same _ _ _ (by decide) (by decide)).trans (Nat.mod_eq_of_lt (profError_lt s p))
  have active : (s.setFld Fld.PROF_STATUS_PROF_ERR (s.profError p)).fld Fld.PROF_STATUS_ACTIVE = s.fld Fld.PROF_STATUS_ACTIVE :=
    fld_setFld_ne _ _ (by decide)
  unfold profSelect
  dsimp only
  split
  · exact ⟨(profStage_fld _ p (by decide)).trans error, (profStage_fld _ p (by decide)).trans active,
      fun _ => fld_setFld_same _ _ _ (by decide) (by decide)⟩
  · next refused => exact ⟨error, active, fun none => absurd none refused⟩

theorem profSelect_txn (s : State) (p : Nat) : (profSelect s p).txn = s.txn := by
  unfold profSelect
  dsimp only
  split
  · exact engPages_txn (fun s e => { s.eng e with staged := false, shadow := false }) engines _
  · rfl

/-! ### The state a new stage is prepared in (R145) -/

/-- The shadow is dropped, and the stage of another transaction makes room. -/
def stageRoom (s : State) (sub : Nat) : State :=
  match s.txnStage sub with
  | some _ => setTxn (txnDropShadow s sub) sub none
  | none => txnDropShadow s sub

/-- The stage that a refused PREPARE leaves: that of another transaction, unless it was active. -/
def stageKept (x : Option TxnStage) : Option TxnStage :=
  match x with
  | some x => if x.active then none else some x
  | none => none

theorem txnDropShadow_txn (s : State) (sub : Nat) : (txnDropShadow s sub).txn = s.txn := by
  unfold txnDropShadow
  split
  · rfl
  · rfl
  · exact engPages_txn (fun s e => { s.eng e with shadow := false }) engines { s with swShadow := none }
  · rfl

theorem stageRoom_eq (s : State) (sub : Nat) : ∃ x, stageRoom s sub = { txnDropShadow s sub with txn := x } := by
  unfold stageRoom
  split
  · exact ⟨_, rfl⟩
  · exact ⟨_, rfl⟩

theorem stageRoom_txnStage (s : State) (sub : Nat) : (stageRoom s sub).txnStage sub = none := by
  unfold stageRoom
  split
  · exact setTxn_txnStage ..
  · next h => exact (congrArg (sparseGet · none sub) (txnDropShadow_txn s sub)).trans h

section Prepare

variable {s v : State} {sub id e : Nat}

theorem stageRoom_of_none (h : s.txnStage sub = none) : stageRoom s sub = txnDropShadow s sub := by
  unfold stageRoom
  rw [h]

theorem stageRoom_of_some {x : TxnStage} (h : s.txnStage sub = some x) :
    stageRoom s sub = setTxn (txnDropShadow s sub) sub none := by
  unfold stageRoom
  rw [h]

theorem txnPrepare_of_none (h : s.txnStage sub = none) : txnPrepare s sub id e = txnPrepareNew (stageRoom s sub) sub id e := by
  rw [stageRoom_of_none h]
  unfold txnPrepare
  rw [h]

/-- One of another transaction makes room; a refusal leaves it with the transaction that holds it. -/
theorem txnPrepare_of_foreign {x : TxnStage} (h : s.txnStage sub = some x) (foreign : x.id ≠ id ∨ x.active = true) :
    txnPrepare s sub id e = ((txnPrepareNew (stageRoom s sub) sub id e).1, (txnPrepareNew (stageRoom s sub) sub id e).2.when
      ((txnPrepareNew (stageRoom s sub) sub id e).1 == some resRefused && !x.active) fun s => setTxn s sub (some x)) := by
  have other : ¬ (x.id = id ∧ (!x.active) = true) := by
    simp only [Bool.not_eq_true', not_and, Bool.not_eq_false]
    exact fun same => foreign.resolve_left (fun differ => differ same)
  rw [stageRoom_of_some h]
  unfold txnPrepare
  rw [h]
  exact if_neg other

/-- Of a transaction whose stage the node does not hold. -/
theorem txnPrepare_taken (other : ∀ x, s.txnStage sub = some x → x.id ≠ id ∨ x.active = true) {r : Option Byte}
    (hr : r ≠ some resRefused) (h : txnPrepareNew (stageRoom s sub) sub id e = (r, v)) : txnPrepare s sub id e = (r, v) := by
  cases held : s.txnStage sub with
  | none => rw [txnPrepare_of_none held, h]
  | some x =>
    rw [txnPrepare_of_foreign held (other x held), h]
    simp [State.when, hr]

theorem txnPrepare_refused (other : ∀ x, s.txnStage sub = some x → x.id ≠ id ∨ x.active = true)
    (h : txnPrepareNew (stageRoom s sub) sub id e = (some resRefused, v)) (room : v.txnStage sub = none) :
    ∃ l, txnPrepare s sub id e = (some resRefused, { v with txn := l }) ∧ sparseGet l none sub = stageKept (s.txnStage sub) := by
  cases held : s.txnStage sub with
  | none =>
    rw [txnPrepare_of_none held, h]
    exact ⟨v.txn, rfl, room⟩
  | some x =>
    rw [txnPrepare_of_foreign held (other x held), h]
    by_cases active : x.active = true
    · exact ⟨v.txn, by simp [State.when, active], by simpa [stageKept, active, State.txnStage] using room⟩
    · exact ⟨_, by simp [State.when, active]; rfl, by simpa [stageKept, active] using sparseGet_set_same ..⟩

end Prepare

/-! ### PREPARE of a plan or a group change, beside the host's own -/

/-- The keys as the check of a command's tag leaves them. -/
def keyed (s : State) (k : Keys) : State := { s with keys := k }

/-- The subsystem's PREPARE, by the chain and by the host, and the fields that show its outcome. -/
def prepared (s : State) : Nat → State
  | 1 => balPrepare s true
  | 2 => impPrepare s
  | _ => rgrpPrepare s

def hostPrepared (s : State) : Nat → State
  | 1 => balPrepare s false
  | 2 => impPrepare s
  | _ => rgrpPrepare s

def errorField : Nat → BitField
  | 1 => Fld.BAL_STATUS_PLAN_ERR
  | 2 => Fld.IMP_STATUS_PREP_ERR
  | _ => Fld.RGRP_STATUS_RGRP_ERR

def stageField : Nat → BitField
  | 1 => Fld.BAL_STATUS_STAGE
  | 2 => Fld.IMP_STATUS_STATE
  | _ => Fld.RGRP_STATUS_STAGE

/-- Two states show the same outcome of a PREPARE. -/
structure PreparedAlike (sub : Nat) (u v : State) : Prop where
  error : v.fld (errorField sub) = u.fld (errorField sub)
  stage : v.fld (stageField sub) = u.fld (stageField sub)
  staged : v.bal.staged = u.bal.staged
  plan : v.imp.plan = u.imp.plan
  mask : v.rail.group.mask = u.rail.group.mask

theorem PreparedAlike.trans {sub : Nat} {u v w : State} (h : PreparedAlike sub u v) (k : PreparedAlike sub v w) :
    PreparedAlike sub u w :=
  ⟨k.error.trans h.error, k.stage.trans h.stage, k.staged.trans h.staged, k.plan.trans h.plan, k.mask.trans h.mask⟩

/-- A tick's end changes none of it. -/
theorem prepared_settles {sub : Nat} (h1 : 1 ≤ sub) (h3 : sub ≤ 3) (v : State) : PreparedAlike sub v (settle v) := by
  obtain rfl | rfl | rfl : sub = 1 ∨ sub = 2 ∨ sub = 3 := by omega
  · exact ⟨settle_fld _ _ (by decide), settle_fld _ _ (by decide), by rw [settle_bal], settle_impPlan v, by rw [settle_rail]⟩
  · exact ⟨settle_status _ (by decide), settle_status _ (by decide), by rw [settle_bal], settle_impPlan v, by rw [settle_rail]⟩
  · exact ⟨settle_fld _ _ (by decide), settle_fld _ _ (by decide), by rw [settle_bal], settle_impPlan v, by rw [settle_rail]⟩

theorem Seen.preparedAlike {sub : Nat} (h1 : 1 ≤ sub) (h3 : sub ≤ 3) {v t : State} (h : Seen v t) : PreparedAlike sub v t :=
  (prepared_settles h1 h3 v).trans
    ⟨fld_congr h.regs _, fld_congr h.regs _, by rw [h.bal, settle_bal], by rw [h.plan, settle_impPlan], by rw [h.rail, settle_rail]⟩

theorem planRegs_congr {s t : State} (regs : ∀ a, a ≠ Reg.BAL_STATUS → t.reg a = s.reg a) : t.planRegs = s.planRegs := by
  have sp (k : Nat) (hk : k ∈ List.range 24) : t.reg (Reg.BAL_SP k) = s.reg (Reg.BAL_SP k) :=
    regs _ (by simp only [List.mem_range] at hk; simp only [Reg.BAL_SP, Reg.BAL_STATUS]; omega)
  have bud (k : Nat) (hk : k ∈ List.range 24) : t.reg (Reg.BAL_BUD k) = s.reg (Reg.BAL_BUD k) :=
    regs _ (by simp only [List.mem_range] at hk; simp only [Reg.BAL_BUD, Reg.BAL_STATUS]; omega)
  rw [State.planRegs, State.planRegs, regs Reg.BAL_PLAN_TO (by decide), List.map_congr_left sp, List.map_congr_left bud]

/-- The cause of a refusal rests on registers beside BAL_STATUS. -/
theorem balPrepareError_congr {s t : State} (mode : t.mode = s.mode) (regs : ∀ a, a ≠ Reg.BAL_STATUS → t.reg a = s.reg a) :
    t.balPrepareError t.planRegs true = s.balPrepareError s.planRegs true := by
  have fld {f : BitField} (hf : f.addr ≠ Reg.BAL_STATUS) : t.fld f = s.fld f := congrArg f.read (regs _ hf)
  have plan := planRegs_congr regs
  have locked (g : Nat) : t.locked g = s.locked g := by
    rw [State.locked, State.flag, fld (by simp only [Fld.BAL_GRP_LOCKED, Reg.BAL_GRP, Reg.BAL_STATUS]; omega)]
    rfl
  have enabled : t.flag Fld.BAL_CTL_EN = s.flag Fld.BAL_CTL_EN := by
    rw [State.flag, fld (by decide)]
    rfl
  have imax : t.fld Fld.BAL_IMAX_IMAX = s.fld Fld.BAL_IMAX_IMAX := fld (by decide)
  have cells : t.cells = s.cells := fld (by decide)
  simp only [State.balPrepareError, plan, imax, cells, mode, enabled, locked, Bool.not_true, Bool.false_and, Bool.false_eq_true, if_false]

theorem balPrepareError_host {s : State} (h : s.chainHolds = false ∨ s.balStage = 0) (p : Plan) :
    s.balPrepareError p false = s.balPrepareError p true := by
  have free : (!false && s.balStage != stageNone && s.chainHolds) = false := by
    rcases h with h | h <;> simp [h, stageNone]
  unfold State.balPrepareError
  extract_lets cells asks
  rw [free]
  rfl

theorem stageRoom_bal (s : State) (k : Keys) : (∀ a, a ≠ Reg.BAL_STATUS → (stageRoom (keyed s k) 1).reg a = s.reg a) ∧
    (stageRoom (keyed s k) 1).fld Fld.BAL_STATUS_STAGE = s.fld Fld.BAL_STATUS_STAGE ∧ (stageRoom (keyed s k) 1).bal.staged = s.bal.staged ∧
    (stageRoom (keyed s k) 1).imp = s.imp ∧ (stageRoom (keyed s k) 1).rail = s.rail ∧ (stageRoom (keyed s k) 1).mode = s.mode := by
  obtain ⟨x, eq⟩ := stageRoom_eq (keyed s k) 1
  have regs (a : Nat) (ha : a ≠ Reg.BAL_STATUS) : (balDropShadow (keyed s k)).reg a = s.reg a := reg_setFlag_ne _ _ ha
  have stage : (balDropShadow (keyed s k)).fld Fld.BAL_STATUS_STAGE = s.fld Fld.BAL_STATUS_STAGE := fld_setFlag_ne _ _ (by decide)
  rw [eq]
  exact ⟨regs, stage, rfl, rfl, rfl, rfl⟩

theorem balPrepare_rail (s : State) (c : Bool) : (balPrepare s c).rail = s.rail := by
  obtain ⟨_, _, _, _, _, eq⟩ := (balPrepare_plansOnly s c).frame
  rw [eq]

/-- The chain's PREPARE of a charge-transfer plan is judged by the same table. -/
theorem stageRoom_balError (s : State) (k : Keys) :
    (stageRoom (keyed s k) 1).balPrepareError (stageRoom (keyed s k) 1).planRegs true = s.balPrepareError s.planRegs true := by
  obtain ⟨regs, -, -, -, -, mode⟩ := stageRoom_bal s k
  exact balPrepareError_congr mode regs

theorem balPrepared_alike {s : State} (k : Keys) (h : s.chainHolds = false ∨ s.balStage = 0) :
    PreparedAlike 1 (balPrepare s false) (balPrepare (stageRoom (keyed s k) 1) true) := by
  obtain ⟨regs, stage, staged, imp, rail, mode⟩ := stageRoom_bal s k
  have plan := planRegs_congr regs
  have host := balPrepare_judged s false
  have chain := balPrepare_judged (stageRoom (keyed s k) 1) true
  rw [balPrepareError_host h] at host
  rw [stageRoom_balError] at chain
  refine ⟨chain.error.trans host.error.symm, ?_, ?_, ?_, ?_⟩
  · exact (chain.stage.trans (by rw [stage])).trans host.stage.symm
  · rw [chain.bal, host.bal, plan, staged]
  · rw [chain.imp, host.imp, imp]
  · rw [balPrepare_rail, balPrepare_rail, rail]

/-- What PREPARE of the impedance unit shows. -/
theorem impPrepare_shows (s : State) : (impPrepare s).fld Fld.IMP_STATUS_PREP_ERR = prepareError s ∧
    (impPrepare s).fld Fld.IMP_STATUS_STATE = (if prepareError s = 0 then impPrepared else s.fld Fld.IMP_STATUS_STATE) ∧
    (impPrepare s).imp.plan = (if prepareError s = 0 then some s.impRegs else s.imp.plan) := by
  obtain ⟨x, unstaged⟩ := impUnstage_txn (prepareJudged s)
  rw [impPrepare_eq, unstaged]
  split
  · next h =>
    refine ⟨?_, fld_setFld_same _ _ _ (by decide) (by decide), rfl⟩
    rw [planStaged, fld_setFld_ne _ _ (by decide)]
    exact prepareJudged_error s
  · obtain ⟨r, regsOnly⟩ := prepareJudged_regsOnly s
    exact ⟨prepareJudged_error s, prepareJudged_state s, by rw [regsOnly]⟩

theorem impPrepare_beside (s : State) : (impPrepare s).bal = s.bal ∧ (impPrepare s).rail = s.rail := by
  obtain ⟨x, unstaged⟩ := impUnstage_txn (prepareJudged s)
  obtain ⟨r, regsOnly⟩ := prepareJudged_regsOnly s
  rw [impPrepare_eq, unstaged, regsOnly]
  split <;> exact ⟨rfl, rfl⟩

theorem impPrepared_alike (s : State) (k : Keys) (x : Sparse (Option TxnStage)) :
    PreparedAlike 2 (impPrepare s) (impPrepare { keyed s k with txn := x }) := by
  obtain ⟨error, state, plan⟩ := impPrepare_shows s
  obtain ⟨error', state', plan'⟩ := impPrepare_shows { keyed s k with txn := x }
  obtain ⟨bal, rail⟩ := impPrepare_beside s
  obtain ⟨bal', rail'⟩ := impPrepare_beside { keyed s k with txn := x }
  exact ⟨error'.trans error.symm, state'.trans state.symm, congrArg (·.staged) (bal'.trans bal.symm), plan'.trans plan.symm,
    congrArg (·.group.mask) (rail'.trans rail.symm)⟩

theorem groupError_lt (s : State) : s.groupError < 8 := by
  unfold State.groupError
  extract_lets m w rails
  split_ifs <;> decide

/-- What PREPARE of a group change shows. -/
theorem rgrpPrepare_shows (s : State) : (rgrpPrepare s).fld Fld.RGRP_STATUS_RGRP_ERR = s.groupError ∧
    (rgrpPrepare s).fld Fld.RGRP_STATUS_STAGE = (if s.groupError = 0 then 1 else s.fld Fld.RGRP_STATUS_STAGE) ∧
    (rgrpPrepare s).rail.group.mask = (if s.groupError = 0 then s.groupMask else s.rail.group.mask) ∧
    (rgrpPrepare s).bal = s.bal ∧ (rgrpPrepare s).imp = s.imp ∧ (rgrpPrepare s).txn = s.txn := by
  have error : (s.setFld Fld.RGRP_STATUS_RGRP_ERR s.groupError).fld Fld.RGRP_STATUS_RGRP_ERR = s.groupError :=
    (fld_setFld_same _ _ _ (by decide) (by decide)).trans (Nat.mod_eq_of_lt (groupError_lt s))
  have mask : (s.setFld Fld.RGRP_STATUS_RGRP_ERR s.groupError).groupMask = s.groupMask := fld_setFld_ne _ _ (by decide)
  unfold rgrpPrepare
  dsimp only
  split
  · exact ⟨(fld_setFld_ne _ _ (by decide)).trans error, fld_setFld_same _ _ _ (by decide) (by decide), mask, rfl, rfl, rfl⟩
  · exact ⟨error, fld_setFld_ne _ _ (by decide), rfl, rfl, rfl, rfl⟩

theorem rgrpPrepared_alike (s : State) (k : Keys) : PreparedAlike 3 (rgrpPrepare s) (rgrpPrepare (stageRoom (keyed s k) 3)) := by
  obtain ⟨x, eq⟩ := stageRoom_eq (keyed s k) 3
  have judged : (stageRoom (keyed s k) 3).groupError = s.groupError := by rw [eq]; rfl
  obtain ⟨error, stage, mask, bal, imp, -⟩ := rgrpPrepare_shows s
  obtain ⟨error', stage', mask', bal', imp', -⟩ := rgrpPrepare_shows (stageRoom (keyed s k) 3)
  rw [judged] at error' stage' mask'
  have same : (stageRoom (keyed s k) 3).fld Fld.RGRP_STATUS_STAGE = s.fld Fld.RGRP_STATUS_STAGE ∧
      (stageRoom (keyed s k) 3).groupMask = s.groupMask ∧ (stageRoom (keyed s k) 3).rail.group.mask = s.rail.group.mask ∧
      (stageRoom (keyed s k) 3).bal = s.bal ∧ (stageRoom (keyed s k) 3).imp = s.imp := by rw [eq]; exact ⟨rfl, rfl, rfl, rfl, rfl⟩
  obtain ⟨stageSame, wanted, maskSame, balSame, impSame⟩ := same
  rw [stageSame] at stage'
  rw [wanted, maskSame] at mask'
  exact ⟨error'.trans error.symm, stage'.trans stage.symm, by rw [bal', bal, balSame], by rw [imp', imp, impSame], mask'.trans mask.symm⟩

/-- The chain's PREPARE shows what the host's would. -/
theorem prepared_alike {s : State} (k : Keys) {sub : Nat} (h1 : 1 ≤ sub) (h3 : sub ≤ 3)
    (free : sub = 1 → s.chainHolds = false ∨ s.balStage = 0) :
    PreparedAlike sub (hostPrepared s sub) (prepared (stageRoom (keyed s k) sub) sub) := by
  obtain rfl | rfl | rfl : sub = 1 ∨ sub = 2 ∨ sub = 3 := by omega
  · exact balPrepared_alike k (free rfl)
  · obtain ⟨x, eq⟩ := stageRoom_eq (keyed s k) 2
    rw [eq]
    exact impPrepared_alike s k x
  · exact rgrpPrepared_alike s k

/-- BAL_TXN names the transaction of a charge-transfer plan. -/
def stageNoted (v : State) (sub id : Nat) : State := if sub = 1 then v.setRegN Reg.BAL_TXN id else v

theorem txnPrepareNew_eq {sub : Nat} (h1 : 1 ≤ sub) (h3 : sub ≤ 3) (s : State) (id e : Nat) : txnPrepareNew s sub id e =
    if (prepared s sub).fld (errorField sub) = 0 then
      (some resAck, setTxn (stageNoted (prepared s sub) sub id) sub (some { id := id, expiry := e }))
    else (some resRefused, prepared s sub) := by
  obtain rfl | rfl | rfl : sub = 1 ∨ sub = 2 ∨ sub = 3 := by omega
  · simp only [txnPrepareNew, prepared, errorField, stageNoted, State.when]
    by_cases h : (balPrepare s true).fld Fld.BAL_STATUS_PLAN_ERR = 0 <;> simp [h]
  · exact if_congr beq_iff_eq rfl rfl
  · exact if_congr beq_iff_eq rfl rfl

theorem stageNoted_alike {sub : Nat} (h1 : 1 ≤ sub) (h3 : sub ≤ 3) (v : State) (id : Nat) (x : Option TxnStage) :
    PreparedAlike sub v (setTxn (stageNoted v sub id) sub x) := by
  obtain rfl | rfl | rfl : sub = 1 ∨ sub = 2 ∨ sub = 3 := by omega
  · exact ⟨fld_setRegN_ne _ _ (by decide), fld_setRegN_ne _ _ (by decide), rfl, rfl, rfl⟩
  · exact ⟨rfl, rfl, rfl, rfl, rfl⟩
  · exact ⟨rfl, rfl, rfl, rfl, rfl⟩

theorem prepared_txn_of_refused {sub : Nat} (h1 : 1 ≤ sub) (h3 : sub ≤ 3) {s : State}
    (h : (prepared s sub).fld (errorField sub) ≠ 0) : (prepared s sub).txn = s.txn := by
  obtain rfl | rfl | rfl : sub = 1 ∨ sub = 2 ∨ sub = 3 := by omega
  · exact (balPrepare_judged s true).txn
  · obtain ⟨error, -, -⟩ := impPrepare_shows s
    obtain ⟨r, regsOnly⟩ := prepareJudged_regsOnly s
    have eq : impPrepare s = prepareJudged s := (impPrepare_eq s).trans (if_neg (error ▸ h))
    change (impPrepare s).txn = _
    rw [eq, regsOnly]
  · exact (rgrpPrepare_shows s).2.2.2.2.2

end Sys2Proof.Machine
end

section
/-!
The transaction commands a node receives (R147, R150): the tag, the operation, the answer.
-/
namespace Sys2Proof.Machine

/-! ### COMMIT, CANCEL, ROLLBACK and CLOSE of a stage -/

/-- COMMIT for a later sweep: what the subsystem itself takes. -/
def stageNamed (s : State) (sub a : Nat) : State :=
  match sub with
  | 1 => (s.setFld Fld.BAL_STATUS_STAGE stageCommitted).setRegN Reg.BAL_ACT a
  | 3 => rgrpCommit s
  | _ => s

/-- COMMIT too late: the cause the subsystem shows. -/
def stageLate (s : State) (sub : Nat) : State :=
  match sub with
  | 1 => s.setFld Fld.BAL_STATUS_PLAN_ERR 5
  | 3 => s.setFld Fld.RGRP_STATUS_RGRP_ERR 5
  | 4 => s.setFld Fld.PROF_STATUS_PROF_ERR 6
  | _ => s

section Operations

variable {s : State} {sub id a e : Nat} {x : TxnStage}

theorem txnCommit_named (held : s.txnStage sub = some { id := id, expiry := e }) (h2 : sub ≠ 2)
    (known : 1 ≤ sub ∧ sub ≤ 4) (later : sweepAfter a s.sweepNum = true) : txnCommit s sub id a =
      (resAck, setTxn (stageNamed s sub a) sub (some { id := id, expiry := e, act := some a })) := by
  unfold txnCommit
  rw [held]
  simp only [later, h2, ne_eq, not_true_eq_false, Bool.not_true, Bool.false_eq_true, or_self, and_false, if_false, Option.isSome_none,
    not_false_eq_true]
  obtain rfl | rfl | rfl : sub = 1 ∨ sub = 3 ∨ sub = 4 := by omega
  · rfl
  · rfl
  · rfl

theorem txnCommit_late (held : s.txnStage sub = some { id := id, expiry := e }) (h2 : sub ≠ 2)
    (late : sweepAfter a s.sweepNum = false) : txnCommit s sub id a = (resLate, txnDiscard (stageLate s sub) sub) := by
  unfold txnCommit
  rw [held]
  simp only [late, h2, ne_eq, not_true_eq_false, Bool.not_false, Bool.false_eq_true, or_self, and_self, if_false, if_true,
    Option.isSome_none, not_false_eq_true]
  rfl

theorem txnCommit_spectrum (held : s.txnStage 2 = some { id := id, expiry := e }) : txnCommit s 2 id a =
    if (impCommit s).impState = impRunning then
      (resAck, setTxn (impCommit s) 2 (some { id := id, expiry := e, act := some a }))
    else (resLate, txnDiscard (impCommit s) 2) := by
  unfold txnCommit
  rw [held]
  simp only [ne_eq, not_true_eq_false, Bool.false_eq_true, or_self, false_and, if_false, Option.isSome_none]

theorem txnCancel_held (held : s.txnStage sub = some x) (same : x.id = id) (waits : x.active = false) :
    txnCancel s sub id = (resAck, txnDiscard (if sub = 1 then s.setFlag Fld.BAL_STATUS_CANCELLED true else s) sub) := by
  unfold txnCancel
  rw [held]
  simp only [same, waits, ne_eq, not_true_eq_false, Bool.false_eq_true, or_self, if_false]

theorem txnRollback_spectrum (held : s.txnStage 2 = some x) (same : x.id = id) :
    txnRollback s 2 id = (resAck, setTxn (impAbort s) 2 none) := by
  unfold txnRollback
  rw [held]
  simp only [same, ne_eq, not_true_eq_false, if_false, if_true]

theorem txnRollback_active (held : s.txnStage sub = some x) (same : x.id = id) (h2 : sub ≠ 2) (active : x.active = true) :
    txnRollback s sub id = (resAck, setTxn s sub (some { x with rollback := true })) := by
  unfold txnRollback
  rw [held]
  simp only [same, active, h2, ne_eq, not_true_eq_false, if_false, if_true]

theorem txnClose_held (held : s.txnStage sub = some x) (same : x.id = id) :
    txnClose s sub id = (resAck, setTxn (txnDropShadow s sub) sub none) := by
  unfold txnClose
  rw [held]
  simp only [same, ne_eq, not_true_eq_false, if_false]

/-- A transaction the node does not hold. -/
theorem txn_foreign (foreign : ∀ x, s.txnStage sub = some x → x.id ≠ id) : txnCommit s sub id a = (resNoTxn, s) ∧
    txnCancel s sub id = (resNoTxn, s) ∧ txnRollback s sub id = (resNoTxn, s) ∧ txnClose s sub id = (resNoTxn, s) := by
  unfold txnCommit txnCancel txnRollback txnClose
  cases held : s.txnStage sub with
  | none => exact ⟨rfl, rfl, rfl, rfl⟩
  | some x =>
    have differs : x.id ≠ id := foreign x held
    simp [differs]

theorem txnPrepare_repeat (held : s.txnStage sub = some x) (same : x.id = id) (waits : x.active = false) :
    txnPrepare s sub id e = (if sub = 4 ∧ !s.profStaged then none else some resAck, s) := by
  unfold txnPrepare
  rw [held]
  simp only [same, waits, Bool.not_false, and_self, if_true]

theorem txnStatus_eq (s : State) (sub id : Nat) :
    s.txnStatus sub id = if (s.txnStage sub).any (fun x => x.id == id) then 0 else 3 := by
  unfold State.txnStatus
  cases s.txnStage sub with
  | none => rfl
  | some x => simp [resAck, resNoTxn]

end Operations

/-! ### The commands -/

section Received

variable {s : State} {f : Frame} {op sub id act : Nat}

theorem TxnFrame.accepted (h : TxnFrame f op sub id act) :
    ¬ (f.payload.length < 8 ∨ leAt f.payload 0 1 ≠ op ∨ leAt f.payload 1 1 = 0 ∨ 4 < leAt f.payload 1 1) := by
  obtain ⟨length, opIs, subIs, -, -, known⟩ := h
  omega

theorem TxnFrame.act_lt (h : TxnFrame f op sub id act) : act < 65536 := by
  have bound (l : List Byte) : leAt l 4 2 < 65536 := by
    have slice2 : (slice l 4 2).length = 2 := by simp [slice]
    obtain ⟨x, y, two⟩ := List.length_eq_two.mp slice2
    have hx := x.isLt
    have hy := y.isLt
    rw [leAt, two]
    simp only [fromLe]
    omega
  rw [← h.actIs]
  exact bound _

theorem txnReceive_bad (h : TxnFrame f op sub id act) (h6 : op ≠ 6) (bad : (checkTag s f).1 = .bad) :
    txnReceive s f op = txnRespond (s.incSat Reg.AUTH_FAIL) f.src.toNat op sub id resAuth true := by
  unfold txnReceive
  rw [if_neg h.accepted, if_neg h6, checkTag_bad bad, h.subIs, h.idIs]

theorem txnReceive_status (h : TxnFrame f 6 sub id act) :
    txnReceive s f 6 = txnRespond s f.src.toNat 6 sub id (s.txnStatus sub id) false := by
  unfold txnReceive
  rw [if_neg h.accepted, if_pos rfl, h.subIs, h.idIs]

/-- The operation of a command, and what it is answered. -/
def txnOperation (s : State) (op sub id act : Nat) : Option Byte × State :=
  match op with
  | 1 => txnPrepare s sub id act
  | 2 => (some (txnCommit s sub id act).1, (txnCommit s sub id act).2)
  | 3 => (some (txnCancel s sub id).1, (txnCancel s sub id).2)
  | 4 => (some (txnRollback s sub id).1, (txnRollback s sub id).2)
  | _ => (some (txnClose s sub id).1, (txnClose s sub id).2)

theorem txnOperation_keeps (s : State) (op sub id act : Nat) : TxnKeeps s (txnOperation s op sub id act).2 := by
  unfold txnOperation
  split
  · exact txnPrepare_keeps ..
  · exact txnCommit_keeps ..
  · exact txnCancel_keeps ..
  · exact txnRollback_keeps ..
  · exact txnClose_keeps ..

/-- With a good tag the operation is done. -/
theorem txnReceive_good (h : TxnFrame f op sub id act) (h1 : 1 ≤ op) (h5 : op ≤ 5) (ok : (checkTag s f).1 = .good) : ∃ k,
    txnReceive s f op = match txnOperation (keyed s k) op sub id act with
      | (some r, v) => txnRespond v f.src.toNat op sub id r true
      | (none, v) => v := by
  obtain ⟨k, tag⟩ := checkTag_good ok
  refine ⟨k, ?_⟩
  unfold txnReceive
  rw [if_neg h.accepted, if_neg (by omega), tag]
  dsimp only
  rw [h.subIs, h.idIs, h.actIs]
  obtain rfl | rfl | rfl | rfl | rfl : op = 1 ∨ op = 2 ∨ op = 3 ∨ op = 4 ∨ op = 5 := by omega
  · change _ = match txnPrepare { s with keys := k } sub id act with
      | (some r, v) => txnRespond v f.src.toNat 1 sub id r true
      | (none, v) => v
    obtain ⟨r, v⟩ := txnPrepare { s with keys := k } sub id act
    cases r <;> rfl
  · rfl
  · rfl
  · rfl
  · rfl

/-- The commands of a node's stage, by their OP. -/
def txnCommands (f : Frame) : List (Instr × Nat) :=
  [(Instr.txnPrepare f, 1), (.txnCommit f, 2), (.txnCancel f, 3), (.txnRollback f, 4), (.txnClose f, 5)]

theorem txnCommands_exec {p : Instr × Nat} (hp : p ∈ txnCommands f) (s : State) :
    1 ≤ p.2 ∧ p.2 ≤ 5 ∧ exec p.1 s = .next (settle (txnReceive s f p.2)) := by
  simp only [txnCommands, List.mem_cons, List.not_mem_nil, or_false] at hp
  rcases hp with rfl | rfl | rfl | rfl | rfl <;> exact ⟨by simp, by simp, rfl⟩

/-- With a good tag the command completes with what its operation leaves, answered by its result. -/
theorem txnCommand_answers {p : Instr × Nat} (hp : p ∈ txnCommands f) (h : TxnFrame f p.2 sub id act)
    (ok : (checkTag s f).1 = .good) : ∃ k,
      (∀ r v, txnOperation (keyed s k) p.2 sub id act = (some r, v) →
        Completes p.1 s fun t => TxnAnswered s v t p.2 sub id r) ∧
      (∀ v, txnOperation (keyed s k) p.2 sub id act = (none, v) → exec p.1 s = .next (settle v)) := by
  obtain ⟨h1, h5, next⟩ := txnCommands_exec hp s
  obtain ⟨k, good⟩ := txnReceive_good h h1 h5 ok
  have keeps := txnOperation_keeps (keyed s k) p.2 sub id act
  refine ⟨k, fun r v eq => ?_, fun v eq => ?_⟩ <;> rw [eq] at good keeps
  · exact ⟨_, next.trans (congrArg (fun t => Host.Outcome.next (settle t)) good), txnRespond_answered (s := s) (v := v) keeps.responses ..⟩
  · exact next.trans (congrArg (fun t => Host.Outcome.next (settle t)) good)

/-- A bad tag is counted and answered AUTH. -/
theorem txnCommand_bad {p : Instr × Nat} (hp : p ∈ txnCommands f) (h : TxnFrame f p.2 sub id act)
    (bad : (checkTag s f).1 = .bad) :
    Completes p.1 s fun t => TxnAnswered s (s.incSat Reg.AUTH_FAIL) t p.2 sub id resAuth := by
  obtain ⟨h1, h5, next⟩ := txnCommands_exec hp s
  obtain ⟨r, counted⟩ := incSat_regsOnly s Reg.AUTH_FAIL
  exact ⟨_, next.trans (congrArg (fun t => Host.Outcome.next (settle t)) (txnReceive_bad h (by omega) bad)),
    txnRespond_answered (by rw [counted]) ..⟩

/-- STATUS needs no tag. -/
theorem txnStatus_answers (h : TxnFrame f 6 sub id act) :
    Completes (.txnStatus f) s fun t => TxnAnswered s s t 6 sub id (s.txnStatus sub id) :=
  ⟨_, congrArg (fun t => Host.Outcome.next (settle t)) (txnReceive_status h), txnRespond_answered rfl ..⟩

end Received

end Sys2Proof.Machine
end

section
/-!
What each transaction command does at a node: the clauses of O28 on PREPARE, COMMIT, CANCEL, ROLLBACK, CLOSE and STATUS.
-/
namespace Sys2Proof.Machine

section Clauses

variable {s : State} {f : Frame} {sub id act e : Nat} {x : TxnStage}

/-! ### PREPARE (R141, R145) -/

theorem prepareCommand_mem (f : Frame) : (Instr.txnPrepare f, 1) ∈ txnCommands f := List.mem_cons_self

theorem txnOperation_prepare {v : State} {r : Option Byte} (h : txnPrepare s sub id act = (r, v)) :
    txnOperation s 1 sub id act = (r, v) := h

theorem prepared_keeps (s : State) (sub : Nat) : TxnKeeps s (prepared s sub) := by
  unfold prepared
  split
  · exact (balPrepare_plansOnly s true).txnKeeps
  · exact (impPrepare_plansOnly s).txnKeeps
  · exact rgrpPrepare_keeps s

theorem stageRoom_keeps (s : State) (sub : Nat) : TxnKeeps s (stageRoom s sub) := by
  unfold stageRoom
  split
  · exact (txnDropShadow_keeps s sub).setTxn ..
  · exact txnDropShadow_keeps s sub

/-- What a PREPARE of a plan or a group change leaves and answers, beside the state `u` that the host's own leaves. -/
structure PrepareAnswered (s u t : State) (sub id act : Nat) : Prop where
  alike : PreparedAlike sub u t
  mode : t.mode = s.mode
  taken : u.fld (errorField sub) = 0 → t.txnStage sub = some { id := id, expiry := act } ∧
    Responds s t (txnAnswerHead 1 sub id 0 (t.stageCode sub)) ∧ (sub = 1 → t.regN Reg.BAL_TXN = id % 65536)
  refused : u.fld (errorField sub) ≠ 0 →
    Responds s t (txnAnswerHead 1 sub id 1 (t.stageCode sub)) ∧ t.txnStage sub = stageKept (s.txnStage sub)

theorem txnPrepare_asHost (h1 : 1 ≤ sub) (h3 : sub ≤ 3) (h : TxnFrame f 1 sub id act) (ok : (checkTag s f).1 = .good)
    (other : ∀ x, s.txnStage sub = some x → x.id ≠ id ∨ x.active = true) (free : sub = 1 → s.chainHolds = false ∨ s.balStage = 0) :
    Completes (.txnPrepare f) s fun t => PrepareAnswered s (settle (hostPrepared s sub)) t sub id act := by
  obtain ⟨k, answers, -⟩ := txnCommand_answers (prepareCommand_mem f) h ok
  have alike := prepared_alike k h1 h3 free
  have room := stageRoom_txnStage (keyed s k) sub
  have mode : (prepared (stageRoom (keyed s k) sub) sub).mode = s.mode :=
    ((stageRoom_keeps (keyed s k) sub).trans (prepared_keeps _ sub)).mode
  have new := txnPrepareNew_eq h1 h3 (stageRoom (keyed s k) sub) id act
  have untouched := prepared_txn_of_refused h1 h3 (s := stageRoom (keyed s k) sub)
  generalize prepared (stageRoom (keyed s k) sub) sub = v at alike mode new untouched
  have host := alike.error.trans (prepared_settles h1 h3 (hostPrepared s sub)).error.symm
  by_cases taken : v.fld (errorField sub) = 0
  · rw [if_pos taken] at new
    obtain ⟨t, next, seen, answer⟩ := answers _ _ (txnOperation_prepare
      (txnPrepare_taken (s := keyed s k) other (fun refused => absurd (Option.some.inj refused) (by decide)) new))
    have noted := (stageNoted_alike h1 h3 v id (some { id := id, expiry := act })).trans (seen.preparedAlike h1 h3)
    refine ⟨t, next, ?_, ?_, fun _ => ⟨?_, answer, ?_⟩, fun refused => absurd (host.symm.trans taken) refused⟩
    · refine ⟨noted.error.trans host, ?_, ?_, ?_, ?_⟩
      · exact noted.stage.trans (alike.stage.trans (prepared_settles h1 h3 _).stage.symm)
      · exact noted.staged.trans (alike.staged.trans (prepared_settles h1 h3 _).staged.symm)
      · exact noted.plan.trans (alike.plan.trans (prepared_settles h1 h3 _).plan.symm)
      · exact noted.mask.trans (alike.mask.trans (prepared_settles h1 h3 _).mask.symm)
    · refine seen.mode.trans (Eq.trans ?_ mode)
      unfold stageNoted
      split <;> rfl
    · exact (congrArg (sparseGet · none sub) seen.txn).trans (setTxn_txnStage ..)
    · rintro rfl
      exact (seen.regN (by decide)).trans ((congrArg BitVec.toNat (reg_setRegN_same ..)).trans (BitVec.toNat_ofNat ..))
  · rw [if_neg taken] at new
    have kept : v.txnStage sub = none := (congrArg (sparseGet · none sub) (untouched taken)).trans room
    obtain ⟨l, eq, left⟩ := txnPrepare_refused (s := keyed s k) other new kept
    obtain ⟨t, next, seen, answer⟩ := answers _ _ (txnOperation_prepare eq)
    have shown : PreparedAlike sub v t := PreparedAlike.trans (v := { v with txn := l }) ⟨rfl, rfl, rfl, rfl, rfl⟩ (seen.preparedAlike h1 h3)
    refine ⟨t, next, ?_, seen.mode.trans mode, fun zero => absurd (host.trans zero) taken, fun _ => ⟨answer, ?_⟩⟩
    · refine ⟨shown.error.trans host, ?_, ?_, ?_, ?_⟩
      · exact shown.stage.trans (alike.stage.trans (prepared_settles h1 h3 _).stage.symm)
      · exact shown.staged.trans (alike.staged.trans (prepared_settles h1 h3 _).staged.symm)
      · exact shown.plan.trans (alike.plan.trans (prepared_settles h1 h3 _).plan.symm)
      · exact shown.mask.trans (alike.mask.trans (prepared_settles h1 h3 _).mask.symm)
    · exact (congrArg (sparseGet · none sub) seen.txn).trans left

/-- A charge-transfer plan that is allowed is staged, whoever held the stage before. -/
theorem txnPrepare_stagesPlan (h : TxnFrame f 1 1 id act) (ok : (checkTag s f).1 = .good)
    (other : ∀ x, s.txnStage 1 = some x → x.id ≠ id ∨ x.active = true) (allowed : BalancePlanAllowed s) :
    Completes (.txnPrepare f) s fun t => t.txnStage 1 = some { id := id, expiry := act } ∧ t.fld Fld.BAL_STATUS_STAGE = 1 ∧
      t.bal.staged = some s.planRegs ∧ Responds s t (txnAnswerHead 1 1 id 0 (t.stageCode 1)) := by
  obtain ⟨k, answers, -⟩ := txnCommand_answers (prepareCommand_mem f) h ok
  have judged := balPrepare_judged (stageRoom (keyed s k) 1) true
  have plan := planRegs_congr (stageRoom_bal s k).1
  rw [stageRoom_balError, allowed.error] at judged
  have zero : (if !true && s.balStage != stageNone && s.chainHolds then 6 else 0) = 0 := rfl
  rw [zero] at judged
  have new := txnPrepareNew_eq (sub := 1) (by decide) (by decide) (stageRoom (keyed s k) 1) id act
  rw [if_pos (show (prepared (stageRoom (keyed s k) 1) 1).fld (errorField 1) = 0 from judged.error)] at new
  obtain ⟨t, next, seen, answer⟩ := answers _ _ (txnOperation_prepare
    (txnPrepare_taken (s := keyed s k) other (fun refused => absurd (Option.some.inj refused) (by decide)) new))
  have noted := stageNoted_alike (sub := 1) (by decide) (by decide) (prepared (stageRoom (keyed s k) 1) 1) id
    (some { id := id, expiry := act })
  refine ⟨t, next, (congrArg (sparseGet · none 1) seen.txn).trans (setTxn_txnStage ..), ?_, ?_, answer⟩
  · exact (seen.fld (by decide)).trans (noted.stage.trans judged.stage)
  · rw [seen.bal, noted.staged, ← plan]
    exact congrArg Bal.staged judged.bal

/-- Room for a profile switch: engines' shadows and the switch's own are dropped. -/
theorem stageRoom_switch (s : State) : ∃ a b c l, stageRoom s 4 =
    { s with engSweep := a, engNode := b, engRail := c, swShadow := none, txn := l } := by
  obtain ⟨l, eq⟩ := stageRoom_eq s 4
  have dropped : ∃ a b c, txnDropShadow s 4 = { s with engSweep := a, engNode := b, engRail := c, swShadow := none } :=
    ⟨_, _, _, rfl⟩
  obtain ⟨a, b, c, dropped⟩ := dropped
  rw [eq, dropped]
  exact ⟨a, b, c, l, rfl⟩

/-- PREPARE of a profile switch is answered at once only where it is refused. -/
theorem txnPrepare_switch (h : TxnFrame f 1 4 id act) (ok : (checkTag s f).1 = .good)
    (other : ∀ x, s.txnStage 4 = some x → x.id ≠ id ∨ x.active = true) :
    Completes (.txnPrepare f) s fun t => t.fld Fld.PROF_STATUS_PROF_ERR = s.profError (s.regN Reg.PROF_CMD % 16) ∧
      t.fld Fld.PROF_STATUS_ACTIVE = s.fld Fld.PROF_STATUS_ACTIVE ∧
      (s.profError (s.regN Reg.PROF_CMD % 16) = 0 → t.txnStage 4 = some { id := id, expiry := act } ∧
        t.fld Fld.PROF_STATUS_STAGE = 1 ∧ t.link.responses = s.link.responses) ∧
      (s.profError (s.regN Reg.PROF_CMD % 16) ≠ 0 → Responds s t (txnAnswerHead 1 4 id 1 (t.stageCode 4))) := by
  obtain ⟨k, answers, silent⟩ := txnCommand_answers (prepareCommand_mem f) h ok
  obtain ⟨a, b, c, l, eq⟩ := stageRoom_switch (keyed s k)
  have same : (stageRoom (keyed s k) 4).regN Reg.PROF_CMD = s.regN Reg.PROF_CMD ∧
      (stageRoom (keyed s k) 4).profError (s.regN Reg.PROF_CMD % 16) = s.profError (s.regN Reg.PROF_CMD % 16) ∧
      (stageRoom (keyed s k) 4).fld Fld.PROF_STATUS_ACTIVE = s.fld Fld.PROF_STATUS_ACTIVE := by
    rw [eq]
    exact ⟨rfl, rfl, rfl⟩
  obtain ⟨cmd, error, active⟩ := same
  have keeps := (stageRoom_keeps (keyed s k) 4).trans (profSelect_keeps _ (s.regN Reg.PROF_CMD % 16))
  have kept := (profSelect_txn (stageRoom (keyed s k) 4) (s.regN Reg.PROF_CMD % 16))
  obtain ⟨shown, stands, staged⟩ := profSelect_shows (stageRoom (keyed s k) 4) (s.regN Reg.PROF_CMD % 16)
  rw [error] at shown staged
  rw [active] at stands
  have new : txnPrepareNew (stageRoom (keyed s k) 4) 4 id act =
      if (profSelect (stageRoom (keyed s k) 4) (s.regN Reg.PROF_CMD % 16)).fld Fld.PROF_STATUS_PROF_ERR = 0 then
        (none, setTxn (profSelect (stageRoom (keyed s k) 4) (s.regN Reg.PROF_CMD % 16)) 4 (some { id := id, expiry := act }))
      else (some resRefused, profSelect (stageRoom (keyed s k) 4) (s.regN Reg.PROF_CMD % 16)) := by
    rw [← cmd]
    rfl
  generalize profSelect (stageRoom (keyed s k) 4) (s.regN Reg.PROF_CMD % 16) = v at keeps kept shown stands staged new
  rw [shown] at new
  by_cases zero : s.profError (s.regN Reg.PROF_CMD % 16) = 0
  · rw [if_pos zero] at new
    have next := silent _ (txnOperation_prepare (txnPrepare_taken (s := keyed s k) other (fun refused => nomatch refused) new))
    have seen := Seen.settled (setTxn v 4 (some { id := id, expiry := act }))
    refine ⟨_, next, (seen.fld (by decide)).trans shown, (seen.fld (by decide)).trans stands, fun _ => ⟨?_, ?_, ?_⟩,
      fun refused => absurd zero refused⟩
    · exact (congrArg (sparseGet · none 4) seen.txn).trans (setTxn_txnStage ..)
    · exact (seen.fld (by decide)).trans (staged zero)
    · rw [settle_link]
      exact keeps.responses
  · rw [if_neg zero] at new
    have none : v.txnStage 4 = none := (congrArg (sparseGet · none 4) kept).trans (stageRoom_txnStage ..)
    obtain ⟨l, eq, -⟩ := txnPrepare_refused (s := keyed s k) other new none
    obtain ⟨t, next, seen, answer⟩ := answers _ _ (txnOperation_prepare eq)
    exact ⟨t, next, (seen.fld (by decide)).trans shown, (seen.fld (by decide)).trans stands, fun h => absurd h zero,
      fun _ => answer⟩

theorem txnPrepare_again (h : TxnFrame f 1 sub id act) (ok : (checkTag s f).1 = .good) (held : s.txnStage sub = some x)
    (same : x.id = id) (waits : x.active = false) : Completes (.txnPrepare f) s fun t =>
      t.txn = s.txn ∧ t.bal = s.bal ∧ t.imp.plan = s.imp.plan ∧
      (sub ≠ 4 ∨ s.profStaged = true → Responds s t (txnAnswerHead 1 sub id 0 (t.stageCode sub))) ∧
      (sub = 4 → s.profStaged = false → t.link.responses = s.link.responses) := by
  obtain ⟨k, answers, silent⟩ := txnCommand_answers (prepareCommand_mem f) h ok
  have again := txnOperation_prepare (txnPrepare_repeat (s := keyed s k) (e := act) held same waits)
  have pages : (keyed s k).profStaged = s.profStaged := rfl
  rw [pages] at again
  by_cases loads : sub = 4 ∧ s.profStaged = false
  · obtain ⟨rfl, loads⟩ := loads
    rw [if_pos (by simp [loads])] at again
    have next := silent _ again
    have seen := Seen.settled (keyed s k)
    refine ⟨_, next, seen.txn, seen.bal, seen.plan, fun h => ?_, fun _ _ => ?_⟩
    · rcases h with h | h
      · exact absurd rfl h
      · rw [loads] at h
        exact Bool.noConfusion h
    · rw [settle_link]
      rfl
  · rw [if_neg (by simpa using loads)] at again
    obtain ⟨t, next, seen, answer⟩ := answers _ _ again
    exact ⟨t, next, seen.txn, seen.bal, seen.plan, fun _ => answer, fun h4 h => absurd ⟨h4, h⟩ loads⟩

/-! ### COMMIT (R143, R146, R148) -/

theorem commitCommand_mem (f : Frame) : (Instr.txnCommit f, 2) ∈ txnCommands f := List.mem_cons_of_mem _ List.mem_cons_self

theorem txnOperation_commit {v : State} {r : Byte} (h : txnCommit s sub id act = (r, v)) :
    txnOperation s 2 sub id act = (some r, v) := by
  rw [txnOperation, h]

theorem txnCommit_later (h : TxnFrame f 2 sub id act) (ok : (checkTag s f).1 = .good) (h2 : sub ≠ 2)
    (held : s.txnStage sub = some { id := id, expiry := e }) (later : sweepAfter act s.sweepNum = true) :
    Completes (.txnCommit f) s fun t => t.txnStage sub = some { id := id, expiry := e, act := some act } ∧
      Responds s t (txnAnswerHead 2 sub id 0 (t.stageCode sub)) ∧ t.mode = s.mode ∧
      (sub = 1 → t.fld Fld.BAL_STATUS_STAGE = 2 ∧ t.regN Reg.BAL_ACT = act) ∧
      (sub = 3 → s.fld Fld.RGRP_STATUS_STAGE = 1 → t.fld Fld.RGRP_STATUS_STAGE = 2) := by
  obtain ⟨k, answers, -⟩ := txnCommand_answers (commitCommand_mem f) h ok
  have eq := txnCommit_named (s := keyed s k) held h2 h.known later
  obtain ⟨t, next, seen, answer⟩ := answers _ _ (txnOperation_commit eq)
  have mode := (txnCommit_keeps (keyed s k) sub id act).mode
  rw [eq] at mode
  refine ⟨t, next, (congrArg (sparseGet · none sub) seen.txn).trans (setTxn_txnStage ..), answer, seen.mode.trans mode, ?_, ?_⟩
  · rintro rfl
    refine ⟨(seen.fld (by decide)).trans ((fld_setRegN_ne _ _ (by decide)).trans ?_), (seen.regN (by decide)).trans ?_⟩
    · exact fld_setFld_same (keyed s k) Fld.BAL_STATUS_STAGE stageCommitted (by decide) (by decide)
    · refine (congrArg BitVec.toNat (reg_setRegN_same ..)).trans ((BitVec.toNat_ofNat ..).trans (Nat.mod_eq_of_lt h.act_lt))
  · rintro rfl prepared
    refine (seen.fld (by decide)).trans ?_
    have taken : rgrpCommit (keyed s k) = _ := if_pos (show (keyed s k).fld Fld.RGRP_STATUS_STAGE = 1 from prepared)
    change (rgrpCommit (keyed s k)).fld Fld.RGRP_STATUS_STAGE = 2
    rw [taken]
    exact fld_setFld_same _ Fld.RGRP_STATUS_STAGE 2 (by decide) (by decide)

theorem setTxn_fld (s : State) (sub : Nat) (x : Option TxnStage) (f : BitField) : (setTxn s sub x).fld f = s.fld f := rfl

/-- The discard of each subsystem's stage, field by field. -/
theorem txnDiscard_fld (s : State) (f : BitField) : (txnDiscard s 1).fld f = (balClearStage s).fld f ∧
    (txnDiscard s 3).fld f = (rgrpCancel s).fld f ∧ (txnDiscard s 4).fld f = (profUnstage s).fld f :=
  ⟨setTxn_fld .., setTxn_fld .., setTxn_fld ..⟩

/-- A field that the discard of a stage leaves: one beside the subsystem's STAGE. -/
theorem balClearStage_fld (s : State) {f : BitField}
    (h : f.addr ≠ Reg.BAL_STATUS ∨ f.hi < Fld.BAL_STATUS_STAGE.lo ∨ Fld.BAL_STATUS_STAGE.hi < f.lo) :
    (balClearStage s).fld f = s.fld f := fld_setFld_ne _ _ h

theorem rgrpCancel_fld (s : State) {f : BitField}
    (h : f.addr ≠ Reg.RGRP_STATUS ∨ f.hi < Fld.RGRP_STATUS_STAGE.lo ∨ Fld.RGRP_STATUS_STAGE.hi < f.lo) :
    (rgrpCancel s).fld f = s.fld f := by
  unfold rgrpCancel
  split
  · exact fld_setFld_ne _ _ h
  · rfl

theorem profUnstage_fld (s : State) {f : BitField}
    (h : f.addr ≠ Reg.PROF_STATUS ∨ f.hi < Fld.PROF_STATUS_STAGE.lo ∨ Fld.PROF_STATUS_STAGE.hi < f.lo) :
    (profUnstage s).fld f = s.fld f := by
  unfold profUnstage
  dsimp only
  rw [fld_setFld_ne _ _ h]
  exact fld_congr (engPages_regs (fun s e => { s.eng e with staged := false }) engines s) f

theorem txnCommit_tooLate (h : TxnFrame f 2 sub id act) (ok : (checkTag s f).1 = .good) (h2 : sub ≠ 2)
    (held : s.txnStage sub = some { id := id, expiry := e }) (late : sweepAfter act s.sweepNum = false) :
    Completes (.txnCommit f) s fun t => t.txnStage sub = none ∧ Responds s t (txnAnswerHead 2 sub id 2 (t.stageCode sub)) ∧
      t.mode = s.mode ∧ (sub = 1 → t.fld Fld.BAL_STATUS_STAGE = 0 ∧ t.fld Fld.BAL_STATUS_PLAN_ERR = 5) ∧
      (sub = 3 → t.fld Fld.RGRP_STATUS_RGRP_ERR = 5) ∧ (sub = 4 → t.fld Fld.PROF_STATUS_PROF_ERR = 6 ∧ t.sw = none) := by
  obtain ⟨k, answers, -⟩ := txnCommand_answers (commitCommand_mem f) h ok
  have eq := txnCommit_late (s := keyed s k) held h2 late
  obtain ⟨t, next, seen, answer⟩ := answers _ _ (txnOperation_commit eq)
  have mode := (txnCommit_keeps (keyed s k) sub id act).mode
  rw [eq] at mode
  refine ⟨t, next, (congrArg (sparseGet · none sub) seen.txn).trans (txnDiscard_txnStage ..), answer, seen.mode.trans mode,
    ?_, ?_, ?_⟩
  · rintro rfl
    have discard (f : BitField) := (txnDiscard_fld (stageLate (keyed s k) 1) f).1
    rw [seen.fld (by decide), seen.fld (by decide), discard, discard, balClearStage_fld (f := Fld.BAL_STATUS_PLAN_ERR) _ (by decide)]
    exact ⟨balClearStage_stage _, fld_setFld_same (keyed s k) Fld.BAL_STATUS_PLAN_ERR 5 (by decide) (by decide)⟩
  · rintro rfl
    rw [seen.fld (by decide), (txnDiscard_fld _ _).2.1, rgrpCancel_fld _ (by decide)]
    exact fld_setFld_same (keyed s k) Fld.RGRP_STATUS_RGRP_ERR 5 (by decide) (by decide)
  · rintro rfl
    rw [seen.fld (by decide), (txnDiscard_fld _ _).2.2, profUnstage_fld _ (by decide), seen.sw]
    exact ⟨fld_setFld_same (keyed s k) Fld.PROF_STATUS_PROF_ERR 6 (by decide) (by decide), rfl⟩

theorem impCommit_state_of_early {p : ImpPlan} (hp : s.imp.plan = some p) (hs : s.impState = impPrepared)
    (early : s.tb.value ≤ p.start * 65536) : (impCommit s).impState = impRunning := by
  obtain ⟨t, next, state, -⟩ := impCommit_runs hp hs early
  rw [← Host.Outcome.next.inj next, settle_status _ (by decide)] at state
  exact state

theorem impCommit_state_of_late {p : ImpPlan} (hp : s.imp.plan = some p) (hs : s.impState = impPrepared)
    (late : p.start * 65536 < s.tb.value) : (impCommit s).impState = impPrepared := by
  obtain ⟨t, next, state, -⟩ := impCommit_late hp hs late
  rw [← Host.Outcome.next.inj next, settle_status _ (by decide)] at state
  exact state

/-- A SPECTRUM plan runs on COMMIT, or is discarded after START. -/
theorem txnCommit_ofSpectrum {p : ImpPlan} (h : TxnFrame f 2 2 id act) (ok : (checkTag s f).1 = .good)
    (held : s.txnStage 2 = some { id := id, expiry := e }) (hp : s.imp.plan = some p) (hs : s.impState = impPrepared) :
    Completes (.txnCommit f) s fun t =>
      (s.tb.value ≤ p.start * 65536 → t.fld Fld.IMP_STATUS_STATE = 2 ∧ Responds s t (txnAnswerHead 2 2 id 0 (t.stageCode 2)) ∧
        t.txnStage 2 = some { id := id, expiry := e, act := some act }) ∧
      (p.start * 65536 < s.tb.value → t.txnStage 2 = none ∧ Responds s t (txnAnswerHead 2 2 id 2 (t.stageCode 2)) ∧
        t.imp.plan = none) := by
  obtain ⟨k, answers, -⟩ := txnCommand_answers (commitCommand_mem f) h ok
  have eq := txnCommit_spectrum (s := keyed s k) (a := act) held
  by_cases early : s.tb.value ≤ p.start * 65536
  · have running := impCommit_state_of_early (s := keyed s k) hp hs early
    rw [if_pos running] at eq
    obtain ⟨t, next, seen, answer⟩ := answers _ _ (txnOperation_commit eq)
    refine ⟨t, next, fun _ => ⟨(seen.status (by decide)).trans running, answer, ?_⟩, fun late => absurd early (by omega)⟩
    exact (congrArg (sparseGet · none 2) seen.txn).trans (setTxn_txnStage ..)
  · have waits := impCommit_state_of_late (s := keyed s k) hp hs (Nat.lt_of_not_le early)
    rw [if_neg (by rw [waits]; decide)] at eq
    obtain ⟨t, next, seen, answer⟩ := answers _ _ (txnOperation_commit eq)
    refine ⟨t, next, fun h => absurd h early, fun _ => ⟨?_, answer, ?_⟩⟩
    · exact (congrArg (sparseGet · none 2) seen.txn).trans (txnDiscard_txnStage ..)
    · exact seen.plan.trans (impAbort_plan _)

/-! ### CANCEL, ROLLBACK and CLOSE (R144, R145) -/

theorem txnCancel_discards (h : TxnFrame f 3 sub id act) (ok : (checkTag s f).1 = .good) (held : s.txnStage sub = some x)
    (same : x.id = id) (waits : x.active = false) : Completes (.txnCancel f) s fun t =>
      t.txnStage sub = none ∧ Responds s t (txnAnswerHead 3 sub id 0 (t.stageCode sub)) ∧ t.mode = s.mode ∧
      (sub = 1 → t.bal.staged = none ∧ t.flag Fld.BAL_STATUS_CANCELLED = true) ∧ (sub = 2 → t.imp.plan = none) := by
  obtain ⟨k, answers, -⟩ := txnCommand_answers (p := (.txnCancel f, 3)) (by simp [txnCommands]) h ok
  have eq := txnCancel_held (s := keyed s k) held same waits
  have op : txnOperation (keyed s k) 3 sub id act = _ := congrArg (fun r => (some r.1, r.2)) eq
  have mode := (txnCancel_keeps (keyed s k) sub id).mode
  rw [eq] at mode
  obtain ⟨t, next, seen, answer⟩ := answers _ _ op
  refine ⟨t, next, (congrArg (sparseGet · none sub) seen.txn).trans (txnDiscard_txnStage ..), answer, seen.mode.trans mode, ?_, ?_⟩
  · rintro rfl
    rw [seen.bal, seen.flag (by decide), State.flag, (txnDiscard_fld _ _).1, balClearStage_fld _ (by decide)]
    exact ⟨rfl, flag_setFlag_same (keyed s k) Fld.BAL_STATUS_CANCELLED true (by decide) (by decide)⟩
  · rintro rfl
    exact seen.plan.trans (impAbort_plan _)

theorem txnRollback_marks (h : TxnFrame f 4 sub id act) (ok : (checkTag s f).1 = .good) (held : s.txnStage sub = some x)
    (same : x.id = id) (due : sub = 2 ∨ x.active = true) : Completes (.txnRollback f) s fun t =>
      Responds s t (txnAnswerHead 4 sub id 0 (t.stageCode sub)) ∧ t.mode = s.mode ∧ t.bal = s.bal ∧
      (sub ≠ 2 → t.txnStage sub = some { x with rollback := true }) ∧ (sub = 2 → t.txnStage 2 = none ∧ t.imp.plan = none) := by
  obtain ⟨k, answers, -⟩ := txnCommand_answers (p := (.txnRollback f, 4)) (by simp [txnCommands]) h ok
  have mode := (txnRollback_keeps (keyed s k) sub id).mode
  by_cases h2 : sub = 2
  · subst h2
    have eq := txnRollback_spectrum (s := keyed s k) held same
    have op : txnOperation (keyed s k) 4 2 id act = _ := congrArg (fun r => (some r.1, r.2)) eq
    rw [eq] at mode
    obtain ⟨t, next, seen, answer⟩ := answers _ _ op
    exact ⟨t, next, answer, seen.mode.trans mode, seen.bal.trans (impAbort_bal _), fun h => absurd rfl h,
      fun _ => ⟨(congrArg (sparseGet · none 2) seen.txn).trans (setTxn_txnStage ..), seen.plan.trans (impAbort_plan _)⟩⟩
  · have eq := txnRollback_active (s := keyed s k) held same h2 (due.resolve_left h2)
    have op : txnOperation (keyed s k) 4 sub id act = _ := congrArg (fun r => (some r.1, r.2)) eq
    rw [eq] at mode
    obtain ⟨t, next, seen, answer⟩ := answers _ _ op
    exact ⟨t, next, answer, seen.mode.trans mode, seen.bal,
      fun _ => (congrArg (sparseGet · none sub) seen.txn).trans (setTxn_txnStage ..), fun h => absurd h h2⟩

theorem txnClose_drops (h : TxnFrame f 5 sub id act) (ok : (checkTag s f).1 = .good) (held : s.txnStage sub = some x)
    (same : x.id = id) : Completes (.txnClose f) s fun t =>
      t.txnStage sub = none ∧ Responds s t (txnAnswerHead 5 sub id 0 (t.stageCode sub)) ∧ t.mode = s.mode ∧
      (sub = 1 → t.bal.shadow = none ∧ t.bal.running = s.bal.running) := by
  obtain ⟨k, answers, -⟩ := txnCommand_answers (p := (.txnClose f, 5)) (by simp [txnCommands]) h ok
  have eq := txnClose_held (s := keyed s k) held same
  have op : txnOperation (keyed s k) 5 sub id act = _ := congrArg (fun r => (some r.1, r.2)) eq
  have mode := (txnClose_keeps (keyed s k) sub id).mode
  rw [eq] at mode
  obtain ⟨t, next, seen, answer⟩ := answers _ _ op
  refine ⟨t, next, (congrArg (sparseGet · none sub) seen.txn).trans (setTxn_txnStage ..), answer, seen.mode.trans mode, ?_⟩
  rintro rfl
  rw [seen.bal]
  exact ⟨rfl, rfl⟩

/-! ### A transaction that is not held, STATUS, and a bad tag -/

theorem txnCommand_foreign {p : Instr × Nat} (hp : p ∈ [(Instr.txnCommit f, 2), (.txnCancel f, 3), (.txnRollback f, 4), (.txnClose f, 5)])
    (h : TxnFrame f p.2 sub id act) (ok : (checkTag s f).1 = .good) (foreign : ∀ x, s.txnStage sub = some x → x.id ≠ id) :
    Completes p.1 s fun t => t.txn = s.txn ∧ t.bal = s.bal ∧ t.regs = (settle s).regs ∧
      Responds s t (txnAnswerHead p.2 sub id 3 (t.stageCode sub)) := by
  obtain ⟨k, answers, -⟩ := txnCommand_answers (List.mem_cons_of_mem _ hp) h ok
  obtain ⟨commit, cancel, rollback, close⟩ := txn_foreign (s := keyed s k) (a := act) foreign
  have op : txnOperation (keyed s k) p.2 sub id act = (some resNoTxn, keyed s k) := by
    simp only [List.mem_cons, List.not_mem_nil, or_false] at hp
    rcases hp with rfl | rfl | rfl | rfl
    · exact congrArg (fun r => (some r.1, r.2)) commit
    · exact congrArg (fun r => (some r.1, r.2)) cancel
    · exact congrArg (fun r => (some r.1, r.2)) rollback
    · exact congrArg (fun r => (some r.1, r.2)) close
  obtain ⟨t, next, seen, answer⟩ := answers _ _ op
  have same : SameLevels s (keyed s k) := ⟨rfl, rfl, rfl, rfl⟩
  exact ⟨t, next, seen.txn, seen.bal, seen.regs.trans same.settled.regs, answer⟩

theorem txnStatus_shows (h : TxnFrame f 6 sub id act) : Completes (.txnStatus f) s fun t =>
    t.txn = s.txn ∧ t.regs = (settle s).regs ∧
    Responds s t (txnAnswerHead 6 sub id (if (s.txnStage sub).any (fun x => x.id == id) then 0 else 3) (s.stageCode sub)) := by
  obtain ⟨t, next, seen, answer⟩ := txnStatus_answers h
  rw [seen.stageCode, txnStatus_eq] at answer
  exact ⟨t, next, seen.txn, seen.regs, answer⟩

theorem txnCommand_badTag {p : Instr × Nat} (hp : p ∈ txnCommands f) (h : TxnFrame f p.2 sub id act)
    (bad : (checkTag s f).1 = .bad) : Completes p.1 s fun t =>
      t.txn = s.txn ∧ t.bal = s.bal ∧ t.imp.plan = s.imp.plan ∧ t.rail = s.rail ∧
      t.regN Reg.AUTH_FAIL = min 65535 (s.regN Reg.AUTH_FAIL + 1) ∧
      Responds s t (txnAnswerHead p.2 sub id 4 (s.stageCode sub)) := by
  obtain ⟨t, next, seen, answer⟩ := txnCommand_bad hp h bad
  have counted : (s.incSat Reg.AUTH_FAIL).stageCode sub = s.stageCode sub := by
    have status {f : BitField} (hf : f.addr ≠ Reg.AUTH_FAIL) : (s.incSat Reg.AUTH_FAIL).fld f = s.fld f :=
      congrArg f.read (reg_incSat_ne s hf)
    obtain ⟨r, only⟩ := incSat_regsOnly s Reg.AUTH_FAIL
    have pages : (s.incSat Reg.AUTH_FAIL).profStaged = s.profStaged := by rw [only]; rfl
    have held : (s.incSat Reg.AUTH_FAIL).txn = s.txn := by rw [only]
    simp only [State.stageCode, State.txnStage, State.balStage, State.impState, held, pages,
      status (f := Fld.BAL_STATUS_STAGE) (by decide), status (f := Fld.IMP_STATUS_STATE) (by decide),
      status (f := Fld.RGRP_STATUS_STAGE) (by decide)]
    rfl
  rw [seen.stageCode, counted] at answer
  obtain ⟨r, only⟩ := incSat_regsOnly s Reg.AUTH_FAIL
  refine ⟨t, next, ?_, ?_, ?_, ?_, (seen.regN (by decide)).trans (regN_incSat s _), answer⟩
  · rw [seen.txn, only]
  · rw [seen.bal, only]
  · rw [seen.plan, only]
  · rw [seen.rail, only]

end Clauses

end Sys2Proof.Machine
end

section
/-!
The root's part of transactions (R140, R145): what START and ABANDON leave, and stages past their expiry sweep (R146).
-/
namespace Sys2Proof.Machine

/-! ### Frames sent (R230, R231) -/

/-- `t` differs from `s` in rings, numbers of frames, frames sent, and registers from 0x1000 on. -/
structure SendsOnly (s t : State) : Prop where
  frame : ∃ rings counts sent regs,
    t = { s with rings := rings, link := { s.link with counts := counts }, sent := sent, regs := regs }
  reg : ∀ a, a < 0x1000 → t.reg a = s.reg a

namespace SendsOnly

variable {s t u : State}

theorem refl (s : State) : SendsOnly s s := ⟨⟨_, _, _, _, rfl⟩, fun _ _ => rfl⟩

theorem trans (h : SendsOnly s t) (k : SendsOnly t u) : SendsOnly s u := by
  refine ⟨?_, fun a ha => (k.reg a ha).trans (h.reg a ha)⟩
  obtain ⟨_, _, _, _, first⟩ := h.frame
  obtain ⟨_, _, _, _, second⟩ := k.frame
  exact ⟨_, _, _, _, by rw [second, first]⟩

theorem setRegN (h : SendsOnly s t) {a : Nat} (n : Nat) (ha : 0x1000 ≤ a) : SendsOnly s (t.setRegN a n) :=
  h.trans ⟨⟨_, _, _, _, rfl⟩, fun b hb => reg_setRegN_ne _ _ (by omega)⟩

theorem ite {c : Prop} [Decidable c] (h : SendsOnly s t) (k : SendsOnly s u) : SendsOnly s (if c then t else u) := by
  split
  · exact h
  · exact k

theorem forEach {α : Type} {f : State → α → State} (h : ∀ a s, SendsOnly s (f s a)) (l : List α) (s : State) :
    SendsOnly s (s.forEach l f) := forEach_rel refl trans h l s

theorem rootTxn (h : SendsOnly s t) : t.rootTxn = s.rootTxn := by
  obtain ⟨_, _, _, _, rfl⟩ := h.frame
  rfl

theorem txn (h : SendsOnly s t) : t.txn = s.txn := by
  obtain ⟨_, _, _, _, rfl⟩ := h.frame
  rfl

end SendsOnly

theorem setRing_sends (s : State) (r : Nat) (x : Ring) : SendsOnly s (setRing s r x) := ⟨⟨_, _, _, _, rfl⟩, fun _ _ => rfl⟩

theorem transmit_sends (s : State) (r p : Nat) (f : Frame) : SendsOnly s (transmit s r p f) := by
  have sent : SendsOnly s (s.send p (sealFrame f (s.epoch r))) := ⟨⟨_, _, _, _, rfl⟩, fun _ _ => rfl⟩
  exact .ite ((sent.setRegN _ (by simp only [Reg.LP_TX_LO]; omega)).setRegN _ (by simp only [Reg.LP_TX_HI]; omega)) (.refl s)

theorem headSend_sends (s : State) (r : Nat) (f : Frame) : SendsOnly s (headSend s r f) := by
  have asked : SendsOnly s (noteAsked s r f) := .ite (.refl s) (setRing_sends ..)
  have counted : SendsOnly s (numbered (noteAsked s r f) r f).2 := asked.trans ⟨⟨_, _, _, _, rfl⟩, fun _ _ => rfl⟩
  exact counted.trans (.forEach (fun p s => transmit_sends s r p _) _ _)

theorem sendToNode_sends (s : State) (n : Nat) (f : Frame) : SendsOnly s (sendToNode s n f).2 := by
  unfold sendToNode
  split
  · exact .ite (headSend_sends ..) (setRing_sends ..)
  · exact .refl s

/-! ### Steps of the root's transaction -/

/-- The registers TXN_CTL to TXN_ACT stand, and so does the root's transaction, but for the answers collected. -/
structure TxnRuns (s t : State) : Prop where
  reg : ∀ a, Reg.TXN_CTL ≤ a → a ≤ Reg.TXN_ACT → t.reg a = s.reg a
  root : ∃ a p c m, t.rootTxn = { s.rootTxn with answered := a, prepAck := p, commitAck := c, activeMap := m }

namespace TxnRuns

variable {s t u : State}

theorem refl (s : State) : TxnRuns s s := ⟨fun _ _ _ => rfl, _, _, _, _, rfl⟩

theorem trans (h : TxnRuns s t) (k : TxnRuns t u) : TxnRuns s u := by
  refine ⟨fun a lo hi => (k.reg a lo hi).trans (h.reg a lo hi), ?_⟩
  obtain ⟨_, _, _, _, first⟩ := h.root
  obtain ⟨_, _, _, _, second⟩ := k.root
  exact ⟨_, _, _, _, by rw [second, first]⟩

theorem ite {c : Prop} [Decidable c] (h : TxnRuns s t) (k : TxnRuns s u) : TxnRuns s (if c then t else u) := by
  split
  · exact h
  · exact k

theorem forEach {α : Type} {f : State → α → State} (h : ∀ a s, TxnRuns s (f s a)) (l : List α) (s : State) :
    TxnRuns s (s.forEach l f) := forEach_rel refl trans h l s

theorem fld (h : TxnRuns s t) {f : BitField} (lo : Reg.TXN_CTL ≤ f.addr) (hi : f.addr ≤ Reg.TXN_ACT) : t.fld f = s.fld f :=
  congrArg f.read (h.reg _ lo hi)

end TxnRuns

theorem TxnKeeps.runs {s t : State} (h : TxnKeeps s t) : TxnRuns s t := by
  refine ⟨fun a lo hi => h.reg a ?_, _, _, _, _, h.root⟩
  simp only [Reg.TXN_CTL, Reg.TXN_ACT] at lo hi
  simp only [besideStages, Bool.or_eq_true, Bool.and_eq_true, decide_eq_true_eq]
  omega

theorem SendsOnly.runs {s t : State} (h : SendsOnly s t) : TxnRuns s t :=
  ⟨fun a _ hi => h.reg a (Nat.lt_of_le_of_lt hi (by decide)), _, _, _, _, h.rootTxn⟩

/-- The counts of the four maps are shown and nothing else. -/
theorem showTxn_reg (s : State) {a : Nat} (h : a < Reg.TXN_N_TARGET) : (showTxn s).reg a = s.reg a := by
  simp only [Reg.TXN_N_TARGET] at h
  unfold showTxn
  dsimp only
  rw [reg_setRegN_ne _ _ (by simp only [Reg.TXN_N_ACTIVE]; omega), reg_setRegN_ne _ _ (by simp only [Reg.TXN_N_COMMIT]; omega),
    reg_setRegN_ne _ _ (by simp only [Reg.TXN_N_PREP]; omega), reg_setRegN_ne _ _ (by simp only [Reg.TXN_N_TARGET]; omega)]

theorem showTxn_targets (s : State) : (showTxn s).regN Reg.TXN_N_TARGET = s.rootTxn.target.length % 65536 := by
  unfold showTxn State.regN
  dsimp only
  rw [reg_setRegN_ne _ _ (by decide), reg_setRegN_ne _ _ (by decide), reg_setRegN_ne _ _ (by decide), reg_setRegN_same]
  exact BitVec.toNat_ofNat ..

theorem showTxn_runs (s : State) : TxnRuns s (showTxn s) :=
  ⟨fun _ _ hi => showTxn_reg s (Nat.lt_of_le_of_lt hi (by decide)), _, _, _, _, rfl⟩

theorem txnAnswer_runs (s : State) (n op : Nat) (res : Byte) (stage : Nat) : TxnRuns s (txnAnswer s n op res stage) := by
  unfold txnAnswer
  extract_lets x y
  have collected : ∃ a p c m, y = { x with answered := a, prepAck := p, commitAck := c, activeMap := m } := by
    unfold y
    split
    · exact ⟨_, _, _, _, rfl⟩
    · split
      · exact ⟨_, _, _, _, rfl⟩
      · exact ⟨_, _, _, _, rfl⟩
    · exact ⟨_, _, _, _, rfl⟩
    · exact ⟨_, _, _, _, rfl⟩
    · exact ⟨_, _, _, _, rfl⟩
  obtain ⟨a, p, c, m, eq⟩ := collected
  have taken : TxnRuns s { s with rootTxn := y } := ⟨fun _ _ _ => rfl, a, p, c, m, eq⟩
  exact taken.trans (showTxn_runs _)

/-- The root's own part collects its answer. -/
theorem txnOwn_runs (s : State) (sub id op act : Nat) : TxnRuns s (txnOwn s sub id op act) := by
  unfold txnOwn
  extract_lets own answer
  have answered {t : State} (h : TxnRuns s t) (r : Byte) (stage : Nat) : TxnRuns s (answer t r stage) :=
    .ite (h.trans (txnAnswer_runs ..)) h
  split
  · have h := (txnPrepare_keeps s sub id act).runs
    dsimp only
    split
    · exact answered h ..
    · exact h
  · exact answered (txnCommit_keeps s sub id act).runs ..
  · exact (txnCancel_keeps s sub id).runs
  · exact (txnRollback_keeps s sub id).runs
  · exact (txnClose_keeps s sub id).runs
  · exact answered (.refl s) ..

theorem txnSend_runs (s : State) (nodes : List Nat) (op act : Nat) : TxnRuns s (txnSend s nodes op act) :=
  .forEach (fun _ _ => .ite (txnOwn_runs ..) (sendToNode_sends ..).runs) nodes s

/-- Commands to other nodes leave the root's own stages and the answers. -/
theorem txnSend_elsewhere (s : State) {nodes : List Nat} (op act : Nat) (h : 0 ∉ nodes) :
    ((txnSend s nodes op act).rootTxn, (txnSend s nodes op act).txn) = (s.rootTxn, s.txn) := by
  refine forEach_keeps (fun s => (s.rootTxn, s.txn)) (fun n hn s => ?_) s
  have node : n ≠ 0 := fun zero => h (zero ▸ hn)
  rw [if_neg node]
  exact congrArg₂ Prod.mk (sendToNode_sends ..).rootTxn (sendToNode_sends ..).txn

/-! ### PHASE, and the end of a transaction -/

theorem fireAll_regs (s : State) (l : Nat) : (s.fireAll l).regs = s.regs := by
  simp only [State.fireAll, State.fireAt, setEng_regs]

theorem fireAll_rootTxn (s : State) (l : Nat) : (s.fireAll l).rootTxn = s.rootTxn := by
  simp only [State.fireAll, State.fireAt, setEng_rootTxn]

theorem fireAll_txn (s : State) (l : Nat) : (s.fireAll l).txn = s.txn := by
  simp only [State.fireAll, State.fireAt, setEng_txn]

theorem setPhase_fld (s : State) (ph : Nat) {f : BitField}
    (h : f.addr ≠ Reg.TXN_STATUS ∨ f.hi < Fld.TXN_STATUS_PHASE.lo ∨ Fld.TXN_STATUS_PHASE.hi < f.lo) :
    (setPhase s ph).fld f = s.fld f := by
  unfold setPhase
  split
  · rfl
  · exact (fld_congr (fireAll_regs ..) f).trans (fld_setFld_ne _ _ h)

theorem setPhase_phase (s : State) {ph : Nat} (h : ph < 8) : (setPhase s ph).txnPhase = ph := by
  unfold setPhase
  split
  · next same => exact same
  · exact (fld_congr (fireAll_regs ..) _).trans
      ((fld_setFld_same _ Fld.TXN_STATUS_PHASE ph (by decide) (by decide)).trans (Nat.mod_eq_of_lt h))

theorem setPhase_reg (s : State) (ph : Nat) {a : Nat} (h : a ≠ Reg.TXN_STATUS) : (setPhase s ph).reg a = s.reg a := by
  unfold setPhase
  split
  · rfl
  · exact (reg_congr (fireAll_regs ..) a).trans (reg_setFld_ne _ _ h)

theorem setPhase_stands (s : State) (ph : Nat) : (setPhase s ph).rootTxn = s.rootTxn ∧ (setPhase s ph).txn = s.txn := by
  unfold setPhase
  split
  · exact ⟨rfl, rfl⟩
  · exact ⟨fireAll_rootTxn .., fireAll_txn ..⟩

theorem noteEvent_regs (s : State) (kind node : Nat) (content : List Byte) : (s.noteEvent kind node content).regs = s.regs := by
  unfold State.noteEvent
  split <;> rfl

/-- The end shows the outcome and DONE, and is idle. -/
theorem txnFinish_shows (s : State) : (txnFinish s).txnPhase = 0 ∧ (txnFinish s).flag Fld.TXN_STATUS_DONE = true ∧
    (txnFinish s).fld Fld.TXN_STATUS_OUTCOME = s.rootTxn.outcome % 8 := by
  unfold txnFinish
  extract_lets out shown noted
  have outcome : noted.fld Fld.TXN_STATUS_OUTCOME = out % 8 :=
    (fld_congr (noteEvent_regs ..) _).trans (fld_setFld_same _ Fld.TXN_STATUS_OUTCOME out (by decide) (by decide))
  refine ⟨setPhase_phase _ (by decide), ?_, ?_⟩
  · rw [State.flag, setPhase_fld _ _ (by decide), State.raiseIrq, State.setBits, fld_setReg_ne _ _ (by decide)]
    exact flag_setFlag_same _ _ _ (by decide) (by decide)
  · rw [setPhase_fld _ _ (by decide), State.raiseIrq, State.setBits, fld_setReg_ne _ _ (by decide), fld_setFlag_ne _ _ (by decide)]
    exact outcome

/-! ### START and ABANDON -/

section Root

variable {s : State}

/-- What START takes over from TXN_CTL (R140), and the expiry sweep with it (R146). -/
def txnNamed (s : State) : RootTxn :=
  { target := s.txnScope, first := s.regN Reg.SWEEP_NUM, sub := s.fld Fld.TXN_CTL_SUBSYS, best := s.flag Fld.TXN_CTL_SEM,
    pto := s.fld Fld.TXN_CTL_PTO, lead := s.fld Fld.TXN_CTL_LEAD }

def txnOpened (s : State) : RootTxn :=
  { txnNamed s with expiry := (s.regN Reg.SWEEP_NUM + s.fld Fld.TXN_CTL_PTO + s.fld Fld.TXN_CTL_LEAD) % 65536 }

/-- The prepare phase begins under a new number. -/
def txnBegun (s : State) : State := setPhase { s.incWrap Reg.TXN_ID with rootTxn := txnOpened s } phPreparing

theorem txnStart_eq (root : s.isRoot = true) (idle : s.txnPhase = 0) (h1 : 1 ≤ s.fld Fld.TXN_CTL_SUBSYS)
    (h4 : s.fld Fld.TXN_CTL_SUBSYS ≤ 4) :
    txnStart s = showTxn (txnSend (txnBegun s) s.txnScope 1 (txnOpened s).expiry) := by
  have takes : ¬ ((!s.isRoot) = true ∨ s.txnPhase ≠ phIdle ∨ s.fld Fld.TXN_CTL_SUBSYS = 0 ∨ 4 < s.fld Fld.TXN_CTL_SUBSYS) := by
    simp only [root, idle, phIdle]
    simp
    omega
  have ctl (f : BitField) (hf : f.addr ≠ Reg.TXN_ID) : (s.incWrap Reg.TXN_ID).fld f = s.fld f := fld_setRegN_ne _ _ hf
  have sem : (s.incWrap Reg.TXN_ID).flag Fld.TXN_CTL_SEM = s.flag Fld.TXN_CTL_SEM :=
    congrArg (· != 0) (ctl Fld.TXN_CTL_SEM (by decide))
  have sweep : (s.incWrap Reg.TXN_ID).sweepNum = s.regN Reg.SWEEP_NUM := congrArg BitVec.toNat (reg_setRegN_ne _ _ (by decide))
  have named : ({
      target := s.txnScope, first := (s.incWrap Reg.TXN_ID).sweepNum, sub := s.fld Fld.TXN_CTL_SUBSYS
      best := (s.incWrap Reg.TXN_ID).flag Fld.TXN_CTL_SEM, pto := (s.incWrap Reg.TXN_ID).fld Fld.TXN_CTL_PTO
      lead := (s.incWrap Reg.TXN_ID).fld Fld.TXN_CTL_LEAD } : RootTxn) = txnNamed s := by
    rw [sweep, sem, ctl _ (by decide), ctl _ (by decide)]
    rfl
  unfold txnStart
  extract_lets sub t num begins opened dated begun
  rw [if_neg takes]
  have beginsEq : begins = { num with rootTxn := txnNamed s } := congrArg (fun x : RootTxn => { num with rootTxn := x }) named
  have datedEq : dated = { num with rootTxn := txnOpened s } := by
    have expiry : { num with rootTxn := txnNamed s }.txnExpiry = (txnOpened s).expiry :=
      congrArg (fun n => (n + s.fld Fld.TXN_CTL_PTO + s.fld Fld.TXN_CTL_LEAD) % 65536) sweep
    change { begins with rootTxn := { begins.rootTxn with expiry := begins.txnExpiry } } = _
    rw [beginsEq, expiry]
    rfl
  have begunEq : begun = txnBegun s := congrArg (setPhase · phPreparing) datedEq
  have sent : begun.rootTxn.expiry = (txnOpened s).expiry := by
    rw [begunEq, txnBegun, (setPhase_stands ..).1]
  rw [sent, begunEq]

/-- START begins the prepare phase. -/
theorem txnStart_begins (root : s.isRoot = true) (idle : s.txnPhase = 0) (h1 : 1 ≤ s.fld Fld.TXN_CTL_SUBSYS)
    (h4 : s.fld Fld.TXN_CTL_SUBSYS ≤ 4) : Completes .txnStart s fun t =>
      t.txnPhase = 1 ∧ t.regN Reg.TXN_ID = (s.regN Reg.TXN_ID + 1) % 65536 ∧
      (∃ a p c m, t.rootTxn = { txnOpened s with answered := a, prepAck := p, commitAck := c, activeMap := m } ∧
        (0 ∉ s.txnScope → a = [] ∧ t.txn = s.txn)) ∧
      t.regN Reg.TXN_N_TARGET = s.txnScope.length % 65536 := by
  have runs := (txnSend_runs (txnBegun s) s.txnScope 1 (txnOpened s).expiry).trans (showTxn_runs _)
  obtain ⟨opened, stages⟩ := setPhase_stands { s.incWrap Reg.TXN_ID with rootTxn := txnOpened s } phPreparing
  obtain ⟨a, p, c, m, left⟩ := runs.root
  have targets := showTxn_targets (txnSend (txnBegun s) s.txnScope 1 (txnOpened s).expiry)
  have kept : (txnSend (txnBegun s) s.txnScope 1 (txnOpened s).expiry).rootTxn =
      { (txnBegun s).rootTxn with answered := a, prepAck := p, commitAck := c, activeMap := m } := left
  rw [kept, txnBegun, opened] at targets
  refine ⟨settle (txnStart s), rfl, ?_⟩
  beta_reduce
  have regN {a : Nat} (ha : a ∉ levelRegs) (u : State) : (settle u).regN a = u.regN a := congrArg BitVec.toNat (settle_reg u a ha)
  rw [txnStart_eq root idle h1 h4, State.txnPhase, settle_fld _ _ (by decide), regN (by decide), regN (by decide), settle_rootTxn,
    settle_txn]
  refine ⟨?_, ?_, ⟨a, p, c, m, ?_, fun elsewhere => ?_⟩, targets⟩
  · exact (runs.fld (by decide) (by decide)).trans (setPhase_phase _ (by decide))
  · rw [State.regN, runs.reg _ (by decide) (by decide), txnBegun, setPhase_reg _ _ (by decide)]
    exact (congrArg BitVec.toNat (reg_setRegN_same ..)).trans ((BitVec.toNat_ofNat ..).trans (Nat.mod_mod ..))
  · rw [left, txnBegun, opened]
  · have same := txnSend_elsewhere (txnBegun s) 1 (txnOpened s).expiry elsewhere
    simp only [Prod.mk.injEq] at same
    rw [same.1, txnBegun, opened] at kept
    exact ⟨(congrArg RootTxn.answered kept).symm, same.2.trans stages⟩

theorem txnStart_idle (h : s.isRoot = false ∨ s.txnPhase ≠ 0 ∨ s.fld Fld.TXN_CTL_SUBSYS = 0 ∨ 4 < s.fld Fld.TXN_CTL_SUBSYS) :
    exec .txnStart s = .next (settle s) :=
  congrArg (fun t => Host.Outcome.next (settle t)) (if_pos (by simpa [phIdle] using h))

/-- ABANDON before any COMMIT ends the transaction as cancelled. -/
theorem txnAbandon_cancels (preparing : s.txnPhase = 1) (open' : s.rootTxn.committed = false)
    (sent : s.rootTxn.rollbackSent = false) : Completes .txnAbandon s fun t =>
      t.txnPhase = 0 ∧ t.fld Fld.TXN_STATUS_OUTCOME = 3 ∧ t.flag Fld.TXN_STATUS_DONE = true := by
  have eq : txnAbandon s = txnSettle (txnSend s s.rootTxn.prepAck 3 0) outCancelled :=
    if_pos ⟨preparing, by rw [open']; rfl⟩
  obtain ⟨a, p, c, m, cancelled⟩ := (txnSend_runs s s.rootTxn.prepAck 3 0).root
  have none : ¬ (txnSend s s.rootTxn.prepAck 3 0).rootTxn.rollbackSent = true := by
    rw [cancelled, sent]
    decide
  generalize txnSend s s.rootTxn.prepAck 3 0 = u at eq none
  have settled : txnSettle u outCancelled =
      txnFinish (txnSend { u with rootTxn := { u.rootTxn with outcome := outCancelled } } u.rootTxn.activeMap 5 0) := if_neg none
  obtain ⟨_, _, _, _, closed⟩ :=
    (txnSend_runs { u with rootTxn := { u.rootTxn with outcome := outCancelled } } u.rootTxn.activeMap 5 0).root
  rw [settled] at eq
  generalize txnSend { u with rootTxn := { u.rootTxn with outcome := outCancelled } } u.rootTxn.activeMap 5 0 = v at eq closed
  obtain ⟨phase, finished, outcome⟩ := txnFinish_shows v
  rw [closed] at outcome
  refine ⟨settle (txnAbandon s), rfl, ?_⟩
  beta_reduce
  rw [eq, State.txnPhase, settle_fld _ _ (by decide), settle_fld _ _ (by decide), settle_flag _ _ (by decide)]
  exact ⟨phase, outcome, finished⟩

theorem txnAbandon_idle (h : s.txnPhase ≠ 1 ∨ s.rootTxn.committed = true) : exec .txnAbandon s = .next (settle s) :=
  congrArg (fun t => Host.Outcome.next (settle t)) (if_neg (by
    rintro ⟨preparing, open'⟩
    rcases h with h | h
    · exact h preparing
    · rw [h] at open'
      exact Bool.noConfusion open'))

end Root

/-! ### Stages that expire (R146) -/

/-- What a stage is after its sweep's number is judged. -/
def stageLeft (n : Nat) (x : Option TxnStage) : Option TxnStage :=
  match x with
  | some x => if x.act.isNone && !x.active && !sweepAfter x.expiry n then none else some x
  | none => none

theorem stageLeft_stageLeft (n : Nat) (x : Option TxnStage) : stageLeft n (stageLeft n x) = stageLeft n x := by
  cases x with
  | none => rfl
  | some x =>
    by_cases past : (x.act.isNone && !x.active && !sweepAfter x.expiry n) = true
    · have gone : stageLeft n (some x) = none := if_pos past
      rw [gone]
      rfl
    · have stays : stageLeft n (some x) = some x := if_neg past
      rw [stays, stays]

/-- The expiry of one subsystem's stage in the present sweep. -/
def stageJudged (s : State) (sub : Nat) : State := txnExpire s sub fun e => !sweepAfter e s.sweepNum

theorem txnExpireAll_eq (s : State) : txnExpireAll s = s.forEach [1, 2, 3, 4] stageJudged := rfl

section Expiry

variable {s : State} {sub : Nat}

theorem stageJudged_discards {x : TxnStage} (held : s.txnStage sub = some x)
    (past : (x.act.isNone && !x.active && !sweepAfter x.expiry s.sweepNum) = true) :
    stageJudged s sub = txnDiscard (if sub = 1 then s.setFlag Fld.BAL_STATUS_EXPIRED true else s) sub := by
  unfold stageJudged txnExpire
  rw [held]
  exact if_pos past

/-- A step on one stage is its discard, or nothing. -/
theorem stageJudged_cases (s : State) (sub : Nat) :
    (∃ x, s.txnStage sub = some x ∧ (x.act.isNone && !x.active && !sweepAfter x.expiry s.sweepNum) = true ∧
      stageJudged s sub = txnDiscard (if sub = 1 then s.setFlag Fld.BAL_STATUS_EXPIRED true else s) sub) ∨
    (stageJudged s sub = s ∧ stageLeft s.sweepNum (s.txnStage sub) = s.txnStage sub) := by
  cases held : s.txnStage sub with
  | none =>
    refine .inr ⟨?_, rfl⟩
    unfold stageJudged txnExpire
    rw [held]
  | some x =>
    by_cases past : (x.act.isNone && !x.active && !sweepAfter x.expiry s.sweepNum) = true
    · exact .inl ⟨x, rfl, past, stageJudged_discards held past⟩
    · refine .inr ⟨?_, if_neg past⟩
      unfold stageJudged txnExpire
      rw [held]
      exact if_neg past

theorem stageJudged_txnStage (s : State) (sub : Nat) :
    (stageJudged s sub).txnStage sub = stageLeft s.sweepNum (s.txnStage sub) := by
  rcases stageJudged_cases s sub with ⟨x, held, past, eq⟩ | ⟨eq, stays⟩
  · rw [eq, txnDiscard_txnStage, held]
    exact (if_pos past).symm
  · rw [eq, stays]

theorem impAbort_txnStage_ne (s : State) (h : sub ≠ 2) : (impAbort s).txnStage sub = s.txnStage sub := by
  have unstaged : (impUnstage s).txnStage sub = s.txnStage sub := by
    unfold impUnstage
    split
    · split
      · rfl
      · exact sparseGet_set_ne s.txn none none none h
    · rfl
  cases hp : s.imp.plan with
  | none => rw [impAbort_of_no_plan hp]
  | some p =>
    rw [impAbort_eq hp]
    obtain ⟨t, ⟨n, l, rfl⟩, eq⟩ := planBroken_recordsOnly (impUnstage s) p
    rw [eq]
    split <;> exact unstaged

theorem rgrpCancel_txnStage_ne (s : State) (h : sub ≠ 3) : (rgrpCancel s).txnStage sub = s.txnStage sub := by
  unfold rgrpCancel
  split
  · exact sparseGet_set_ne s.txn none none none h
  · rfl

theorem profUnstage_txn (s : State) : (profUnstage s).txn = s.txn :=
  engPages_txn (fun s e => { s.eng e with staged := false }) engines s

theorem txnDiscard_txnStage_ne (s : State) {other : Nat} (h : other ≠ sub) : (txnDiscard s sub).txnStage other = s.txnStage other := by
  unfold txnDiscard
  rw [setTxn_txnStage_ne _ _ h]
  split
  · exact sparseGet_set_ne s.txn none none none h
  · exact impAbort_txnStage_ne s h
  · exact rgrpCancel_txnStage_ne s h
  · exact congrArg (sparseGet · none other) (profUnstage_txn s)

theorem stageJudged_txnStage_ne (s : State) {other : Nat} (h : other ≠ sub) :
    (stageJudged s sub).txnStage other = s.txnStage other := by
  rcases stageJudged_cases s sub with ⟨x, -, -, eq⟩ | ⟨eq, -⟩
  · rw [eq, txnDiscard_txnStage_ne _ h]
    split <;> rfl
  · rw [eq]

theorem stageJudged_keeps (s : State) (sub : Nat) : TxnKeeps s (stageJudged s sub) := by
  rcases stageJudged_cases s sub with ⟨x, -, -, eq⟩ | ⟨eq, -⟩ <;> rw [eq]
  · exact TxnKeeps.trans (.ite ((TxnKeeps.refl s).setFlag _ (by decide)) (.refl s)) (txnDiscard_keeps ..)
  · exact .refl s

/-- The other subsystems' expiry leaves the balancer. -/
theorem stageJudged_bal (s : State) (h1 : sub ≠ 1) :
    ((stageJudged s sub).bal, (stageJudged s sub).flag Fld.BAL_STATUS_EXPIRED) = (s.bal, s.flag Fld.BAL_STATUS_EXPIRED) := by
  have discard : ((txnDiscard s sub).bal, (txnDiscard s sub).flag Fld.BAL_STATUS_EXPIRED) =
      (s.bal, s.flag Fld.BAL_STATUS_EXPIRED) := by
    unfold txnDiscard
    dsimp only
    rw [State.flag, setTxn_fld]
    split
    · exact absurd rfl h1
    · exact congrArg₂ Prod.mk (impAbort_bal s) (congrArg (fun v => Fld.BAL_STATUS_EXPIRED.read v != 0) (impAbort_reg s (by decide)))
    · refine congrArg₂ Prod.mk ?_ (congrArg (· != 0) (rgrpCancel_fld s (by decide)))
      unfold rgrpCancel
      dsimp only [setTxn]
      split <;> rfl
    · refine congrArg₂ Prod.mk ?_ (congrArg (· != 0) (profUnstage_fld s (by decide)))
      exact forEach_keeps (·.bal) (fun e _ s => setEng_bal s e _) s
  rcases stageJudged_cases s sub with ⟨x, -, -, eq⟩ | ⟨eq, -⟩ <;> rw [eq]
  rw [if_neg h1]
  exact discard

/-- Each stage is judged by its own expiry. -/
theorem txnExpireAll_txnStage (s : State) (h : sub ∈ [1, 2, 3, 4]) :
    (txnExpireAll s).txnStage sub = stageLeft s.sweepNum (s.txnStage sub) := by
  refine forEach_each (read := State.txnStage) (f := stageJudged) (Q := fun e x => x = stageLeft s.sweepNum (s.txnStage e))
    (I := fun t => t.sweepNum = s.sweepNum ∧ ∀ e, t.txnStage e = s.txnStage e ∨ t.txnStage e = stageLeft s.sweepNum (s.txnStage e))
    (fun t e ht => ?_) (fun t e ht => ?_) (fun t e d hd => stageJudged_txnStage_ne t hd) ⟨rfl, fun _ => .inl rfl⟩ h
  all_goals
    obtain ⟨sweep, stages⟩ := ht
    have judged : (stageJudged t e).txnStage e = stageLeft s.sweepNum (s.txnStage e) := by
      rw [stageJudged_txnStage, sweep]
      rcases stages e with same | left
      · rw [same]
      · rw [left, stageLeft_stageLeft]
  · refine ⟨(stageJudged_keeps t e).sweepNum.trans sweep, fun d => ?_⟩
    by_cases hd : d = e
    · exact .inr (hd ▸ judged)
    · rw [stageJudged_txnStage_ne t hd]
      exact stages d
  · exact judged

theorem txnExpireAll_balance (s : State) {x : TxnStage} (held : s.txnStage 1 = some x)
    (past : (x.act.isNone && !x.active && !sweepAfter x.expiry s.sweepNum) = true) :
    (txnExpireAll s).flag Fld.BAL_STATUS_EXPIRED = true ∧ (txnExpireAll s).bal.staged = none := by
  have rest := forEach_keeps (fun s => (s.bal, s.flag Fld.BAL_STATUS_EXPIRED)) (f := stageJudged) (l := [2, 3, 4])
    (fun e he s => stageJudged_bal s (by rintro rfl; exact absurd he (by decide))) (stageJudged s 1)
  rw [txnExpireAll_eq, forEach_cons]
  simp only [Prod.mk.injEq] at rest
  rw [rest.1, rest.2, stageJudged_discards held past, State.flag, (txnDiscard_fld _ _).1, balClearStage_fld _ (by decide)]
  exact ⟨flag_setFlag_same s Fld.BAL_STATUS_EXPIRED true (by decide) (by decide), rfl⟩

end Expiry

end Sys2Proof.Machine
end

section
/-!
Transactions at a node and at the root: O28.
-/
namespace Sys2Proof.Machine

/-- Settles O28: PREPARE is compared with the host's own command by `txnPrepare_asHost`, the other commands by their operation on
the stage; START and ABANDON run `txnSend`, which leaves the transaction's settings; and expiry judges each stage apart. -/
theorem transactions : Obligations.Transactions := by
  refine ⟨fun s f sub id act => ?_, fun s => ?_⟩
  · intro ok later stage other answered opened
    have notLater (late : ¬ later) : sweepAfter act s.sweepNum = false :=
      Bool.eq_false_iff.mpr fun h => late ((sweepAfter_iff s act).mp h)
    refine ⟨fun p hp h1 frame good foreign free => ?_, ?_, ?_, fun x frame good held same waits => ?_,
      fun e frame good h2 held => ⟨fun late => ?_, fun late => ?_⟩, ?_, fun x frame good held same waits => ?_,
      fun x frame good held same due => ?_, fun x frame good held same => ?_, fun p hp frame good foreign => ?_,
      fun frame => txnStatus_shows frame, fun p hp frame bad => txnCommand_badTag hp frame bad⟩
    · have named : 1 ≤ sub ∧ sub ≤ 3 ∧ exec p.2.1 s = .next (settle (hostPrepared s sub)) ∧ p.2.2.1 = errorField sub ∧
          p.2.2.2 = stageField sub := by
        simp only [List.mem_cons, List.not_mem_nil, or_false] at hp
        rcases hp with rfl | rfl | rfl <;> subst h1 <;> exact ⟨by simp, by simp, rfl, rfl, rfl⟩
      obtain ⟨lo, hi, host, error, shown⟩ := named
      obtain ⟨t, next, alike, mode, taken, refused⟩ := txnPrepare_asHost lo hi frame good foreign free
      refine ⟨_, host, t, next, ?_⟩
      rw [error, shown]
      exact ⟨alike.error, alike.stage, alike.staged, alike.plan, alike.mask, mode, taken, refused⟩
    · rintro rfl frame good foreign allowed
      exact txnPrepare_stagesPlan frame good foreign allowed
    · rintro rfl frame good foreign
      exact txnPrepare_switch frame good foreign
    · exact txnPrepare_again frame good held same waits
    · exact txnCommit_later frame good h2 held ((sweepAfter_iff s act).mpr late)
    · exact txnCommit_tooLate frame good h2 held (notLater late)
    · rintro e p frame good rfl held plan state
      exact txnCommit_ofSpectrum frame good held plan state
    · exact txnCancel_discards frame good held same waits
    · exact txnRollback_marks frame good held same due
    · exact txnClose_drops frame good held same
    · exact txnCommand_foreign hp frame good foreign
  · refine ⟨fun root idle lo hi => ?_, fun h => txnStart_idle h, txnAbandon_cancels, txnAbandon_idle, ?_⟩
    · obtain ⟨t, next, phase, number, ⟨a, p, c, m, txn, elsewhere⟩, targets⟩ := txnStart_begins root idle lo hi
      refine ⟨t, next, phase, number, ?_⟩
      rw [txn]
      exact ⟨rfl, rfl, rfl, rfl, rfl, rfl, targets, elsewhere⟩
    · refine ⟨settle (txnExpireAll s), rfl, fun sub x lo hi held => ?_⟩
      have known : sub ∈ [1, 2, 3, 4] := by simp; omega
      have judged : (settle (txnExpireAll s)).txnStage sub = stageLeft s.sweepNum (some x) := by
        rw [State.txnStage, settle_txn, ← held]
        exact txnExpireAll_txnStage s known
      rw [judged]
      refine ⟨fun open' waits past => ?_, fun stays => if_neg ?_⟩
      · have expired : (x.act.isNone && !x.active && !sweepAfter x.expiry s.sweepNum) = true := by simp [open', waits, past]
        refine ⟨if_pos expired, ?_⟩
        rintro rfl
        rw [settle_flag _ _ (by decide), settle_bal]
        exact txnExpireAll_balance s held expired
      · rcases stays with named | active | before
        · simp [Option.isNone_iff_eq_none, named]
        · simp [active]
        · simp [before]

end Sys2Proof.Machine
end

section
/-!
Trips, hold times and lockouts of the balancer's groups (R127, R128, R188).
-/
namespace Sys2Proof.Machine

/-! ### Channels and groups -/

theorem balChan_setBalChan_same (s : State) (k : Nat) (c : BalChan) : (s.setBalChan k c).balChan k = c :=
  sparseGet_set_same s.bal.chans {} k c

theorem balChan_setBalChan_ne (s : State) {j k : Nat} (c : BalChan) (h : j ≠ k) : (s.setBalChan k c).balChan j = s.balChan j :=
  sparseGet_set_ne s.bal.chans {} {} c h

theorem balGrp_setBalGrp_same (s : State) (n : Nat) (g : BalGroup) : (s.setBalGrp n g).balGrp n = g :=
  listPut_getD_same s.bal.groups {} n g

theorem balGrp_setBalGrp_ne (s : State) {m n : Nat} (g : BalGroup) (h : m ≠ n) : (s.setBalGrp n g).balGrp m = s.balGrp m :=
  listPut_getD_ne s.bal.groups {} g h

/-! ### A trip's channels (R127, R176) -/

/-- A channel of a group that trips: its outputs go off, and it leaves the slot set. -/
def chanTripped (s : State) (k : Nat) : State :=
  (cutPulses s k).setBalChan k { (cutPulses s k).balChan k with tripped := true, joined := false, soft := 0 }

theorem chanTripped_eq (s : State) (k : Nat) : chanTripped s k =
    (cutPulses s k).setBalChan k { s.balChan k with
      pulses := ((s.balChan k).pulses.filter fun p => decide (p.rise < s.now)).map fun p =>
        { p with fall := min p.fall s.now, cut := p.cut || decide (s.now < p.fall) }
      tripped := true, joined := false, soft := 0 } := by
  have cut := balChan_setBalChan_same s k { s.balChan k with
    pulses := ((s.balChan k).pulses.filter fun p => decide (p.rise < s.now)).map fun p =>
      { p with fall := min p.fall s.now, cut := p.cut || decide (s.now < p.fall) } }
  unfold chanTripped
  congr 1
  exact congrArg (fun c : BalChan => { c with tripped := true, joined := false, soft := 0 }) cut

/-- What a trip leaves of a channel of the group that stood as `c` at the tick `now`. -/
def TrippedFrom (c d : BalChan) (now : Nat) : Prop :=
  d.joined = false ∧ d.tripped = true ∧ d.q = c.q ∧ ∀ p ∈ d.pulses, p.rise < now ∧ p.fall ≤ now

theorem chanTripped_own (s : State) (k : Nat) : TrippedFrom (s.balChan k) ((chanTripped s k).balChan k) s.now := by
  rw [chanTripped_eq, balChan_setBalChan_same]
  refine ⟨rfl, rfl, rfl, fun p hp => ?_⟩
  obtain ⟨q, hq, rfl⟩ := List.mem_map.mp hp
  obtain ⟨-, begun⟩ := List.mem_filter.mp hq
  exact ⟨of_decide_eq_true begun, Nat.min_le_right ..⟩

theorem chanTripped_ne (s : State) {j k : Nat} (h : j ≠ k) : (chanTripped s k).balChan j = s.balChan j := by
  rw [chanTripped_eq, balChan_setBalChan_ne _ _ h]
  exact balChan_setBalChan_ne s _ h

/-- `t` differs from `s` in the balancer's channels alone. -/
def ChansOnly (s t : State) : Prop := ∃ c, t = { s with bal := { s.bal with chans := c } }

theorem ChansOnly.refl (s : State) : ChansOnly s s := ⟨_, rfl⟩

theorem ChansOnly.trans {s t u : State} (h : ChansOnly s t) (k : ChansOnly t u) : ChansOnly s u := by
  obtain ⟨_, rfl⟩ := h
  obtain ⟨c, rfl⟩ := k
  exact ⟨c, rfl⟩

theorem ChansOnly.setBalChan {s t : State} (h : ChansOnly s t) (k : Nat) (c : BalChan) : ChansOnly s (t.setBalChan k c) :=
  h.trans ⟨_, rfl⟩

theorem chanTripped_only (s : State) (k : Nat) : ChansOnly s (chanTripped s k) :=
  ((ChansOnly.refl s).setBalChan k _).setBalChan k _

/-- The channels of a group that trips. -/
def chansTripped (s : State) (n : Nat) : State := s.forEach ((List.range 6).map (6 * n + ·)) chanTripped

theorem mem_groupChans {k n : Nat} : k ∈ (List.range 6).map (6 * n + ·) ↔ k / 6 = n := by
  simp only [List.mem_map, List.mem_range]
  constructor
  · rintro ⟨i, hi, rfl⟩
    omega
  · intro h
    exact ⟨k % 6, Nat.mod_lt _ (by decide), by omega⟩

theorem chansTripped_only (s : State) (n : Nat) : ChansOnly s (chansTripped s n) :=
  forEach_rel .refl .trans (fun k s => chanTripped_only s k) _ s

theorem chansTripped_own (s : State) {k n : Nat} (h : k / 6 = n) : TrippedFrom (s.balChan k) ((chansTripped s n).balChan k) s.now := by
  refine forEach_each (read := State.balChan) (Q := fun k d => TrippedFrom (s.balChan k) d s.now)
    (I := fun t => t.now = s.now ∧ ∀ d, (t.balChan d).q = (s.balChan d).q) (fun t e ht => ?_) (fun t e ht => ?_)
    (fun t _ d hd => chanTripped_ne t hd) ⟨rfl, fun _ => rfl⟩ (mem_groupChans.mpr h)
  · obtain ⟨now, charge⟩ := ht
    obtain ⟨c, eq⟩ := chanTripped_only t e
    refine ⟨by rw [eq]; exact now, fun d => ?_⟩
    by_cases hd : d = e
    · subst hd
      exact (chanTripped_own t d).2.2.1.trans (charge d)
    · rw [chanTripped_ne t hd, charge d]
  · obtain ⟨now, charge⟩ := ht
    obtain ⟨joined, tripped, q, pulses⟩ := chanTripped_own t e
    exact ⟨joined, tripped, q.trans (charge e), now ▸ pulses⟩

theorem chansTripped_ne (s : State) {k n : Nat} (h : k / 6 ≠ n) : (chansTripped s n).balChan k = s.balChan k :=
  forEach_keeps (fun s => s.balChan k)
    (fun _ he s => chanTripped_ne s (fun same => h (mem_groupChans.mp (same ▸ he)))) s

/-! ### The trip (R127, R128) -/

/-- TRIP and the count are shown. -/
def tripShown (s : State) (n : Nat) : State := (s.setFlag Fld.BAL_STATUS_TRIP true).incFld (Fld.BAL_GRP_TRIPS n) 255

/-- The group goes off for its hold time. -/
def groupHeld (s : State) (n : Nat) : State :=
  s.setBalGrp n { s.balGrp n with
    trips := 0 :: (s.balGrp n).trips, off := true, hold := s.fld Fld.BAL_TRIP_HOLD, served := none }

/-- At TRIP_MAX trips the group is locked out. -/
def groupLocked (s : State) (n : Nat) : State := (s.setFlag (Fld.BAL_GRP_LOCKED n) true).raiseFlt fltBal

/-- The trip goes on with the lockout, judged by the trips so far. -/
def lockJudged (s : State) (n count : Nat) : State :=
  if s.fld Fld.BAL_TRIP_TRIP_MAX ≤ count + 1 then groupLocked s n else s

theorem groupTrip_eq (s : State) (n : Nat) : groupTrip s n =
    lockJudged (groupHeld (chansTripped (tripShown s n) n) n) n ((chansTripped (tripShown s n) n).balGrp n).trips.length := rfl

theorem fld_incFld_ne (s : State) {f g : BitField} (top : Nat) (h : g.addr ≠ f.addr ∨ g.hi < f.lo ∨ f.hi < g.lo) :
    (s.incFld f top).fld g = s.fld g := by
  unfold State.incFld
  split
  · exact fld_setFld_ne _ _ h
  · rfl

theorem fld_trips_incFld (s : State) (n : Nat) :
    (s.incFld (Fld.BAL_GRP_TRIPS n) 255).fld (Fld.BAL_GRP_TRIPS n) = min 255 (s.fld (Fld.BAL_GRP_TRIPS n) + 1) := by
  unfold State.incFld
  split
  · next below =>
    rw [fld_setFld_same _ (Fld.BAL_GRP_TRIPS n) _ (by simp only [Fld.BAL_GRP_TRIPS]; decide) (by simp only [Fld.BAL_GRP_TRIPS]; decide)]
    simp only [Fld.BAL_GRP_TRIPS] at below ⊢
    omega
  · have := fld_lt s (f := Fld.BAL_GRP_TRIPS n) (n := 8) (Nat.le_refl 8)
    omega

/-- The registers that show a trip, beside those of the group. -/
structure TripShown (s t : State) (n : Nat) : Prop where
  trip : t.flag Fld.BAL_STATUS_TRIP = true
  count : t.fld (Fld.BAL_GRP_TRIPS n) = min 255 (s.fld (Fld.BAL_GRP_TRIPS n) + 1)
  limits : t.fld Fld.BAL_TRIP_TRIP_MAX = s.fld Fld.BAL_TRIP_TRIP_MAX ∧ t.fld Fld.BAL_TRIP_HOLD = s.fld Fld.BAL_TRIP_HOLD
  locked : t.locked n = s.locked n

theorem balGrp_addr (n : Fin 4) : Reg.BAL_GRP n ≠ Reg.BAL_STATUS ∧ Reg.BAL_GRP n ≠ Reg.BAL_TRIP ∧
    Reg.BAL_GRP n ≠ Reg.FLT_SUM ∧ Reg.BAL_GRP n ∉ levelRegs := by
  revert n
  decide

theorem tripShown_shows (s : State) (n : Fin 4) : TripShown s (tripShown s n) n := by
  obtain ⟨status, trip, -, -⟩ := balGrp_addr n
  refine ⟨?_, ?_, ⟨?_, ?_⟩, ?_⟩
  · rw [State.flag, tripShown, fld_incFld_ne _ _ (.inl status.symm)]
    exact flag_setFlag_same s Fld.BAL_STATUS_TRIP true (by decide) (by decide)
  · rw [tripShown, fld_trips_incFld, fld_setFlag_ne _ _ (.inl status)]
  · rw [tripShown, fld_incFld_ne _ _ (.inl trip.symm), fld_setFlag_ne _ _ (by decide)]
  · rw [tripShown, fld_incFld_ne _ _ (.inl trip.symm), fld_setFlag_ne _ _ (by decide)]
  · rw [State.locked, State.flag, tripShown, fld_incFld_ne _ _ (.inr (.inr (by simp only [Fld.BAL_GRP_LOCKED, Fld.BAL_GRP_TRIPS]; decide))),
      fld_setFlag_ne _ _ (.inl status)]
    rfl

theorem tripShown_regsOnly (s : State) (n : Nat) : RegsOnly s (tripShown s n) := by
  unfold tripShown State.incFld
  split
  · exact ⟨_, rfl⟩
  · exact ⟨_, rfl⟩

/-- What a group's trip leaves, the lockout apart. -/
structure GroupOff (s t : State) (n : Fin 4) : Prop where
  own : (t.balGrp n).off = true ∧ (t.balGrp n).hold = s.fld Fld.BAL_TRIP_HOLD ∧ (t.balGrp n).trips = 0 :: (s.balGrp n).trips
  trip : t.flag Fld.BAL_STATUS_TRIP = true
  count : t.fld (Fld.BAL_GRP_TRIPS n) = min 255 (s.fld (Fld.BAL_GRP_TRIPS n) + 1)
  chans : ∀ k, k / 6 = n.val → TrippedFrom (s.balChan k) (t.balChan k) s.now
  otherChans : ∀ k, k / 6 ≠ n.val → t.balChan k = s.balChan k
  otherGroups : ∀ m : Fin 4, m ≠ n → t.balGrp m = s.balGrp m

/-- What a group's trip leaves. -/
structure GroupTripped (s t : State) (n : Fin 4) : Prop extends GroupOff s t n where
  locks : s.fld Fld.BAL_TRIP_TRIP_MAX ≤ (s.balGrp n).trips.length + 1 → t.locked n = true
  stays : (s.balGrp n).trips.length + 1 < s.fld Fld.BAL_TRIP_TRIP_MAX → t.locked n = s.locked n

theorem groupHeld_balChan (s : State) (n k : Nat) : (groupHeld s n).balChan k = s.balChan k := rfl

theorem groupHeld_fld (s : State) (n : Nat) (f : BitField) : (groupHeld s n).fld f = s.fld f := rfl

theorem groupHeld_own (s : State) (n : Nat) : ((groupHeld s n).balGrp n).off = true ∧
    ((groupHeld s n).balGrp n).hold = s.fld Fld.BAL_TRIP_HOLD ∧ ((groupHeld s n).balGrp n).trips = 0 :: (s.balGrp n).trips := by
  rw [groupHeld, balGrp_setBalGrp_same]
  exact ⟨rfl, rfl, rfl⟩

/-- The channels' part of a trip leaves registers and groups. -/
theorem chansTripped_beside (s : State) (n : Nat) :
    (∀ m, (chansTripped s n).balGrp m = s.balGrp m) ∧ ∀ f, (chansTripped s n).fld f = s.fld f := by
  obtain ⟨c, only⟩ := chansTripped_only s n
  rw [only]
  exact ⟨fun _ => rfl, fun _ => rfl⟩

/-- The registers' part of a trip leaves channels and groups. -/
theorem tripShown_beside (s : State) (n : Nat) : (∀ k, (tripShown s n).balChan k = s.balChan k) ∧
    (∀ m, (tripShown s n).balGrp m = s.balGrp m) ∧ (tripShown s n).now = s.now := by
  obtain ⟨r, only⟩ := tripShown_regsOnly s n
  rw [only]
  exact ⟨fun _ => rfl, fun _ => rfl, rfl⟩

theorem groupHeld_off (s : State) (n : Fin 4) : GroupOff s (groupHeld (chansTripped (tripShown s n) n) n) n := by
  obtain ⟨trip, count, ⟨-, hold⟩, -⟩ := tripShown_shows s n
  obtain ⟨chans, groups, now⟩ := tripShown_beside s n
  obtain ⟨group, fld⟩ := chansTripped_beside (tripShown s n) n
  obtain ⟨off, held, trips⟩ := groupHeld_own (chansTripped (tripShown s n) n) n
  refine ⟨⟨off, ?_, ?_⟩, ?_, ?_, fun k h => ?_, fun k h => ?_, fun m h => ?_⟩
  · rw [held, fld, hold]
  · rw [trips, group, groups]
  · rw [State.flag, groupHeld_fld, fld]
    exact trip
  · rw [groupHeld_fld, fld, count]
  · rw [groupHeld_balChan, ← chans, ← now]
    exact chansTripped_own _ h
  · rw [groupHeld_balChan, chansTripped_ne _ h, chans]
  · rw [groupHeld, balGrp_setBalGrp_ne _ _ (fun same => h (Fin.ext same)), group, groups]

theorem groupLocked_beside (s : State) (n : Nat) :
    (∀ k, (groupLocked s n).balChan k = s.balChan k) ∧ ∀ m, (groupLocked s n).balGrp m = s.balGrp m := ⟨fun _ => rfl, fun _ => rfl⟩

/-- A lockout writes LOCKED and the fault summary. -/
theorem groupLocked_fld (s : State) (n : Nat) {f : BitField} (hf : f.addr ≠ Reg.FLT_SUM) (h : f.addr ≠ Reg.BAL_GRP n ∨ f.hi < 15) :
    (groupLocked s n).fld f = s.fld f := by
  rw [groupLocked, State.raiseFlt, State.setBits, fld_setReg_ne _ _ hf]
  exact fld_setFlag_ne _ _ (h.imp id .inl)

theorem groupLocked_locked (s : State) (n : Fin 4) : (groupLocked s n).locked n = true := by
  obtain ⟨-, -, flt, -⟩ := balGrp_addr n
  rw [State.locked, State.flag, groupLocked, State.raiseFlt, State.setBits, fld_setReg_ne _ _ flt]
  exact flag_setFlag_same s (Fld.BAL_GRP_LOCKED n) true (Nat.le_refl 15) (Nat.le_refl 16)

theorem GroupOff.lock {s t : State} {n : Fin 4} (h : GroupOff s t n) : GroupOff s (groupLocked t n) n := by
  obtain ⟨status, -, flt, -⟩ := balGrp_addr n
  obtain ⟨chan, group⟩ := groupLocked_beside t n
  refine ⟨?_, ?_, ?_, fun k hk => ?_, fun k hk => ?_, fun m hm => ?_⟩
  · rw [group]
    exact h.own
  · rw [State.flag, groupLocked_fld t n (by decide) (.inl status.symm)]
    exact h.trip
  · rw [groupLocked_fld t n flt (.inr (show 7 < 15 by decide)), h.count]
  · rw [chan]
    exact h.chans k hk
  · rw [chan, h.otherChans k hk]
  · rw [group, h.otherGroups m hm]

theorem groupTrip_trips (s : State) (n : Fin 4) : GroupTripped s (groupTrip s n) n := by
  obtain ⟨-, -, ⟨most, -⟩, locked⟩ := tripShown_shows s n
  obtain ⟨-, groups, -⟩ := tripShown_beside s n
  obtain ⟨group, fld⟩ := chansTripped_beside (tripShown s n) n
  have off := groupHeld_off s n
  rw [groupTrip_eq, lockJudged, groupHeld_fld, fld, most, group, groups]
  split
  · next reached => exact ⟨off.lock, fun _ => groupLocked_locked .., fun few => absurd reached (by omega)⟩
  · next few =>
    refine ⟨off, fun reached => absurd reached few, fun _ => ?_⟩
    rw [State.locked, State.flag, groupHeld_fld, fld]
    exact locked

end Sys2Proof.Machine
end

section
/-!
The commands of trips and hold times (R127, R128, R188).
-/
namespace Sys2Proof.Machine

section Commands

variable {s : State} {n : Fin 4}

/-! ### A crossing (R184, R188) -/

/-- The comparator's state follows its input, where the monitor is active. -/
def compFollows (s : State) (n : Nat) (above : Bool) : State :=
  s.when (s.monActive n && s.monSettled n && !s.monSampled n) fun s => s.setMonComp n (if above then .above else .below)

theorem compFollows_eq (s : State) (n : Nat) (above : Bool) :
    ∃ m, compFollows s n above = { s with mon := m } ∧ m.test = s.mon.test ∧ m.failed = s.mon.failed := by
  unfold compFollows State.when
  split
  · exact ⟨_, rfl, rfl, rfl⟩
  · exact ⟨_, rfl, rfl, rfl⟩

theorem isTrip_eq (s : State) (n : Fin 4) (above : Bool) : exec (.isTrip n above) s = .next (settle
    (if (compFollows s n above).isBlanked n then compFollows s n above else tripTaken (compFollows s n above) n)) := rfl

theorem isBlanked_iff (s : State) (n : Nat) : s.isBlanked n = true ↔ ∃ k, k / 6 = n ∧ ∃ p ∈ (s.balChan k).pulses,
    p.rise ≤ s.now ∧ s.now < p.rise + s.fld (Fld.MON_CTL_BLANK n) := by
  simp only [State.isBlanked, List.any_eq_true, List.mem_range, Bool.and_eq_true, decide_eq_true_eq]
  constructor
  · rintro ⟨i, hi, p, hp, blanked⟩
    exact ⟨6 * n + i, by omega, p, hp, blanked⟩
  · rintro ⟨k, hk, p, hp, blanked⟩
    exact ⟨k % 6, Nat.mod_lt _ (by decide), p, by rwa [show 6 * n + k % 6 = k by omega], blanked⟩

/-- A trip of a monitor in service stops the group, and its excitation; the comparator apart, it acts on `s`. -/
theorem tripTaken_eq {m : Monitors} (service : s.isInService n = true) (runs : s.monRuns n = true) (test : m.test = s.mon.test)
    (failed : m.failed = s.mon.failed) :
    tripTaken { s with mon := m } n = impTrip (groupTrip { s with mon := m } n) n := by
  have same : { s with mon := m }.isInService n = s.isInService n := by
    change (s.flag (Fld.MON_CTL_EN n) && !m.test.contains _ && !m.failed.contains _ && _ && _) = _
    rw [test, failed]
    rfl
  refine if_pos ?_
  rw [same, service]
  exact runs

/-- What a trip shows at the end of its tick. -/
theorem trip_completes {i : Instr} {m : Monitors}
    (next : exec i s = .next (settle (impTrip (groupTrip { s with mon := m } n) n))) : Completes i s fun t =>
      (t.balGrp n).off = true ∧ (t.balGrp n).hold = s.fld Fld.BAL_TRIP_HOLD ∧ (t.balGrp n).trips = 0 :: (s.balGrp n).trips ∧
      t.flag Fld.BAL_STATUS_TRIP = true ∧ t.fld (Fld.BAL_GRP_TRIPS n) = min 255 (s.fld (Fld.BAL_GRP_TRIPS n) + 1) ∧
      (s.fld Fld.BAL_TRIP_TRIP_MAX ≤ (s.balGrp n).trips.length + 1 → t.locked n = true) ∧
      ((s.balGrp n).trips.length + 1 < s.fld Fld.BAL_TRIP_TRIP_MAX → t.locked n = s.locked n) ∧
      (∀ k, k / 6 = n.val → (t.balChan k).joined = false ∧ (t.balChan k).tripped = true ∧ (t.balChan k).q = (s.balChan k).q ∧
        ∀ p ∈ (t.balChan k).pulses, p.rise < s.now ∧ p.fall ≤ s.now) ∧
      (∀ k, k / 6 ≠ n.val → t.balChan k = s.balChan k) ∧ (∀ m : Fin 4, m ≠ n → t.balGrp m = s.balGrp m) := by
  obtain ⟨-, -, -, level⟩ := balGrp_addr n
  have tripped := groupTrip_trips { s with mon := m } n
  generalize groupTrip { s with mon := m } n = u at next tripped
  have bal : (settle (impTrip u n)).bal = u.bal := settle_bal _
  have chan (k : Nat) : (settle (impTrip u n)).balChan k = u.balChan k := congrArg (fun b : Bal => sparseGet b.chans {} k) bal
  have group (k : Nat) : (settle (impTrip u n)).balGrp k = u.balGrp k := congrArg (fun b : Bal => b.groups.getD k {}) bal
  have count : (settle (impTrip u n)).fld (Fld.BAL_GRP_TRIPS n) = u.fld (Fld.BAL_GRP_TRIPS n) := settle_fld _ _ level
  have locked : (settle (impTrip u n)).locked n = u.locked n := settle_flag _ (Fld.BAL_GRP_LOCKED n) level
  obtain ⟨off, hold, trips⟩ := tripped.own
  refine ⟨_, next, ?_⟩
  simp only [chan, group, count, locked]
  exact ⟨off, hold, trips, (settle_flag _ Fld.BAL_STATUS_TRIP (by decide)).trans tripped.trip, tripped.count, tripped.locks,
    tripped.stays, tripped.chans, tripped.otherChans, tripped.otherGroups⟩

/-- A crossing within the blanking is not taken. -/
theorem isTrip_blanked (above : Bool) (h : s.isBlanked n = true) : Completes (.isTrip n above) s fun t =>
    t.bal = s.bal ∧ t.imp.corr = s.imp.corr ∧ t.regs = (settle s).regs := by
  obtain ⟨m, follows, -, -⟩ := compFollows_eq s n above
  have next := isTrip_eq s n above
  rw [follows, if_pos (show ({ s with mon := m } : State).isBlanked n = true from h)] at next
  have same : SameLevels s { s with mon := m } := ⟨rfl, rfl, rfl, rfl⟩
  obtain ⟨b, imp⟩ := settle_imp { s with mon := m }
  exact ⟨_, next, settle_bal _, by rw [imp], same.settled.regs⟩

/-- A crossing outside it, or one that outlasts it, trips. -/
theorem isTrip_open (above : Bool) (service : s.isInService n = true) (runs : s.monRuns n = true) (h : s.isBlanked n = false) :
    ∃ m, exec (.isTrip n above) s = .next (settle (impTrip (groupTrip { s with mon := m } n) n)) := by
  obtain ⟨m, follows, test, failed⟩ := compFollows_eq s n above
  have next := isTrip_eq s n above
  rw [follows, if_neg (show ¬ ({ s with mon := m } : State).isBlanked n = true from by rw [Bool.not_eq_true]; exact h),
    tripTaken_eq service runs test failed] at next
  exact ⟨m, next⟩

theorem isBlankEnd_persists (service : s.isInService n = true) (runs : s.monRuns n = true) :
    exec (.isBlankEnd n true) s = .next (settle (impTrip (groupTrip { s with mon := s.mon } n) n)) :=
  congrArg (fun t => Host.Outcome.next (settle t)) (tripTaken_eq (m := s.mon) service runs rfl rfl)

/-! ### The hold time, and BAL_GRP_CLR -/

theorem tripHoldEnd_releases (off : (s.balGrp n).off = true) (last : (s.balGrp n).hold ≤ 1) : Completes (.tripHoldEnd n) s fun t =>
    (t.balGrp n).off = false ∧ (t.balGrp n).hold = 0 ∧ (t.balGrp n).trips = (s.balGrp n).trips ∧
    t.bal.chans = s.bal.chans ∧ (∀ m : Fin 4, m ≠ n → t.balGrp m = s.balGrp m) ∧ t.regs = (settle s).regs := by
  have eq : tripHoldEnd s n = s.setBalGrp n { s.balGrp n with off := false, hold := 0 } := if_pos (by simp [off, last])
  have same : SameLevels s (tripHoldEnd s n) := by
    rw [eq]
    exact ⟨rfl, rfl, rfl, rfl⟩
  have group (m : Nat) : (settle (tripHoldEnd s n)).balGrp m = (s.setBalGrp n { s.balGrp n with off := false, hold := 0 }).balGrp m := by
    rw [State.balGrp, settle_bal, eq]
    rfl
  refine ⟨settle (tripHoldEnd s n), rfl, ?_⟩
  beta_reduce
  rw [group, balGrp_setBalGrp_same]
  refine ⟨rfl, rfl, rfl, ?_, fun m hm => ?_, same.settled.regs⟩
  · rw [settle_bal, eq]
    rfl
  · rw [group, balGrp_setBalGrp_ne s _ (fun same => hm (Fin.ext same))]

theorem tripHoldEnd_waits (h : (s.balGrp n).off = false ∨ 1 < (s.balGrp n).hold) :
    exec (.tripHoldEnd n) s = .next (settle s) :=
  congrArg (fun t => Host.Outcome.next (settle t)) (if_neg (by
    simp only [Bool.and_eq_true, decide_eq_true_eq, not_and, not_le]
    intro off
    exact h.resolve_left (by rw [off]; decide)))

/-- The registers as BAL_GRP_CLR leaves them. -/
def clearedRegs (s : State) (n : Nat) : State := (s.setFlag (Fld.BAL_GRP_LOCKED n) false).setFld (Fld.BAL_GRP_TRIPS n) 0

theorem groupClear_eq (s : State) (n : Nat) : groupClear s n =
    (clearedRegs s n).setBalGrp n { (clearedRegs s n).balGrp n with trips := [] } := rfl

theorem fld_setBalGrp (s : State) (n : Nat) (g : BalGroup) (f : BitField) : (s.setBalGrp n g).fld f = s.fld f := rfl

theorem clearedRegs_own (s : State) (n : Nat) : (clearedRegs s n).flag (Fld.BAL_GRP_LOCKED n) = false ∧
    (clearedRegs s n).fld (Fld.BAL_GRP_TRIPS n) = 0 := by
  refine ⟨?_, fld_setFld_same (s.setFlag (Fld.BAL_GRP_LOCKED n) false) (Fld.BAL_GRP_TRIPS n) 0 (show 0 ≤ 7 by decide)
    (show 7 < 16 by decide)⟩
  rw [State.flag, clearedRegs, fld_setFld_ne _ _ (.inr (.inr (show 7 < 15 by decide)))]
  exact flag_setFlag_same s (Fld.BAL_GRP_LOCKED n) false (Nat.le_refl 15) (Nat.le_refl 16)

theorem clearedRegs_ne (s : State) {n : Nat} {f : BitField} (h : f.addr ≠ Reg.BAL_GRP n) :
    (clearedRegs s n).fld f = s.fld f := by
  rw [clearedRegs, fld_setFld_ne _ _ (.inl h), fld_setFlag_ne _ _ (.inl h)]

theorem clearedRegs_bal (s : State) (n : Nat) : (clearedRegs s n).bal = s.bal := rfl

theorem groupClear_bal (s : State) (n : Nat) :
    (groupClear s n).bal = (s.setBalGrp n { s.balGrp n with trips := [] }).bal := by
  rw [groupClear_eq]
  generalize hu : clearedRegs s n = u
  have bal : u.bal = s.bal := hu ▸ clearedRegs_bal s n
  unfold State.setBalGrp State.balGrp
  rw [bal]

theorem groupClear_clears (s : State) (n : Fin 4) : Completes (.groupClear n) s fun t =>
    t.locked n = false ∧ t.fld (Fld.BAL_GRP_TRIPS n) = 0 ∧ (t.balGrp n).trips = [] ∧
    (∀ m : Fin 4, m ≠ n → t.locked m = s.locked m ∧ t.balGrp m = s.balGrp m) ∧ t.bal.running = s.bal.running := by
  obtain ⟨-, -, -, level⟩ := balGrp_addr n
  obtain ⟨locked, trips⟩ := clearedRegs_own s n
  have group (m : Nat) : (settle (groupClear s n)).balGrp m = (s.setBalGrp n { s.balGrp n with trips := [] }).balGrp m := by
    rw [State.balGrp, settle_bal, groupClear_bal]
    rfl
  refine ⟨settle (groupClear s n), rfl, ?_, ?_, ?_, fun m hm => ⟨?_, ?_⟩, ?_⟩
  · rw [State.locked, settle_flag _ _ level, State.flag, groupClear_eq, fld_setBalGrp]
    exact locked
  · rw [settle_fld _ _ level, groupClear_eq, fld_setBalGrp, trips]
  · rw [group, balGrp_setBalGrp_same]
  · obtain ⟨-, -, -, level⟩ := balGrp_addr m
    have apart : Reg.BAL_GRP m ≠ Reg.BAL_GRP n := fun same => hm (Fin.ext (by simp only [Reg.BAL_GRP] at same; omega))
    rw [State.locked, settle_flag _ _ level, State.flag, groupClear_eq, fld_setBalGrp, clearedRegs_ne s apart]
    rfl
  · rw [group, balGrp_setBalGrp_ne s _ (fun same => hm (Fin.ext same))]
  · rw [settle_bal, groupClear_bal]
    rfl

end Commands

end Sys2Proof.Machine
end

section
/-!
What a PWM period leaves of charges, budgets, groups and the running plan (R119 to R126, R139).
-/
namespace Sys2Proof.Machine

/-! ### Steps within a period -/

/-- The register lies outside PG_RUN, PG_OMIT and BAL_Q. -/
def besidePeriod (a : Nat) : Bool := (decide (a < 0x0270) || decide (0x0273 < a)) && (decide (a < 0x0A88) || decide (0x0AB7 < a))

/-- What trips have made of a group. -/
def BalGroup.tally (g : BalGroup) : Nat × Bool × List Nat := (g.hold, g.off, g.trips)

/-- The charges of a channel. -/
def BalChan.charges (c : BalChan) : Int × Int := (c.q, c.moved)

/-- The charges of a channel, and whether its budget is reached. -/
def BalChan.account (c : BalChan) : (Int × Int) × Bool := (c.charges, c.reached)

theorem BalChan.account_eq {c d : BalChan} (q : c.q = d.q) (moved : c.moved = d.moved) (reached : c.reached = d.reached) :
    c.account = d.account := by
  unfold BalChan.account BalChan.charges
  rw [q, moved, reached]

/-- `t` differs from `s` at most in draws, records of the impedance unit, the registers of a period, and in what `obs` does not see
of the channels and `tally` of the groups. -/
structure PeriodStep {β : Type} (obs : BalChan → β) (s t : State) : Prop where
  frame : ∃ n r i c g, t = { s with freeCtr := n, regs := r, imp := i, bal := { s.bal with chans := c, groups := g } }
  reg : ∀ a, besidePeriod a = true → t.reg a = s.reg a
  chan : ∀ k, obs (t.balChan k) = obs (s.balChan k)
  group : ∀ n, (t.balGrp n).tally = (s.balGrp n).tally

/-- `t` differs from `s` in draws. -/
def Drawn (s t : State) : Prop := ∃ n, t = { s with freeCtr := n }

namespace PeriodStep

variable {β γ : Type} {obs : BalChan → β} {s t u : State}

theorem refl (obs : BalChan → β) (s : State) : PeriodStep obs s s :=
  ⟨⟨_, _, _, _, _, rfl⟩, fun _ _ => rfl, fun _ => rfl, fun _ => rfl⟩

theorem trans (h : PeriodStep obs s t) (k : PeriodStep obs t u) : PeriodStep obs s u := by
  refine ⟨?_, fun a ha => (k.reg a ha).trans (h.reg a ha), fun c => (k.chan c).trans (h.chan c),
    fun n => (k.group n).trans (h.group n)⟩
  obtain ⟨_, _, _, _, _, first⟩ := h.frame
  obtain ⟨_, _, _, _, _, second⟩ := k.frame
  exact ⟨_, _, _, _, _, by rw [second, first]⟩

/-- Seeing less of the channels. -/
theorem map (f : β → γ) (h : PeriodStep obs s t) : PeriodStep (fun c => f (obs c)) s t :=
  ⟨h.frame, h.reg, fun k => congrArg f (h.chan k), h.group⟩

theorem drawn (h : PeriodStep obs s t) (k : Drawn t u) : PeriodStep obs s u := by
  obtain ⟨n, rfl⟩ := k
  exact h.trans ⟨⟨_, _, _, _, _, rfl⟩, fun _ _ => rfl, fun _ => rfl, fun _ => rfl⟩

theorem setImp (h : PeriodStep obs s t) (i : Imp) : PeriodStep obs s { t with imp := i } :=
  h.trans ⟨⟨_, _, _, _, _, rfl⟩, fun _ _ => rfl, fun _ => rfl, fun _ => rfl⟩

theorem setBalChan (h : PeriodStep obs s t) {k : Nat} {c : BalChan} (hc : obs c = obs (t.balChan k)) :
    PeriodStep obs s (t.setBalChan k c) := by
  refine h.trans ⟨⟨_, _, _, _, _, rfl⟩, fun _ _ => rfl, fun j => ?_, fun _ => rfl⟩
  by_cases hj : j = k
  · rw [hj, balChan_setBalChan_same, hc]
  · rw [balChan_setBalChan_ne t c hj]

theorem setBalGrp (h : PeriodStep obs s t) {n : Nat} {g : BalGroup} (hg : g.tally = (t.balGrp n).tally) :
    PeriodStep obs s (t.setBalGrp n g) := by
  refine h.trans ⟨⟨_, _, _, _, _, rfl⟩, fun _ _ => rfl, fun _ => rfl, fun m => ?_⟩
  by_cases hm : m = n
  · rw [hm, balGrp_setBalGrp_same, hg]
  · rw [balGrp_setBalGrp_ne t g hm]

theorem setRegN (h : PeriodStep obs s t) {a : Nat} (n : Nat) (ha : besidePeriod a = false) : PeriodStep obs s (t.setRegN a n) :=
  h.trans ⟨⟨_, _, _, _, _, rfl⟩, fun b hb => reg_setReg_ne _ _ (by rintro rfl; rw [ha] at hb; exact Bool.noConfusion hb),
    fun _ => rfl, fun _ => rfl⟩

theorem setPair (h : PeriodStep obs s t) {lo hi : Nat} (n : Nat) (hlo : besidePeriod lo = false) (hhi : besidePeriod hi = false) :
    PeriodStep obs s (t.setPair lo hi n) := (h.setRegN _ hlo).setRegN _ hhi

theorem ite {c : Prop} [Decidable c] (h : PeriodStep obs s t) (k : PeriodStep obs s u) :
    PeriodStep obs s (if c then t else u) := by
  split
  · exact h
  · exact k

theorem forEach {α : Type} {f : State → α → State} {l : List α} (h : ∀ a ∈ l, ∀ s, PeriodStep obs s (f s a)) (s : State) :
    PeriodStep obs s (s.forEach l f) := by
  induction l generalizing s with
  | nil => exact refl obs s
  | cons a l ih =>
    exact (h a List.mem_cons_self s).trans (ih (fun b hb => h b (List.mem_cons_of_mem a hb)) (f s a))

end PeriodStep

/-! ### Free values -/

theorem Drawn.refl (s : State) : Drawn s s := ⟨_, rfl⟩

theorem drawBelow_drawn (s : State) (n : Nat) : Drawn s (s.drawBelow n).2 := ⟨_, rfl⟩

theorem pulseWant_drawn (s : State) (k : Nat) : Drawn s (s.pulseWant k).2 := by
  unfold State.pulseWant State.excWant
  split
  · extract_lets
    split
    · exact .refl s
    · exact ⟨_, rfl⟩
  · exact .refl s

theorem pulseOn_drawn (s : State) (k : Nat) (want : Int) : Drawn s (s.pulseOn k want).2 := by
  unfold State.pulseOn
  extract_lets
  split
  · exact .refl s
  · exact ⟨_, rfl⟩

theorem pulseCharge_drawn (s : State) (k : Nat) (p : BalPulse) (a b : Int) : Drawn s (s.pulseCharge k p a b).2 := by
  have two (x y z w : Int) : Drawn s ((s.divFree x y).2.divFree z w).2 := by
    obtain ⟨n, first⟩ := divFree_state s x y
    obtain ⟨m, second⟩ := divFree_state (s.divFree x y).2 z w
    exact ⟨m, by rw [second, first]⟩
  unfold State.pulseCharge
  extract_lets
  split
  · exact two ..
  · exact two ..

end Sys2Proof.Machine
end

section
/-!
The steps of a PWM period, each with what it leaves of the channels' accounts (R119 to R126).
-/
namespace Sys2Proof.Machine

/-! ### Slots (R122, R123) -/

theorem balSlotRecompute_step (s : State) : PeriodStep BalChan.account s (balSlotRecompute s) := by
  unfold balSlotRecompute
  extract_lets left joining joined period slots
  have leaves : PeriodStep BalChan.account s left := by
    refine .forEach (fun k _ s => ?_) s
    exact .ite (.setBalChan (.refl _ s) (BalChan.account_eq rfl rfl rfl)) (.refl _ s)
  clear_value left joining
  have joins : PeriodStep BalChan.account left joined := by
    refine .forEach (fun k _ s => ?_) left
    exact .setBalChan (.refl _ s) (BalChan.account_eq rfl rfl rfl)
  clear_value joined period slots
  refine (leaves.trans joins).trans (.forEach (fun x _ s => ?_) joined)
  have rounded := PeriodStep.drawn (.refl BalChan.account s) (roundFree_state s (x.2 * period) slots.length)
  generalize s.roundFree (x.2 * period) slots.length = y at rounded ⊢
  obtain ⟨target, u⟩ := y
  refine rounded.trans (.forEach (fun k _ s => ?_) u)
  exact .setBalChan (.refl _ s) (BalChan.account_eq rfl rfl rfl)

/-! ### Pulses (R124, R125, R175) -/

/-- The cell of a group's turn in the period that starts. -/
def groupServed (s : State) (n : Nat) : State :=
  s.setBalGrp n { s.balGrp n with served := b2cTurn ((s.b2cOf n).filter fun k => (s.balChan k).joined) (s.balGrp n).last }

theorem planPulse_step (s : State) (l : List (Nat × Nat × Nat)) (k : Nat) :
    PeriodStep BalChan.account s (planPulse (s, l) k).1 := by
  have wanted := PeriodStep.drawn (.refl BalChan.account s) (pulseWant_drawn s k)
  have planned := wanted.drawn (pulseOn_drawn (s.pulseWant k).2 k (s.pulseWant k).1)
  unfold planPulse
  dsimp only
  generalize (s.pulseWant k).2.pulseOn k (s.pulseWant k).1 = x at planned ⊢
  obtain ⟨on, u⟩ := x
  dsimp only at planned ⊢
  split
  · exact planned.setBalChan rfl
  · dsimp only
    split
    · exact (planned.setBalGrp (by rfl)).setBalChan (by rfl)
    · exact planned.setBalChan (by rfl)

theorem planPulses_step (l : List Nat) (s : State) (planned : List (Nat × Nat × Nat)) :
    PeriodStep BalChan.account s (l.foldl planPulse (s, planned)).1 := by
  induction l generalizing s planned with
  | nil => exact .refl _ s
  | cons k l ih => exact (planPulse_step s planned k).trans (ih ..)

/-- A channel's pulse is omitted and counted. -/
def pulseOmitted (s : State) (k : Nat) : State :=
  (s.incPair Reg.PG_OMIT_LO Reg.PG_OMIT_HI).setBalChan k { s.balChan k with omitted := true }

/-- A channel gets the pulse `q`, where its place stands outside the quiet windows and within IPK. -/
def pulseGiven (s : State) (k : Nat) (q : Nat × Nat × Nat) : State :=
  if !s.pulseClear q then pulseOmitted s k
  else if s.onLimit k < 16 * (q.2.2 - q.2.1) then s
  else s.setBalChan k { s.balChan k with
    pulses := (s.balChan k).pulses ++ [{
      rise := q.2.1, fall := q.2.2, b2c := s.driveDir k == 2
      want := if s.driveDir k == 2 then (s.balChan k).debt else -(s.balChan k).debt, cycle := s.imp.phase / 4294967296 }] }

/-- A planned pulse is given where it has a place. -/
def pulsePlaced (placed : List (Nat × Nat × Nat)) (s : State) (p : Nat × Nat × Nat) : State :=
  match placed.find? (·.1 == p.1) with
  | some q => pulseGiven s p.1 q
  | none => pulseOmitted s p.1

/-- The pulses that are planned, put in their places. -/
def pulsesPlaced (x : State × List (Nat × Nat × Nat)) : State :=
  x.1.forEach x.2 (pulsePlaced ([0, 1, 2, 3].flatMap fun n =>
    spacePulses (x.1.edgesAhead n) ((x.2.filter x.1.pulseClear).filter fun p => balGroup p.1 == n)))

/-- The pulses of the period, after the groups' turns are set. -/
def pulsesPlanned (s : State) : State := pulsesPlaced ((balKeyOrder.filter s.pulsesNow).foldl planPulse (s, []))

theorem balPulses_eq (s : State) : balPulses s = pulsesPlanned (s.forEach [0, 1, 2, 3] groupServed) := by
  unfold balPulses pulsesPlanned
  rfl

theorem groupServed_step (s : State) (n : Nat) : PeriodStep BalChan.account s (groupServed s n) :=
  .setBalGrp (.refl _ s) (by rfl)

theorem pulseOmitted_step (s : State) (k : Nat) : PeriodStep BalChan.account s (pulseOmitted s k) :=
  PeriodStep.setBalChan (.setPair (.refl _ s) _ (by decide) (by decide)) rfl

theorem pulsePlaced_step (placed : List (Nat × Nat × Nat)) (s : State) (p : Nat × Nat × Nat) :
    PeriodStep BalChan.account s (pulsePlaced placed s p) := by
  unfold pulsePlaced
  split
  · exact .ite (pulseOmitted_step ..) (.ite (.refl _ s) (.setBalChan (.refl _ s) rfl))
  · exact pulseOmitted_step ..

theorem balPulses_step (s : State) : PeriodStep BalChan.account s (balPulses s) := by
  rw [balPulses_eq]
  have serves := PeriodStep.forEach (l := [0, 1, 2, 3]) (fun n _ s => groupServed_step s n) s
  generalize s.forEach [0, 1, 2, 3] groupServed = served at serves ⊢
  exact (serves.trans (planPulses_step ..)).trans (.forEach (fun p _ s => pulsePlaced_step _ s p) _)

/-- A channel in the slot set ramps up by one period. -/
def softGrown (s : State) (k : Nat) : State :=
  if (s.balChan k).joined then s.setBalChan k { s.balChan k with soft := (s.balChan k).soft + 1 } else s

/-- The slots, pulses and PG_RUN of the period that starts. -/
def periodFilled (s : State) : State :=
  (balShowRun (balPulses (balSlotRecompute s))).forEach (List.range 24) softGrown

theorem balShowRun_step (s : State) : PeriodStep BalChan.account s (balShowRun s) := by
  unfold balShowRun
  extract_lets
  exact .setPair (.refl _ s) _ (by decide) (by decide)

theorem softGrown_step (s : State) (k : Nat) : PeriodStep BalChan.account s (softGrown s k) := by
  unfold softGrown
  exact .ite (.setBalChan (.refl _ s) (by rfl)) (.refl _ s)

theorem periodFilled_step (s : State) : PeriodStep BalChan.account s (periodFilled s) :=
  (((balSlotRecompute_step s).trans (balPulses_step _)).trans (balShowRun_step _)).trans
    (.forEach (fun k _ s => softGrown_step s k) _)

/-! ### Metering (R126, R139) -/

/-- The charge of the channel's oldest pulse enters its account. -/
def pulseMetered (s : State) (k : Nat) (p : BalPulse) (rest : List BalPulse) (x : (Int × Int) × State) : State :=
  meterExcitation (x.2.setBalChan k { s.balChan k with
    pulses := rest, q := (s.balChan k).q + x.1.1, moved := (s.balChan k).moved + x.1.1, lastQ := x.1.1.natAbs
    debt := (s.balChan k).debt - 80 * x.1.1.natAbs }) k p.cycle x.1.1 x.1.2

theorem meterPulse_of_ended {s : State} {k : Fin 24} {p : BalPulse} {rest : List BalPulse} (a b : Int)
    (first : (s.balChan k).pulses = p :: rest) (ended : p.fall ≤ s.now) :
    meterPulse s (k, a, b) = pulseMetered s k p rest (s.pulseCharge k p a b) := by
  unfold meterPulse
  simp only [first]
  exact if_neg (Nat.not_lt.mpr ended)

theorem meterPulse_idle {s : State} {x : Fin 24 × Int × Int}
    (h : ∀ p rest, (s.balChan x.1.val).pulses = p :: rest → s.now < p.fall) : meterPulse s x = s := by
  unfold meterPulse
  dsimp only
  cases pulses : (s.balChan x.1.val).pulses with
  | nil => rfl
  | cons p rest => exact if_pos (h p rest pulses)

theorem pulseMetered_step (s : State) (k : Nat) (p : BalPulse) (rest : List BalPulse) (a b : Int) :
    PeriodStep BalChan.reached s (pulseMetered s k p rest (s.pulseCharge k p a b)) := by
  obtain ⟨n, drawn⟩ := pulseCharge_drawn s k p a b
  have step := PeriodStep.drawn (.refl BalChan.reached s) ⟨n, drawn⟩
  have same : (s.pulseCharge k p a b).2.balChan k = s.balChan k := by
    rw [drawn]
    rfl
  exact (step.setBalChan (by rw [same])).setImp _

theorem meterPulse_step (s : State) (x : Fin 24 × Int × Int) : PeriodStep BalChan.reached s (meterPulse s x) := by
  by_cases h : ∀ p rest, (s.balChan x.1.val).pulses = p :: rest → s.now < p.fall
  · rw [meterPulse_idle h]
    exact .refl _ s
  · simp only [not_forall, not_lt] at h
    obtain ⟨p, rest, first, ended⟩ := h
    obtain ⟨k, a, b⟩ := x
    rw [meterPulse_of_ended a b first ended]
    exact pulseMetered_step ..

/-- A pulse that has ended and was not metered leaves no charge. -/
def unmeteredDropped (s : State) (k : Nat) : State :=
  if (s.balChan k).pulses.all fun p => decide (s.now < p.fall) then s
  else s.setBalChan k { s.balChan k with pulses := (s.balChan k).pulses.filter fun p => decide (s.now < p.fall) }

theorem balMeter_eq (s : State) (steps : List (Fin 24 × Int × Int)) :
    balMeter s steps = (s.forEach steps meterPulse).forEach (List.range 24) unmeteredDropped := rfl

theorem unmeteredDropped_step (s : State) (k : Nat) : PeriodStep BalChan.account s (unmeteredDropped s k) := by
  unfold unmeteredDropped
  exact .ite (.refl _ s) (.setBalChan (.refl _ s) rfl)

theorem balMeter_step (s : State) (steps : List (Fin 24 × Int × Int)) : PeriodStep BalChan.reached s (balMeter s steps) := by
  rw [balMeter_eq]
  exact (PeriodStep.forEach (fun x _ s => meterPulse_step s x) s).trans 
    ((PeriodStep.forEach (fun k _ s => unmeteredDropped_step s k) _).map Prod.snd)

/-- BAL_Q of one channel. -/
def chargeShown (s : State) (k : Nat) : State :=
  (s.divFree (s.balChan k).q 1000000).2.setPair (Reg.BAL_Q_LO k) (Reg.BAL_Q_HI k)
    (BitVec.ofInt 32 (s.divFree (s.balChan k).q 1000000).1).toNat

theorem balShowQ_eq (s : State) : balShowQ s = s.forEach (List.range 24) chargeShown := rfl

theorem balQ_within {k : Nat} (h : k < 24) : besidePeriod (Reg.BAL_Q_LO k) = false ∧ besidePeriod (Reg.BAL_Q_HI k) = false := by
  revert k
  decide

theorem balShowQ_step (s : State) : PeriodStep BalChan.account s (balShowQ s) := by
  rw [balShowQ_eq]
  refine .forEach (fun k hk s => ?_) s
  obtain ⟨lo, hi⟩ := balQ_within (List.mem_range.mp hk)
  exact (PeriodStep.drawn (.refl _ s) (divFree_state s _ _)).setPair _ lo hi

/-- A channel whose charge reaches its budget is DONE. -/
def budgetJudged (p : Plan) (s : State) (k : Nat) : State :=
  if s.balDir k != 0 && (p.bud.getD k 0).toNat != 0 && !(s.balChan k).reached &&
      decide ((p.bud.getD k 0).toNat * 1000000000 ≤ (s.balChan k).q.natAbs)
  then s.setBalChan k { s.balChan k with reached := true } else s

theorem balBudgets_of_some {s : State} {p : Plan} (h : s.bal.running = some p) :
    balBudgets s = s.forEach (List.range 24) (budgetJudged p) := by
  unfold balBudgets
  rw [h]
  rfl

theorem balBudgets_of_none {s : State} (h : s.bal.running = none) : balBudgets s = s := by
  unfold balBudgets
  rw [h]

theorem budgetJudged_step (p : Plan) (s : State) (k : Nat) : PeriodStep BalChan.charges s (budgetJudged p s k) :=
  .ite (.setBalChan (.refl _ s) rfl) (.refl _ s)

theorem balBudgets_step (s : State) : PeriodStep BalChan.charges s (balBudgets s) := by
  cases h : s.bal.running with
  | none => rw [balBudgets_of_none h]; exact .refl _ s
  | some p => rw [balBudgets_of_some h]; exact .forEach (fun k _ s => budgetJudged_step p s k) s

end Sys2Proof.Machine
end

section
/-!
A whole PWM period: the charge of a channel's oldest pulse, budgets, and a plan that ends (R119, R121, R126, R127, R138, R139).
-/
namespace Sys2Proof.Machine

/-! ### The parts of a period -/

/-- The period that ends counts. -/
def periodCounted (s : State) : State :=
  { s with
    bal := { s.bal with interval := s.bal.interval + s.bal.period }
    imp := { s.imp with slotTicks := if s.imp.inPoint then s.imp.slotTicks + s.bal.period else 0 } }

/-- A group's trips and hold time age by a period. -/
def groupAged (s : State) (n : Nat) : State :=
  s.setBalGrp n { s.balGrp n with
    trips := ((s.balGrp n).trips.map (· + 1)).filter (· < 256)
    hold := (s.balGrp n).hold - 1
    last := match s.lastCompleted n with
      | some k => some k
      | none => (s.balGrp n).last
    recent := ((s.groupPulses n).filter fun p => decide (p.fall ≤ s.now)).flatMap fun p =>
      [p.rise, p.fall].filter fun t => decide (s.now < t + 12) }

/-- The period that ends counts, and the groups age. -/
def groupsAged (s : State) : State := (periodCounted s).forEach [0, 1, 2, 3] groupAged

/-- What was metered enters the accounts. -/
def accounted (s : State) (steps : List (Fin 24 × Int × Int)) : State := balBudgets (balMeter (groupsAged s) steps)

/-- A plan that was stopped, or whose channels are all DONE, ends. -/
def planEndJudged (s : State) : State := if s.bal.stopping || s.balAllDone then balEndPlan s else s

/-- The next period begins. -/
def periodBegun (s : State) : State := { s with bal := { s.bal with period := s.bal.nextPeriod, start := s.now } }

theorem pwmPeriod_eq (s : State) (steps : List (Fin 24 × Int × Int)) :
    pwmPeriod s steps = periodFilled (periodBegun (planEndJudged (balShowQ (accounted s steps)))) := by
  unfold pwmPeriod
  extract_lets _ _ counted aged shown ended _ begun filled
  have ages : groupsAged s = aged := by
    refine congrArg (counted.forEach [0, 1, 2, 3]) (funext fun s => funext fun n => ?_)
    rfl
  unfold accounted
  rw [ages]
  have shows : balShowQ (balBudgets (balMeter aged steps)) = shown := rfl
  rw [shows]
  clear_value shown
  have ends : planEndJudged shown = ended := rfl
  have begins : periodBegun ended = begun := rfl
  have fills : periodFilled begun = filled.forEach (List.range 24) softGrown := rfl
  rw [ends]
  clear_value ended
  rw [begins, fills]
  refine congrArg (filled.forEach (List.range 24)) (funext fun s => funext fun k => ?_)
  rfl

/-! ### The groups age -/

theorem groupAged_only (s : State) (n : Nat) : ∃ g, groupAged s n = { s with bal := { s.bal with groups := g } } := ⟨_, rfl⟩

theorem groupsAged_frame (s : State) : ∃ g, groupsAged s =
    { periodCounted s with bal := { (periodCounted s).bal with groups := g } } := by
  refine forEach_rel (R := fun s t => ∃ g, t = { s with bal := { s.bal with groups := g } }) (fun s => ⟨_, rfl⟩) ?_
    (fun n s => groupAged_only s n) _ _
  rintro s t u ⟨_, rfl⟩ ⟨_, rfl⟩
  exact ⟨_, rfl⟩

/-- The channels, registers and readings stand while the groups age. -/
theorem groupsAged_chan (s : State) (k : Nat) : (groupsAged s).balChan k = s.balChan k := by
  obtain ⟨g, eq⟩ := groupsAged_frame s
  rw [eq]
  rfl

/-- An update that touches its own element alone, made once for each of the list, makes it once of `e`. -/
theorem forEach_once {β : Type} {read : State → β} {f : State → Nat → State} {I : State → Prop} {Q : β → β → Prop} {e : Nat}
    (hI : ∀ s a, I s → I (f s a)) (own : ∀ s, I s → Q (read s) (read (f s e))) (other : ∀ s a, a ≠ e → read (f s a) = read s)
    {l : List Nat} (nodup : l.Nodup) (he : e ∈ l) {s : State} (hs : I s) : Q (read s) (read (s.forEach l f)) := by
  induction l generalizing s with
  | nil => exact absurd he List.not_mem_nil
  | cons a l ih =>
    obtain ⟨fresh, nodup⟩ := List.nodup_cons.mp nodup
    rw [forEach_cons]
    by_cases h : a = e
    · subst h
      have rest : read ((f s a).forEach l f) = read (f s a) :=
        forEach_keeps read (fun b hb s => other s b (fun same => fresh (same ▸ hb))) _
      rw [rest]
      exact own s hs
    · rw [← other s a h]
      exact ih nodup ((List.mem_cons.mp he).resolve_left (Ne.symm h)) (hI s a hs)

theorem groupsAged_group (s : State) (n : Fin 4) : ((groupsAged s).balGrp n).tally =
    ((s.balGrp n).hold - 1, (s.balGrp n).off, ((s.balGrp n).trips.map (· + 1)).filter (· < 256)) := by
  have aged := forEach_once (read := fun s => s.balGrp n) (f := groupAged) (I := fun _ => True) (l := [0, 1, 2, 3]) (e := n.val)
    (Q := fun g h => h.tally = (g.hold - 1, g.off, (g.trips.map (· + 1)).filter (· < 256)))
    (fun _ _ h => h) (fun s _ => by rw [groupAged, balGrp_setBalGrp_same]; rfl)
    (fun s a h => balGrp_setBalGrp_ne s _ h.symm) (by decide) (by revert n; decide) (s := periodCounted s) trivial
  exact aged

/-! ### The accounts -/

theorem accounted_step (s : State) (steps : List (Fin 24 × Int × Int)) :
    PeriodStep (fun _ => ()) (groupsAged s) (accounted s steps) :=
  ((balMeter_step _ steps).map fun _ => ()).trans ((balBudgets_step _).map fun _ => ())

theorem PeriodStep.running {β : Type} {obs : BalChan → β} {s t : State} (h : PeriodStep obs s t) :
    t.bal.running = s.bal.running ∧ t.bal.stopping = s.bal.stopping := by
  obtain ⟨_, _, _, _, _, rfl⟩ := h.frame
  exact ⟨rfl, rfl⟩

theorem budgetJudged_ne (p : Plan) (s : State) {j k : Nat} (h : j ≠ k) : (budgetJudged p s k).balChan j = s.balChan j := by
  unfold budgetJudged
  split
  · exact balChan_setBalChan_ne s _ h
  · rfl

/-- A channel of the plan is DONE where it was, or where its charge reaches its budget. -/
theorem budgetJudged_reached {p : Plan} {s : State} {k : Nat} (runs : s.bal.running = some p) (asks : spDir (p.sp.getD k 0) ≠ 0)
    (budget : p.bud.getD k 0 ≠ 0) : ((budgetJudged p s k).balChan k).reached = true ↔
      (s.balChan k).reached = true ∨ (p.bud.getD k 0).toNat * 1000000000 ≤ ((budgetJudged p s k).balChan k).q.natAbs := by
  have dir : s.balDir k ≠ 0 := by
    unfold State.balDir
    rwa [runs]
  have bud : (p.bud.getD k 0).toNat ≠ 0 := fun zero => budget (BitVec.eq_of_toNat_eq zero)
  have charge : ((budgetJudged p s k).balChan k).q = (s.balChan k).q := congrArg Prod.fst ((budgetJudged_step p s k).chan k)
  rw [charge]
  unfold budgetJudged
  split
  · next h =>
    simp only [Bool.and_eq_true, decide_eq_true_eq] at h
    rw [balChan_setBalChan_same]
    exact iff_of_true rfl (.inr h.2)
  · next h =>
    simp only [Bool.and_eq_true, bne_iff_ne, decide_eq_true_eq, Bool.not_eq_true', not_and, not_le] at h
    refine ⟨.inl, fun reached => reached.elim id fun enough => ?_⟩
    by_contra open'
    exact absurd enough (Nat.not_le.mpr (h ⟨⟨dir, bud⟩, Bool.eq_false_iff.mpr open'⟩))

theorem accounted_reached {s : State} {p : Plan} {k : Nat} (steps : List (Fin 24 × Int × Int)) (hk : k < 24)
    (runs : s.bal.running = some p) (asks : spDir (p.sp.getD k 0) ≠ 0) (budget : p.bud.getD k 0 ≠ 0) :
    ((accounted s steps).balChan k).reached = true ↔ (s.balChan k).reached = true ∨
      (p.bud.getD k 0).toNat * 1000000000 ≤ ((accounted s steps).balChan k).q.natAbs := by
  have metered := balMeter_step (groupsAged s) steps
  have aged : (groupsAged s).bal.running = s.bal.running := by
    obtain ⟨g, eq⟩ := groupsAged_frame s
    rw [eq]
    rfl
  have same := metered.running.1.trans (aged.trans runs)
  have before := metered.chan k
  rw [groupsAged_chan] at before
  unfold accounted
  rw [balBudgets_of_some same, ← before]
  exact forEach_once (read := fun s => s.balChan k) (I := fun s => s.bal.running = some p)
    (Q := fun c d => d.reached = true ↔ c.reached = true ∨ (p.bud.getD k 0).toNat * 1000000000 ≤ d.q.natAbs)
    (fun s a h => (budgetJudged_step p s a).running.1.trans h) (fun s h => budgetJudged_reached h asks budget)
    (fun s a h => budgetJudged_ne p s h.symm) List.nodup_range (List.mem_range.mpr hk) same

/-! ### One pulse's charge (R126) -/

theorem pulseMetered_same (s : State) (k : Nat) (p : BalPulse) (rest : List BalPulse) (x : (Int × Int) × State) :
    ((pulseMetered s k p rest x).balChan k).charges = ((s.balChan k).q + x.1.1, (s.balChan k).moved + x.1.1) :=
  congrArg BalChan.charges (balChan_setBalChan_same x.2 k _)

theorem pulseMetered_ne (s : State) {j k : Nat} (p : BalPulse) (rest : List BalPulse) (x : (Int × Int) × State) (h : j ≠ k) :
    (pulseMetered s k p rest x).balChan j = x.2.balChan j := balChan_setBalChan_ne x.2 _ h

theorem pulseCharge_b2c (s : State) (k : Nat) {p : BalPulse} (a b : Int) (h : p.b2c = true) :
    Near (500000 * s.regN Reg.BAL_LMAG * s.fld Fld.BAL_XFMR_TURNS * s.fld Fld.BAL_XFMR_TURNS * (b * b - a * a))
      (64 * s.regN Reg.BAL_RSNS * s.regN Reg.BAL_RSNS * max 1 (s.mainValue k)) fun q => (s.pulseCharge k p a b).1.1 = q := by
  unfold State.pulseCharge
  extract_lets turns rsns on energy
  rw [if_pos h]
  obtain ⟨n, drawn⟩ := divFree_state s (5 * (a + b) * on) (8 * rsns)
  generalize s.divFree (5 * (a + b) * on) (8 * rsns) = x at drawn
  obtain ⟨c, u⟩ := x
  dsimp only at drawn ⊢
  rw [drawn]
  exact divFree_near _ _ _ rfl

theorem pulseCharge_c2b (s : State) (k : Nat) {p : BalPulse} (a b : Int) (h : p.b2c = false) :
    Near (5 * (a + b) * s.fld Fld.BAL_XFMR_TURNS * (p.fall - p.rise : Nat)) (64 * s.regN Reg.BAL_RSNS)
      fun q => (s.pulseCharge k p a b).1.1 = -q := by
  unfold State.pulseCharge
  extract_lets turns rsns on energy
  rw [if_neg (Bool.eq_false_iff.mp h)]
  exact divFree_near _ _ _ rfl

/-- The accounts after the meter's steps for one ended pulse. -/
theorem accounted_charges {s : State} {k : Fin 24} {p : BalPulse} {rest : List BalPulse} (a b : Int)
    (first : (s.balChan k).pulses = p :: rest) (ended : p.fall ≤ s.now) : ∃ x : (Int × Int) × State,
      x = (groupsAged s).pulseCharge k p a b ∧
      ((accounted s [(k, a, b)]).balChan k).charges = ((s.balChan k).q + x.1.1, (s.balChan k).moved + x.1.1) ∧
      ∀ j, j ≠ k.val → ((accounted s [(k, a, b)]).balChan j).charges = (s.balChan j).charges := by
  have now : (groupsAged s).now = s.now := by
    obtain ⟨g, eq⟩ := groupsAged_frame s
    rw [eq]
    rfl
  have charges (j : Nat) : ((accounted s [(k, a, b)]).balChan j).charges =
      ((pulseMetered (groupsAged s) k p rest ((groupsAged s).pulseCharge k p a b)).balChan j).charges := by
    have dropped (u : State) : ((u.forEach (List.range 24) unmeteredDropped).balChan j).charges = (u.balChan j).charges :=
      ((PeriodStep.forEach (fun k _ s => unmeteredDropped_step s k) u).map Prod.fst).chan j
    rw [accounted, (balBudgets_step _).chan j, balMeter_eq, forEach_cons, forEach_nil, dropped,
      meterPulse_of_ended a b ((congrArg BalChan.pulses (groupsAged_chan s k)).trans first) (now.symm ▸ ended)]
  refine ⟨_, rfl, ?_, fun j hj => ?_⟩
  · rw [charges, pulseMetered_same, groupsAged_chan]
  · obtain ⟨n, drawn⟩ := pulseCharge_drawn (groupsAged s) k p a b
    rw [charges, pulseMetered_ne _ _ _ _ hj, drawn, ← groupsAged_chan s j]
    rfl

end Sys2Proof.Machine
end

section
/-!
The end of a plan, what a whole PWM period leaves, and the periods and trips of the balancer.
-/
namespace Sys2Proof.Machine

/-! ### What a step of the period keeps -/

theorem BalChan.of_account_eq {c d : BalChan} (h : c.account = d.account) :
    c.charges = d.charges ∧ c.q = d.q ∧ c.reached = d.reached :=
  ⟨congrArg Prod.fst h, congrArg (fun x : (Int × Int) × Bool => x.1.1) h, congrArg Prod.snd h⟩

theorem BalChan.of_charges_eq {c : BalChan} {q moved : Int} (h : c.charges = (q, moved)) : c.q = q ∧ c.moved = moved :=
  ⟨congrArg Prod.fst h, congrArg Prod.snd h⟩

theorem BalGroup.of_tally_eq {g : BalGroup} {hold : Nat} {off : Bool} {trips : List Nat} (h : g.tally = (hold, off, trips)) :
    g.hold = hold ∧ g.off = off ∧ g.trips = trips :=
  ⟨congrArg Prod.fst h, congrArg (fun x : Nat × Bool × List Nat => x.2.1) h, congrArg (fun x : Nat × Bool × List Nat => x.2.2) h⟩

/-- The balancer's clock, the mode, the channels' accounts and what trips have made of the groups stand. -/
structure PeriodKept (s t : State) : Prop where
  mode : t.mode = s.mode
  now : t.now = s.now
  clock : t.bal.period = s.bal.period ∧ t.bal.nextPeriod = s.bal.nextPeriod ∧ t.bal.start = s.bal.start ∧
    t.bal.interval = s.bal.interval
  account : ∀ k, (t.balChan k).account = (s.balChan k).account
  group : ∀ n, (t.balGrp n).tally = (s.balGrp n).tally

theorem PeriodKept.trans {s t u : State} (h : PeriodKept s t) (k : PeriodKept t u) : PeriodKept s u := by
  obtain ⟨period, next, start, interval⟩ := h.clock
  obtain ⟨period', next', start', interval'⟩ := k.clock
  exact ⟨k.mode.trans h.mode, k.now.trans h.now,
    ⟨period'.trans period, next'.trans next, start'.trans start, interval'.trans interval⟩,
    fun c => (k.account c).trans (h.account c), fun n => (k.group n).trans (h.group n)⟩

theorem PeriodStep.clock {β : Type} {obs : BalChan → β} {s t : State} (h : PeriodStep obs s t) :
    t.mode = s.mode ∧ t.now = s.now ∧ t.bal.period = s.bal.period ∧ t.bal.nextPeriod = s.bal.nextPeriod ∧
      t.bal.start = s.bal.start ∧ t.bal.interval = s.bal.interval := by
  obtain ⟨_, _, _, _, _, rfl⟩ := h.frame
  exact ⟨rfl, rfl, rfl, rfl, rfl, rfl⟩

theorem PeriodStep.kept {s t : State} (h : PeriodStep BalChan.account s t) : PeriodKept s t := by
  obtain ⟨mode, now, clock⟩ := h.clock
  exact ⟨mode, now, clock, h.chan, h.group⟩

/-! ### The plan ends (R138, R139) -/

/-- The plan is over, its channels aside. -/
def planOver (s : State) : State :=
  (({ s with bal := { s.bal with running := none, stopping := false, leaving := true } }.setFlag
    Fld.BAL_STATUS_RUN false).setFlag Fld.BAL_STATUS_DONE true).stopTimer .balPlan

theorem balEndPlan_of_some {s : State} (h : s.bal.running.isSome = true) : balEndPlan s = planOver (balGatesOff s) := by
  obtain ⟨p, hp⟩ := Option.isSome_iff_exists.mp h
  unfold balEndPlan
  rw [hp]
  rfl

theorem balEndPlan_of_none {s : State} (h : s.bal.running = none) : balEndPlan s = s := by
  unfold balEndPlan
  rw [h]

theorem balGatesOff_step (s : State) : PeriodStep BalChan.account s (balGatesOff s) := by
  unfold balGatesOff
  refine .forEach (fun k _ s => ?_) s
  exact .ite (.setBalChan (.refl _ s) (BalChan.account_eq rfl rfl rfl)) (.refl _ s)

theorem planOver_kept (s : State) : PeriodKept s (planOver s) :=
  ⟨rfl, rfl, ⟨rfl, rfl, rfl, rfl⟩, fun _ => rfl, fun _ => rfl⟩

theorem balEndPlan_kept (s : State) : PeriodKept s (balEndPlan s) := by
  cases h : s.bal.running with
  | none =>
    rw [balEndPlan_of_none h]
    exact (PeriodStep.refl _ s).kept
  | some p =>
    rw [balEndPlan_of_some (by rw [h]; rfl)]
    exact (balGatesOff_step s).kept.trans (planOver_kept _)

/-- No plan runs any more, and the status shows it. -/
structure PlanOver (s : State) : Prop where
  running : s.bal.running = none ∧ s.bal.stopping = false
  run : s.flag Fld.BAL_STATUS_RUN = false
  done : s.flag Fld.BAL_STATUS_DONE = true

theorem balEndPlan_over {s : State} (h : s.bal.running.isSome = true) : PlanOver (balEndPlan s) := by
  rw [balEndPlan_of_some h]
  generalize balGatesOff s = u
  refine ⟨⟨rfl, rfl⟩, ?_, ?_⟩
  · rw [planOver, flag_stopTimer, flag_setFlag_ne _ _ (by decide)]
    exact flag_setFlag_same _ Fld.BAL_STATUS_RUN false (by decide) (by decide)
  · rw [planOver, flag_stopTimer]
    exact flag_setFlag_same _ Fld.BAL_STATUS_DONE true (by decide) (by decide)

theorem planEndJudged_kept (s : State) : PeriodKept s (planEndJudged s) := by
  unfold planEndJudged
  split
  · exact balEndPlan_kept s
  · exact (PeriodStep.refl _ s).kept

theorem planEndJudged_over {s : State} (runs : s.bal.running.isSome = true) (stopping : s.bal.stopping = true) :
    PlanOver (planEndJudged s) := by
  have ends : planEndJudged s = balEndPlan s := if_pos (by rw [stopping, Bool.true_or])
  rw [ends]
  exact balEndPlan_over runs

theorem PlanOver.step {s t : State} (gone : PlanOver s) (h : PeriodStep BalChan.account s t) : PlanOver t := by
  obtain ⟨running, stopping⟩ := h.running
  obtain ⟨none, stopped⟩ := gone.running
  have status (f : BitField) (hf : besidePeriod f.addr = true) : t.flag f = s.flag f := by
    unfold State.flag State.fld
    rw [h.reg _ hf]
  exact ⟨⟨running.trans none, stopping.trans stopped⟩, (status _ (by decide)).trans gone.run, (status _ (by decide)).trans gone.done⟩

/-! ### The whole period -/

/-- What a period leaves, after its metering left `u`. -/
structure PeriodAfter (u t : State) : Prop where
  clock : t.bal.period = u.bal.nextPeriod ∧ t.bal.interval = u.bal.interval ∧ t.bal.start = u.now ∧ t.mode = u.mode
  account : ∀ k, (t.balChan k).account = (u.balChan k).account
  group : ∀ n, (t.balGrp n).tally = (u.balGrp n).tally
  ends : u.bal.running.isSome = true → u.bal.stopping = true → PlanOver t

theorem periodBegun_after {s t : State} (h : PeriodKept s t) : (periodBegun t).bal.period = s.bal.nextPeriod ∧
    (periodBegun t).bal.interval = s.bal.interval ∧ (periodBegun t).bal.start = s.now ∧ (periodBegun t).mode = s.mode := by
  obtain ⟨-, next, -, interval⟩ := h.clock
  exact ⟨next, interval, h.now, h.mode⟩

theorem periodBegun_beside (s : State) : (∀ k, (periodBegun s).balChan k = s.balChan k) ∧
    ∀ n, (periodBegun s).balGrp n = s.balGrp n := ⟨fun _ => rfl, fun _ => rfl⟩

theorem periodBegun_over {s : State} (h : PlanOver s) : PlanOver (periodBegun s) := ⟨h.running, h.run, h.done⟩

theorem pwmPeriod_after (s : State) (steps : List (Fin 24 × Int × Int)) :
    PeriodAfter (accounted s steps) (pwmPeriod s steps) := by
  rw [pwmPeriod_eq]
  generalize accounted s steps = u
  have shown := balShowQ_step u
  generalize balShowQ u = v at shown ⊢
  have judged := shown.kept.trans (planEndJudged_kept v)
  have gone := planEndJudged_over (s := v)
  generalize planEndJudged v = w at judged gone ⊢
  have filled := periodFilled_step (periodBegun w)
  obtain ⟨mode, -, period, -, start, interval⟩ := filled.clock
  obtain ⟨period', interval', start', mode'⟩ := periodBegun_after judged
  obtain ⟨chan, group⟩ := periodBegun_beside w
  refine ⟨⟨period.trans period', interval.trans interval', start.trans start', mode.trans mode'⟩, fun k => ?_, fun n => ?_,
    fun runs stopping => ?_⟩
  · rw [filled.chan, chan, judged.account]
  · rw [filled.group, group, judged.group]
  · obtain ⟨running, stops⟩ := shown.running
    exact (periodBegun_over (gone (running ▸ runs) (stops.trans stopping))).step filled

section Commands

variable {s : State}

theorem execPwmPeriodStart_eq (s : State) (steps : List (Fin 24 × Int × Int)) :
    exec (.pwmPeriodStart steps) s = .next (settle (pwmPeriod s steps)) := rfl

theorem settle_balChan (s : State) (k : Nat) : (settle s).balChan k = s.balChan k :=
  congrArg (fun b : Bal => sparseGet b.chans {} k) (settle_bal s)

theorem settle_balGrp (s : State) (n : Nat) : (settle s).balGrp n = s.balGrp n :=
  congrArg (fun b : Bal => b.groups.getD n {}) (settle_bal s)

/-- The readings and registers a pulse's charge is computed from stand while the groups age. -/
theorem groupsAged_reads (s : State) (k : Nat) : (∀ a, (groupsAged s).regN a = s.regN a) ∧
    (∀ f, (groupsAged s).fld f = s.fld f) ∧ (groupsAged s).mainValue k = s.mainValue k := by
  obtain ⟨g, eq⟩ := groupsAged_frame s
  rw [eq]
  exact ⟨fun _ => rfl, fun _ => rfl, rfl⟩

theorem Near.imp {a b : Int} {p q : Int → Prop} (h : Near a b p) (pq : ∀ i, p i → q i) : Near a b q :=
  Or.imp (pq _) (And.imp_right (pq _)) h

/-- The counters of a channel grow by `q`. -/
def ChargeCounted (s t : State) (k : Nat) (q : Int) : Prop :=
  (t.balChan k).q = (s.balChan k).q + q ∧ (t.balChan k).moved = (s.balChan k).moved + q

theorem pwmPeriod_counts {k : Fin 24} {p : BalPulse} {rest : List BalPulse} (a b : Int)
    (first : (s.balChan k).pulses = p :: rest) (ended : p.fall ≤ s.now) : ∃ q : Int,
      q = ((groupsAged s).pulseCharge k p a b).1.1 ∧ ChargeCounted s (settle (pwmPeriod s [(k, a, b)])) k q ∧
      ∀ j, j ≠ k.val → ChargeCounted s (settle (pwmPeriod s [(k, a, b)])) j 0 := by
  obtain ⟨x, charge, own, others⟩ := accounted_charges a b first ended
  have charges (j : Nat) : ((settle (pwmPeriod s [(k, a, b)])).balChan j).charges =
      ((accounted s [(k, a, b)]).balChan j).charges := by
    rw [settle_balChan]
    exact (BalChan.of_account_eq ((pwmPeriod_after s [(k, a, b)]).account j)).1
  refine ⟨x.1.1, by rw [charge], ?_, fun j hj => ?_⟩
  · exact BalChan.of_charges_eq ((charges k).trans own)
  · unfold ChargeCounted
    rw [Int.add_zero, Int.add_zero]
    exact BalChan.of_charges_eq ((charges j).trans (others j hj))

theorem pwmPeriodStart_meters {k : Fin 24} {p : BalPulse} {rest : List BalPulse} (a b : Int)
    (first : (s.balChan k).pulses = p :: rest) (ended : p.fall ≤ s.now) : Completes (.pwmPeriodStart [(k, a, b)]) s fun t =>
      (p.b2c = true → Near (500000 * s.regN Reg.BAL_LMAG * s.fld Fld.BAL_XFMR_TURNS * s.fld Fld.BAL_XFMR_TURNS * (b * b - a * a))
        (64 * s.regN Reg.BAL_RSNS * s.regN Reg.BAL_RSNS * max 1 (s.mainValue k)) (ChargeCounted s t k)) ∧
      (p.b2c = false → Near (5 * (a + b) * s.fld Fld.BAL_XFMR_TURNS * (p.fall - p.rise : Nat)) (64 * s.regN Reg.BAL_RSNS)
        fun q => ChargeCounted s t k (-q)) ∧
      (∀ j, j < 24 → j ≠ k.val → (t.balChan j).q = (s.balChan j).q ∧ (t.balChan j).moved = (s.balChan j).moved) := by
  obtain ⟨q, charge, own, others⟩ := pwmPeriod_counts a b first ended
  obtain ⟨reg, fld, reading⟩ := groupsAged_reads s k
  refine ⟨_, execPwmPeriodStart_eq .., fun b2c => ?_, fun c2b => ?_, fun j _ hj => ?_⟩
  · have near := pulseCharge_b2c (groupsAged s) k a b b2c
    rw [reg, reg, fld, reading, ← charge] at near
    exact near.imp fun i hi => hi ▸ own
  · have near := pulseCharge_c2b (groupsAged s) k a b c2b
    rw [reg, fld, ← charge] at near
    exact near.imp fun i hi => hi ▸ own
  · have none := others j hj
    unfold ChargeCounted at none
    rwa [Int.add_zero, Int.add_zero] at none

theorem accounted_clock (s : State) (steps : List (Fin 24 × Int × Int)) : (accounted s steps).mode = s.mode ∧
    (accounted s steps).now = s.now ∧ (accounted s steps).bal.nextPeriod = s.bal.nextPeriod ∧
    (accounted s steps).bal.interval = s.bal.interval + s.bal.period ∧
    (accounted s steps).bal.running = s.bal.running ∧ (accounted s steps).bal.stopping = s.bal.stopping := by
  have step := accounted_step s steps
  obtain ⟨mode, now, -, next, -, interval⟩ := step.clock
  obtain ⟨running, stopping⟩ := step.running
  rw [mode, now, next, interval, running, stopping]
  obtain ⟨g, eq⟩ := groupsAged_frame s
  rw [eq]
  exact ⟨rfl, rfl, rfl, rfl, rfl, rfl⟩

theorem pwmPeriodStart_starts (s : State) (steps : List (Fin 24 × Int × Int)) : Completes (.pwmPeriodStart steps) s fun t =>
    t.bal.period = s.bal.nextPeriod ∧ t.bal.interval = s.bal.interval + s.bal.period ∧ t.bal.start = s.now ∧ t.mode = s.mode ∧
    (∀ n : Fin 4, (t.balGrp n).hold = (s.balGrp n).hold - 1 ∧ (t.balGrp n).off = (s.balGrp n).off ∧
      (t.balGrp n).trips = ((s.balGrp n).trips.map (· + 1)).filter (· < 256)) ∧
    (∀ k p, k < 24 → s.bal.running = some p → spDir (p.sp.getD k 0) ≠ 0 → p.bud.getD k 0 ≠ 0 →
      ((t.balChan k).reached = true ↔
        (s.balChan k).reached = true ∨ (p.bud.getD k 0).toNat * 1000000000 ≤ (t.balChan k).q.natAbs)) ∧
    (s.bal.running.isSome = true → s.bal.stopping = true → t.bal.running = none ∧ t.bal.stopping = false ∧
      t.flag Fld.BAL_STATUS_RUN = false ∧ t.flag Fld.BAL_STATUS_DONE = true) := by
  have after := pwmPeriod_after s steps
  obtain ⟨period, interval, start, mode⟩ := after.clock
  obtain ⟨mode', now, next, interval', running, stopping⟩ := accounted_clock s steps
  refine ⟨_, execPwmPeriodStart_eq .., ?_⟩
  beta_reduce
  rw [settle_bal, settle_mode]
  refine ⟨period.trans next, interval.trans interval', start.trans now, mode.trans mode', fun n => ?_,
    fun k p hk runs asks budget => ?_, fun runs stops => ?_⟩
  · have aged := (after.group n).trans (((accounted_step s steps).group n).trans (groupsAged_group s n))
    rw [settle_balGrp]
    exact BalGroup.of_tally_eq aged
  · obtain ⟨-, charge, reached⟩ := BalChan.of_account_eq (after.account k)
    rw [settle_balChan, reached, charge]
    exact accounted_reached steps hk runs asks budget
  · obtain ⟨⟨none, stopped⟩, run, done⟩ := after.ends (by rw [running, runs]) (stopping.trans stops)
    refine ⟨none, stopped, ?_, ?_⟩
    · rw [settle_flag _ Fld.BAL_STATUS_RUN (by decide), run]
    · rw [settle_flag _ Fld.BAL_STATUS_DONE (by decide), done]

/-- A crossing outside the blanking, and one that outlasts it, lead to the trip. -/
theorem crossing_trips {n : Fin 4} {i : Instr} (service : s.isInService n = true) (runs : s.monRuns n = true)
    (crossing : i ∈ [Instr.isBlankEnd n true, .isTrip n true, .isTrip n false])
    (unblanked : i = .isBlankEnd n true ∨ ∀ k, k / 6 = n.val → ∀ p ∈ (s.balChan k).pulses,
      s.now < p.rise ∨ p.rise + s.fld (Fld.MON_CTL_BLANK n) ≤ s.now) :
    ∃ m, exec i s = .next (settle (impTrip (groupTrip { s with mon := m } n) n)) := by
  have blanked (h : ∀ k, k / 6 = n.val → ∀ p ∈ (s.balChan k).pulses,
      s.now < p.rise ∨ p.rise + s.fld (Fld.MON_CTL_BLANK n) ≤ s.now) : s.isBlanked n = false := by
    rw [← Bool.not_eq_true, isBlanked_iff]
    rintro ⟨k, hk, p, hp, begun, within⟩
    have := h k hk p hp
    omega
  simp only [List.mem_cons, List.not_mem_nil, or_false] at crossing
  rcases crossing with rfl | rfl | rfl
  · exact ⟨s.mon, isBlankEnd_persists service runs⟩
  · exact isTrip_open true service runs (blanked (unblanked.resolve_left (by simp)))
  · exact isTrip_open false service runs (blanked (unblanked.resolve_left (by simp)))

end Commands

/-- Settles O27: a period's parts each keep the accounts they do not make, a trip acts on its own group alone. -/
theorem balancePeriodsAndTrips : Obligations.BalancePeriodsAndTrips := by
  unfold Obligations.BalancePeriodsAndTrips
  intro s turns rsns
  refine ⟨fun k a b p rest first ended => pwmPeriodStart_meters a b first ended, pwmPeriodStart_starts s,
    fun n service runs i crossing unblanked => ?_, fun n above k hk blanking => ?_, fun n => rfl,
    fun n => tripHoldEnd_releases, fun n => tripHoldEnd_waits, groupClear_clears s⟩
  · obtain ⟨m, next⟩ := crossing_trips service runs crossing unblanked
    exact trip_completes next
  · obtain ⟨p, hp, begun, within⟩ := blanking
    exact isTrip_blanked above ((isBlanked_iff s n).mpr ⟨k, hk, p, hp, begun, within⟩)

end Sys2Proof.Machine
end

section
/-!
Frames sent: what a frame on a port leaves of the registers, and which ports carry it.
-/
namespace Sys2Proof.Machine

/-! ### Registers beside a port's count of frames sent -/

/-- Not a port's LP_TX. -/
def besideTx (a : Nat) : Bool := a % 16 != 10 && a % 16 != 11

theorem txCount_ne {a : Nat} (h : besideTx a = true) (p : Nat) : a ≠ Reg.LP_TX_LO p ∧ a ≠ Reg.LP_TX_HI p := by
  simp only [besideTx, Bool.and_eq_true, bne_iff_ne] at h
  simp only [Reg.LP_TX_LO, Reg.LP_TX_HI]
  omega

/-- A register beside the frames' count reads as before. -/
theorem transmit_reg (s : State) (r p : Nat) (f : Frame) {a : Nat} (h : besideTx a = true) : (transmit s r p f).reg a = s.reg a := by
  obtain ⟨lo, hi⟩ := txCount_ne h p
  unfold transmit
  split
  · rw [State.incPair, State.setPair, reg_setRegN_ne _ _ hi, reg_setRegN_ne _ _ lo, reg_send]
  · rfl

theorem transmit_fld (s : State) (r p : Nat) (f : Frame) {g : BitField} (h : besideTx g.addr = true) :
    (transmit s r p f).fld g = s.fld g := by
  rw [State.fld, transmit_reg s r p f h]
  rfl

theorem besideTx_status (p : Nat) : besideTx (Reg.LP_STATUS p) = true := by simp [besideTx, Reg.LP_STATUS]

theorem besideTx_control (p : Nat) : besideTx (Reg.LP_CTL p) = true := by simp [besideTx, Reg.LP_CTL]

@[simp] theorem transmit_dir (s : State) (r p q : Nat) (f : Frame) : (transmit s r p f).dir q = s.dir q :=
  transmit_fld s r p f (besideTx_status q)

@[simp] theorem numbered_dir (s : State) (r q : Nat) (f : Frame) : (numbered s r f).2.dir q = s.dir q := rfl

theorem sendEcho_dir (s : State) (p q : Nat) : (sendEcho s p).dir q = s.dir q :=
  (transmit_dir ..).trans (numbered_dir ..)

end Sys2Proof.Machine
end

section
/-!
Echo requests (R195, R237), and O36. The statement is for every state, also for one whose DIR field holds its reserved code.
-/
namespace Sys2Proof.Machine

theorem setDir_dir_ne (s : State) {p q : Nat} (d : Nat) (h : q ≠ p) : (setDir s p d).dir q = s.dir q :=
  fld_setFld_ne s d (.inl (by simp only [Fld.LP_STATUS_DIR, Reg.LP_STATUS]; omega))

/-- The end of the echoes turns only ports that receive (R195). -/
theorem echoOver_dir_of_not_receiving {s : State} {p : Nat} (past : Nat × Nat → Bool) (h : s.dir p ≠ 2) :
    (echoOver s past).dir p = s.dir p := by
  unfold echoOver
  split
  · rfl
  · refine forEach_rel (R := fun s t => s.dir p ≠ 2 → t.dir p = s.dir p) (fun _ _ => rfl) (fun first second away => ?_)
      (fun x s away => ?_) _ _ h
    · rw [second (by rwa [first away]), first away]
    · split
      · next receives => exact setDir_dir_ne s 1 fun same => away (same ▸ receives)
      · rfl

/-- A node in ACTIVE waits for an echo request at A0, whose DIR holds the reserved code 0b11 (spec/08, LP*p*_STATUS). -/
def reservedDirection : State :=
  { State.reset with mode := .active, link := { State.reset.link with echo := [(0, 0)] } }.setFld (Fld.LP_STATUS_DIR 0) 3

def echoFrame : Frame := { type := tyEcho, src := 0, dst := bcastDst, seq := 0, flags := 0, payload := List.replicate 8 0 }

theorem reservedDirection_dir : reservedDirection.dir 0 = 3 := fld_setFld_same _ _ 3 (by decide) (by decide)

/-- The port answers, and its direction stays. -/
theorem reservedDirection_answers : exec (.echoRequest 0 echoFrame) reservedDirection =
    .next (settle (echoOver (sendEcho reservedDirection 0) (·.1 == 0))) := rfl

/-- Refutes O36: the statement is for every state with DIR of a port other than 0, and the answer to an echo request turns a port
to transmit only from 0b10, receive; from the reserved code 0b11, which no command gives a port, it stays. -/
theorem not_enumeration : ¬ Obligations.Enumeration := by
  unfold Obligations.Enumeration
  intro h
  obtain ⟨-, -, -, -, -, -, request, -⟩ := h reservedDirection echoFrame
  obtain ⟨t, next, -, -, turns⟩ := request 0 (by decide) rfl (by decide) (by rw [Fin.val_zero, reservedDirection_dir]; decide)
  rw [reservedDirection_answers] at next
  obtain rfl := Host.Outcome.next.inj next
  have transmits : (settle (echoOver (sendEcho reservedDirection 0) (·.1 == 0))).dir 0 = 1 :=
    turns ⟨(0, 0), List.mem_singleton_self _, rfl⟩
  rw [State.dir, settle_fld _ _ (by decide)] at transmits
  have stays := (echoOver_dir_of_not_receiving (s := sendEcho reservedDirection 0) (·.1 == 0)
    (by rw [sendEcho_dir, reservedDirection_dir]; decide)).trans ((sendEcho_dir ..).trans reservedDirection_dir)
  exact absurd (stays.symm.trans transmits) (by decide)

end Sys2Proof.Machine
end

section
/-!
Compare units: the words a write leaves, arming, and the firing rule (R170 to R173).
-/
namespace Sys2Proof.Machine

/-! ### Bits -/

theorem bit8_getLsbD (u : Fin 8) (i : Nat) : (bit8 u).getLsbD i = decide (i = u.val) := by
  simp only [bit8, BitVec.getLsbD_shiftLeft, BitVec.getLsbD_one]
  by_cases h : i = u.val
  · simp [h]
  · simp [h]
    omega

theorem or_bit8 (m : BitVec 8) (u : Fin 8) : (m ||| bit8 u).getLsbD u = true := by
  rw [BitVec.getLsbD_or, bit8_getLsbD]
  simp

theorem clear_bit8 (m : BitVec 8) (u : Fin 8) : (m &&& ~~~bit8 u).getLsbD u = false := by
  rw [BitVec.getLsbD_and, BitVec.getLsbD_not, bit8_getLsbD]
  simp

theorem or_bit16 (m : Half) {i : Nat} (h : i < 16) : (m ||| bit16 i).getLsbD i = true := by
  simp [bit16, h]

theorem or_getLsbD {w : Nat} {m : BitVec w} (n : BitVec w) {i : Nat} (h : m.getLsbD i = true) : (m ||| n).getLsbD i = true := by
  rw [BitVec.getLsbD_or, h, Bool.true_or]

theorem toNat_eq_iff : ∀ a b : Bool, a.toNat = b.toNat ↔ a = b := by decide

/-- A field of one bit reads as that bit. -/
theorem read_bit (a : Nat) {i : Nat} (w : Half) : (⟨a, i, i⟩ : BitField).read w = (w.getLsbD i).toNat := by
  refine Nat.eq_of_testBit_eq fun j => ?_
  rw [BitField.read_getLsbD]
  simp only [Nat.add_sub_cancel_left]
  cases j with
  | zero => cases w.getLsbD i <;> rfl
  | succ j => cases w.getLsbD i <;> simp [Nat.testBit_succ]

theorem flag_bit (s : State) (a i : Nat) : s.flag ⟨a, i, i⟩ = (s.reg a).getLsbD i := by
  rw [State.flag, State.fld, read_bit]
  cases (s.reg a).getLsbD i <;> rfl

/-! ### The registers of a unit -/

/-- A bit of a field with every value allowed takes the bit written. -/
theorem fieldsWritten_taken {r : MapRow} {a j : Nat} (hr : r ∈ rowsAt a) (rw : r.acc = .rw) (least : r.least = 0)
    (most : r.most = 65535) (hj : r.covers j = true) (u : Bool) (v old : Half) :
    (fieldsWritten u a v old).getLsbD j = v.getLsbD j := by
  have bound : v.toNat % 2 ^ (r.hi + 1) / 2 ^ r.lo ≤ 65535 :=
    (Nat.div_le_self _ _).trans ((Nat.mod_le _ _).trans (Nat.le_of_lt_succ v.isLt))
  rw [fieldsWritten_covered hr u v old hj, takenBit, rw, least, most]
  exact if_pos ⟨Nat.zero_le _, bound⟩

/-- A register that is one field takes the word written. -/
theorem fieldsWritten_word {a : Nat} {b c st : Nat} (hr : ⟨b, c, st, 15, 0, .rw, 0, 65535⟩ ∈ rowsAt a) (u : Bool) (v old : Half) :
    fieldsWritten u a v old = v :=
  BitVec.eq_of_getLsbD_eq fun j hj => fieldsWritten_taken hr rfl rfl rfl
    (by simp only [MapRow.covers, Bool.and_eq_true, decide_eq_true_eq]; omega) u v old

theorem unit_series (u : Fin 8) {b : Nat} : inSeries b 8 4 (b + 4 * u) = true := by
  simp only [inSeries, Nat.add_sub_cancel_left]
  simp

/-- The fields EN and MODE of a unit and its words are rows of the map. -/
theorem unit_rows (u : Fin 8) :
    ⟨0x0240, 8, 4, 0, 0, .rw, 0, 65535⟩ ∈ rowsAt (Reg.CMP_CTL u) ∧ ⟨0x0240, 8, 4, 1, 1, .rw, 0, 65535⟩ ∈ rowsAt (Reg.CMP_CTL u) ∧
    ⟨0x0241, 8, 4, 15, 0, .rw, 0, 65535⟩ ∈ rowsAt (Reg.CMP_T0 u) ∧
    ⟨0x0243, 8, 4, 15, 0, .rw, 0, 65535⟩ ∈ rowsAt (Reg.CMP_T2 u) :=
  ⟨mem_rowsAt.mpr ⟨by decide +kernel, unit_series u⟩, mem_rowsAt.mpr ⟨by decide +kernel, unit_series u⟩,
    mem_rowsAt.mpr ⟨by decide +kernel, unit_series u⟩, mem_rowsAt.mpr ⟨by decide +kernel, unit_series u⟩⟩

/-- A unit's control word as written. -/
def ctlWritten (s : State) (u : Fin 8) (v : Half) : State := plainWrite s false (Reg.CMP_CTL u) v

theorem writeTimebase_target (s : State) (u : Fin 8) (v : Half) :
    writeTimebase .qspi s (Reg.CMP_T0 u) v = cmpTargetWritten (s.setReg (Reg.CMP_T0 u) v) u := by
  have word : plainWrite s false (Reg.CMP_T0 u) v = s.setReg (Reg.CMP_T0 u) v := by
    rw [plainWrite, fieldsWritten_word (unit_rows u).2.2.1]
  rw [← word]
  fin_cases u <;> rfl

theorem writeTimebase_last (s : State) (u : Fin 8) (v : Half) :
    writeTimebase .qspi s (Reg.CMP_T2 u) v = cmpArm (s.setReg (Reg.CMP_T2 u) v) u := by
  have word : plainWrite s false (Reg.CMP_T2 u) v = s.setReg (Reg.CMP_T2 u) v := by
    rw [plainWrite, fieldsWritten_word (unit_rows u).2.2.2]
  rw [← word]
  fin_cases u <;> rfl

theorem writeTimebase_ctl (s : State) (u : Fin 8) (v : Half) :
    writeTimebase .qspi s (Reg.CMP_CTL u) v = cmpCtlWritten (ctlWritten s u v) u (s.reg (Reg.CMP_CTL u)) := by
  fin_cases u <;> rfl

theorem cmpEn_eq (s : State) (u : Nat) : s.cmpEn u = (s.reg (Reg.CMP_CTL u)).getLsbD 0 := flag_bit ..

theorem cmpAbs_eq (s : State) (u : Nat) : s.cmpAbs u = (s.reg (Reg.CMP_CTL u)).getLsbD 1 := flag_bit ..

theorem ctlWritten_mode (s : State) (u : Fin 8) (v : Half) :
    (ctlWritten s u v).cmpEn u = v.getLsbD 0 ∧ (ctlWritten s u v).cmpAbs u = v.getLsbD 1 := by
  obtain ⟨en, mode, -⟩ := unit_rows u
  rw [cmpEn_eq, cmpAbs_eq, ctlWritten, plainWrite, reg_setReg_same]
  exact ⟨fieldsWritten_taken en rfl rfl rfl rfl .., fieldsWritten_taken mode rfl rfl rfl rfl ..⟩

/-- No register of the timebase is one of the level flags. -/
theorem timebase_beside {a : Nat} (h1 : 0x0200 ≤ a) (h2 : a < 0x0400) : a ∉ levelRegs := by
  simp only [levelRegs, List.mem_cons, List.not_mem_nil, or_false, not_or, Reg.CMP_FLAG, Reg.FLT_SUM, Reg.IRQ_PEND, Reg.IMP_STATUS]
  omega

theorem unit_bounds (u : Fin 8) : (0x0200 ≤ Reg.CMP_CTL u ∧ Reg.CMP_CTL u < 0x0400) ∧
    (0x0200 ≤ Reg.CMP_T0 u ∧ Reg.CMP_T0 u < 0x0400) ∧ 0x0200 ≤ Reg.CMP_T2 u ∧ Reg.CMP_T2 u < 0x0400 := by
  simp only [Reg.CMP_CTL, Reg.CMP_T0, Reg.CMP_T2]
  omega

/-! ### Writes as commands (R171, R172) -/

theorem cmpHoldOff_done (s : State) (u : Fin 8) : (cmpHoldOff s u).tb.done.getLsbD u = true := or_bit8 _ u

theorem cmpTargetWrite_shows (s : State) (u : Fin 8) (v : Half) : Completes (.cmpTargetWrite u v) s fun t =>
    t.reg (Reg.CMP_T0 u) = v ∧ t.tb.armed = s.tb.armed ∧ t.tb.target = s.tb.target ∧
    (s.cmpEn u = true → s.cmpAbs u = false → t.tb.done.getLsbD u = true) := by
  obtain ⟨-, ⟨lo, hi⟩, -⟩ := unit_bounds u
  have ctl : Reg.CMP_CTL u ≠ Reg.CMP_T0 u := by simp only [Reg.CMP_CTL, Reg.CMP_T0]; omega
  have en : (s.setReg (Reg.CMP_T0 u) v).cmpEn u = s.cmpEn u := flag_setReg_ne _ _ ctl
  have abs : (s.setReg (Reg.CMP_T0 u) v).cmpAbs u = s.cmpAbs u := flag_setReg_ne _ _ ctl
  refine ⟨_, congrArg done (writeTimebase_target s u v), ?_⟩
  beta_reduce
  rw [settle_reg _ _ (timebase_beside lo hi), settle_tb, cmpTargetWritten, en, abs]
  split
  · exact ⟨reg_setReg_same s _ v, rfl, rfl, fun _ _ => cmpHoldOff_done _ u⟩
  · next off => exact ⟨reg_setReg_same s _ v, rfl, rfl, fun h1 h2 => absurd (by simp [h1, h2]) off⟩

/-- An enabled ABS unit takes the three words and is armed, late where they are not after the present value. -/
theorem cmpArm_arms {s : State} {u : Fin 8} (en : s.cmpEn u = true) (abs : s.cmpAbs u = true) :
    (cmpArm s u).tb.armed.getLsbD u = true ∧ (sparseGet (cmpArm s u).tb.target 0 u).toNat = s.cmpWords u ∧
    (cmpArm s u).tb.late.getLsbD u = decide (s.cmpWords u ≤ s.tb.value) ∧ (cmpArm s u).tb.done.getLsbD u = true := by
  have whole : s.cmpWords u < 2 ^ 48 := by
    have h0 : s.regN (Reg.CMP_T0 u) < 65536 := BitVec.isLt _
    have h1 : s.regN (Reg.CMP_T1 u) < 65536 := BitVec.isLt _
    have h2 : s.regN (Reg.CMP_T2 u) < 65536 := BitVec.isLt _
    unfold State.cmpWords
    omega
  rw [cmpArm, if_pos (by rw [en, abs]; rfl)]
  refine ⟨or_bit8 _ u, ?_, ?_, or_bit8 _ u⟩
  · change (sparseGet (sparseSet s.tb.target 0 u _) 0 u).toNat = _
    rw [sparseGet_set_same, BitVec.toNat_ofNat, Nat.mod_eq_of_lt whole]
  · change BitVec.getLsbD (if _ then _ else _) _ = _
    split
    · next late => rw [or_bit8, decide_eq_true late]
    · next early => rw [clear_bit8, decide_eq_false early]

theorem cmpAbsArm_shows (s : State) (u : Fin 8) (v : Half) : Completes (.cmpAbsArm u v) s fun t =>
    let target := s.regN (Reg.CMP_T0 u) + 65536 * s.regN (Reg.CMP_T1 u) + 4294967296 * v.toNat
    t.reg (Reg.CMP_T2 u) = v ∧
    (s.cmpEn u = true → s.cmpAbs u = true → t.tb.armed.getLsbD u = true ∧ (sparseGet t.tb.target 0 u).toNat = target ∧
      t.tb.late.getLsbD u = decide (target ≤ s.tb.value) ∧ t.tb.done.getLsbD u = true) ∧
    (s.cmpEn u = false ∨ s.cmpAbs u = false → t.tb = s.tb) := by
  obtain ⟨-, -, lo, hi⟩ := unit_bounds u
  have apart : Reg.CMP_CTL u ≠ Reg.CMP_T2 u ∧ Reg.CMP_T0 u ≠ Reg.CMP_T2 u ∧ Reg.CMP_T1 u ≠ Reg.CMP_T2 u := by
    simp only [Reg.CMP_CTL, Reg.CMP_T0, Reg.CMP_T1, Reg.CMP_T2]
    omega
  obtain ⟨ctl, low, middle⟩ := apart
  have en : (s.setReg (Reg.CMP_T2 u) v).cmpEn u = s.cmpEn u := flag_setReg_ne _ _ ctl
  have abs : (s.setReg (Reg.CMP_T2 u) v).cmpAbs u = s.cmpAbs u := flag_setReg_ne _ _ ctl
  have words : (s.setReg (Reg.CMP_T2 u) v).cmpWords u =
      s.regN (Reg.CMP_T0 u) + 65536 * s.regN (Reg.CMP_T1 u) + 4294967296 * v.toNat := by
    simp only [State.cmpWords, State.regN, reg_setReg_same, reg_setReg_ne _ _ low, reg_setReg_ne _ _ middle]
  have regs : (cmpArm (s.setReg (Reg.CMP_T2 u) v) u).regs = (s.setReg (Reg.CMP_T2 u) v).regs := by
    unfold cmpArm
    split <;> rfl
  refine ⟨_, congrArg done (writeTimebase_last s u v), ?_⟩
  beta_reduce
  rw [settle_reg _ _ (timebase_beside lo hi), settle_tb, reg_congr regs, reg_setReg_same, ← words]
  refine ⟨rfl, fun h1 h2 => cmpArm_arms (en.trans h1) (abs.trans h2), fun off => ?_⟩
  rw [cmpArm, en, abs, if_neg (by rcases off with h | h <;> simp [h])]
  rfl

/-- A control write that clears EN or changes the mode disarms; one that starts a PERIODIC unit counts as a write of its target. -/
theorem cmpCtlWritten_tb (s : State) (u : Fin 8) (old : Half) :
    (s.cmpEn u = false ∨ s.cmpAbs u ≠ old.getLsbD 1 → (cmpCtlWritten s u old).tb.armed.getLsbD u = false) ∧
    (s.cmpEn u = true → s.cmpAbs u = false → old.getLsbD 0 = false ∨ old.getLsbD 1 = true →
      (cmpCtlWritten s u old).tb.done.getLsbD u = true) := by
  have en : s.fld (Fld.CMP_CTL_EN u) = (s.cmpEn u).toNat := by rw [cmpEn_eq]; exact read_bit ..
  have abs : s.fld (Fld.CMP_CTL_MODE u) = (s.cmpAbs u).toNat := by rw [cmpAbs_eq]; exact read_bit ..
  have disarmed (t : State) : (cmpDisarm t u).tb.armed.getLsbD u = false := clear_bit8 _ u
  unfold cmpCtlWritten
  rw [en, abs, Fld.CMP_CTL_EN, Fld.CMP_CTL_MODE, read_bit, read_bit]
  dsimp only
  constructor
  · intro changed
    rw [if_pos (c := _ ∨ _)]
    · split
      · exact disarmed s
      · exact disarmed s
    · rcases changed with h | h
      · exact .inl (by rw [h]; rfl)
      · exact .inr (.inr (.inr fun same => h ((toNat_eq_iff ..).mp same).symm))
  · intro h1 h2 started
    rw [if_pos (c := _ ∧ _)]
    · exact cmpHoldOff_done _ u
    · refine ⟨by rw [h1]; rfl, by rw [h2]; rfl, ?_⟩
      rcases started with h | h
      · exact .inl (by rw [h, h1]; decide)
      · exact .inr (by rw [h, h2]; decide)

theorem cmpCtlWritten_regs (s : State) (u : Nat) (old : Half) : (cmpCtlWritten s u old).regs = s.regs := by
  unfold cmpCtlWritten
  dsimp only
  split <;> split <;> rfl

theorem cmpCtlWrite_shows (s : State) (u : Fin 8) (v : Half) : Completes (.cmpCtlWrite u v) s fun t =>
    t.cmpEn u = v.getLsbD 0 ∧ t.cmpAbs u = v.getLsbD 1 ∧
    (v.getLsbD 0 = false ∨ v.getLsbD 1 ≠ s.cmpAbs u → t.tb.armed.getLsbD u = false) ∧
    (v.getLsbD 0 = true → v.getLsbD 1 = false → s.cmpEn u = false ∨ s.cmpAbs u = true → t.tb.done.getLsbD u = true) := by
  obtain ⟨⟨lo, hi⟩, -⟩ := unit_bounds u
  obtain ⟨en, abs⟩ := ctlWritten_mode s u v
  have after := cmpCtlWritten_tb (ctlWritten s u v) u (s.reg (Reg.CMP_CTL u))
  rw [en, abs, ← cmpEn_eq, ← cmpAbs_eq] at after
  refine ⟨_, congrArg done (writeTimebase_ctl s u v), ?_, ?_, ?_⟩
  · exact (settle_flag _ _ (timebase_beside lo hi)).trans ((flag_congr (cmpCtlWritten_regs ..) _).trans en)
  · exact (settle_flag _ _ (timebase_beside lo hi)).trans ((flag_congr (cmpCtlWritten_regs ..) _).trans abs)
  · rw [settle_tb]
    exact after

end Sys2Proof.Machine
end

section
/-!
General pulse generators (R174 to R180): what a pulse's placing touches, and where its edges stand.
-/
namespace Sys2Proof.Machine

/-! ### What the placing of a pulse touches -/

/-- The step touches generators and the count of pulses held off alone. -/
structure PulsesOnly (s t : State) : Prop where
  frame : ∃ r g, t = { s with regs := r, tb := { s.tb with gens := g } }
  reg : ∀ a, a ≠ Reg.PG_OMIT_LO → a ≠ Reg.PG_OMIT_HI → t.reg a = s.reg a

namespace PulsesOnly

variable {s t u : State}

theorem refl (s : State) : PulsesOnly s s := ⟨⟨_, _, rfl⟩, fun _ _ _ => rfl⟩

theorem trans (h : PulsesOnly s t) (k : PulsesOnly t u) : PulsesOnly s u := by
  refine ⟨?_, fun a h1 h2 => (k.reg a h1 h2).trans (h.reg a h1 h2)⟩
  obtain ⟨_, _, rfl⟩ := h.frame
  obtain ⟨_, _, rfl⟩ := k.frame
  exact ⟨_, _, rfl⟩

theorem setGen (h : PulsesOnly s t) (n : Nat) (g : PulseGen) : PulsesOnly s (t.setGen n g) :=
  h.trans ⟨⟨_, _, rfl⟩, fun _ _ _ => rfl⟩

theorem flag (h : PulsesOnly s t) {f : BitField} (h1 : f.addr ≠ Reg.PG_OMIT_LO) (h2 : f.addr ≠ Reg.PG_OMIT_HI) :
    t.flag f = s.flag f := by
  rw [State.flag, State.fld, h.reg _ h1 h2]
  rfl

end PulsesOnly

theorem omitted_pulsesOnly (s : State) : PulsesOnly s (s.incPair Reg.PG_OMIT_LO Reg.PG_OMIT_HI) :=
  ⟨⟨_, _, rfl⟩, fun _ h1 h2 => (reg_setRegN_ne _ _ h2).trans (reg_setRegN_ne _ _ h1)⟩

@[simp] theorem gen_setGen_same (s : State) (n : Nat) (g : PulseGen) : (s.setGen n g).gen n = g :=
  listPut_getD_same s.tb.gens {} n g

/-- The two generators differ in the pulse placed last and the remainders at most. -/
def SamePulseWords (g h : PulseGen) : Prop := ∃ p r f, h = { g with pulse := p, riseRem := r, fallRem := f }

theorem genPlace_spec (s : State) (n : Nat) (g : PulseGen) (oneShot : Bool) :
    PulsesOnly s (genPlace s n g oneShot) ∧ SamePulseWords g ((genPlace s n g oneShot).gen n) := by
  have placed {t : State} (h : PulsesOnly s t) (p : Option (Int × Int)) (r f : Nat) :
      PulsesOnly s (t.setGen n { g with pulse := p, riseRem := r, fallRem := f }) ∧
        SamePulseWords g ((t.setGen n { g with pulse := p, riseRem := r, fallRem := f }).gen n) :=
    ⟨h.setGen .., _, _, _, gen_setGen_same ..⟩
  unfold genPlace
  extract_lets phaseDom period rise fall unit base
  split
  · exact placed (.refl s) _ _ _
  · dsimp only
    split
    · split
      · exact placed (omitted_pulsesOnly s) _ _ _
      · split
        · exact placed (.refl s) _ _ _
        · exact placed (.refl s) _ _ _
    · exact placed (.refl s) _ _ _

theorem genTrigger_pulsesOnly (s : State) (n : Nat) : PulsesOnly s (genTrigger s n) := by
  unfold genTrigger
  dsimp only
  split
  · exact (genPlace_spec ..).1
  · exact .refl s

/-! ### Where the edges stand -/

/-- No quiet window is open, neither of the present settings nor of those before them. -/
def QuietClear (s : State) : Prop := s.acq.qw.on = false ∧ s.acq.qwOld.on = false

theorem quietEnd_of_clear {s : State} (h : QuietClear s) (start len : Int) : s.quietEnd start len = none := by
  obtain ⟨new, old⟩ := h
  simp [State.quietEnd, new, old]

/-- FALL of a pulse in the PHASE domain, past the wrap where it lies below RISE. -/
def fallPast (g : PulseGen) : Nat := if g.fall.toNat < g.rise.toNat then g.fall.toNat + 65536 else g.fall.toNat

theorem fallPast_eq_rise (g : PulseGen) : g.rise.toNat = fallPast g ↔ g.rise = g.fall := by
  have bound : g.rise.toNat < 65536 := g.rise.isLt
  rw [← BitVec.toNat_inj, fallPast]
  split <;> omega

/-- The two edges in the PHASE domain, in 1/65536 of 1/16 tick, the remainders carried (R175). -/
def phaseEdges (s : State) (g : PulseGen) : Int × Int :=
  (g.rise.toNat * s.tb.period - s.sinceWrapFine + g.riseRem, fallPast g * s.tb.period - s.sinceWrapFine + g.fallRem)

/-- The two edges in the TICK domain, in 1/65536 of 1/16 tick, the remainders carried. -/
def tickEdges (g : PulseGen) : Nat × Nat := (g.rise.toNat * 65536 + g.riseRem, g.fall.toNat * 65536 + g.fallRem)

/-- An edge in 1/16 tick is placed on a tick, and its remainder carried (R175). -/
theorem placeEdge_sixteenths (a rem : Nat) :
    placeEdge (a * 65536) rem = ((((a * 65536 + rem) / 1048576 : Nat) : Int), (a * 65536 + rem) % 1048576) := by
  simp only [placeEdge, Prod.mk.injEq]
  omega

section Placing

variable {s : State} {n : Nat} {g : PulseGen}

/-- RISE = FALL gives no pulse in the PHASE domain. -/
theorem genPlace_phase_none (phase : genTickDomain g.ctl = false) (same : g.rise = g.fall) :
    genPlace s n g false = s.setGen n { g with pulse := none } := by
  simp [genPlace, phase, same]

theorem genPlace_phase (phase : genTickDomain g.ctl = false) (differ : g.rise ≠ g.fall) (clear : QuietClear s) :
    genPlace s n g false = s.setGen n { g with
      pulse := some (s.now + (phaseEdges s g).1 / 1048576, s.now + (phaseEdges s g).2 / 1048576)
      riseRem := ((phaseEdges s g).1 % 1048576).toNat, fallRem := ((phaseEdges s g).2 % 1048576).toNat } := by
  have apart : ¬ g.rise.toNat = fallPast g := fun h => differ ((fallPast_eq_rise g).mp h)
  unfold fallPast at apart
  simp only [genPlace, quietEnd_of_clear clear, placeEdge, phaseEdges, fallPast]
  simp [phase, apart, sub_eq_add_neg]

theorem genPlace_tick (tick : genTickDomain g.ctl = true) (clear : QuietClear s) :
    genPlace s n g false = s.setGen n { g with
      pulse := some (s.now + min (((tickEdges g).1 / 1048576 : Nat) : Int) g.per.toNat,
        s.now + min (((tickEdges g).2 / 1048576 : Nat) : Int) g.per.toNat)
      riseRem := (tickEdges g).1 % 1048576, fallRem := (tickEdges g).2 % 1048576 } := by
  simp [genPlace, quietEnd_of_clear clear, tick, placeEdge_sixteenths, tickEdges]

end Placing

end Sys2Proof.Machine
end

section
/-!
A compare unit fires, a generator's cycle starts, and O30.
-/
namespace Sys2Proof.Machine

/-! ### The rule of crossing (R170, R172, R173) -/

theorem crossesPhase_iff (target prev cur : Nat) : crossesPhase target prev cur = true ↔
    (if (target + 65536 - prev % 65536) % 65536 = 0 then 65536 else (target + 65536 - prev % 65536) % 65536) ≤
      (cur + 2 ^ 48 - prev) % 2 ^ 48 := decide_eq_true_iff

theorem cmpFires_iff (s : State) (u : Nat) : s.cmpFires u = true ↔ s.cmpEn u = true ∧ s.tb.done.getLsbD u = false ∧
    (s.cmpAbs u = false → crossesPhase (s.regN (Reg.CMP_T0 u)) s.tb.prevValue s.tb.value = true) ∧
    (s.cmpAbs u = true → s.tb.armed.getLsbD u = true ∧ (s.tb.late.getLsbD u = true ∨
      (s.tb.prevValue < (sparseGet s.tb.target 0 u).toNat ∧ (sparseGet s.tb.target 0 u).toNat ≤ s.tb.value))) := by
  unfold State.cmpFires crossesAbs
  cases s.cmpAbs u <;> simp [and_assoc]

/-! ### What a firing does -/

/-- FIRED is set, OVERRUN where it was set, and LATE for an armed unit that was late. -/
def firedFlags (s : State) (u : Nat) : State :=
  let wasLate := s.cmpAbs u && s.tb.late.getLsbD u
  let s := if (s.reg Reg.CMP_FLAGS).getLsbD u then s.setBits Reg.CMP_OVR (bit16 u) else s
  let s := s.setBits Reg.CMP_FLAGS (bit16 u)
  if wasLate then s.setBits Reg.CMP_FLAGS (bit16 (8 + u)) else s

/-- IRQ raises COMPARE, and EVT fires the unit's line. -/
def firedSignals (s : State) (u : Nat) : State :=
  let s := s.when (s.flag (Fld.CMP_CTL_IRQ u)) fun s => s.raiseIrq irqCmp
  s.when (s.flag (Fld.CMP_CTL_EVT u)) fun s => s.fireAll u

/-- PGT_EN starts a one-shot. -/
def firedPulse (s : State) (u : Nat) : State :=
  s.when (s.flag (Fld.CMP_CTL_PGT_EN u)) fun s => genTrigger s (s.fld (Fld.CMP_CTL_PGT u))

/-- The unit is over for its tick, and an ABS unit is armed no longer. -/
def firedOver (s : State) (u : Nat) : State :=
  let s := cmpHoldOff s u
  if s.cmpAbs u then cmpDisarm s u else s

theorem cmpFire_eq (s : State) (u : Nat) : cmpFire s u = firedOver (firedPulse (firedSignals (firedFlags s u) u) u) u := rfl

/-- The flags of a firing as registers show them, other registers as before. -/
structure FlagsShown (s t : State) (u : Fin 8) : Prop where
  fired : (t.reg Reg.CMP_FLAGS).getLsbD u = true
  overrun : (s.reg Reg.CMP_FLAGS).getLsbD u = true → (t.reg Reg.CMP_OVR).getLsbD u = true
  late : s.cmpAbs u = true → s.tb.late.getLsbD u = true → (t.reg Reg.CMP_FLAGS).getLsbD (8 + u) = true

theorem firedFlags_shown (s : State) (u : Fin 8) : FlagsShown s (firedFlags s u) u := by
  have small : u.val < 16 := by omega
  have marked (t : State) : ((t.setBits Reg.CMP_FLAGS (bit16 u)).reg Reg.CMP_FLAGS).getLsbD u = true := by
    rw [reg_setBits_same]
    exact or_bit16 _ small
  unfold firedFlags
  extract_lets wasLate s1 s2
  refine ⟨?_, fun was => ?_, fun abs late => ?_⟩
  · split
    · rw [reg_setBits_same]
      exact or_getLsbD _ (marked s1)
    · exact marked s1
  · have missed : (s2.reg Reg.CMP_OVR).getLsbD u = true := by
      rw [reg_setBits_ne _ _ (by decide)]
      unfold s1
      rw [if_pos was, reg_setBits_same]
      exact or_bit16 _ small
    split
    · rw [reg_setBits_ne _ _ (by decide)]
      exact missed
    · exact missed
  · have yes : wasLate = true := by
      unfold wasLate
      rw [abs, late]
      rfl
    rw [if_pos yes, reg_setBits_same]
    exact or_bit16 _ (by omega)

/-- The flags touch two registers alone. -/
theorem firedFlags_frame (s : State) (u : Nat) : (∃ r, firedFlags s u = { s with regs := r }) ∧
    ∀ a, a ≠ Reg.CMP_FLAGS → a ≠ Reg.CMP_OVR → (firedFlags s u).reg a = s.reg a := by
  unfold firedFlags
  extract_lets wasLate s1 s2
  have first : (∃ r, s1 = { s with regs := r }) ∧ ∀ a, a ≠ Reg.CMP_OVR → s1.reg a = s.reg a := by
    unfold s1
    split
    · exact ⟨⟨_, rfl⟩, fun a h => reg_setBits_ne _ _ h⟩
    · exact ⟨⟨_, rfl⟩, fun a h => rfl⟩
  obtain ⟨⟨r, eq⟩, reg⟩ := first
  have second (a : Nat) (h1 : a ≠ Reg.CMP_FLAGS) (h2 : a ≠ Reg.CMP_OVR) : s2.reg a = s.reg a :=
    (reg_setBits_ne _ _ h1).trans (reg a h2)
  split
  · exact ⟨⟨_, by rw [show s2 = s1.setBits Reg.CMP_FLAGS (bit16 u) from rfl, eq]; rfl⟩,
      fun a h1 h2 => (reg_setBits_ne _ _ h1).trans (second a h1 h2)⟩
  · exact ⟨⟨_, by rw [show s2 = s1.setBits Reg.CMP_FLAGS (bit16 u) from rfl, eq]; rfl⟩, second⟩

theorem fireAll_latch (s : State) {l : Nat} (h : l < 32) (e : Engine) : ((s.fireAll l).eng e).latch.getLsbD l = true := by
  have set (m : BitVec 32) : (m ||| 1#32 <<< l).getLsbD l = true := by simp [h]
  cases e
  · exact set _
  · exact set _
  · exact set _

theorem fireAll_tb (s : State) (l : Nat) : (s.fireAll l).tb = s.tb := by simp [State.fireAll, State.fireAt]

theorem firedSignals_shows (s : State) (u : Fin 8) : (firedSignals s u).tb = s.tb ∧
    (∀ a, a ≠ Reg.IRQ_PEND → (firedSignals s u).reg a = s.reg a) ∧
    (s.flag (Fld.CMP_CTL_IRQ u) = true → ((firedSignals s u).reg Reg.IRQ_PEND).getLsbD irqCmp = true) ∧
    (s.flag (Fld.CMP_CTL_EVT u) = true → ∀ e, ((firedSignals s u).eng e).latch.getLsbD u = true) := by
  unfold firedSignals
  extract_lets s1
  have raised : s1.tb = s.tb ∧ (∀ a, a ≠ Reg.IRQ_PEND → s1.reg a = s.reg a) ∧
      (s.flag (Fld.CMP_CTL_IRQ u) = true → (s1.reg Reg.IRQ_PEND).getLsbD irqCmp = true) := by
    unfold s1
    cases s.flag (Fld.CMP_CTL_IRQ u)
    · exact ⟨rfl, fun _ _ => rfl, fun h => Bool.noConfusion h⟩
    · refine ⟨rfl, fun a h => reg_raiseIrq_ne s _ h, fun _ => ?_⟩
      rw [State.when, if_pos rfl, reg_raiseIrq_same]
      exact or_bit16 _ (by decide)
  obtain ⟨tb, reg, irq⟩ := raised
  have evt : s1.flag (Fld.CMP_CTL_EVT u) = s.flag (Fld.CMP_CTL_EVT u) := by
    rw [State.flag, State.fld, reg _ (by simp only [Fld.CMP_CTL_EVT, Reg.CMP_CTL, Reg.IRQ_PEND]; omega)]
    rfl
  rw [evt]
  cases s.flag (Fld.CMP_CTL_EVT u)
  · exact ⟨tb, reg, irq, fun h => Bool.noConfusion h⟩
  · have same := fireAll_regs s1 u
    exact ⟨(fireAll_tb s1 u).trans tb, fun a h => (reg_congr same a).trans (reg a h),
      fun h => (congrArg (fun w : Half => w.getLsbD irqCmp) (reg_congr same _)).trans (irq h),
      fun _ => fireAll_latch s1 (by omega)⟩

theorem firedPulse_pulsesOnly (s : State) (u : Nat) : PulsesOnly s (firedPulse s u) := by
  unfold firedPulse
  cases s.flag (Fld.CMP_CTL_PGT_EN u)
  · exact .refl s
  · exact genTrigger_pulsesOnly s _

theorem firedOver_shows (s : State) (u : Fin 8) : (∃ tb, firedOver s u = { s with tb := tb }) ∧
    (firedOver s u).tb.done.getLsbD u = true ∧ (s.cmpAbs u = true → (firedOver s u).tb.armed.getLsbD u = false) := by
  have abs : (cmpHoldOff s u).cmpAbs u = s.cmpAbs u := rfl
  unfold firedOver
  dsimp only
  rw [abs]
  cases s.cmpAbs u
  · exact ⟨⟨_, rfl⟩, cmpHoldOff_done s u, fun h => Bool.noConfusion h⟩
  · exact ⟨⟨_, rfl⟩, cmpHoldOff_done s u, fun _ => clear_bit8 _ u⟩

/-- A bit of IRQ_PEND that a command raised is still set at the end of its tick. -/
theorem settle_keeps_irq {s : State} {i : Nat} (h : (s.reg Reg.IRQ_PEND).getLsbD i = true) :
    ((settle s).reg Reg.IRQ_PEND).getLsbD i = true := by
  have mark (x : State) : (markFreerun x).reg Reg.IRQ_PEND = x.reg Reg.IRQ_PEND := by
    unfold markFreerun
    split
    · exact reg_setFlag_ne _ _ (by decide)
    · rfl
  have raise (x : State) (c : Bool) (j : Nat) (hx : (x.reg Reg.IRQ_PEND).getLsbD i = true) :
      ((x.when c fun s => s.raiseIrq j).reg Reg.IRQ_PEND).getLsbD i = true := by
    cases c
    · exact hx
    · rw [State.when, if_pos rfl, reg_raiseIrq_same]
      exact or_getLsbD _ hx
  refine raise _ _ _ (raise _ _ _ ?_)
  rw [showFaults, reg_setBits_ne _ _ (by decide), mark, settleMonitors_eq, reg_setBits_ne _ _ (by decide),
    reg_setBits_ne _ _ (by decide), reg_setBits_ne _ _ (by decide), h]

/-! ### The commands -/

theorem compareFire_waits {s : State} {u : Fin 8} (h : s.cmpFires u = false) : exec (.compareFire u) s = .next (settle s) :=
  congrArg done (if_neg (by rw [h]; exact Bool.false_ne_true))

theorem compareFire_fires {s : State} {u : Fin 8} (h : s.cmpFires u = true) : Completes (.compareFire u) s fun t =>
    (t.reg Reg.CMP_FLAGS).getLsbD u = true ∧ t.tb.done.getLsbD u = true ∧
    ((s.reg Reg.CMP_FLAGS).getLsbD u = true → (t.reg Reg.CMP_OVR).getLsbD u = true) ∧
    (s.cmpAbs u = true → t.tb.armed.getLsbD u = false ∧
      (s.tb.late.getLsbD u = true → (t.reg Reg.CMP_FLAGS).getLsbD (8 + u) = true)) ∧
    (s.flag (Fld.CMP_CTL_IRQ u) = true → (t.reg Reg.IRQ_PEND).getLsbD irqCmp = true) ∧
    (s.flag (Fld.CMP_CTL_EVT u) = true → ∀ e, (t.eng e).latch.getLsbD u = true) := by
  have shown := firedFlags_shown s u
  obtain ⟨⟨r, flags⟩, kept⟩ := firedFlags_frame s u
  obtain ⟨-, regs, irq, evt⟩ := firedSignals_shows (firedFlags s u) u
  have pulse := firedPulse_pulsesOnly (firedSignals (firedFlags s u) u) u
  obtain ⟨⟨tb, frame⟩, done, disarmed⟩ := firedOver_shows (firedPulse (firedSignals (firedFlags s u) u) u) u
  rw [← cmpFire_eq] at frame done disarmed
  have ctl (i : Nat) : (firedFlags s u).flag ⟨Reg.CMP_CTL u, i, i⟩ = s.flag ⟨Reg.CMP_CTL u, i, i⟩ := by
    rw [flag_bit, flag_bit, kept _ (by simp only [Reg.CMP_CTL, Reg.CMP_FLAGS]; omega) (by simp only [Reg.CMP_CTL, Reg.CMP_OVR]; omega)]
  -- the firing's end and the pulse change no register these clauses read
  have late (a : Nat) (h1 : a ≠ Reg.PG_OMIT_LO) (h2 : a ≠ Reg.PG_OMIT_HI) :
      (cmpFire s u).reg a = (firedSignals (firedFlags s u) u).reg a := by
    rw [frame]
    exact pulse.reg a h1 h2
  have abs : (firedPulse (firedSignals (firedFlags s u) u) u).cmpAbs u = s.cmpAbs u := by
    have away : Reg.CMP_CTL u ≠ Reg.PG_OMIT_LO ∧ Reg.CMP_CTL u ≠ Reg.PG_OMIT_HI ∧ Reg.CMP_CTL u ≠ Reg.IRQ_PEND := by
      simp only [Reg.CMP_CTL, Reg.PG_OMIT_LO, Reg.PG_OMIT_HI, Reg.IRQ_PEND]
      omega
    obtain ⟨lo, hi, pend⟩ := away
    rw [cmpAbs_eq, pulse.reg _ lo hi, regs _ pend, ← cmpAbs_eq]
    exact ctl 1
  have eng (e : Engine) : (cmpFire s u).eng e = (firedSignals (firedFlags s u) u).eng e := by
    obtain ⟨_, _, eq⟩ := pulse.frame
    rw [frame, eq]
    cases e <;> rfl
  have after (a : Nat) (h1 : 0x0200 ≤ a) (h2 : a < 0x0270) :
      (settle (cmpFire s u)).reg a = (firedFlags s u).reg a := by
    rw [settle_reg _ _ (timebase_beside h1 (by omega)), late a (by simp only [Reg.PG_OMIT_LO]; omega)
      (by simp only [Reg.PG_OMIT_HI]; omega), regs a (by simp only [Reg.IRQ_PEND]; omega)]
  refine ⟨_, congrArg Sys2Proof.Machine.done (if_pos h), ?_⟩
  beta_reduce
  rw [after Reg.CMP_FLAGS (by decide) (by decide), after Reg.CMP_OVR (by decide) (by decide), settle_tb]
  refine ⟨shown.fired, done, shown.overrun, fun h1 => ⟨disarmed (abs.trans h1), shown.late h1⟩, fun h1 => ?_, fun h1 e => ?_⟩
  · refine settle_keeps_irq ?_
    rw [late _ (by decide) (by decide)]
    exact irq ((ctl 2).trans h1)
  · rw [settle_eng, eng]
    exact evt ((ctl 3).trans h1) e

/-- The generator as its cycle's start finds it: its registers taken, the pulses before running on, none placed yet. -/
def genTaken (s : State) (n : Nat) : PulseGen :=
  { s.gen n with
    ctl := s.reg (Reg.PG_CTL n), rise := s.reg (Reg.PG_RISE n), fall := s.reg (Reg.PG_FALL n),
    per := s.reg (Reg.PG_PER n), tail := s.genPulses (s.gen n), pulse := none }

/-- The pulse of the cycle is placed unless the generator is off or waits for a trigger. -/
def genStarted (s : State) (n : Nat) : State :=
  if genEn (genTaken s n).ctl && !genTrig (genTaken s n).ctl then genPlace (s.setGen n (genTaken s n)) n (genTaken s n) false
  else s.setGen n (genTaken s n)

theorem pgCycleStart_gen (s : State) (n : Fin 4) : ∃ t, exec (.pgCycleStart n) s = .next t ∧ t.gen n = (genStarted s n).gen n := by
  refine ⟨_, rfl, ?_⟩
  rw [State.gen, settle_tb]
  rfl

theorem genStarted_idle {s : State} {n : Nat} (h : genEn (s.reg (Reg.PG_CTL n)) = false ∨ genTrig (s.reg (Reg.PG_CTL n)) = true) :
    (genStarted s n).gen n = genTaken s n := by
  have idle : ¬ (genEn (genTaken s n).ctl && !genTrig (genTaken s n).ctl) = true := by
    rcases h with h | h <;> simp [genTaken, h]
  rw [genStarted, if_neg idle]
  exact gen_setGen_same ..

theorem genStarted_places {s : State} {n : Nat} (en : genEn (s.reg (Reg.PG_CTL n)) = true)
    (free : genTrig (s.reg (Reg.PG_CTL n)) = false) :
    genStarted s n = genPlace (s.setGen n (genTaken s n)) n (genTaken s n) false :=
  if_pos (by simp [genTaken, en, free])

theorem genStarted_words (s : State) (n : Nat) : SamePulseWords (genTaken s n) ((genStarted s n).gen n) := by
  unfold genStarted
  split
  · exact (genPlace_spec ..).2
  · exact ⟨_, _, _, gen_setGen_same ..⟩

/-! ### The obligation -/

/-- Settles O30: a unit's writes are followed through `cmpTargetWritten`, `cmpArm` and `cmpCtlWritten`, a firing through its four
parts, and a generator's start through the pulse it places in each domain. -/
theorem compareUnitsAndGenerators : Obligations.CompareUnitsAndGenerators := by
  unfold Obligations.CompareUnitsAndGenerators
  intro s
  refine ⟨cmpTargetWrite_shows s, cmpAbsArm_shows s, cmpCtlWrite_shows s, fun u => ?_, fun n => ?_⟩
  · intro t0 prev ahead crosses target fires
    have rule : s.cmpFires u = true ↔ fires := by
      rw [cmpFires_iff, crossesPhase_iff]
    exact ⟨fun h => compareFire_fires (rule.mpr h),
      fun h => compareFire_waits (Bool.eq_false_iff.mpr fun yes => h (rule.mp yes))⟩
  · obtain ⟨t, next, gen⟩ := pgCycleStart_gen s n
    refine ⟨t, next, ?_⟩
    beta_reduce
    rw [gen]
    intro ctl rise fall clear back r f rt ft per
    obtain ⟨p, rr, fr, words⟩ := genStarted_words s n
    refine ⟨by rw [words]; rfl, by rw [words]; rfl, by rw [words]; rfl, by rw [words]; rfl, by rw [words]; rfl, fun idle => ?_,
      fun en free phase => ⟨fun same => ?_, fun differ clear => ?_⟩, fun en free tick clear => ?_⟩
    · rw [genStarted_idle idle]
      rfl
    · rw [genStarted_places en free, genPlace_phase_none phase (BitVec.eq_of_toNat_eq same), gen_setGen_same]
    · have apart : (genTaken s n).rise ≠ (genTaken s n).fall := fun h => differ (congrArg BitVec.toNat h)
      have noWindow : QuietClear (s.setGen n (genTaken s n)) := clear
      rw [genStarted_places en free, genPlace_phase phase apart noWindow, gen_setGen_same]
      exact ⟨rfl, rfl, rfl⟩
    · have noWindow : QuietClear (s.setGen n (genTaken s n)) := clear
      have domain : genTickDomain (genTaken s n).ctl = true := tick
      rw [genStarted_places en free, genPlace_tick domain noWindow, gen_setGen_same]
      exact ⟨rfl, rfl, rfl⟩

end Sys2Proof.Machine
end

section
/-!
The timebase's loop and lock states (R152, R153, R155): entering a state, judging an error, a reference missed.
-/
namespace Sys2Proof.Machine

/-! ### Registers of the timebase at a tick's end -/

theorem settle_tbState (s : State) : (settle s).tbState = s.tbState := settle_fld s _ (by decide)

theorem settle_tbFlag (s : State) {f : BitField} (h : f.addr = Reg.TB_STATUS ∨ f.addr = Reg.MS_STATUS) : (settle s).flag f = s.flag f :=
  settle_flag s f (by rcases h with h | h <;> rw [h] <;> decide)

/-- What the source in effect rests on. -/
theorem tbSource_congr {s t : State} (src : t.tb.src = s.tb.src) (dom : t.tb.localDom = s.tb.localDom)
    (role : t.reg Reg.NODE_ROLE = s.reg Reg.NODE_ROLE) : t.tbSource = s.tbSource := by
  have fields (f : BitField) (h : f.addr = Reg.NODE_ROLE) : t.fld f = s.fld f := by rw [State.fld, h, role, ← h]; rfl
  simp only [State.tbSource, State.isRoot, State.isHub, State.alone, State.role, State.flag, src, dom,
    fields Fld.NODE_ROLE_ROLE rfl, fields Fld.NODE_ROLE_ALONE rfl]
  rfl

theorem freeRunning_iff (s : State) : s.freeRunning = true ↔ s.tbState = tbFree ∨ s.tbState = tbHoldover := by
  simp [State.freeRunning]

/-! ### Entering a lock state -/

/-- The counts of R153 begin anew. -/
def countsCleared (tb : Timebase) : Timebase := { tb with okCount := 0, missCount := 0, acqCount := 0, goodIntervals := 0, rejected := [] }

theorem tbEnter_tb (s : State) (st : Nat) : (tbEnter s st).tb =
    { countsCleared s.tb with integ := if st = tbAcquire then s.tb.period * 65536 else s.tb.integ } := by
  unfold tbEnter showSource
  by_cases acquire : st = tbAcquire
  · subst acquire
    rfl
  · by_cases locked : st = tbLocked
    · subst locked
      rfl
    · simp [State.when, acquire, locked, countsCleared]

/-- A new state shows in STATE and EFF_SRC of TB_STATUS, and LOCKED in MISSED. -/
theorem tbEnter_regs (s : State) (st : Nat) : ∃ n, (tbEnter s st).regs =
    (((s.setFld Fld.TB_STATUS_STATE st).when (st == tbLocked) fun s => s.setFld Fld.MS_STATUS_MISSED 0).setFld
      Fld.TB_STATUS_EFF_SRC n).regs := by
  unfold tbEnter showSource
  cases h : st == tbAcquire <;> cases k : st == tbLocked <;> exact ⟨_, rfl⟩

theorem tbEnter_state (s : State) {st : Nat} (h : st < 8) : (tbEnter s st).tbState = st := by
  obtain ⟨n, regs⟩ := tbEnter_regs s st
  rw [State.tbState, fld_congr regs, fld_setFld_ne _ _ (by decide)]
  have shown : (s.setFld Fld.TB_STATUS_STATE st).fld Fld.TB_STATUS_STATE = st := by
    rw [fld_setFld_same _ _ _ (by decide) (by decide)]
    exact Nat.mod_eq_of_lt h
  cases st == tbLocked
  · exact shown
  · exact (fld_setFld_ne _ _ (by decide)).trans shown

theorem tbEnter_flag (s : State) (st : Nat) {f : BitField} (ha : f.addr = Reg.TB_STATUS) (hf : 5 < f.lo) :
    (tbEnter s st).flag f = s.flag f := by
  obtain ⟨n, regs⟩ := tbEnter_regs s st
  rw [flag_congr regs, flag_setFld_ne _ _ (.inr (.inr hf))]
  cases st == tbLocked
  · exact flag_setFld_ne _ _ (.inr (.inr (Nat.lt_trans (by decide) hf)))
  · exact (flag_setFld_ne _ _ (.inl (by rw [ha]; decide))).trans (flag_setFld_ne _ _ (.inr (.inr (Nat.lt_trans (by decide) hf))))

theorem tbEnter_reg (s : State) (st : Nat) {a : Nat} (h1 : a ≠ Reg.TB_STATUS) (h2 : a ≠ Reg.MS_STATUS) :
    (tbEnter s st).reg a = s.reg a := by
  obtain ⟨n, regs⟩ := tbEnter_regs s st
  rw [reg_congr regs, reg_setFld_ne _ _ h1]
  cases st == tbLocked
  · exact reg_setFld_ne _ _ h1
  · exact (reg_setFld_ne _ _ h2).trans (reg_setFld_ne _ _ h1)

theorem tbEnter_locked_missed (s : State) : (tbEnter s tbLocked).fld Fld.MS_STATUS_MISSED = 0 := by
  obtain ⟨n, regs⟩ := tbEnter_regs s tbLocked
  rw [fld_congr regs, fld_setFld_ne _ _ (by decide)]
  exact fld_setFld_same _ _ _ (by decide) (by decide)

/-- An estimated period lies among the values it was estimated from (log entry 21). -/
theorem tbEstimate_spec (s : State) {lo hi : Nat} (h : lo ≤ hi) : ∃ n p, tbEstimate s lo hi =
    { s with freeCtr := n, tb := { s.tb with period := p } } ∧ lo ≤ p ∧ p ≤ hi := by
  refine ⟨_, _, rfl, Nat.le_add_right .., ?_⟩
  have below : s.draw.1.toNat % (hi - lo + 1) < hi - lo + 1 := Nat.mod_lt _ (Nat.succ_pos _)
  omega

/-! ### The loop (R155) -/

/-- The integrator after an error. -/
def loopSum (s : State) (e : Int) : Int := s.tb.integ + loopInt (s.fld Fld.TB_CTL_BW) s.tb.period e

/-- The period after an error. -/
def loopPeriod (s : State) (e : Int) : Nat :=
  (clamp 25600 128000000 ((loopSum s e + loopProp (s.fld Fld.TB_CTL_BW) s.tb.period e + 32768) / 65536)).toNat

theorem tbCorrect_eq (s : State) (e : Int) :
    tbCorrect s e = { s with tb := { s.tb with integ := loopSum s e, period := loopPeriod s e } } := rfl

/-- The error is shown, and the reference is missed no longer. -/
def errorNoted (s : State) (e : Int) : State :=
  let s := setTbErr s e
  { s with tb := { s.tb with missCount := 0 } }

theorem errorNoted_reg (s : State) (e : Int) {a : Nat} (h : a ≠ Reg.TB_ERR) : (errorNoted s e).reg a = s.reg a :=
  reg_setReg_ne s _ h

theorem errorNoted_state (s : State) (e : Int) : (errorNoted s e).tbState = s.tbState := fld_setReg_ne s _ (by decide)

theorem errorNoted_sum (s : State) (e x : Int) : loopSum (errorNoted s e) x = loopSum s x := by
  have bw : (errorNoted s e).fld Fld.TB_CTL_BW = s.fld Fld.TB_CTL_BW := fld_setReg_ne s _ (by decide)
  rw [loopSum, bw]
  rfl

theorem errorNoted_period (s : State) (e x : Int) : loopPeriod (errorNoted s e) x = loopPeriod s x := by
  have bw : (errorNoted s e).fld Fld.TB_CTL_BW = s.fld Fld.TB_CTL_BW := fld_setReg_ne s _ (by decide)
  rw [loopPeriod, errorNoted_sum, bw]
  rfl

/-- The error is noted and corrects the period. -/
def errorCorrected (s : State) (e : Int) : State := tbCorrect (errorNoted s e) e

theorem errorCorrected_tb (s : State) (e : Int) : (errorCorrected s e).tb =
    { s.tb with missCount := 0, integ := loopSum s e, period := loopPeriod s e } := by
  rw [errorCorrected, tbCorrect_eq, errorNoted_sum, errorNoted_period]
  rfl

theorem errorCorrected_reg (s : State) (e : Int) {a : Nat} (h : a ≠ Reg.TB_ERR) : (errorCorrected s e).reg a = s.reg a :=
  errorNoted_reg s e h

theorem errorCorrected_error (s : State) (e : Int) :
    (errorCorrected s e).reg Reg.TB_ERR = half (clamp (-32767) 32767 e) := reg_setReg_same s _ _

theorem errorCorrected_state (s : State) (e : Int) : (errorCorrected s e).tbState = s.tbState := errorNoted_state s e

theorem tbJudge_locked {s : State} (e : Int) (locked : s.tbState = tbLocked) : tbJudge s e =
    if 8 * s.regN Reg.TB_LOCK_THR < e.natAbs then tbEnter ((errorCorrected s e).setFlag Fld.TB_STATUS_LOCK_LOST true) tbAcquire
    else errorCorrected s e := by
  have away : ¬ (errorNoted s e).tbState = tbAcquire := by rw [errorNoted_state, locked]; decide
  have here : (errorNoted s e).tbState = tbLocked := by rw [errorNoted_state, locked]
  exact (if_neg away).trans (if_pos here)

/-- One more error within LOCK_THR in a row, or none. -/
def okAfter (s : State) (e : Int) : Nat := if e.natAbs ≤ s.regN Reg.TB_LOCK_THR then s.tb.okCount + 1 else 0

/-- An error in ACQUIRE is corrected and counted. -/
def errorCounted (s : State) (e : Int) : State :=
  let t := errorCorrected s e
  { t with tb := { t.tb with okCount := okAfter s e, acqCount := t.tb.acqCount + 1 } }

theorem tbJudge_acquiring {s : State} (e : Int) (acquiring : s.tbState = tbAcquire) : tbJudge s e =
    if 16 ≤ okAfter s e then tbEnter (errorCounted s e) tbLocked else errorCounted s e := by
  have here : (errorNoted s e).tbState = tbAcquire := by rw [errorNoted_state, acquiring]
  exact if_pos here

/-- An error judged in LOCKED: it shows in TB_ERR and enters the loop; above 8 times LOCK_THR the node goes to ACQUIRE. -/
structure JudgedLocked (s t : State) (e : Int) : Prop where
  error : t.reg Reg.TB_ERR = half (clamp (-32767) 32767 e)
  misses : t.tb.missCount = 0
  value : t.tb.value = s.tb.value
  period : t.tb.period = loopPeriod s e
  interval : t.tb.lastInterval = s.tb.lastInterval
  rejected : s.tb.rejected = [] → t.tb.rejected = []
  load : t.flag Fld.TB_STATUS_LOAD = s.flag Fld.TB_STATUS_LOAD
  stays : e.natAbs ≤ 8 * s.regN Reg.TB_LOCK_THR → t.tbState = tbLocked ∧ t.tb.integ = loopSum s e
  leaves : 8 * s.regN Reg.TB_LOCK_THR < e.natAbs → t.tbState = tbAcquire ∧ t.flag Fld.TB_STATUS_LOCK_LOST = true ∧
    t.tb.integ = loopPeriod s e * 65536

theorem tbJudge_judgedLocked {s : State} (e : Int) (locked : s.tbState = tbLocked) : JudgedLocked s (tbJudge s e) e := by
  have load : (errorCorrected s e).flag Fld.TB_STATUS_LOAD = s.flag Fld.TB_STATUS_LOAD := by
    rw [State.flag, State.fld, errorCorrected_reg s e (by decide)]
    rfl
  rw [tbJudge_locked e locked]
  split
  · next far =>
    have tb := tbEnter_tb ((errorCorrected s e).setFlag Fld.TB_STATUS_LOCK_LOST true) tbAcquire
    rw [setFlag_tb, errorCorrected_tb, if_pos rfl] at tb
    refine ⟨?_, by rw [tb]; rfl, by rw [tb]; rfl, by rw [tb]; rfl, by rw [tb]; rfl, fun _ => by rw [tb]; rfl, ?_,
      fun near => absurd far (by omega), fun _ => ⟨tbEnter_state _ (by decide), ?_, by rw [tb]⟩⟩
    · rw [tbEnter_reg _ _ (by decide) (by decide), reg_setFlag_ne _ _ (by decide), errorCorrected_error]
    · rw [tbEnter_flag _ _ rfl (by decide), flag_setFlag_ne _ _ (by decide), load]
    · rw [tbEnter_flag _ _ rfl (by decide), flag_setFlag_same _ _ _ (by decide) (by decide)]
  · next near =>
    have tb := errorCorrected_tb s e
    exact ⟨errorCorrected_error s e, by rw [tb], by rw [tb]; rfl, by rw [tb], by rw [tb], fun h => by rw [tb]; exact h, load,
      fun _ => ⟨(errorCorrected_state s e).trans locked, by rw [tb]⟩, fun far => absurd far near⟩

theorem JudgedLocked.settled {s t : State} {e : Int} (h : JudgedLocked s t e) : JudgedLocked s (settle t) e := by
  obtain ⟨error, misses, value, period, interval, rejected, load, stays, leaves⟩ := h
  refine ⟨?_, ?_, ?_, ?_, ?_, ?_, ?_, ?_, ?_⟩
  · rw [settle_reg _ _ (by decide), error]
  · rw [settle_tb, misses]
  · rw [settle_tb, value]
  · rw [settle_tb, period]
  · rw [settle_tb, interval]
  · rwa [settle_tb]
  · rw [settle_tbFlag _ (.inl rfl), load]
  · rwa [settle_tbState, settle_tb]
  · rwa [settle_tbState, settle_tbFlag _ (.inl rfl), settle_tb]

/-! ### References missed (R153) -/

/-- The miss is counted in the timebase's own counts. -/
def missCounted (s : State) : State := { s with tb := { s.tb with missCount := s.tb.missCount + 1, okCount := 0 } }

theorem tbMiss_eq (s : State) :
    tbMiss s = if s.tbSource = 2 then (missCounted s).incFld Fld.MS_STATUS_MISSED 255 else missCounted s := by
  by_cases h : s.tbSource = 2
  · exact (if_pos (beq_iff_eq.mpr h)).trans (if_pos h).symm
  · exact (if_neg (mt beq_iff_eq.mp h)).trans (if_neg h).symm

theorem tbMiss_tb (s : State) : (tbMiss s).tb = (missCounted s).tb := by
  rw [tbMiss_eq, State.incFld]
  split
  · split <;> rfl
  · rfl

theorem tbMiss_missed {s : State} (h : s.tbSource = 2) :
    (tbMiss s).fld Fld.MS_STATUS_MISSED = min 255 (s.fld Fld.MS_STATUS_MISSED + 1) := by
  have bound : s.fld Fld.MS_STATUS_MISSED < 2 ^ 8 := fld_lt s (by decide)
  have same : (missCounted s).fld Fld.MS_STATUS_MISSED = s.fld Fld.MS_STATUS_MISSED := rfl
  rw [tbMiss_eq, if_pos h, State.incFld, same]
  split
  · next below =>
    rw [fld_setFld_same _ _ _ (by decide) (by decide), Nat.min_eq_right (by omega)]
    exact Nat.mod_eq_of_lt (by change _ < 2 ^ 8; omega)
  · rw [same]
    omega

theorem tbMiss_state (s : State) : (tbMiss s).tbState = s.tbState := by
  rw [tbMiss_eq]
  split
  · exact fld_incFld_ne _ _ (.inl (by decide))
  · rfl

end Sys2Proof.Machine
end

section
/-!
Edges of PHASE_IN (R152, R153): which are taken, the intervals accepted, and the estimate of rejected ones that agree.
-/
namespace Sys2Proof.Machine

/-! ### Intervals that agree -/

theorem foldl_min_mem (a : Nat) (l : List Nat) : l.foldl min a ∈ a :: l := by
  induction l generalizing a with
  | nil => exact List.mem_singleton_self a
  | cons b l ih =>
    have step := ih (min a b)
    rw [List.foldl_cons, List.mem_cons, List.mem_cons]
    rcases List.mem_cons.mp step with h | h
    · rcases min_choice a b with m | m
      · exact .inl (h.trans m)
      · exact .inr (.inl (h.trans m))
    · exact .inr (.inr h)

theorem foldl_max_mem (a : Nat) (l : List Nat) : l.foldl max a ∈ a :: l := by
  induction l generalizing a with
  | nil => exact List.mem_singleton_self a
  | cons b l ih =>
    have step := ih (max a b)
    rw [List.foldl_cons, List.mem_cons, List.mem_cons]
    rcases List.mem_cons.mp step with h | h
    · rcases max_choice a b with m | m
      · exact .inl (h.trans m)
      · exact .inr (.inl (h.trans m))
    · exact .inr (.inr h)

theorem foldl_min_le_foldl_max (a b : Nat) (l : List Nat) (h : a ≤ b) : l.foldl min a ≤ l.foldl max b := by
  induction l generalizing a b with
  | nil => exact h
  | cons c l ih => exact ih _ _ ((min_le_left a c).trans (h.trans (le_max_left b c)))

theorem intervalsAgree_iff (pull : Nat) (l : List Nat) :
    intervalsAgree pull l = true ↔ l.Pairwise fun a b => withinPull pull b a = true := by
  induction l with
  | nil => exact ⟨fun _ => .nil, fun _ => rfl⟩
  | cons n older ih => rw [intervalsAgree, Bool.and_eq_true, List.all_eq_true, ih, List.pairwise_cons]

/-! ### Edges taken -/

theorem edgeTaken_iff (s : State) (x : PhaseEdge) : s.edgeTaken x.falling x.before x.after = true ↔
    x.falling = s.flag Fld.TB_CTL_EDGE ∧ 4 ≤ x.before ∧ 4 ≤ x.after := by
  simp [State.edgeTaken, and_assoc]

theorem phaseInEdge_other {s : State} (interval : Option Nat) (h : s.tbSource ≠ 1) : phaseInEdge s interval = s := if_pos h

theorem exec_phaseInEdge_ignored {s : State} {x : PhaseEdge}
    (h : ¬ s.tbSource = 1 ∨ ¬ (x.falling = s.flag Fld.TB_CTL_EDGE ∧ 4 ≤ x.before ∧ 4 ≤ x.after)) :
    exec (.phaseInEdge x) s = .next (settle s) := by
  refine congrArg done ?_
  split
  · next taken => exact phaseInEdge_other _ (h.resolve_right (not_not_intro ((edgeTaken_iff s x).mp taken)))
  · rfl

theorem exec_phaseInEdge_taken {s : State} {x : PhaseEdge} {interval : Option Nat}
    (taken : x.falling = s.flag Fld.TB_CTL_EDGE ∧ 4 ≤ x.before ∧ 4 ≤ x.after) (found : x.interval = interval) :
    exec (.phaseInEdge x) s = .next (settle (phaseInEdge s interval)) := by
  subst found
  exact congrArg done (if_pos ((edgeTaken_iff s x).mpr taken))

theorem phaseInEdge_none {s : State} (src : s.tbSource = 1) :
    phaseInEdge s none = { s with tb := { s.tb with lastInterval := none } } := if_neg (not_not_intro src)

/-! ### Intervals accepted and refused -/

/-- The interval that this edge ends is the last one. -/
def edgeSeen (s : State) (n : Nat) : State := { s with tb := { s.tb with lastInterval := some n } }

/-- The interval lies in the range R152 accepts. -/
def intervalInRange (n : Nat) : Bool := decide (1600 ≤ n) && decide (n ≤ 8000000)

theorem intervalInRange_iff (n : Nat) : intervalInRange n = true ↔ 1600 ≤ n ∧ n ≤ 8000000 := by
  simp [intervalInRange]

/-- R152: in LOCKED the interval agrees with the period, elsewhere with the interval before it. -/
def edgeFits (s : State) (n : Nat) : Bool :=
  if s.tbState = tbLocked then withinPull s.pull s.tb.period (16 * n)
  else intervalInRange n && s.tb.lastInterval.any fun m => withinPull s.pull m n

theorem edgeFits_locked {s : State} (n : Nat) (h : s.tbState = tbLocked) :
    edgeFits s n = withinPull s.pull s.tb.period (16 * n) := if_pos h

theorem edgeFits_unlocked {s : State} {m n : Nat} (h : s.tbState ≠ tbLocked) (last : s.tb.lastInterval = some m) :
    edgeFits s n = (intervalInRange n && withinPull s.pull m n) := by
  rw [edgeFits, if_neg h, last]
  rfl

/-- An accepted interval ends the run of rejected ones. -/
def edgeAccepted (s : State) (n : Nat) : State := { s with tb := { s.tb with lastInterval := some n, rejected := [] } }

/-- A rejected interval is a reference missed, shown in REF_BAD. -/
def edgeRejected (s : State) (n : Nat) : State := tbMiss ((edgeSeen s n).setFlag Fld.TB_STATUS_REF_BAD true)

/-- An accepted edge with an error to judge, a step before it in ACQUIRE where the second error is above LOCK_THR (R159). -/
def edgeJudged (s : State) : State :=
  let e := s.phaseError
  tbJudge (if s.tbState = tbAcquire ∧ s.tb.acqCount = 1 ∧ s.regN Reg.TB_LOCK_THR < e.natAbs
    then tbStep s (s.regN Reg.TB_PH_OFS) else s) e

/-- After an accepted interval: free-running, the second starts ACQUIRE; else the phase error is judged. -/
def edgeTakenUp (s : State) (n : Nat) : State :=
  if s.freeRunning then
    if 2 ≤ s.tb.goodIntervals + 1 then
      tbEnter (tbEstimate (edgeAccepted s n) (16 * min (s.tb.lastInterval.getD n) n) (16 * max (s.tb.lastInterval.getD n) n)) tbAcquire
    else { s with tb := { (edgeAccepted s n).tb with goodIntervals := s.tb.goodIntervals + 1, missCount := 0 } }
  else edgeJudged (edgeAccepted s n)

/-- The run of rejected intervals, the newest four at most. -/
def rejectedRun (s : State) (n : Nat) : List Nat := (n :: s.tb.rejected).take 4

/-- The state after an interval rejected in LOCKED. -/
def edgeNoted (s : State) (n : Nat) : State :=
  let t := edgeRejected s n
  { t with tb := { t.tb with rejected := rejectedRun s n } }

/-- In LOCKED the fourth rejected interval of a run that agrees is a new period to acquire. -/
def lockedRejected (s : State) (n : Nat) : State :=
  if (rejectedRun s n).length = 4 ∧ intervalsAgree s.pull (rejectedRun s n) then
    tbEnter (tbEstimate (edgeNoted s n) (16 * (rejectedRun s n).foldl min n) (16 * (rejectedRun s n).foldl max n)) tbAcquire
  else edgeNoted s n

theorem edgeRejected_tb (s : State) (n : Nat) : (edgeRejected s n).tb =
    { s.tb with lastInterval := some n, missCount := s.tb.missCount + 1, okCount := 0 } := by
  rw [edgeRejected, tbMiss_tb]
  rfl

theorem tbMiss_pull (s : State) : (tbMiss s).pull = s.pull := by
  have ctl : (tbMiss s).fld Fld.TB_CTL_PULL = s.fld Fld.TB_CTL_PULL := by
    rw [tbMiss_eq]
    split
    · exact fld_incFld_ne _ _ (.inl (by decide))
    · rfl
  rw [State.pull, ctl]
  rfl

theorem edgeRejected_pull (s : State) (n : Nat) : (edgeRejected s n).pull = s.pull := by
  have ctl : ((edgeSeen s n).setFlag Fld.TB_STATUS_REF_BAD true).fld Fld.TB_CTL_PULL = s.fld Fld.TB_CTL_PULL :=
    fld_setFlag_ne _ _ (.inl (by decide))
  rw [edgeRejected, tbMiss_pull, State.pull, ctl]
  rfl

theorem edgeRejected_state (s : State) (n : Nat) : (edgeRejected s n).tbState = s.tbState := by
  rw [edgeRejected, tbMiss_state]
  exact fld_setFlag_ne _ _ (.inr (by decide))

theorem edgeRejected_shown (s : State) (n : Nat) : (edgeRejected s n).flag Fld.TB_STATUS_REF_BAD = true := by
  have set : ((edgeSeen s n).setFlag Fld.TB_STATUS_REF_BAD true).flag Fld.TB_STATUS_REF_BAD = true :=
    flag_setFlag_same _ _ _ (by decide) (by decide)
  rw [edgeRejected, tbMiss_eq]
  split
  · rw [State.flag, fld_incFld_ne _ _ (.inl (by decide))]
    exact set
  · exact set

/-- An interval rejected in LOCKED counts in the run from which a new period is estimated. -/
theorem lockedRejected_eq (s : State) (n : Nat) : lockedRejected s n =
    let run := (n :: (edgeRejected s n).tb.rejected).take 4
    let t := { edgeRejected s n with tb := { (edgeRejected s n).tb with rejected := run } }
    if run.length = 4 ∧ intervalsAgree t.pull run then tbEnter (tbEstimate t (16 * run.foldl min n) (16 * run.foldl max n)) tbAcquire
    else t := by
  have rejected : (edgeRejected s n).tb.rejected = s.tb.rejected := by rw [edgeRejected_tb]
  have pull : (edgeNoted s n).pull = s.pull := edgeRejected_pull s n
  rw [rejected]
  unfold lockedRejected
  rw [← pull]
  rfl

/-- What an edge with an interval before it does, by whether the interval is accepted and the lock state. -/
theorem phaseInEdge_some {s : State} (n : Nat) (src : s.tbSource = 1) : phaseInEdge s (some n) =
    if edgeFits s n then edgeTakenUp s n
    else if (!decide (s.tbState = tbLocked) && s.tb.lastInterval.isNone && intervalInRange n) = true then edgeSeen s n
    else if s.tbState = tbLocked then lockedRejected s n
    else edgeRejected s n := by
  rw [phaseInEdge, if_neg (not_not_intro src), lockedRejected_eq]
  extract_lets here last inRange accepted
  have same : accepted = edgeFits s n := by
    unfold accepted last edgeFits
    cases s.tb.lastInterval <;> rfl
  rw [same]
  cases edgeFits s n <;> rfl

theorem phaseInEdge_fits {s : State} {n : Nat} (src : s.tbSource = 1) (fits : edgeFits s n = true) :
    phaseInEdge s (some n) = edgeTakenUp s n := by
  rw [phaseInEdge_some n src, if_pos fits]

theorem phaseInEdge_locked_rejected {s : State} {n : Nat} (src : s.tbSource = 1) (locked : s.tbState = tbLocked)
    (bad : edgeFits s n = false) : phaseInEdge s (some n) = lockedRejected s n := by
  rw [phaseInEdge_some n src, if_neg (by simp [bad]), if_neg (by simp [locked]), if_pos locked]

theorem phaseInEdge_unlocked_rejected {s : State} {m n : Nat} (src : s.tbSource = 1) (unlocked : s.tbState ≠ tbLocked)
    (last : s.tb.lastInterval = some m) (bad : edgeFits s n = false) : phaseInEdge s (some n) = edgeRejected s n := by
  rw [phaseInEdge_some n src, if_neg (by simp [bad]), if_neg (by simp [last]), if_neg unlocked]

end Sys2Proof.Machine
end

section
/-!
What an edge of PHASE_IN does in each lock state, and the references missed (R152, R153).
-/
namespace Sys2Proof.Machine

/-! ### ACQUIRE at an estimated period -/

/-- `t` is in ACQUIRE at a period between `lo` and `hi`, its timebase and the flags of TB_STATUS as in `s`. -/
structure AcquiresWithin (s t : State) (lo hi : Nat) : Prop where
  state : t.tbState = tbAcquire
  value : t.tb.value = s.tb.value
  least : lo ≤ t.tb.period
  most : t.tb.period ≤ hi
  fresh : t.tb.acqCount = 0
  refBad : t.flag Fld.TB_STATUS_REF_BAD = s.flag Fld.TB_STATUS_REF_BAD

theorem tbEstimate_acquires (s : State) {lo hi : Nat} (h : lo ≤ hi) :
    AcquiresWithin s (settle (tbEnter (tbEstimate s lo hi) tbAcquire)) lo hi := by
  obtain ⟨n, p, estimate, least, most⟩ := tbEstimate_spec s h
  have tb := tbEnter_tb (tbEstimate s lo hi) tbAcquire
  rw [estimate] at tb ⊢
  refine ⟨?_, ?_, ?_, ?_, ?_, ?_⟩
  · rw [settle_tbState, tbEnter_state _ (by decide)]
  · rw [settle_tb, tb]
    rfl
  · rw [settle_tb, tb]
    exact least
  · rw [settle_tb, tb]
    exact most
  · rw [settle_tb, tb]
    rfl
  · rw [settle_tbFlag _ (.inl rfl), tbEnter_flag _ _ rfl (by decide)]
    rfl

/-! ### Edges in LOCKED -/

theorem freeRunning_locked {s : State} (h : s.tbState = tbLocked) : ¬ s.freeRunning = true := by
  rw [freeRunning_iff, h]
  decide

theorem freeRunning_acquire {s : State} (h : s.tbState = tbAcquire) : ¬ s.freeRunning = true := by
  rw [freeRunning_iff, h]
  decide

theorem phaseInEdge_locked_accepted {s : State} {n : Nat} (src : s.tbSource = 1) (locked : s.tbState = tbLocked)
    (near : withinPull s.pull s.tb.period (16 * n) = true) :
    phaseInEdge s (some n) = tbJudge (edgeAccepted s n) s.phaseError := by
  have away : ¬ ((edgeAccepted s n).tbState = tbAcquire ∧ (edgeAccepted s n).tb.acqCount = 1 ∧
      (edgeAccepted s n).regN Reg.TB_LOCK_THR < (edgeAccepted s n).phaseError.natAbs) := by
    rintro ⟨acquire, -⟩
    exact absurd (locked.symm.trans acquire) (by decide)
  rw [phaseInEdge_fits src ((edgeFits_locked n locked).trans near), edgeTakenUp, if_neg (freeRunning_locked locked), edgeJudged,
    if_neg away]
  rfl

/-- An interval within PULL of the period is accepted in LOCKED, and its phase error judged. -/
theorem edge_locked_accepted {s : State} {n : Nat} (src : s.tbSource = 1) (locked : s.tbState = tbLocked)
    (near : withinPull s.pull s.tb.period (16 * n) = true) :
    JudgedLocked (edgeAccepted s n) (settle (phaseInEdge s (some n))) s.phaseError := by
  rw [phaseInEdge_locked_accepted src locked near]
  exact (tbJudge_judgedLocked s.phaseError (s := edgeAccepted s n) locked).settled

theorem rejectedRun_length (s : State) (n : Nat) : (rejectedRun s n).length = 4 ↔ 3 ≤ s.tb.rejected.length := by
  rw [rejectedRun, List.length_take, List.length_cons]
  omega

/-- The greatest and the least of the run lie in it, so an estimate between them lies between two of its intervals. -/
theorem rejectedRun_spans (s : State) (n p : Nat) (least : 16 * (rejectedRun s n).foldl min n ≤ p)
    (most : p ≤ 16 * (rejectedRun s n).foldl max n) : (rejectedRun s n).any (fun m => decide (16 * m ≤ p)) = true ∧
      (rejectedRun s n).any (fun m => decide (p ≤ 16 * m)) = true := by
  have holds (m : Nat) (h : m ∈ n :: rejectedRun s n) : m ∈ rejectedRun s n := by
    rcases List.mem_cons.mp h with rfl | h
    · exact List.mem_cons_self
    · exact h
  simp only [List.any_eq_true, decide_eq_true_eq]
  exact ⟨⟨_, holds _ (foldl_min_mem n _), least⟩, ⟨_, holds _ (foldl_max_mem n _), most⟩⟩

theorem edgeNoted_tb (s : State) (n : Nat) : (edgeNoted s n).tb =
    { s.tb with lastInterval := some n, missCount := s.tb.missCount + 1, okCount := 0, rejected := rejectedRun s n } := by
  change { (edgeRejected s n).tb with rejected := rejectedRun s n } = _
  rw [edgeRejected_tb]

theorem edgeNoted_value (s : State) (n : Nat) : (edgeNoted s n).tb.value = s.tb.value := by
  rw [edgeNoted_tb]
  rfl

/-- An interval rejected in LOCKED is noted, or starts ACQUIRE with three before it that agree. -/
theorem edge_locked_rejected {s : State} {n : Nat} (src : s.tbSource = 1) (locked : s.tbState = tbLocked)
    (far : withinPull s.pull s.tb.period (16 * n) = false) :
    (s.tb.rejected.length < 3 ∨ ¬ (rejectedRun s n).Pairwise (fun a b => withinPull s.pull b a = true) →
      phaseInEdge s (some n) = edgeNoted s n) ∧
    (3 ≤ s.tb.rejected.length → (rejectedRun s n).Pairwise (fun a b => withinPull s.pull b a = true) →
      AcquiresWithin (edgeNoted s n) (settle (phaseInEdge s (some n))) (16 * (rejectedRun s n).foldl min n)
        (16 * (rejectedRun s n).foldl max n)) := by
  rw [phaseInEdge_locked_rejected src locked ((edgeFits_locked n locked).trans far), lockedRejected]
  refine ⟨fun alone => if_neg ?_, fun long agree => ?_⟩
  · rw [rejectedRun_length, intervalsAgree_iff]
    rintro ⟨long, agree⟩
    exact alone.elim (fun short => by omega) (fun differ => differ agree)
  · rw [if_pos ⟨(rejectedRun_length s n).mpr long, (intervalsAgree_iff ..).mpr agree⟩]
    exact tbEstimate_acquires _ (Nat.mul_le_mul_left 16 (foldl_min_le_foldl_max n n _ le_rfl))

theorem edgeNoted_shows (s : State) (n : Nat) : (settle (edgeNoted s n)).flag Fld.TB_STATUS_REF_BAD = true ∧
    (settle (edgeNoted s n)).tbState = s.tbState := by
  rw [settle_tbFlag _ (.inl rfl), settle_tbState]
  exact ⟨edgeRejected_shown s n, edgeRejected_state s n⟩

/-! ### Edges elsewhere -/

theorem edgeFits_agreeing {s : State} {m n : Nat} (unlocked : s.tbState ≠ tbLocked) (last : s.tb.lastInterval = some m)
    (lo : 1600 ≤ n) (hi : n ≤ 8000000) (agree : withinPull s.pull m n = true) : edgeFits s n = true := by
  rw [edgeFits_unlocked unlocked last, (intervalInRange_iff n).mpr ⟨lo, hi⟩, agree]
  rfl

theorem edgeFits_differing {s : State} {m n : Nat} (unlocked : s.tbState ≠ tbLocked) (last : s.tb.lastInterval = some m)
    (h : n < 1600 ∨ 8000000 < n ∨ withinPull s.pull m n = false) : edgeFits s n = false := by
  rw [edgeFits_unlocked unlocked last, Bool.eq_false_iff, Ne, Bool.and_eq_true, intervalInRange_iff]
  rintro ⟨⟨lo, hi⟩, agree⟩
  rcases h with h | h | h
  · omega
  · omega
  · exact Bool.false_ne_true (h.symm.trans agree)

theorem freeRunning_unlocked {s : State} (h : s.freeRunning = true) : s.tbState ≠ tbLocked :=
  fun locked => freeRunning_locked locked h

/-- Free-running, the first accepted interval is counted and the second starts ACQUIRE at a period between the two. -/
theorem edge_free_accepted {s : State} {m n : Nat} (src : s.tbSource = 1) (free : s.freeRunning = true)
    (last : s.tb.lastInterval = some m) (lo : 1600 ≤ n) (hi : n ≤ 8000000) (agree : withinPull s.pull m n = true) :
    (s.tb.goodIntervals = 0 → phaseInEdge s (some n) =
      { s with tb := { (edgeAccepted s n).tb with goodIntervals := s.tb.goodIntervals + 1, missCount := 0 } }) ∧
    (1 ≤ s.tb.goodIntervals →
      AcquiresWithin (edgeAccepted s n) (settle (phaseInEdge s (some n))) (16 * min m n) (16 * max m n)) := by
  rw [phaseInEdge_fits src (edgeFits_agreeing (freeRunning_unlocked free) last lo hi agree), edgeTakenUp, if_pos free]
  refine ⟨fun first => if_neg (by omega), fun second => ?_⟩
  rw [if_pos (by omega), last, Option.getD_some]
  exact tbEstimate_acquires (edgeAccepted s n) (Nat.mul_le_mul_left 16 ((min_le_left m n).trans (le_max_left m n)))

theorem edge_unlocked_rejected {s : State} {m n : Nat} (src : s.tbSource = 1) (unlocked : s.tbState ≠ tbLocked)
    (last : s.tb.lastInterval = some m) (h : n < 1600 ∨ 8000000 < n ∨ withinPull s.pull m n = false) :
    (settle (phaseInEdge s (some n))).flag Fld.TB_STATUS_REF_BAD = true ∧ (settle (phaseInEdge s (some n))).tbState = s.tbState ∧
      (settle (phaseInEdge s (some n))).tb.missCount = s.tb.missCount + 1 := by
  rw [phaseInEdge_unlocked_rejected src unlocked last (edgeFits_differing unlocked last h), settle_tbFlag _ (.inl rfl),
    settle_tbState, settle_tb, edgeRejected_tb]
  exact ⟨edgeRejected_shown s n, edgeRejected_state s n, rfl⟩

/-! ### Errors judged in ACQUIRE -/

/-- An error judged in ACQUIRE: it shows in TB_ERR and enters the loop; the sixteenth in a row within LOCK_THR locks. -/
structure JudgedAcquiring (s t : State) (e : Int) : Prop where
  error : t.reg Reg.TB_ERR = half (clamp (-32767) 32767 e)
  value : t.tb.value = s.tb.value
  period : t.tb.period = loopPeriod s e
  stays : okAfter s e < 16 → t.tbState = tbAcquire
  locks : 16 ≤ okAfter s e → t.tbState = tbLocked ∧ t.fld Fld.MS_STATUS_MISSED = 0

theorem tbJudge_judgedAcquiring {s : State} (e : Int) (acquiring : s.tbState = tbAcquire) :
    JudgedAcquiring s (tbJudge s e) e := by
  have counted : (errorCounted s e).tb = { s.tb with
      missCount := 0, integ := loopSum s e, period := loopPeriod s e, okCount := okAfter s e, acqCount := s.tb.acqCount + 1 } := by
    change { (errorCorrected s e).tb with okCount := okAfter s e, acqCount := (errorCorrected s e).tb.acqCount + 1 } = _
    rw [errorCorrected_tb]
  rw [tbJudge_acquiring e acquiring]
  split
  · next sixteen =>
    have tb := tbEnter_tb (errorCounted s e) tbLocked
    rw [counted, if_neg (by decide)] at tb
    refine ⟨?_, by rw [tb]; rfl, by rw [tb]; rfl, fun short => absurd sixteen (by omega), fun _ =>
      ⟨tbEnter_state _ (by decide), tbEnter_locked_missed _⟩⟩
    rw [tbEnter_reg _ _ (by decide) (by decide)]
    exact errorCorrected_error s e
  · next short =>
    exact ⟨errorCorrected_error s e, by rw [counted]; rfl, by rw [counted], fun _ => (errorCorrected_state s e).trans acquiring,
      fun sixteen => absurd sixteen short⟩

theorem JudgedAcquiring.settled {s t : State} {e : Int} (h : JudgedAcquiring s t e) : JudgedAcquiring s (settle t) e := by
  obtain ⟨error, value, period, stays, locks⟩ := h
  have missed : (settle t).fld Fld.MS_STATUS_MISSED = t.fld Fld.MS_STATUS_MISSED := settle_fld t _ (by decide)
  refine ⟨?_, ?_, ?_, ?_, ?_⟩
  · rw [settle_reg _ _ (by decide), error]
  · rw [settle_tb, value]
  · rw [settle_tb, period]
  · rwa [settle_tbState]
  · rwa [settle_tbState, missed]

/-- An accepted edge in ACQUIRE that needs no step has its phase error judged. -/
theorem edge_acquire_accepted {s : State} {m n : Nat} (src : s.tbSource = 1) (acquiring : s.tbState = tbAcquire)
    (last : s.tb.lastInterval = some m) (lo : 1600 ≤ n) (hi : n ≤ 8000000) (agree : withinPull s.pull m n = true)
    (still : s.tb.acqCount ≠ 1 ∨ s.phaseError.natAbs ≤ s.regN Reg.TB_LOCK_THR) :
    JudgedAcquiring (edgeAccepted s n) (settle (phaseInEdge s (some n))) s.phaseError := by
  have unlocked : s.tbState ≠ tbLocked := by rw [acquiring]; decide
  have noStep : ¬ ((edgeAccepted s n).tbState = tbAcquire ∧ (edgeAccepted s n).tb.acqCount = 1 ∧
      (edgeAccepted s n).regN Reg.TB_LOCK_THR < (edgeAccepted s n).phaseError.natAbs) := by
    rintro ⟨-, one, above⟩
    exact still.elim (fun h => h one) (fun h => absurd above (Nat.not_lt.mpr h))
  rw [phaseInEdge_fits src (edgeFits_agreeing unlocked last lo hi agree), edgeTakenUp, if_neg (freeRunning_acquire acquiring),
    edgeJudged, if_neg noStep]
  exact (tbJudge_judgedAcquiring s.phaseError (s := edgeAccepted s n) acquiring).settled

theorem okAfter_lt {s : State} {e : Int} (h : s.regN Reg.TB_LOCK_THR < e.natAbs ∨ s.tb.okCount < 15) : okAfter s e < 16 := by
  unfold okAfter
  split <;> omega

theorem okAfter_ge {s : State} {e : Int} (near : e.natAbs ≤ s.regN Reg.TB_LOCK_THR) (many : 15 ≤ s.tb.okCount) :
    16 ≤ okAfter s e := by
  rw [okAfter, if_pos near]
  omega

/-! ### References missed -/

theorem tbHoldoverDue_iff (s : State) : tbHoldoverDue s = true ↔
    (s.tbState = tbLocked ∨ s.tbState = tbAcquire) ∧ s.fld Fld.TB_CTL_MISS ≤ s.tb.missCount := by
  simp [tbHoldoverDue]

/-- MISS misses in LOCKED or ACQUIRE are HOLDOVER. -/
theorem tbMissHoldover_shows {s : State} (state : s.tbState = tbLocked ∨ s.tbState = tbAcquire)
    (misses : s.fld Fld.TB_CTL_MISS ≤ s.tb.missCount) : Completes .tbMissHoldover s fun t =>
      t.tbState = tbHoldover ∧ t.flag Fld.TB_STATUS_LOCK_LOST = true ∧ t.tb.period = s.tb.period ∧ t.tb.value = s.tb.value := by
  refine ⟨_, congrArg done (if_pos ((tbHoldoverDue_iff s).mpr ⟨state, misses⟩)), ?_⟩
  beta_reduce
  have lost : (tbEnterHoldover s).flag Fld.TB_STATUS_LOCK_LOST = true := by
    rw [tbEnterHoldover, tbEnter_flag _ _ rfl (by decide), flag_setFlag_same _ _ _ (by decide) (by decide)]
  rw [settle_tbState, settle_tbFlag _ (.inl rfl), settle_tb, lost, tbEnterHoldover, tbEnter_state _ (by decide), tbEnter_tb]
  exact ⟨rfl, rfl, rfl, rfl⟩

theorem tbMissHoldover_waits {s : State} (h : s.tbState = tbFree ∨ s.tbState = tbHoldover ∨ s.tb.missCount < s.fld Fld.TB_CTL_MISS) :
    exec .tbMissHoldover s = .next (settle s) := by
  refine congrArg done (if_neg ?_)
  rw [tbHoldoverDue_iff]
  rintro ⟨state, misses⟩
  simp only [tbFree, tbHoldover, tbLocked, tbAcquire] at h state
  omega

theorem expectedEdgeMissed_shows (s : State) : Completes .expectedEdgeMissed s fun t =>
    t.tb.missCount = s.tb.missCount + 1 ∧ t.tb.okCount = 0 ∧ t.tbState = s.tbState ∧
    (s.tbSource = 2 → t.fld Fld.MS_STATUS_MISSED = min 255 (s.fld Fld.MS_STATUS_MISSED + 1)) ∧
    (s.tbSource ≠ 2 → t.regs = (settle s).regs) := by
  have missed : (settle (tbMiss s)).fld Fld.MS_STATUS_MISSED = (tbMiss s).fld Fld.MS_STATUS_MISSED := settle_fld _ _ (by decide)
  refine ⟨settle (tbMiss s), rfl, ?_⟩
  beta_reduce
  rw [settle_tb, settle_tbState, missed, tbMiss_tb, tbMiss_state]
  refine ⟨rfl, rfl, rfl, tbMiss_missed, fun other => ?_⟩
  rw [tbMiss_eq, if_neg other]
  exact (SameLevels.mk rfl rfl rfl rfl : SameLevels s (missCounted s)).settled.regs

end Sys2Proof.Machine
end

section
/-!
Milestones: the offset of a domain, loads of the timebase, and the loop (R37, R153, R155, R162, R164, R168).
-/
namespace Sys2Proof.Machine

/-! ### Numbers in two and three registers -/

theorem regN_setRegN_same (s : State) (a n : Nat) : (s.setRegN a n).regN a = n % 65536 := by
  rw [State.regN, reg_setRegN_same, BitVec.toNat_ofNat]

theorem regN_setRegN_ne (s : State) {a b : Nat} (n : Nat) (h : b ≠ a) : (s.setRegN a n).regN b = s.regN b :=
  congrArg BitVec.toNat (reg_setRegN_ne s n h)

theorem pair_setPair (s : State) {lo hi n : Nat} (h : lo ≠ hi) (bound : n < 2 ^ 32) : (s.setPair lo hi n).pair lo hi = n := by
  rw [State.pair, State.setPair, regN_setRegN_same, regN_setRegN_ne _ _ h, regN_setRegN_same]
  omega

theorem reg_setPair_ne (s : State) {lo hi a : Nat} (n : Nat) (h1 : a ≠ lo) (h2 : a ≠ hi) : (s.setPair lo hi n).reg a = s.reg a := by
  rw [State.setPair, reg_setRegN_ne _ _ h2, reg_setRegN_ne _ _ h1]

theorem triple_setTriple (s : State) (a : Nat) {n : Nat} (bound : n < 2 ^ 48) : (s.setTriple a n).triple a = n := by
  have low : (s.setTriple a n).regN a = n % 65536 % 65536 := by
    rw [State.setTriple, regN_setRegN_ne _ _ (by omega), regN_setRegN_ne _ _ (by omega), regN_setRegN_same]
  have middle : (s.setTriple a n).regN (a + 1) = n / 65536 % 65536 % 65536 := by
    rw [State.setTriple, regN_setRegN_ne _ _ (by omega), regN_setRegN_same]
  have high : (s.setTriple a n).regN (a + 2) = n / 4294967296 % 65536 % 65536 := regN_setRegN_same ..
  rw [State.triple, low, middle, high]
  omega

@[simp] theorem setTriple_tb (s : State) (a n : Nat) : (s.setTriple a n).tb = s.tb := rfl

theorem reg_setTriple_ne (s : State) {a b : Nat} (n : Nat) (h : b < a ∨ a + 2 < b) : (s.setTriple a n).reg b = s.reg b := by
  rw [State.setTriple, reg_setRegN_ne _ _ (by omega), reg_setRegN_ne _ _ (by omega), reg_setRegN_ne _ _ (by omega)]

theorem pair_congr {s t : State} {lo hi : Nat} (h1 : t.reg lo = s.reg lo) (h2 : t.reg hi = s.reg hi) :
    t.pair lo hi = s.pair lo hi := by
  rw [State.pair, State.regN, State.regN, h1, h2]
  rfl

/-! ### Loads -/

theorem loadedValue {v : Nat} (bound : v < 2 ^ 48) :
    (BitVec.ofNat 32 (v / 65536)).toNat * 65536 + (BitVec.ofNat 48 (v % 65536 * 2 ^ 32)).toNat / 4294967296 = v := by
  rw [BitVec.toNat_ofNat, BitVec.toNat_ofNat]
  omega

/-- The engines' waits of a load: registers and timebase stay. -/
theorem tbLoad_eq (s : State) (v : Nat) : ∃ (u : State) (late : BitVec 8), u.regs = s.regs ∧ u.tb = { s.tb with
      acc := BitVec.ofNat 48 (v % 65536 * 2 ^ 32), cycle := BitVec.ofNat 32 (v / 65536),
      prevAcc := BitVec.ofNat 48 (v % 65536 * 2 ^ 32), prevCycle := BitVec.ofNat 32 (v / 65536),
      late := s.tb.late ||| late, done := s.tb.done ||| late } ∧
    tbLoad s v = restartInstants (u.setFlag Fld.TB_STATUS_LOAD true) := by
  unfold tbLoad
  extract_lets before old latched late acc cyc t u
  have kept {β : Type} (P : State → β) (h : ∀ s e x, P (State.setEng s e x) = P s) : P u = P t := by
    refine forEach_keeps P (fun e _ s => ?_) t
    dsimp only
    split
    · split
      · rfl
      · split
        · exact h ..
        · split
          · exact h ..
          · rfl
    · rfl
  exact ⟨u, late, kept (·.regs) setEng_regs, kept (·.tb) setEng_tb, rfl⟩

theorem tbLoad_value (s : State) {v : Nat} (bound : v < 2 ^ 48) : (tbLoad s v).tb.value = v := by
  obtain ⟨u, late, -, tb, load⟩ := tbLoad_eq s v
  have loaded : (tbLoad s v).tb = u.tb := by rw [load]; rfl
  rw [loaded, tb]
  exact loadedValue bound

theorem tbLoad_regs (s : State) (v : Nat) : (tbLoad s v).regs = (s.setFlag Fld.TB_STATUS_LOAD true).regs := by
  obtain ⟨u, late, regs, -, load⟩ := tbLoad_eq s v
  rw [load]
  exact congrArg (fun r => (({ s with regs := r } : State).setFlag Fld.TB_STATUS_LOAD true).regs) regs

theorem tbLoad_shown (s : State) (v : Nat) : (tbLoad s v).flag Fld.TB_STATUS_LOAD = true := by
  rw [flag_congr (tbLoad_regs s v)]
  exact flag_setFlag_same _ _ _ (by decide) (by decide)

theorem tbLoad_state (s : State) (v : Nat) : (tbLoad s v).tbState = s.tbState := by
  rw [State.tbState, fld_congr (tbLoad_regs s v)]
  exact fld_setFlag_ne _ _ (.inr (by decide))

/-! ### A Milestone's error -/

/-- The value a Milestone carries, corrected by MS_LAT (R162). -/
def State.milestoneValue (s : State) (carried : Nat) : Nat := (carried + s.msLatPh) % 2 ^ 48

theorem milestoneValue_lt (s : State) (carried : Nat) : s.milestoneValue carried < 2 ^ 48 := Nat.mod_lt _ (by decide)

/-- Only 48 bits of the node's own timebase count in the error. -/
theorem milestoneDiff_eq (s : State) (frac carried : Nat) : s.milestoneDiff frac carried =
    (BitVec.ofNat 48 (s.tbStamp frac % 2 ^ 48 + 2 ^ 48 - s.milestoneValue carried)).toInt := by
  have bound := milestoneValue_lt s carried
  have same : BitVec.ofNat 48 (s.tbStamp frac + 2 ^ 48 - s.milestoneValue carried) =
      BitVec.ofNat 48 (s.tbStamp frac % 2 ^ 48 + 2 ^ 48 - s.milestoneValue carried) := by
    apply BitVec.eq_of_toNat_eq
    rw [BitVec.toNat_ofNat, BitVec.toNat_ofNat]
    omega
  exact congrArg BitVec.toInt same

theorem clamp_near {e : Int} (h : e.natAbs < 32768) : clamp (-32768) 32767 e = e := by
  unfold clamp
  rw [if_neg (by omega), if_neg (by omega)]

/-! ### What is noted of every Milestone -/

/-- A hub that heads its own domain captures its offset (R168). -/
def domainCaptured (s : State) (frac carried : Nat) : State :=
  s.when (s.isHub && s.tb.localDom) fun t => t.setTriple (Reg.DOM_OFS 0) (s.milestoneDiff frac carried % 2 ^ 48).toNat

/-- LOCAL_DOM shows what the Milestone tells. -/
def milestoneNoted (s : State) (frac : Nat) (l : Bool) (carried : Nat) : State :=
  (domainCaptured s frac carried).setFlag Fld.MS_STATUS_LOCAL_DOM l

theorem domainCaptured_tb (s : State) (frac carried : Nat) : (domainCaptured s frac carried).tb = s.tb := by
  unfold domainCaptured State.when
  split
  · exact setTriple_tb ..
  · rfl

theorem domainCaptured_reg (s : State) (frac carried : Nat) {a : Nat} (h : a < Reg.DOM_OFS 0) :
    (domainCaptured s frac carried).reg a = s.reg a := by
  unfold domainCaptured State.when
  split
  · exact reg_setTriple_ne _ _ (.inl h)
  · rfl

theorem domainCaptured_other {s : State} (frac carried : Nat) (h : (s.isHub && s.tb.localDom) = false) :
    domainCaptured s frac carried = s := if_neg (by simp [h])

theorem milestoneNoted_tb (s : State) (frac : Nat) (l : Bool) (carried : Nat) : (milestoneNoted s frac l carried).tb = s.tb :=
  domainCaptured_tb s frac carried

theorem milestoneNoted_reg (s : State) (frac : Nat) (l : Bool) (carried : Nat) {a : Nat} (h : a < Reg.MS_STATUS) :
    (milestoneNoted s frac l carried).reg a = s.reg a := by
  refine (reg_setFlag_ne _ _ (Nat.ne_of_lt h)).trans (domainCaptured_reg s frac carried ?_)
  exact Nat.lt_trans h (by decide)

theorem milestoneNoted_fld (s : State) (frac : Nat) (l : Bool) (carried : Nat) {f : BitField} (h : f.addr < Reg.MS_STATUS) :
    (milestoneNoted s frac l carried).fld f = s.fld f := congrArg f.read (milestoneNoted_reg s frac l carried h)

theorem milestoneNoted_source (s : State) (frac : Nat) (l : Bool) (carried : Nat) :
    (milestoneNoted s frac l carried).tbSource = s.tbSource :=
  tbSource_congr (by rw [milestoneNoted_tb]) (by rw [milestoneNoted_tb]) (milestoneNoted_reg s frac l carried (by decide))

theorem milestoneNoted_valid (s : State) (frac : Nat) (l : Bool) (carried : Nat) :
    (milestoneNoted s frac l carried).flag Fld.MS_STATUS_LAT_VALID = s.flag Fld.MS_STATUS_LAT_VALID := by
  refine (flag_setFlag_ne _ _ (.inr (by decide))).trans ?_
  rw [State.flag, State.fld, domainCaptured_reg s frac carried (by decide)]
  rfl

/-- The node with the modulator clock realigned, as it compares its timebase with the Milestone. -/
def milestoneHeard (s : State) (frac : Nat) (l : Bool) (carried : Nat) : State := modRealign (milestoneNoted s frac l carried) frac

theorem milestoneHeard_tb (s : State) (frac : Nat) (l : Bool) (carried : Nat) : (milestoneHeard s frac l carried).tb = s.tb :=
  milestoneNoted_tb s frac l carried

theorem milestoneHeard_reg (s : State) (frac : Nat) (l : Bool) (carried : Nat) {a : Nat} (h : a < Reg.MS_STATUS) :
    (milestoneHeard s frac l carried).reg a = s.reg a := milestoneNoted_reg s frac l carried h

theorem milestoneHeard_state (s : State) (frac : Nat) (l : Bool) (carried : Nat) :
    (milestoneHeard s frac l carried).tbState = s.tbState := milestoneNoted_fld s frac l carried (by decide)

theorem milestoneHeard_free (s : State) (frac : Nat) (l : Bool) (carried : Nat) :
    (milestoneHeard s frac l carried).freeRunning = s.freeRunning := by
  rw [State.freeRunning, milestoneHeard_state]
  rfl

theorem milestoneHeard_latency (s : State) (frac : Nat) (l : Bool) (carried : Nat) :
    (milestoneHeard s frac l carried).msLatPh = s.msLatPh := by
  rw [State.msLatPh, State.regN, milestoneHeard_reg s frac l carried (by decide), milestoneHeard_tb]
  rfl

theorem milestoneHeard_value (s : State) (frac : Nat) (l : Bool) (carried : Nat) :
    (milestoneHeard s frac l carried).milestoneValue carried = s.milestoneValue carried := by
  rw [State.milestoneValue, milestoneHeard_latency]
  rfl

theorem milestoneHeard_diff (s : State) (frac : Nat) (l : Bool) (carried : Nat) :
    (milestoneHeard s frac l carried).milestoneDiff frac carried = s.milestoneDiff frac carried := by
  rw [milestoneDiff_eq, milestoneDiff_eq, milestoneHeard_value, State.tbStamp, milestoneHeard_tb]
  rfl

theorem exec_milestoneReceive {s : State} (frac : Fin 16) (l : Bool) (carried : BitVec 48) (on : s.linkOn = true) :
    exec (.milestoneReceive frac l carried) s = .next (settle (milestoneReceive s frac l carried.toNat)) :=
  congrArg done (if_pos on)

/-- A Milestone moves nothing where the node does not follow Milestones or has no valid MS_LAT (R162, R164). -/
theorem milestoneReceive_unused {s : State} (frac : Nat) (l : Bool) (carried : Nat)
    (h : s.tbSource ≠ 2 ∨ s.flag Fld.MS_STATUS_LAT_VALID = false) :
    milestoneReceive s frac l carried = milestoneNoted s frac l carried := by
  refine if_pos ?_
  change (milestoneNoted s frac l carried).tbSource ≠ 2 ∨ (!(milestoneNoted s frac l carried).flag Fld.MS_STATUS_LAT_VALID) = true
  rw [milestoneNoted_source, milestoneNoted_valid]
  exact h.imp_right fun fallen => by simp [fallen]

/-! ### A Milestone the node follows -/

/-- The value is loaded where the error is half a cycle and more (R159). -/
def milestoneLoaded (s : State) (frac : Nat) (l : Bool) (carried : Nat) : State :=
  if 32768 ≤ (s.milestoneDiff frac carried).natAbs then tbLoad (milestoneHeard s frac l carried) (s.milestoneValue carried)
  else milestoneHeard s frac l carried

theorem milestoneReceive_used {s : State} (frac : Nat) (l : Bool) (carried : Nat) (src : s.tbSource = 2)
    (valid : s.flag Fld.MS_STATUS_LAT_VALID = true) : milestoneReceive s frac l carried =
      let m := milestoneHeard s frac l carried
      let diff := m.milestoneDiff frac carried
      let e := clamp (-32768) 32767 diff
      let far := decide (32768 ≤ diff.natAbs)
      let value := m.milestoneValue carried
      if m.freeRunning then tbEnter (tbMilestonePeriod (m.when far fun s => tbLoad s value)) tbAcquire
      else
        let acquiring := m.tbState == tbAcquire
        tbJudge (if far || (acquiring && m.tb.acqCount == 0) then tbLoad m value
          else if acquiring && m.tb.acqCount == 1 && decide (m.regN Reg.TB_LOCK_THR < e.natAbs) then
            tbStep m (((m.tb.phase : Int) - e) % 65536).toNat
          else m) e := by
  refine if_neg ?_
  change ¬ ((milestoneNoted s frac l carried).tbSource ≠ 2 ∨ (!(milestoneNoted s frac l carried).flag Fld.MS_STATUS_LAT_VALID) = true)
  rw [milestoneNoted_source, milestoneNoted_valid, src, valid]
  decide

theorem milestoneReceive_locked {s : State} (frac : Nat) (l : Bool) (carried : Nat) (src : s.tbSource = 2)
    (valid : s.flag Fld.MS_STATUS_LAT_VALID = true) (locked : s.tbState = tbLocked) : milestoneReceive s frac l carried =
      tbJudge (milestoneLoaded s frac l carried) (clamp (-32768) 32767 (s.milestoneDiff frac carried)) := by
  have state : (milestoneHeard s frac l carried).tbState = tbLocked := (milestoneHeard_state ..).trans locked
  have free : ¬ (milestoneHeard s frac l carried).freeRunning = true := freeRunning_locked state
  rw [milestoneReceive_used frac l carried src valid]
  dsimp only
  rw [if_neg free, state, milestoneHeard_diff, milestoneHeard_value, milestoneLoaded]
  by_cases far : 32768 ≤ (s.milestoneDiff frac carried).natAbs
  · rw [if_pos (by simp [far]), if_pos far]
  · rw [if_neg (by simp [far, tbLocked, tbAcquire]), if_neg (by simp [tbLocked, tbAcquire]), if_neg far]

theorem milestoneReceive_free {s : State} (frac : Nat) (l : Bool) (carried : Nat) (src : s.tbSource = 2)
    (valid : s.flag Fld.MS_STATUS_LAT_VALID = true) (free : s.freeRunning = true) : milestoneReceive s frac l carried =
      tbEnter (tbMilestonePeriod (milestoneLoaded s frac l carried)) tbAcquire := by
  rw [milestoneReceive_used frac l carried src valid]
  dsimp only
  rw [if_pos ((milestoneHeard_free ..).trans free), milestoneHeard_diff, milestoneHeard_value, milestoneLoaded]
  by_cases far : 32768 ≤ (s.milestoneDiff frac carried).natAbs
  · rw [if_pos far, State.when, if_pos (by simp [far])]
  · rw [if_neg far, State.when, if_neg (by simp [far])]

/-- The timebase and its flag after the load, if one is due. -/
theorem milestoneLoaded_spec (s : State) (frac : Nat) (l : Bool) (carried : Nat) :
    (milestoneLoaded s frac l carried).tbState = s.tbState ∧
    ((s.milestoneDiff frac carried).natAbs < 32768 → (milestoneLoaded s frac l carried).tb.value = s.tb.value ∧
      (milestoneLoaded s frac l carried).regN Reg.TB_LOCK_THR = s.regN Reg.TB_LOCK_THR) ∧
    (32768 ≤ (s.milestoneDiff frac carried).natAbs → (milestoneLoaded s frac l carried).tb.value = s.milestoneValue carried ∧
      (milestoneLoaded s frac l carried).flag Fld.TB_STATUS_LOAD = true) := by
  unfold milestoneLoaded
  split
  · next far =>
    exact ⟨(tbLoad_state ..).trans (milestoneHeard_state ..), fun near => absurd far (Nat.not_le.mpr near),
      fun _ => ⟨tbLoad_value _ (milestoneValue_lt ..), tbLoad_shown ..⟩⟩
  · next near =>
    exact ⟨milestoneHeard_state .., fun _ => ⟨congrArg Timebase.value (milestoneHeard_tb ..),
      congrArg BitVec.toNat (milestoneHeard_reg _ _ _ _ (by decide))⟩, fun far => absurd far near⟩

end Sys2Proof.Machine
end

section
/-!
TB_NOM, tree time and its seconds, and the SYNC Milestones a head sends (R153, R160, R161, R166).
-/
namespace Sys2Proof.Machine

/-! ### TB_NOM (R153) -/

/-- The low half-word held back for a write of both is given up. -/
def heldTaken (s : State) (a : Nat) : State := { s with held := s.held.filter (·.1 != a) }

/-- What a write of TB_NOM_HI asks for. -/
def State.nomAsked (s : State) (hi : Half) : Nat :=
  (sparseGet s.held (s.reg Reg.TB_NOM_LO) Reg.TB_NOM_LO).toNat + 65536 * (hi.toNat % 2048)

theorem nomAsked_lt (s : State) (hi : Half) : s.nomAsked hi < 2 ^ 32 := by
  have low := (sparseGet s.held (s.reg Reg.TB_NOM_LO) Reg.TB_NOM_LO).isLt
  rw [State.nomAsked]
  omega

/-- Both halves of TB_NOM written. -/
def nomWritten (s : State) (hi : Half) : State := (heldTaken s Reg.TB_NOM_LO).setPair Reg.TB_NOM_LO Reg.TB_NOM_HI (s.nomAsked hi)

theorem nomWritten_nom (s : State) (hi : Half) : (nomWritten s hi).tbNom = s.nomAsked hi :=
  pair_setPair _ (by decide) (nomAsked_lt s hi)

theorem nomWritten_state (s : State) (hi : Half) : (nomWritten s hi).tbState = s.tbState :=
  congrArg Fld.TB_STATUS_STATE.read (reg_setPair_ne (heldTaken s Reg.TB_NOM_LO) _ (by decide) (by decide))

theorem writeTbNomHi_eq (s : State) (hi : Half) : writeTbNomHi s hi =
    if 25600 ≤ s.nomAsked hi ∧ s.nomAsked hi ≤ 128000000 then
      if (nomWritten s hi).tbState = tbFree then { nomWritten s hi with tb := { s.tb with period := s.nomAsked hi } }
      else nomWritten s hi
    else heldTaken s Reg.TB_NOM_LO := rfl

theorem settle_tbNom (s : State) : (settle s).tbNom = s.tbNom :=
  pair_congr (settle_reg s _ (by decide)) (settle_reg s _ (by decide))

theorem tbNomWrite_shows (s : State) (hi : Half) : Completes (.tbNomWrite hi) s fun t =>
    (25600 ≤ s.nomAsked hi → s.nomAsked hi ≤ 128000000 → t.tbNom = s.nomAsked hi ∧ (s.tbState = tbFree → t.tb.period = s.nomAsked hi) ∧
      (s.tbState ≠ tbFree → t.tb.period = s.tb.period)) ∧
    (s.nomAsked hi < 25600 ∨ 128000000 < s.nomAsked hi → t.tbNom = s.tbNom ∧ t.tb = s.tb) ∧ t.tb.value = s.tb.value := by
  refine ⟨settle (writeTbNomHi s hi), rfl, ?_⟩
  beta_reduce
  rw [settle_tbNom, settle_tb, writeTbNomHi_eq, nomWritten_state]
  split
  · next within =>
    have outside : ¬ (s.nomAsked hi < 25600 ∨ 128000000 < s.nomAsked hi) := by omega
    split
    · next free => exact ⟨fun _ _ => ⟨nomWritten_nom s hi, fun _ => rfl, fun h => absurd free h⟩, fun h => absurd h outside, rfl⟩
    · next other => exact ⟨fun _ _ => ⟨nomWritten_nom s hi, fun h => absurd h other, fun _ => rfl⟩, fun h => absurd h outside, rfl⟩
  · next outside => exact ⟨fun least most => absurd ⟨least, most⟩ outside, fun _ => ⟨rfl, rfl⟩, rfl⟩

/-! ### Tree time (R166) -/

theorem settle_treeTime (s : State) : (settle s).treeTime = s.treeTime :=
  pair_congr (settle_reg s _ (by decide)) (settle_reg s _ (by decide))

theorem startTimer_runs (s : State) (k : Timer) : (k, s.now) ∈ (s.startTimer k).timers := List.mem_cons_self

theorem treeSecond_shows (s : State) : Completes .treeSecond s fun t =>
    t.treeTime = (s.treeTime + 1) % 2 ^ 32 ∧ (.treeSecond, s.now) ∈ t.timers ∧ t.tb = s.tb := by
  refine ⟨settle (treeSecond s), rfl, ?_⟩
  beta_reduce
  rw [settle_treeTime, settle_timers, settle_tb]
  exact ⟨pair_setPair s (by decide) (Nat.mod_lt _ (by decide)), startTimer_runs (s.setPair ..) _, rfl⟩

/-- Tree time and the timers stand. -/
structure ClockKept (s t : State) : Prop where
  time : t.treeTime = s.treeTime
  timers : t.timers = s.timers

theorem ClockKept.refl (s : State) : ClockKept s s := ⟨rfl, rfl⟩

theorem ClockKept.trans {s t u : State} (h : ClockKept s t) (k : ClockKept t u) : ClockKept s u :=
  ⟨k.time.trans h.time, k.timers.trans h.timers⟩

theorem SendsOnly.clock {s t : State} (h : SendsOnly s t) : ClockKept s t := by
  refine ⟨pair_congr (h.reg _ (by decide)) (h.reg _ (by decide)), ?_⟩
  obtain ⟨_, _, _, _, rfl⟩ := h.frame
  rfl

theorem drawBytes_clock (s : State) (n : Nat) : ClockKept s (drawBytes s n).2 := by
  have grows (l : List Nat) (a : List Byte × State) : ClockKept a.2 (l.foldl (fun (a : List Byte × State) _ =>
      (a.1 ++ [a.2.draw.1.setWidth 8], a.2.draw.2)) a).2 := by
    induction l generalizing a with
    | nil => exact .refl _
    | cons _ l ih => exact ClockKept.trans (t := a.2.draw.2) ⟨rfl, rfl⟩ (ih (a.1 ++ [a.2.draw.1.setWidth 8], a.2.draw.2))
  exact grows (List.range n) ([], s)

theorem sendHello_clock (s : State) (n : Nat) : ClockKept s (sendHello s n) := by
  have drawn := (drawBytes_clock s 16).trans (drawBytes_clock _ 32)
  unfold sendHello
  refine (drawn.trans ?_).trans (sendToNode_sends ..).clock
  exact ⟨rfl, rfl⟩

theorem sendConfirm_clock (s : State) (n op : Nat) : ClockKept s (sendConfirm s n op) := by
  unfold sendConfirm
  dsimp only
  split
  · exact (sendToNode_sends ..).clock
  · exact .refl s

theorem keyRenew_clock (s : State) : ClockKept s (keyRenew s) := by
  unfold keyRenew
  split
  · exact .refl s
  · dsimp only
    refine .trans (.trans ?_ (forEach_rel ClockKept.refl ClockKept.trans (fun n s => sendConfirm_clock s n opTreeKey) _ _))
      (forEach_rel ClockKept.refl ClockKept.trans (fun n s => sendHello_clock s n) _ _)
    exact (drawBytes_clock s 16).trans ⟨rfl, rfl⟩

theorem treeTimeSet_root {s : State} (hi : Half) (root : s.isRoot = true) : Completes (.treeTimeSet hi) s fun t =>
    t.treeTime = (sparseGet s.held (s.reg Reg.TREE_TIME_LO) Reg.TREE_TIME_LO).toNat + 65536 * hi.toNat ∧
    (.treeSecond, s.now) ∈ t.timers := by
  have written : writeTreeTimeHi s hi = (((heldTaken s Reg.TREE_TIME_LO).setReg Reg.TREE_TIME_LO
      (sparseGet s.held (s.reg Reg.TREE_TIME_LO) Reg.TREE_TIME_LO)).setReg Reg.TREE_TIME_HI hi).startTimer .treeSecond := if_pos root
  have time : (writeTreeTimeHi s hi).treeTime =
      (sparseGet s.held (s.reg Reg.TREE_TIME_LO) Reg.TREE_TIME_LO).toNat + 65536 * hi.toNat := by
    rw [written, State.treeTime, State.pair, State.regN, State.regN, reg_congr (startTimer_regs ..), reg_congr (startTimer_regs ..),
      reg_setReg_ne _ _ (by decide), reg_setReg_same, reg_setReg_same]
  have kept : ClockKept (writeTreeTimeHi s hi) (writeTreeTime s hi) := by
    unfold writeTreeTime
    dsimp only
    split
    · exact keyRenew_clock _
    · exact .refl _
  refine ⟨settle (writeTreeTime s hi), rfl, ?_⟩
  beta_reduce
  rw [settle_treeTime, settle_timers, kept.time, kept.timers, time, written]
  exact ⟨rfl, startTimer_runs ..⟩

theorem treeTimeSet_elsewhere {s : State} (hi : Half) (other : s.isRoot = false) :
    exec (.treeTimeSet hi) s = .next (settle s) := by
  have same : writeTreeTimeHi s hi = s := if_neg (by simp [other])
  refine congrArg done (α := State) ?_
  unfold writeTreeTime
  dsimp only
  rw [same]
  exact if_neg (by simp [other])

/-! ### Frames of a head to all (R161) -/

/-- Ports that are on and have a direction carry a frame. -/
def PortsOpen (s : State) (ports : List Nat) : Prop := ∀ p ∈ ports, s.portOn p = true ∧ s.dir p ≠ 0

theorem transmit_portOn (s : State) (r p q : Nat) (f : Frame) : (transmit s r p f).portOn q = s.portOn q := by
  rw [State.portOn, State.flag, transmit_fld s r p f (besideTx_control q)]
  rfl

theorem transmit_epoch (s : State) (r p : Nat) (f : Frame) (q : Nat) : (transmit s r p f).epoch q = s.epoch q := by
  unfold State.epoch
  split <;> exact transmit_fld s r p f (by decide)

theorem transmit_linkOn (s : State) (r p : Nat) (f : Frame) : (transmit s r p f).linkOn = s.linkOn := by
  obtain ⟨_, _, _, _, frame⟩ := (transmit_sends s r p f).frame
  rw [State.linkOn, frame]
  rfl

theorem transmit_rings (s : State) (r p : Nat) (f : Frame) : (transmit s r p f).rings = s.rings := by
  unfold transmit
  split <;> rfl

theorem transmit_sent {s : State} {p : Nat} (r : Nat) (f : Frame) (on : s.linkOn = true)
    (isOpen : s.portOn p = true ∧ s.dir p ≠ 0) :
    (transmit s r p f).sent = s.sent ++ [{ port := p, bytes := sealFrame f (s.epoch r) }] := by
  obtain ⟨port, direction⟩ := isOpen
  exact congrArg State.sent (if_pos (by simp [port, on, direction]))

theorem transmitAll_sent {s : State} {ports : List Nat} (r : Nat) (f : Frame) (on : s.linkOn = true) (isOpen : PortsOpen s ports) :
    (s.forEach ports fun s p => transmit s r p f).sent =
      s.sent ++ ports.map fun p => { port := p, bytes := sealFrame f (s.epoch r) } := by
  induction ports generalizing s with
  | nil => exact (List.append_nil _).symm
  | cons p ports ih =>
    have rest : PortsOpen (transmit s r p f) ports := fun q hq => by
      rw [transmit_portOn, transmit_dir]
      exact isOpen q (List.mem_cons_of_mem p hq)
    rw [forEach_cons, ih ((transmit_linkOn s r p f).trans on) rest, transmit_sent r f on (isOpen p List.mem_cons_self), transmit_epoch,
      List.map_cons, List.append_assoc]
    rfl

theorem newFrame_bcast (s : State) (ty : Byte) (payload : List Byte) : (s.newFrame ty bcastDst payload).bcast = true :=
  (by decide : bcastDst.getLsbD 13 = true)

theorem headPorts_bcast (s : State) (r : Nat) {f : Frame} (all : f.bcast = true) :
    s.headPorts r f = if s.inHalves r then [2 * r, 2 * r + 1] else [2 * r] := by
  unfold State.headPorts
  rw [if_pos all]
  rfl

theorem headSend_bcast (s : State) (r : Nat) {f : Frame} (all : f.bcast = true) : ∃ n u, headSend s r f =
      State.forEach u (if s.inHalves r then [2 * r, 2 * r + 1] else [2 * r]) (fun s p => transmit s r p { f with seq := n }) ∧
      ∃ counts, u = { s with link := { s.link with counts := counts } } := by
  have unasked : noteAsked s r f = s := if_pos (.inr (.inl all))
  refine ⟨(numbered s r f).1.seq, (numbered s r f).2, ?_, _, rfl⟩
  unfold headSend
  rw [unasked]
  dsimp only
  rw [headPorts_bcast _ r (f := (numbered s r f).1) all]
  rfl

/-! ### SYNC Milestones (R161) -/

theorem syncCycle_eq (s : State) :
    s.syncCycle = s.tb.cycle.toNat / 2 ^ s.fld Fld.MS_CTL_MSP * 2 ^ s.fld Fld.MS_CTL_MSP :=
  Nat.div_mul_self_eq_mod_sub_self.symm

theorem syncDue_iff (s : State) (r : Nat) : s.syncDue r = true ↔ (s.ring r).syncAt ≠ some s.syncCycle := bne_iff_ne

theorem ring_setRing_same (s : State) (r : Nat) (x : Ring) : (setRing s r x).ring r = x := listPut_getD_same ..

/-- The cycle is noted for the ring. -/
def syncNoted (s : State) (r : Nat) : State := setRing s r { s.ring r with syncAt := some s.syncCycle }

theorem syncNoted_halves (s : State) (r : Nat) : (syncNoted s r).inHalves r = s.inHalves r := by
  rw [State.inHalves, syncNoted, ring_setRing_same]
  rfl

theorem syncMilestoneIssue_sends {s : State} {ring : RingId} (heads : s.heads ring.idx = true) (on : s.linkOn = true)
    (due : (s.ring ring.idx).syncAt ≠ some s.syncCycle) (isOpen : PortsOpen s [2 * ring.idx, 2 * ring.idx + 1]) :
    Completes (.syncMilestoneIssue ring) s fun t => ∃ f : Frame,
      t.sent = s.sent ++ (if s.inHalves ring.idx then [2 * ring.idx, 2 * ring.idx + 1] else [2 * ring.idx]).map
        (fun p => { port := p, bytes := sealFrame f (s.epoch ring.idx) }) ∧ f.type = tyMilestone ∧
      f.dst = bcastDst ∧ f.src = BitVec.ofNat 13 s.nodeNum ∧ f.payload = s.milestone 1 0 s.treeHubs s.treeTime ∧
      t.tb = s.tb ∧ (t.ring ring.idx).syncAt = some s.syncCycle := by
  have issue : exec (.syncMilestoneIssue ring) s = .next (settle (syncIssue s ring.idx)) :=
    congrArg done (if_pos (by rw [heads, on, (syncDue_iff s _).mpr due]; rfl))
  obtain ⟨n, u, sends, counts, frame⟩ := headSend_bcast (syncNoted s ring.idx) ring.idx
    (f := (syncNoted s ring.idx).newFrame tyMilestone bcastDst (s.milestone 1 0 s.treeHubs s.treeTime)) (newFrame_bcast ..)
  rw [syncNoted_halves] at sends
  have issued : syncIssue s ring.idx = _ := sends
  have hu : u.regs = s.regs ∧ u.mode = s.mode ∧ u.sent = s.sent ∧ u.tb = s.tb ∧ u.rings = (syncNoted s ring.idx).rings := by
    rw [frame]
    exact ⟨rfl, rfl, rfl, rfl, rfl⟩
  obtain ⟨regs, mode, sent, tb, rings⟩ := hu
  have uOpen : PortsOpen u (if s.inHalves ring.idx then [2 * ring.idx, 2 * ring.idx + 1] else [2 * ring.idx]) := fun p hp => by
    have listed : p ∈ [2 * ring.idx, 2 * ring.idx + 1] := by
      split at hp
      · exact hp
      · exact List.mem_cons.mpr (.inl (List.mem_singleton.mp hp))
    rw [State.portOn, State.dir, flag_congr regs, fld_congr regs]
    exact isOpen p listed
  have uOn : u.linkOn = true := by rw [State.linkOn, mode]; exact on
  have epoch : u.epoch ring.idx = s.epoch ring.idx := by
    unfold State.epoch
    split <;> exact fld_congr regs _
  refine ⟨_, issue, ?_⟩
  beta_reduce
  rw [settle_sent, settle_tb, State.ring, settle_rings, issued, transmitAll_sent _ _ uOn uOpen, sent, epoch]
  refine ⟨_, rfl, rfl, rfl, rfl, rfl, ?_, ?_⟩
  · obtain ⟨_, _, _, _, frame⟩ := (SendsOnly.forEach (fun p s => transmit_sends s ring.idx p _) _ u).frame
    rw [frame]
    exact tb
  · rw [forEach_keeps (·.rings) (fun p _ s => transmit_rings s ring.idx p _), rings]
    exact congrArg Ring.syncAt (ring_setRing_same ..)

theorem syncMilestoneIssue_done {s : State} {ring : RingId} (issued : (s.ring ring.idx).syncAt = some s.syncCycle) :
    exec (.syncMilestoneIssue ring) s = .next (settle s) := by
  have past : s.syncDue ring.idx = false := by
    rw [Bool.eq_false_iff, Ne, syncDue_iff]
    exact not_not_intro issued
  exact congrArg done (if_neg (by simp [past]))

end Sys2Proof.Machine
end

section
/-!
A Milestone received, at the end of its tick, and O29.
-/
namespace Sys2Proof.Machine

/-! ### A rejected edge of PHASE_IN -/

theorem edge_locked_rejected_shows {s : State} {n : Nat} (src : s.tbSource = 1) (locked : s.tbState = tbLocked)
    (far : withinPull s.pull s.tb.period (16 * n) = false) :
    let t := settle (phaseInEdge s (some n))
    let agree : Prop := (rejectedRun s n).Pairwise fun a b => withinPull s.pull b a = true
    t.flag Fld.TB_STATUS_REF_BAD = true ∧ t.tb.value = s.tb.value ∧
    (s.tb.rejected.length < 3 ∨ ¬ agree → t.tbState = tbLocked ∧ t.tb.rejected = rejectedRun s n ∧
      t.tb.missCount = s.tb.missCount + 1 ∧ t.tb.period = s.tb.period) ∧
    (3 ≤ s.tb.rejected.length → agree → t.tbState = tbAcquire ∧
      (rejectedRun s n).any (fun m => decide (16 * m ≤ t.tb.period)) = true ∧
      (rejectedRun s n).any (fun m => decide (t.tb.period ≤ 16 * m)) = true) := by
  intro t agree
  obtain ⟨alone, agreeing⟩ := edge_locked_rejected src locked far
  obtain ⟨shown, state⟩ := edgeNoted_shows s n
  by_cases renewed : 3 ≤ s.tb.rejected.length ∧ agree
  · obtain ⟨long, same⟩ := renewed
    have acquires := agreeing long same
    exact ⟨acquires.refBad.trans (edgeRejected_shown s n), acquires.value.trans (edgeNoted_value s n),
      fun single => single.elim (fun short => absurd long (Nat.not_le.mpr short)) (fun differ => absurd same differ),
      fun _ _ => ⟨acquires.state, rejectedRun_spans s n _ acquires.least acquires.most⟩⟩
  · have single : s.tb.rejected.length < 3 ∨ ¬ agree :=
      (Nat.lt_or_ge _ 3).imp_right fun long same => renewed ⟨long, same⟩
    have noted : t = settle (edgeNoted s n) := congrArg settle (alone single)
    rw [noted, settle_tb, edgeNoted_tb]
    exact ⟨shown, rfl, fun _ => ⟨state.trans locked, rfl, rfl, rfl⟩, fun long same => absurd ⟨long, same⟩ renewed⟩

/-! ### A Milestone received -/

theorem milestone_ignored {s : State} (frac : Fin 16) (l : Bool) (carried : BitVec 48) (on : s.linkOn = true)
    (other : (s.isHub && s.tb.localDom) = false) (h : s.tbSource ≠ 2 ∨ s.flag Fld.MS_STATUS_LAT_VALID = false) :
    exec (.milestoneReceive frac l carried) s = .next (settle (s.setFlag Fld.MS_STATUS_LOCAL_DOM l)) := by
  rw [exec_milestoneReceive frac l carried on, milestoneReceive_unused frac l carried.toNat h, milestoneNoted,
    domainCaptured_other _ _ other]

theorem triple_congr {s t : State} {a : Nat} (h : ∀ b, a ≤ b → b ≤ a + 2 → t.reg b = s.reg b) : t.triple a = s.triple a := by
  rw [State.triple, State.regN, State.regN, State.regN, h a (by omega) (by omega), h (a + 1) (by omega) (by omega),
    h (a + 2) (by omega) (by omega)]
  rfl

theorem milestoneNoted_offset {s : State} (frac : Nat) (l : Bool) (carried : Nat) (own : (s.isHub && s.tb.localDom) = true) :
    (settle (milestoneNoted s frac l carried)).triple (Reg.DOM_OFS 0) = (s.milestoneDiff frac carried % 2 ^ 48).toNat := by
  have captured : domainCaptured s frac carried = s.setTriple (Reg.DOM_OFS 0) (s.milestoneDiff frac carried % 2 ^ 48).toNat :=
    if_pos own
  have beside (b : Nat) (lo : Reg.DOM_OFS 0 ≤ b) (hi : b ≤ Reg.DOM_OFS 0 + 2) :
      (settle (milestoneNoted s frac l carried)).reg b = (domainCaptured s frac carried).reg b := by
    simp only [Reg.DOM_OFS] at lo hi
    rw [settle_reg _ _ (timebase_beside (by omega) (by omega))]
    exact reg_setFlag_ne _ _ (by change b ≠ 0x0213; omega)
  rw [triple_congr beside, captured]
  exact triple_setTriple s _ (by omega)

theorem milestone_captured {s : State} (frac : Fin 16) (l : Bool) (carried : BitVec 48) (on : s.linkOn = true)
    (own : (s.isHub && s.tb.localDom) = true) (other : s.tbSource ≠ 2) : Completes (.milestoneReceive frac l carried) s fun t =>
      t.triple (Reg.DOM_OFS 0) = (s.milestoneDiff frac carried.toNat % 2 ^ 48).toNat ∧ t.flag Fld.MS_STATUS_LOCAL_DOM = l ∧
      t.tb = s.tb := by
  refine ⟨_, exec_milestoneReceive frac l carried on, ?_⟩
  beta_reduce
  rw [milestoneReceive_unused frac l carried.toNat (.inl other), milestoneNoted_offset _ _ _ own, settle_tbFlag _ (.inr rfl), settle_tb,
    milestoneNoted_tb]
  exact ⟨rfl, flag_setFlag_same _ _ _ (by decide) (by decide), rfl⟩

theorem milestone_locked {s : State} (frac : Fin 16) (l : Bool) (carried : BitVec 48) (on : s.linkOn = true)
    (src : s.tbSource = 2) (valid : s.flag Fld.MS_STATUS_LAT_VALID = true) (locked : s.tbState = tbLocked) :
    let err := s.milestoneDiff frac carried.toNat
    Completes (.milestoneReceive frac l carried) s fun t =>
      t.reg Reg.TB_ERR = half (clamp (-32767) 32767 (clamp (-32768) 32767 err)) ∧ t.tb.missCount = 0 ∧
      (err.natAbs ≤ 8 * s.regN Reg.TB_LOCK_THR → err.natAbs < 32768 → t.tbState = tbLocked) ∧
      (8 * s.regN Reg.TB_LOCK_THR < err.natAbs → err.natAbs < 32768 →
        t.tbState = tbAcquire ∧ t.flag Fld.TB_STATUS_LOCK_LOST = true) ∧
      (err.natAbs < 32768 → t.tb.value = s.tb.value) ∧
      (32768 ≤ err.natAbs → t.tb.value = s.milestoneValue carried.toNat ∧ t.flag Fld.TB_STATUS_LOAD = true) := by
  intro err
  obtain ⟨state, near, far⟩ := milestoneLoaded_spec s frac l carried.toNat
  have judged := (tbJudge_judgedLocked (clamp (-32768) 32767 err) (state.trans locked)).settled
  refine ⟨_, exec_milestoneReceive frac l carried on, ?_⟩
  beta_reduce
  rw [milestoneReceive_locked frac l carried.toNat src valid locked]
  refine ⟨judged.error, judged.misses, fun within small => ?_, fun above small => ?_, fun small => ?_, fun large => ?_⟩
  · refine (judged.stays ?_).1
    rwa [clamp_near small, (near small).2]
  · obtain ⟨acquire, lost, -⟩ := judged.leaves (by rwa [clamp_near small, (near small).2])
    exact ⟨acquire, lost⟩
  · exact judged.value.trans (near small).1
  · exact ⟨judged.value.trans (far large).1, judged.load.trans (far large).2⟩

theorem milestone_free {s : State} (frac : Fin 16) (l : Bool) (carried : BitVec 48) (on : s.linkOn = true)
    (src : s.tbSource = 2) (valid : s.flag Fld.MS_STATUS_LAT_VALID = true) (free : s.freeRunning = true) :
    let err := s.milestoneDiff frac carried.toNat
    Completes (.milestoneReceive frac l carried) s fun t =>
      t.tbState = tbAcquire ∧ (err.natAbs < 32768 → t.tb.value = s.tb.value) ∧
      (32768 ≤ err.natAbs → t.tb.value = s.milestoneValue carried.toNat) := by
  intro err
  obtain ⟨-, near, far⟩ := milestoneLoaded_spec s frac l carried.toNat
  have acquires := tbEstimate_acquires (milestoneLoaded s frac l carried.toNat) (show 25600 ≤ 128000000 by decide)
  refine ⟨_, exec_milestoneReceive frac l carried on, ?_⟩
  beta_reduce
  rw [milestoneReceive_free frac l carried.toNat src valid free]
  exact ⟨acquires.state, fun small => acquires.value.trans (near small).1, fun large => acquires.value.trans (far large).1⟩

/-! ### The obligation -/

/-- Settles O29: an edge of PHASE_IN is followed by whether its interval is accepted and by the lock state, a Milestone by whether
the node follows it, and both end in the same judgement of an error (`JudgedLocked`, `JudgedAcquiring`). -/
theorem theTimebase : Obligations.TheTimebase := by
  unfold Obligations.TheTimebase
  refine ⟨fun s => ?_, fun s => ⟨tbNomWrite_shows s, fun hi => ⟨treeTimeSet_root hi, treeTimeSet_elsewhere hi⟩, treeSecond_shows s,
    fun ring heads on => ?_⟩⟩
  · intro pi taken e thr bw damping integ prop looped
    refine ⟨fun x h => exec_phaseInEdge_ignored h, fun x src edge first => ?_, fun x n src edge found locked near => ?_,
      fun x n src edge found locked far => ?_, fun x m n src edge found free last lo hi agree => ?_,
      fun x m n src edge found unlocked last bad => ?_, fun x m n src edge found acquiring last lo hi agree still => ?_,
      tbMissHoldover_shows, tbMissHoldover_waits, expectedEdgeMissed_shows s, fun frac l carried on => ?_⟩
    · rw [exec_phaseInEdge_taken edge first, phaseInEdge_none src]
    · have judged := edge_locked_accepted src locked near
      exact ⟨_, exec_phaseInEdge_taken edge found, judged.error, judged.misses, judged.interval, judged.rejected rfl, judged.value,
        judged.period, judged.stays, judged.leaves⟩
    · exact ⟨_, exec_phaseInEdge_taken edge found, edge_locked_rejected_shows src locked far⟩
    · obtain ⟨first, second⟩ := edge_free_accepted src free last lo hi agree
      refine ⟨_, exec_phaseInEdge_taken edge found, ?_⟩
      rcases Nat.eq_zero_or_pos s.tb.goodIntervals with fresh | counted
      · rw [first fresh, settle_tb, settle_tbState]
        exact ⟨rfl, fun _ => ⟨rfl, congrArg (· + 1) fresh, rfl⟩, fun later => absurd later (by omega)⟩
      · have acquires := second counted
        exact ⟨acquires.value, fun fresh => absurd counted (by omega), fun _ => ⟨acquires.state, acquires.fresh, acquires.least,
          acquires.most⟩⟩
    · exact ⟨_, exec_phaseInEdge_taken edge found, edge_unlocked_rejected src unlocked last bad⟩
    · have judged := edge_acquire_accepted src acquiring last lo hi agree still
      exact ⟨_, exec_phaseInEdge_taken edge found, judged.error, judged.value, judged.period,
        fun h => judged.stays (okAfter_lt (s := edgeAccepted s n) h),
        fun near many => judged.locks (okAfter_ge (s := edgeAccepted s n) near many)⟩
    · intro sum err i ownDomain
      have diff : s.milestoneDiff frac carried.toNat = err := milestoneDiff_eq ..
      rw [← diff]
      exact ⟨milestone_ignored frac l carried on, milestone_captured frac l carried on, milestone_locked frac l carried on,
        milestone_free frac l carried on⟩
  · intro cycle
    have due : s.syncCycle = cycle := syncCycle_eq s
    rw [← due]
    exact ⟨syncMilestoneIssue_sends heads on, syncMilestoneIssue_done⟩

end Sys2Proof.Machine
end
